-- ==== Sys2Proof/Word.lean ====
section
/-! DEFINITION. The words of the AP16 and their plainest arithmetic: a register is 32 bits wide (R8), memory is
addressed in bytes (R7). -/

namespace Sys2Proof

/-- A register value (R8). -/
abbrev Word := BitVec 32

/-- A byte of memory. -/
abbrev Byte := BitVec 8

/-- The word of a natural number, modulo 2^32. -/
def word (n : Nat) : Word := BitVec.ofNat 32 n

/-- The byte of a natural number, modulo 2^8. -/
def byte (n : Nat) : Byte := BitVec.ofNat 8 n

end Sys2Proof
end

