-- ==== Sys2Proof/Syntax.lean ====
section
/-! DEFINITION. The commands and events the AP16 takes, one constructor per row of spec/opcode_table.json, with the
operands each carries in from outside (an address, a value, a time, the levels of balls, a converter's results). -/

namespace Sys2Proof

/-- The laser status and permit balls (R307, R326). -/
inductive LsrBall where
  | lrdy (p : Fin 16)
  | lalmN (p : Fin 16)
  | lema (p : Fin 16)
  | epermA
  | epermBN
  deriving DecidableEq, Repr

/-- A melt-pool input in one tick: what it converts to at φ0 and φ200 without trim, in LSB of the gain in force and before saturation,
or, where the parity check over the hearth sample link fails, the value received (R340, R344, R349, R351). -/
structure AfeRes where
  i : Nat
  v0 : Int := 0
  v200 : Int := 0
  ok0 : Bool := true
  ok200 : Bool := true
  deriving DecidableEq, Repr

/-- What enters one tick from outside the real-time logic (TICK_EDGE). -/
structure TickIn where
  /-- Time-clock cycles from the previous tick edge to this one (R78). -/
  dfrc : Nat := 1000
  /-- (block SOURCE, pier) pairs whose result was absent at its deadline (R61). -/
  late : List (Nat × Nat) := []
  /-- Piers whose φ200 sample results were absent at φ368 (R59, R61). -/
  late368 : List Nat := []
  /-- Time stamp, in 1/16 ns, of the first TICK_IN edge after this tick edge, where it decides which edge is nearest (R88). -/
  wireNext : Option Nat := none
  /-- Melt-pool results of the tick; an input not listed reads 0 with good parity. -/
  afe : List AfeRes := []
  /-- Filter outputs of the auxiliary inputs, for a start in this tick (R96, R356). -/
  aux : List Nat := []
  /-- Uncorrectable SRAM errors of the tick (R48): loop slots (R406), piers whose FIFO, profile or correction point is
  hit (R199, R215), stitch IDs (R244), the Nagus SRAM. -/
  loopUe : List Nat := []
  fifoUe : List Nat := []
  profUe : List Nat := []
  corUe : List Nat := []
  stitchUe : List Nat := []
  nagusUe : Bool := false
  /-- Code groups received on a pier's uplink in the tick outside frames: (pier, groups). A pier not listed receives an undisturbed
  line: TS in WAKE and SWEEP, else K28.5 (R271, R272). -/
  up : List (Nat × List (BitVec 10)) := []
  /-- The staged patch record that is hit, by its place in the staging buffer (R48). -/
  stageUe : Option Nat := none
  /-- Parity errors in link buffers (R48): (block SOURCE, pier). -/
  linkUe : List (Nat × Nat) := []
  /-- Corrected single-bit errors in correction points, one entry per error: the pier (R48, COR_ECC_p). -/
  corCe : List Nat := []
  /-- The levels of the permit balls permit emission at the edge (R331). -/
  eperm : Bool := true
  deriving DecidableEq, Repr

/-- A configuration request of the host (R645, R646, R649): MSI-X Enable and Function Mask, Bus Master Enable, the return
to D0, the two base address registers, or a read. -/
inductive CfgReq where
  | read (off : Nat)
  | msix (en mask : Bool)
  | busMaster (en : Bool)
  | toD0
  | bar0 (v : BitVec 32)
  | bar2 (v : BitVec 64)
  deriving DecidableEq, Repr

/-- An access that REGISTER_WRITE stands for (R9, R39–R45, R101, R102): by requester `req` at a Nagus address, or by the
host at an offset of BAR0; a read has no bytes to write; or an access to the VLT window that fails on the vault link (R24, R698). -/
inductive Access where
  | via (req : BitVec 6) (a n : Nat) (bs : Option (List Byte))
  | host (off n : Nat) (bs : Option (List Byte))
  | vaultFail
  deriving DecidableEq, Repr

/-- A ball with a boundary-scan cell: a laser gate, a ball of the xSPI port, or another. -/
inductive Ball where
  | gate (p : Fin 16)
  | xspi (k : Fin 16)
  | other (n : Nat)
  deriving DecidableEq, Repr

/-- What else a camera port receives (R409, R412): a packet that is neither a frame start, a frame end nor a line, its header good (0),
corrected (1) or uncorrectable (2); or, with no packet, entry of all lanes into ULPS and exit from it, or another escape-mode command. -/
inductive CsiForm where
  | packet (hdr : Fin 3)
  | ulps (enter : Bool)
  | escape
  deriving DecidableEq, Repr

/-- What DRAM training comes to (R500, R501): a step begins, a step fails on a byte lane of a channel, or the last step ends. -/
inductive TrainEv where
  | step (n : Fin 10)
  | fail (n : Fin 10) (lane : Fin 9) (ch : Fin 2)
  | done
  deriving DecidableEq, Repr

/-- A request at a port of the DRAM controller (R38, R518): requester, address, bytes to read or data to write; whether it needs an
activation, and whether the table of its bank gives an uncorrectable error (R504, R509). -/
structure DReq where
  req : BitVec 6
  a   : Nat
  n   : Nat
  bs  : Option (List Byte) := none
  act : Bool := false
  tue : Bool := false
  deriving DecidableEq, Repr

/-- What else a DRAM_REQUEST brings: the DRAM clocks since the command before, and bits in error that have appeared (R513). -/
structure DramEv where
  clk  : Nat := 0
  errs : List (Nat × Nat) := []
  deriving DecidableEq, Repr

/-- How a line's composition goes (R48, R555): an uncorrectable error in the line buffer; whole lines left before the beam reaches it. -/
structure ComposeEv where
  ue   : Bool := false
  lead : Nat
  deriving DecidableEq, Repr

/-- A JTAG instruction (R679): the public ones, EXTEST with the levels shifted in, reads and writes through the debug port,
program-flow trace, and control of Nagus (single step or breakpoint, and its release from a halt). -/
inductive Jtag where
  | bypass
  | idcode
  | sample
  | extest (cells : List (Ball × Bool))
  | read (a n : Nat)
  | write (a : Nat) (bs : List Byte)
  | trace
  | step
  | resume
  deriving DecidableEq, Repr


/-- The commands and events of spec/opcode_table.json, one constructor per row, in the table's order. -/
inductive Instr where
  /-- TICK_EDGE (R59): A Keystone tick edge starts the fixed phase schedule of all real-time blocks for the next tick. -/
  | tickEdge (x : TickIn)
  /-- DISC_LOCK_GAINED (R87): After 1,000 consecutive ticks with the error within 2.5 ns the discipline sets LOCKED. -/
  | discLockGained
  /-- KEY_COMMIT_WRITE (R68): A write to KEY_COMMIT requests a commit of the named groups at the next or second-next edge. -/
  | keyCommitWrite (groups : Nat) (phase : Nat)
  /-- SCHED_ARM (R73): A KEY_SCHED_CTRL write with ARM = 1 arms a scheduled commit slot for its target tick. -/
  | schedArm (k : Fin 8) (mask : Nat) (phase : Nat)
  /-- SCHED_DISARM (R75): A KEY_SCHED_CTRL write with ARM = 0 disarms the slot. -/
  | schedDisarm (k : Fin 8) (mask : Nat)
  /-- SCHED_COMMIT_FIRE (R73): An armed slot reaches its target tick, commits its masked groups and sets FIRED. -/
  | schedCommitFire (k : Fin 8)
  /-- INC_FRAC_WRITE (R81): A write to KEY_INC_FRAC holds the fraction of the next increment. -/
  | incFracWrite (v : Word)
  /-- INC_INT_WRITE (R81): A write to KEY_INC_INT applies the held increment or refuses it out of range. -/
  | incIntWrite (v : Word) (adv : Nat)
  /-- OFS_LO_WRITE (R82): A write to KEY_OFS_LO holds the low half of a new network-time offset. -/
  | ofsLoWrite (v : Word)
  /-- OFS_HI_WRITE (R82): A write to KEY_OFS_HI forms the new offset and accepts or refuses it against the jump limit. -/
  | ofsHiWrite (v : Word) (adv : Nat) (phase : Nat) (aux : List Nat)
  /-- SNAP_CAPTURE (R84): A write of KEY_SNAP.CAPTURE captures tick, FRC and network time at one RT edge. -/
  | snapCapture (adv : Nat)
  /-- OVR_CLEAR (R64): A write of KEY_OVR_CLEAR zeroes the overrun counts and invalidates KEY_OVR_LAST. -/
  | ovrClear
  /-- LATCHING_READ (R84): A read of a 64-bit register's low half latches its high half from the same instant. -/
  | latchingRead (a : Nat) (adv : Nat)
  /-- TICK_IN_EDGE (R88): A rising edge on TICK_IN is time-stamped and used to slew the tick in WIRE mode. -/
  | tickInEdge (t16 : Nat)
  /-- TICK_IN_FAIL (R90): TICK_IN is declared failed when absent for two periods or off-period for eight ticks. -/
  | tickInFail
  /-- TIME_PLL_UNLOCK (R79): Loss of time PLL lock makes the FRC step by 5 and records fault 004h. -/
  | timePllUnlock
  /-- RT_PLL_UNLOCK (R32): Loss of RT PLL lock is an F0 fault. -/
  | rtPllUnlock
  /-- TRIGGER_ARM (R93): A KEY_TT_CTRL write that sets EN takes TARGET, PERIOD and CTRL and arms the comparator. -/
  | triggerArm (k : Fin 16) (v : Word) (adv : Nat)
  /-- TRIGGER_FIRE (R92): A time-trigger comparator fires when network time reaches its target and starts its destination. -/
  | triggerFire (k : Fin 16) (adv : Nat) (phase : Nat) (aux : List Nat)
  /-- LOCKSTEP_MISMATCH (R98): A lockstep mismatch halts Nagus and raises MBX fault 001h, class F0. -/
  | lockstepMismatch
  /-- WDOG_KICK (R99): A write of A5C3h to MBX_WDOG.KICK restarts the 10 ms watchdog interval. -/
  | wdogKick (v : BitVec 16)
  /-- WDOG_EXPIRE (R99): The watchdog expires, halts Nagus and raises fault 002h, class F0. -/
  | wdogExpire (since : Nat)
  /-- DOORBELL_RING (R113): A doorbell write with RING = 1 moves an idle or done mailbox to BUSY. -/
  | doorbellRing (m : Fin 8)
  /-- DOORBELL_ABORT (R118): A doorbell write with ABORT = 1 on a busy mailbox requests abortion of its request. -/
  | doorbellAbort (m : Fin 8)
  /-- MAILBOX_TAKE (R115): Firmware takes the oldest rung mailbox and carries its request to completion. -/
  | mailboxTake
  /-- MAILBOX_COMPLETE (R114): A write to MBX_COMPLETE moves the mailbox to DONE and raises its vector if requested. -/
  | mailboxComplete (m : Fin 8)
  /-- UNKNOWN_OPCODE (R145): A request whose group or operation is not in interface 4.2 completes with BAD_OPCODE. -/
  | unknownOpcode
  /-- EVT_RD_WRITE (R106): A host write of EVT_RD frees event ring entries or is refused as a protocol error. -/
  | evtRdWrite (v : Word)
  /-- EVENT_POST (R107): Firmware writes an event entry, advances EVT_WR and raises vector 8. -/
  | eventPost
  /-- SUMMARY_REFRESH (R105): Firmware rewrites all summary words at least every 10 ms. -/
  | summaryRefresh
  /-- HOST_ERR_CLEAR (R151): A write of MBX_HOST_ERR_CLEAR zeroes the host error counts and re-arms fault 005h. -/
  | hostErrClear
  /-- VIA_ERR_CLEAR (R55): A write of MBX_VIA_ERR_CLEAR zeroes the Viaduct error counts and the first-error capture. -/
  | viaErrClear
  /-- REGISTER_WRITE (R9): A write to a register without behaviour of its own acts as the access types of its fields state. -/
  | registerWrite (x : Access)
  /-- SYS_NOP (R129): SYS NOP completes with no effect. -/
  | sysNop
  /-- SYS_INFO (R129): SYS INFO returns interface version, firmware version, mode, lifecycle, debug, slot and tick. -/
  | sysInfo
  /-- SYS_MODE (R673): SYS MODE checks and requests a mode change, including HOLD, VAULT and SERVICE lasers. -/
  | sysMode
  /-- SYS_RESUME (R676): SYS RESUME leaves HOLD to the stored return mode when no F1 cause persists. -/
  | sysResume
  /-- SYS_COMMIT (R129): SYS COMMIT commits staged groups immediately or at a target tick through a scheduled slot. -/
  | sysCommit
  /-- SYS_DISCARD (R129): SYS DISCARD rewrites pending values from those in force and ends staging. -/
  | sysDiscard
  /-- SYS_RESET (R129): SYS RESET replies and schedules a device reset 1 ms later. -/
  | sysReset
  /-- COMMAND_RESET_DELAY (R129): 1 ms after the SYS RESET reply the device resets. -/
  | commandResetDelay
  /-- SYS_ACTION_STATUS (R129): SYS ACTION_STATUS reports a long action by its tag. -/
  | sysActionStatus
  /-- SYS_ACTION_STOP (R129): SYS ACTION_STOP aborts a running long action. -/
  | sysActionStop
  /-- SYS_WINDOW_OPEN (R732): SYS WINDOW_OPEN opens or reuses a BAR2 permission window over a DRAM range. -/
  | sysWindowOpen
  /-- SYS_WINDOW_CLOSE (R775): SYS WINDOW_CLOSE closes a window unless an active ring lies inside it. -/
  | sysWindowClose
  /-- JOB_OPEN (R669): JOB OPEN checks the manifest and its signature, loads images 48–62 and records the job open group. -/
  | jobOpen
  /-- JOB_START (R130): JOB START enters BUILD at the given first layer. -/
  | jobStart
  /-- JOB_STATUS (R130): JOB STATUS reports the job state, layer counter and piers past LAYER_END. -/
  | jobStatus
  /-- JOB_STOP (R130): JOB STOP stops every pier after the layer or at once, as a long action. -/
  | jobStop
  /-- JOB_CLOSE (R393): JOB CLOSE restores loop images, clears the job measurement and writes the close record. -/
  | jobClose
  /-- LONG_ACTION_FINISH (R117): A long action ends and firmware posts an action-finished event with its final status. -/
  | longActionFinish (tag : BitVec 16)
  /-- SCN_RING_SET (R131): SCN RING_SET sets up a pier's stroke ring and its permission window. -/
  | scnRingSet
  /-- SCN_RING_STATUS (R131): SCN RING_STATUS returns ring indices, last SEQ, epoch and FIFO fill. -/
  | scnRingStatus
  /-- SCN_PROFILE_LOAD (R131): SCN PROFILE_LOAD writes a 128-byte power profile to the masked piers. -/
  | scnProfileLoad
  /-- SCN_DIGEST (R131): SCN DIGEST returns a pier's layer digest and its Flue sequence. -/
  | scnDigest
  /-- SCN_LIMITS_SET (R131): SCN LIMITS_SET writes pending jump and mark limits for the masked piers. -/
  | scnLimitsSet
  /-- SCN_BARRIER_SET (R131): SCN BARRIER_SET writes the pending barrier timeout. -/
  | scnBarrierSet
  /-- SCN_LIMITS_READ (R131): SCN LIMITS_READ returns a pier's limits and barrier timeout in force. -/
  | scnLimitsRead
  /-- COR_GRID_LOAD (R132): COR GRID_LOAD copies a grid into a pier's inactive slot, checks its CRC and marks it ready. -/
  | corGridLoad
  /-- COR_FIELD_SET (R203): COR FIELD_SET writes a pier's pending field rectangle. -/
  | corFieldSet
  /-- COR_SWAP (R132): COR SWAP requests a bank swap at the next LAYER_END or group 2 commit. -/
  | corSwap
  /-- COR_STATUS (R132): COR STATUS reports active bank, clamp counts, loaded banks and parameters. -/
  | corStatus
  /-- COR_PARAM_SET (R132): COR PARAM_SET writes pending ZGAIN and CLAMP_F1 for masked piers. -/
  | corParamSet
  /-- SPAN_MATRIX_SET (R133): SPAN MATRIX_SET writes the pending proximity distance matrix. -/
  | spanMatrixSet
  /-- SPAN_GAS_SET (R263): SPAN GAS_SET writes the pending gas-flow vector. -/
  | spanGasSet
  /-- SPAN_PATCH_RING (R133): SPAN PATCH_RING sets up the patch ring and its window. -/
  | spanPatchRing
  /-- SPAN_STITCH_SET (R133): SPAN STITCH_SET writes the pending STITCH_WAIT. -/
  | spanStitchSet
  /-- SPAN_STATUS (R133): SPAN STATUS reports stitches, patch index, losses and guard settings. -/
  | spanStatus
  /-- SPAN_GUARD_SET (R133): SPAN GUARD_SET writes the pending guard enable. -/
  | spanGuardSet
  /-- LSR_GATE_SET (R134): LSR GATE_SET writes a pier's pending coarse and fine gate delays and gate type. -/
  | lsrGateSet
  /-- LSR_POWER_LIMIT (R134): LSR POWER_LIMIT writes pending power limits for masked piers. -/
  | lsrPowerLimit
  /-- LSR_LASER_CMD (R319): LSR LASER_CMD writes a pier's pending ENABLE_REQ and USER command bits. -/
  | lsrLaserCmd
  /-- LSR_STATUS (R333): LSR STATUS reports permit channels and laser ready, alarm and emission inputs. -/
  | lsrStatus
  /-- LSR_EMA_SET (R134): LSR EMA_SET writes pending emission-check settings for masked piers. -/
  | lsrEmaSet
  /-- LOOP_PROG_LOAD (R391): LOOP PROG_LOAD writes and marks a slot's image and makes it pending for the slot. -/
  | loopProgLoad
  /-- LOOP_PLAUS_SET (R135): LOOP PLAUS_SET writes a pier's pending plausibility window, count and class. -/
  | loopPlausSet
  /-- LOOP_LOOP_MODE (R399): LOOP LOOP_MODE writes MODE and re-arm for masked slots and commits. -/
  | loopLoopMode
  /-- LOOP_STATUS (R135): LOOP STATUS reports a slot's state, flags and last word. -/
  | loopStatus
  /-- LOOP_INPUT_SET (R135): LOOP INPUT_SET writes pending gain and open-detect for masked melt-pool inputs. -/
  | loopInputSet
  /-- LOOP_AUX_SET (R135): LOOP AUX_SET writes pending auxiliary input and excitation settings. -/
  | loopAuxSet
  /-- CAM_PORT_SET (R411): CAM PORT_SET reconfigures a camera port's lanes and rate. -/
  | camPortSet
  /-- CAM_CONTEXT_SET (R416): CAM CONTEXT_SET writes a context record and requests its load. -/
  | camContextSet
  /-- CAM_EXPOSURE_SET (R440): CAM EXPOSURE_SET arms an exposure set and commits or stages group 6. -/
  | camExposureSet
  /-- CAM_STATS_READ (R441): CAM STATS_READ returns a context's latest frame statistics. -/
  | camStatsRead
  /-- AXIS_CONFIG (R487): AXIS CONFIG writes an axis record. -/
  | axisConfig
  /-- AXIS_MOVE (R487): AXIS MOVE starts a position or velocity move as a long action. -/
  | axisMove
  /-- AXIS_HOME (R487): AXIS HOME starts a switch or stall homing as a long action. -/
  | axisHome
  /-- AXIS_STOP (R487): AXIS STOP stops moving axes and clears faulted axes at rest. -/
  | axisStop
  /-- AXIS_STATUS (R473): AXIS STATUS returns extended position, velocity and status flags. -/
  | axisStatus
  /-- DISP_TIMING_SET (R541): DISP TIMING_SET checks and writes a panel timing record and requests its snapshot. -/
  | dispTimingSet (porch : Bool)
  /-- DISP_LAYER_SET (R541): DISP LAYER_SET checks and writes a layer record and requests its snapshot. -/
  | dispLayerSet (porch : Bool)
  /-- DISP_WRITEBACK_SET (R564): DISP WRITEBACK_SET configures the writeback buffers. -/
  | dispWritebackSet (porch : Bool)
  /-- DISP_ACCUM_RUN (R565): DISP ACCUM_RUN starts an offline accumulation list as a long action. -/
  | dispAccumRun
  /-- LITE_CHANNEL_SET (R574): LITE CHANNEL_SET computes and commits a channel's reference, dimming and group. -/
  | liteChannelSet
  /-- LITE_GROUP_SET (R139): LITE GROUP_SET sets a group's all-or-nothing and beacon bits. -/
  | liteGroupSet
  /-- LITE_STATUS (R139): LITE STATUS reports on, open, short and over-temperature channels. -/
  | liteStatus
  /-- LITE_DERATE_SET (R139): LITE DERATE_SET writes a channel's NTC derating settings. -/
  | liteDerateSet
  /-- LITE_CURVE_SET (R139): LITE CURVE_SET writes the shared NTC temperature curve. -/
  | liteCurveSet
  /-- LITE_STROBE_SET (R139): LITE STROBE_SET writes a channel's strobe settings. -/
  | liteStrobeSet
  /-- LITE_DRIVE_SET (R139): LITE DRIVE_SET writes a channel's switching and detection settings. -/
  | liteDriveSet
  /-- THRM_STATUS (R140): THRM STATUS reports maximum temperature, broken sensors, level and reduction. -/
  | thrmStatus
  /-- THRM_SENSOR_READ (R140): THRM SENSOR_READ returns all twelve sensor temperatures. -/
  | thrmSensorRead
  /-- CAL_RUN (R612): CAL RUN starts a calibration procedure as a long action. -/
  | calRun
  /-- CAL_TRIM_READ (R624): CAL TRIM_READ returns the trim set in force, pending or stored. -/
  | calTrimRead
  /-- CAL_TRIM_WRITE (R625): CAL TRIM_WRITE checks a trim set, writes it pending and commits or stages group 9. -/
  | calTrimWrite
  /-- CAL_STORE (R626): CAL STORE writes the trim set in force to the older flash copy and verifies it. -/
  | calStore
  /-- TIME_READ (R142): TIME READ returns tick, FRC and network time captured together. -/
  | timeRead
  /-- TIME_INC_SET (R142): TIME INC_SET writes a new network-time increment. -/
  | timeIncSet
  /-- TIME_OFS_SET (R142): TIME OFS_SET writes a new network-time offset, optionally armed. -/
  | timeOfsSet (aux : List Nat)
  /-- TIME_DISC_SET (R773): TIME DISC_SET writes and commits tick period, discipline mode, anchor and wire compensation. -/
  | timeDiscSet
  /-- TIME_TRIGGER_SET (R94): TIME TRIGGER_SET configures a host time-trigger comparator. -/
  | timeTriggerSet
  /-- SEC_ATTEST (R667): SEC ATTEST returns a signed attestation report over the given nonce. -/
  | secAttest (ok : Bool)
  /-- SEC_DEBUG_CHALLENGE (R680): SEC DEBUG_CHALLENGE issues a 32-byte challenge for a debug level. -/
  | secDebugChallenge
  /-- SEC_DEBUG_RESPONSE (R681): SEC DEBUG_RESPONSE checks a debug token and opens or lowers the level. -/
  | secDebugResponse
  /-- SEC_FW_WRITE (R143): SEC FW_WRITE writes an image into the non-running firmware slot as a long action. -/
  | secFwWrite
  /-- SEC_FW_ACTIVATE (R149): SEC FW_ACTIVATE verifies a slot and makes it the next to boot, unconfirmed. -/
  | secFwActivate
  /-- SEC_FW_CONFIRM (R150): SEC FW_CONFIRM marks the running slot confirmed and raises the anti-rollback counter. -/
  | secFwConfirm
  /-- SEC_PROVISION (R658): SEC PROVISION programs the identity key and integrator hashes and moves to PROVISIONED. -/
  | secProvision
  /-- SEC_SEAL (R659): SEC SEAL programs the owner hashes and moves to SEALED. -/
  | secSeal
  /-- SEC_RETIRE (R660): SEC RETIRE checks a signed retire order and moves to RETIRED. -/
  | secRetire
  /-- FLUE_READ (R723): FLUE READ returns live records in SEQ order from a requested first SEQ. -/
  | flueRead
  /-- FLUE_STATUS (R144): FLUE STATUS reports newest and oldest SEQ, reserve use and sealed-full. -/
  | flueStatus
  /-- FLUE_NOTE (R704): FLUE NOTE enters a host note record into the Flue. -/
  | flueNote
  /-- RING_INDEX_WRITE (R154): A host write of a stroke ring index proposes a new WR, accepted or refused. -/
  | ringIndexWrite (p : Fin 16) (v : Word)
  /-- FETCH_ISSUE (R158): The fetch side issues a read of descriptors from RD when the FIFO has room. -/
  | fetchIssue (p : Fin 16)
  /-- FETCH_COMPLETE (R158): Fetched descriptors enter the FIFO and RD advances. -/
  | fetchComplete (p : Fin 16)
  /-- DESC_NOP (R165): A NOP descriptor is taken and occupies one tick at rest. -/
  | descNop (p : Fin 16)
  /-- DESC_JUMP (R169): A JUMP descriptor is taken and moves laser-off under the jump limits. -/
  | descJump (p : Fin 16)
  /-- DESC_MARK (R170): A MARK descriptor is taken and moves lit, with or without skywriting. -/
  | descMark (p : Fin 16)
  /-- DESC_ARC (R173): An ARC descriptor is taken and moves lit along a circle. -/
  | descArc (p : Fin 16)
  /-- DESC_DWELL (R175): A DWELL descriptor is taken and holds the position lit for PARAM ticks. -/
  | descDwell (p : Fin 16)
  /-- DESC_WAIT_TICK (R179): A WAIT_TICK descriptor is taken and sets a wait target relative to the layer tick. -/
  | descWaitTick (p : Fin 16)
  /-- WAIT_TICK_EXPIRE (R179): The wait target is reached and the pier takes its next descriptor. -/
  | waitTickExpire (p : Fin 16)
  /-- DESC_BARRIER (R180): A BARRIER descriptor is taken and the pier arrives at the barrier. -/
  | descBarrier (p : Fin 16)
  /-- BARRIER_TIMEOUT (R181): A barrier not completed within SCN_BARRIER_WAIT ticks records fault 00Ah, class F1. -/
  | barrierTimeout (id : BitVec 16) (mask : BitVec 16)
  /-- DESC_STITCH_OUT (R182): A STITCH_OUT descriptor is taken and the pier registers its stitch and waits. -/
  | descStitchOut (p : Fin 16)
  /-- DESC_STITCH_IN (R182): A STITCH_IN descriptor is taken and the pier registers its stitch and waits. -/
  | descStitchIn (p : Fin 16)
  /-- DESC_LAYER_END (R183): A LAYER_END descriptor is accepted and the pier enters LAYER_WAIT. -/
  | descLayerEnd (p : Fin 16)
  /-- DESC_LOAD_LOOP (R185): A LOAD_LOOP descriptor hands a program image to the pier's fast slot. -/
  | descLoadLoop (p : Fin 16)
  /-- DESC_MARKER (R186): A MARKER descriptor latches PARAM and optionally posts a Flue record. -/
  | descMarker (p : Fin 16)
  /-- DESC_END (R187): An END descriptor puts the pier in DONE and discards its FIFO. -/
  | descEnd (p : Fin 16)
  /-- LAYER_GO_WRITE (R184): A write of SCN_LAYER_GO.GO signals a layer start. -/
  | layerGoWrite
  /-- LAYER_START (R184): A received layer start is evaluated in the next tick and starts the layer or is refused. -/
  | layerStart
  /-- DIGEST_TAKE (R191): The Flue takes a pier's digest set as a digest record and TAKEN is set. -/
  | digestTake (p : Fin 16)
  /-- SCN_CMD_START (R195): SCN_CMD START opens a digest message and moves idle piers to LAYER_WAIT. -/
  | scnCmdStart (mask : BitVec 16)
  /-- SCN_CMD_STOP (R777): SCN_CMD STOP stops masked piers and writes the abandoned remainder. -/
  | scnCmdStop (mask : BitVec 16)
  /-- SCN_CMD_RESET (R195): SCN_CMD RESET closes any open digest, empties the FIFO and returns piers to IDLE. -/
  | scnCmdReset (mask : BitVec 16)
  /-- SCN_CMD_RESUME (R197): SCN_CMD RESUME moves a held pier back to its abandoned stroke's rest point. -/
  | scnCmdResume (mask : BitVec 16)
  /-- PROF_DATA_ACCESS (R177): An SCN_PROF_DATA access reads or writes a profile entry and advances ENTRY. -/
  | profDataAccess (v : Option (BitVec 16))
  /-- BANK_READY_MARK (R220): A COR_BANK_CMD write with READY = 1 marks the inactive slot ready. -/
  | bankReadyMark (p : Fin 16)
  /-- BANK_SWAP_REQUEST (R220): A COR_BANK_CMD SWAP of 1 or 2 requests a swap, or is refused. -/
  | bankSwapRequest (p : Fin 16) (layer : Bool) (ready : Bool)
  /-- BANK_SWAP_CANCEL (R220): A COR_BANK_CMD SWAP of 3 cancels a pending swap. -/
  | bankSwapCancel (p : Fin 16)
  /-- GRID_SLOT_WRITE (R219): A write to a pier's inactive grid slot clears READY and cancels a pending swap. -/
  | gridSlotWrite (req : Nat) (off : Nat) (bs : List Byte)
  /-- GRID_CRC_START (R225): A write of COR_CRC_CTRL.START starts the CRC of a grid slot. -/
  | gridCrcStart (bank : Fin 2) (p : Fin 16)
  /-- GRID_CRC_DONE (R225): The slot CRC completes into COR_CRC_RESULT and DONE is set. -/
  | gridCrcDone
  /-- BANK_INIT_DONE (R217): Bank zeroing after reset completes and INIT_DONE is set. -/
  | bankInitDone
  /-- STITCH_SOLO_RELEASE (R235): A waiting stitch side reaches STITCH_WAIT and is released to run solo. -/
  | stitchSoloRelease (id : Fin 1024)
  /-- PATCH_RECORD_WRITE (R255): A staged patch record is written to the ring in DRAM and SPN_PATCH_WR advances. -/
  | patchRecordWrite
  /-- PATCH_IRQ_TIMEOUT (R259): 100 µs after the first unsignalled record, vector 25 is raised. -/
  | patchIrqTimeout
  /-- PATCH_EN_WRITE (R255): A write setting SPN_PATCH_CTRL.EN enables the writer and zeroes SPN_PATCH_WR. -/
  | patchEnWrite
  /-- UPLINK_FRAME (R278): An uplink frame from the head is received whole. -/
  | uplinkFrame (p : Fin 16) (before gs : List (BitVec 10))
  /-- UL_DEADLINE_CHECK (R286): At UL_DEADLINE the checker marks the tick good or failed for each pier. -/
  | ulDeadlineCheck (p : Fin 16)
  /-- LEGACY_UPLINK_FRAME (R303): A legacy head's status frame is received whole. -/
  | legacyUplinkFrame (p : Fin 16) (before gs : List (BitVec 10))
  /-- LEGACY_EXCHANGE_CHECK (R304): At the 4 µs deadline a legacy exchange is checked. -/
  | legacyExchangeCheck (p : Fin 16)
  /-- SYMBOL_LOCK_LOST (R293): Four bad code groups or no K28.5 for two periods lose uplink symbol lock. -/
  | symbolLockLost (p : Fin 16) (gs : List (BitVec 10))
  /-- TRAIN_START (R295): A write of PLK_TRAIN.START starts link training at the next tick edge. -/
  | trainStart (p : Fin 16) (sweep : Bool)
  /-- TRAIN_ADVANCE (R295): A training tick count passes into the next training state or ends training. -/
  | trainAdvance (p : Fin 16) (before after : List (BitVec 10))
  /-- PLK_MODE_WRITE (R301): A write of PLK_CTRL.MODE sets normal or legacy mode, or moves the link to OFF. -/
  | plkModeWrite (p : Fin 16) (v : Fin 4)
  /-- STATUS_INPUT_ACCEPT (R326): A laser status or permit input level that has held 100 ns is accepted. -/
  | statusInputAccept (b : LsrBall) (level : Bool) (phase : Nat)
  /-- PERMIT_PAD_REMOVAL (R331): A permit channel removed at the balls forces all gate pads off within 100 ns. -/
  | permitPadRemoval
  /-- PERMIT_DISCREPANCY (R334): Permit channels differing for 10 ms set DISCREP and record fault 006h. -/
  | permitDiscrepancy
  /-- DISCREP_CLEAR (R334): Both channels removed together for 1 ms clear DISCREP. -/
  | discrepClear
  /-- EMA_MISSING (R330): No emission-active within ON_MAX of the gate going on records fault 003h. -/
  | emaMissing (p : Fin 16) (on100ns : Nat)
  /-- UNCMD_EMISSION (R330): Emission-active with the gate off for OFF_MAX records fault 004h, class F0. -/
  | uncmdEmission (p : Fin 16) (off100ns : Nat)
  /-- TEST_FIRE (R337): A write of LSR_TEST.FIRE requests a single test pulse, or is refused. -/
  | testFire (p : Fin 16) (width : BitVec 16)
  /-- TEST_PULSE_END (R337): The test pulse width ends and BUSY clears. -/
  | testPulseEnd (p : Fin 16)
  /-- INPUT_OPEN_DECLARE (R348): An input reading 8000h on 64 consecutive results is declared open. -/
  | inputOpenDeclare (k : Fin 32)
  /-- HEARTH_LINK_LOST (R350): Four samples without a passing result clear HEARTH_OK and raise fault 007h. -/
  | hearthLinkLost
  /-- HEARTH_OK_RESTORE (R350): 64 consecutive samples with every result passing parity set HEARTH_OK. -/
  | hearthOkRestore
  /-- VAA_LOSS (R752): VAA falls below its threshold and the hearth die reports its loss. -/
  | vaaLoss
  /-- OFFSET_MEAS_START (R352): A write of AFE_CAL_CTRL.START starts a 256-tick offset measurement. -/
  | offsetMeasStart (p : Fin 16)
  /-- OFFSET_MEAS_DONE (R352): The offset measurement ends, writes MEAS and reconnects the inputs. -/
  | offsetMeasDone
  /-- AUX_TIMER_START (R356): The internal 1 kHz start latches all eight auxiliary results. -/
  | auxTimerStart (res : List Nat)
  /-- NTC_CONVERT (R360): Each NTC input is converted once per millisecond and checked for open or short. -/
  | ntcConvert (j : Fin 4) (c : BitVec 12)
  /-- IMG_DATA_ACCESS (R389): An LOP_IMG_DATA access reads or writes an instruction word and advances the selector. -/
  | imgDataAccess (v : Option Word)
  /-- IMG_MARK (R389): A write of LOP_IMG_CMD.MARK starts the check of a program image. -/
  | imgMark (count : Fin 64) (slow : Bool)
  /-- IMG_CHECK_DONE (R388): The image check ends and marks the image loaded or refuses it. -/
  | imgCheckDone
  /-- LOOP_REARM (R399): A write of LOP_CLEAR arms re-arming of slots at the next group 7 commit. -/
  | loopRearm (mask : Nat)
  /-- CSI_FRAME_START (R414): A frame-start packet opens a frame, extends its number and takes a trigger event. -/
  | csiFrameStart (port : Fin 4) (vc : Fin 16) (w : BitVec 16) (corr : Bool) (phase : Nat)
  /-- CSI_LINE (R413): A long packet of pixels is received into the port FIFO. -/
  | csiLine (port : Fin 4) (vc : Fin 16) (dt : BitVec 6) (px : List Nat) (corr : Bool) (crcOk : Bool) (phase : Nat)
  /-- CSI_FRAME_END (R418): A frame-end packet closes the frame and makes a small frame eligible. -/
  | csiFrameEnd (port : Fin 4) (vc : Fin 16) (corr : Bool) (same : Bool) (phase : Nat)
  /-- CSI_OTHER_PACKET (R412): A short, embedded, unsupported or header-error packet is handled and counted. -/
  | csiOtherPacket (port : Fin 4) (vc : Fin 16) (dt : BitVec 6) (bs : List Byte) (form : CsiForm) (crcOk : Bool) (phase : Nat)
  /-- FRAME_OPEN_TIMEOUT (R413): A frame open 100 ms without a frame end is malformed and dropped. -/
  | frameOpenTimeout (c : Fin 32) (phase : Nat)
  /-- FRAME_ADMIT (R418): The pipeline admits an eligible frame or line for processing. -/
  | frameAdmit (ue : Bool) (phase : Nat)
  /-- FRAME_DONE (R420): A frame's processing ends and its descriptor and statistics are complete. -/
  | frameDone (c : Fin 32) (phase : Nat)
  /-- TRIGGER_PULSE_END (R432): The trigger pulse width ends and the output returns inactive. -/
  | triggerPulseEnd (o : Fin 17)
  /-- CTX_APPLY (R415): A write of CAM_CTX_APPLY requests a context load at its next frame start. -/
  | ctxApply (v : Word)
  /-- EXPOSURE_ARM (R434): A write of CAM_EXP_CTRL.ARM arms an exposure set. -/
  | exposureArm (c : Fin 32) (phase : Nat)
  /-- CCI_WRITE_DONE (R438): An exposure write over the camera control interface completes or fails. -/
  | cciWriteDone (port : Fin 4) (ok : Bool)
  /-- BUFFER_HEADER_WRITE (R442): After all pixel writes complete, a frame's DRAM buffer header is written. -/
  | bufferHeaderWrite (c : Fin 32)
  /-- DLOG_RECORD_WRITE (R444): A staged descriptor log record is written to the log ring. -/
  | dlogRecordWrite
  /-- DEF_DATA_ACCESS (R428): A CAM_DEF_DATA access reads or writes a defect entry and advances INDEX. -/
  | defDataAccess (v : Option Word)
  /-- AXIS_UPDATE (R451): Every 10 µs each axis profile generator updates its commanded position. -/
  | axisUpdate
  /-- EXT_STEP_EDGE (R458): An accepted rising edge on AXk_STEP is one coarse step. -/
  | extStepEdge (k : Fin 6) (dir : Bool) (cyc : Nat)
  /-- QUAD_TRANSITION (R464): A quadrature transition counts the encoder up or down. -/
  | quadTransition (k : Fin 6) (ab : BitVec 2) (cyc : Nat)
  /-- INDEX_PULSE (R468): An index pulse edge latches the encoder count. -/
  | indexPulse (k : Fin 6) (rising : Bool)
  /-- SSI_READ_START (R469): Every SSI_PERIOD updates the axis starts an SSI frame read. -/
  | ssiReadStart (k : Fin 6)
  /-- SSI_FRAME_DONE (R470): An SSI frame completes and advances or is discarded. -/
  | ssiFrameDone (k : Fin 6) (idle : Bool) (bits : Word) (cyc : Nat)
  /-- SPEED_TIMEOUT (R472): H unchanged for SPEED_TO ms makes the measured speed read 0. -/
  | speedTimeout (k : Fin 6)
  /-- SWITCH_TRANSITION (R476): The first transition of a switch change latches position and encoder. -/
  | switchTransition (k : Fin 6) (sw : Fin 3) (level : Bool)
  /-- SWITCH_QUALIFIED (R476): A switch level held for DEBOUNCE is qualified. -/
  | switchQualified (k : Fin 6) (sw : Fin 3) (level : Bool)
  /-- AXS_MOVE_POSITION (R452): AXS_CMD OP 1 starts or replans a position-mode move. -/
  | axsMovePosition (k : Fin 6)
  /-- AXS_MOVE_VELOCITY (R453): AXS_CMD OP 2 starts or replans a velocity-mode move. -/
  | axsMoveVelocity (k : Fin 6)
  /-- AXS_STOP (R456): AXS_CMD OP 3 decelerates the axis to rest. -/
  | axsStop (k : Fin 6)
  /-- AXS_HOME_SWITCH (R481): AXS_CMD OP 4 starts a switch homing. -/
  | axsHomeSwitch (k : Fin 6)
  /-- AXS_HOME_STALL (R482): AXS_CMD OP 5 starts a stall homing. -/
  | axsHomeStall (k : Fin 6)
  /-- AXS_CLEAR (R485): AXS_CMD OP 6 clears a faulted axis at rest. -/
  | axsClear (k : Fin 6)
  /-- ACC_WRITE (R455): A write to AXS_ACC applies a new acceleration or defers it on a deceleration ramp. -/
  | accWrite (k : Fin 6) (v : Word)
  /-- COMPARE_ARM (R483): A write to AXS_CMP sets the compare position and arms the comparator. -/
  | compareArm (k : Fin 6) (v : Word)
  /-- DRAM_TRAIN_START (R500): A write of DMC_CTRL.TRAIN starts DRAM training on both channels. -/
  | dramTrainStart
  /-- DRAM_TRAIN_DONE (R500): DRAM training and zero fill end and READY is set. -/
  | dramTrainDone (e : TrainEv) (vals : List Word)
  /-- DRAM_REQUEST (R518): The DRAM controller serves a port request under priority and reservations. -/
  | dramRequest (p0 p1 p2 p3 p4 p5 : List DReq) (e : DramEv)
  /-- REFRESH_DUE (R503): A rank's refresh falls due and is issued or postponed. -/
  | refreshDue (c : Fin 2) (r : Fin 2) (busy : Bool)
  /-- RH_TABLE_RESET (R506): At every 64 ms boundary all row-activation entries are freed. -/
  | rhTableReset
  /-- EVICT_PERIOD (R508): At each 1 ms period end eviction counts are checked and requesters throttled. -/
  | evictPeriod
  /-- CA_PARITY_ALERT (R510): ALERT_n low starts a command replay on the channel. -/
  | caParityAlert (c : Fin 2)
  /-- ZQ_CALIBRATE (R502): Every 128 ms the DMC issues ZQCS to each rank. -/
  | zqCalibrate
  /-- DQS_TRACK (R502): Every 1 ms the DMC tracks read DQS drift on each rank. -/
  | dqsTrack (vals : List Word)
  /-- SCRUB_READ (R516): The patrol scrubber reads the next burst and repairs or reports it. -/
  | scrubRead (errs : List (Nat × Nat))
  /-- ECC_CLEAR (R517): A write of DMC_ECC_CLEAR zeroes ECC counts and re-arms the threshold. -/
  | eccClear
  /-- POWER_DOWN_ENTRY (R519): A rank idle for PD_IDLE clocks enters precharge power-down. -/
  | powerDownEntry (c : Fin 2) (r : Fin 2)
  /-- DMA_START (R521): A write of DMA_CTRL.START checks a transfer and starts or queues it. -/
  | dmaStart (ch : Fin 32) (v : Word)
  /-- DMA_STOP (R528): A write of DMA_CTRL.STOP stops an active channel. -/
  | dmaStop (ch : Fin 32)
  /-- DMA_BURST_ISSUE (R525): The DMA engine issues the next read or write burst of a channel. -/
  | dmaBurstIssue (ue : Option (Fin 32))
  /-- DMA_ACCESS_RESPONSE (R526): A DMA access response advances DONE, half point and completion. -/
  | dmaAccessResponse (ch : Fin 32)
  /-- DMA_HALT_CLEAR (R531): A write of DMA_CLEAR.HALT clears HALTED once no access is outstanding. -/
  | dmaHaltClear
  /-- VSYNC (R539): At vertical sync the frame number and tick advance and the next frame begins. -/
  | vsync
  /-- DSP_COMMIT_GO (R540): A write of DSP_COMMIT.GO snapshots the pending registers of the named units. -/
  | dspCommitGo (v : Word) (porch : Bool)
  /-- SCAN_ENABLE (R543): A write of DSP_CTRL.SCAN_EN starts link training or stops scan-out. -/
  | scanEnable (en : Bool)
  /-- LINK_TRAIN_DONE (R543): eDP link training completes or fails. -/
  | linkTrainDone (ok : Bool) (vs : Fin 4) (pe : Fin 4)
  /-- IRQ_HPD (R544): An IRQ_HPD with lost lock retrains the link at the next vertical sync. -/
  | irqHpd (lost : Bool)
  /-- HPD_LOST (R544): DPHPD low for 2 ms stops scan-out. -/
  | hpdLost
  /-- HPD_RESTORED (R544): DPHPD high for 100 ms retrains the link. -/
  | hpdRestored
  /-- COMPOSE_LINE (R555): The compositor composes the next line into the frame store. -/
  | composeLine (e : ComposeEv)
  /-- SCANOUT_LINE (R556): Scan-out sends a line from the frame store to the panel. -/
  | scanoutLine (px : Nat) (par : List Nat) (wbOk : Bool)
  /-- WB_HEADER_WRITE (R563): After a frame's pixel writes complete, its writeback header is written. -/
  | wbHeaderWrite
  /-- AUX_TRANSACTION (R535): A write of DSP_AUX_CTRL.GO starts an AUX channel transaction. -/
  | auxTransaction (v : Word)
  /-- AUX_DONE (R535): The AUX transaction ends with its result. -/
  | auxDone (res : Fin 4) (bs : List Byte)
  /-- ACCUM_START (R565): A write of DSP_ACC_CTRL.START starts an accumulation run. -/
  | accumStart (v : Word)
  /-- ACCUM_RUN_DONE (R566): The accumulation run ends with OK, a reserved entry or a bus error. -/
  | accumRunDone
  /-- SWITCH_PERIOD_START (R572): A lighting switching period starts and LDGk goes high. -/
  | switchPeriodStart (k : Fin 16)
  /-- LIGHT_TRIP (R572): The peak-current comparator trips and LDGk goes low. -/
  | lightTrip (k : Fin 16) (uv : Nat) (cyc : Nat)
  /-- DIM_ON_START (R575): A dimming on-interval of a channel starts. -/
  | dimOnStart (k : Fin 16) (c : Nat)
  /-- DIM_ON_END (R575): A dimming on-interval of a channel ends. -/
  | dimOnEnd (k : Fin 16)
  /-- STROBE_START (R577): STR_DLY after the firing the strobe on-interval starts. -/
  | strobeStart (k : Fin 16)
  /-- STROBE_END (R577): The strobe on-interval ends after STR_W. -/
  | strobeEnd (k : Fin 16)
  /-- LIT_CLEAR_WRITE (R580): A write of LIT_CLEAR clears a channel's OPEN and SHORT latches. -/
  | litClearWrite (mask : BitVec 16)
  /-- GROUP_WRITE (R584): A write of LIT_GROUP sets AON and BEACON or is refused. -/
  | groupWrite (g : Fin 4) (v : Word)
  /-- THERMAL_UPDATE (R590): Every 1 ms all sensors are converted and TMAX evaluated. -/
  | thermalUpdate (ts : List (BitVec 16))
  /-- SHUTDOWN_FLASH_END (R602): The flash program in progress ends or FLASH_MAX expires and the flush begins. -/
  | shutdownFlashEnd
  /-- DAMPER_RELAX (R598): Every RELAX ms the reduction falls by one toward its target. -/
  | damperRelax
  /-- SENSOR_CLEAR (R594): A write of THM_SENSOR_CLEAR re-admits broken sensors. -/
  | sensorClear (mask : BitVec 12)
  /-- ANALOG_TRIP (R605): A sensor above 125 °C trips, cuts the deck die and latches TRIP. -/
  | analogTrip
  /-- GAP_PIECE_CLOSE (R618): The dark span ends or 512 results are held and the inputs reconnect. -/
  | gapPieceClose
  /-- GAP_WAIT_TIMEOUT (R619): WAIT ms without 512 results ends the gap-mode measurement with NO_GAP. -/
  | gapWaitTimeout
  /-- MC_START (R618): A write of CAL_MC.START starts a gap-mode offset measurement. -/
  | mcStart (v : Word)
  /-- SWEEP_START (R620): A write of CAL_SWP_CTRL.START starts a gate sweep. -/
  | sweepStart (v : Word)
  /-- SWEEP_PULSE (R620): GAP ticks after the previous pulse the sweep fires its next test pulse. -/
  | sweepPulse
  /-- THRESHOLD_START (R623): A write of CAL_LT_CTRL.START starts the lighting threshold procedure. -/
  | thresholdStart (v : Word)
  /-- THRESHOLD_STEP (R623): Every 10 µs the threshold procedure steps TRIM and checks the comparator. -/
  | thresholdStep (trip : Bool)
  /-- ETH_RX_FRAME (R634): A received Ethernet frame is time-stamped and written to the receive ring. -/
  | ethRxFrame (n : Fin 2) (bs : List Byte) (fcsOk : Bool) (adv : Nat)
  /-- ETH_TX_FRAME (R636): A transmitted frame completes, its timestamp is queued and DONE written. -/
  | ethTxFrame (n : Fin 2) (ok : Bool) (adv : Nat)
  /-- TX_KICK (R634): A write of NET_TX_KICK resumes the transmit ring. -/
  | txKick (n : Fin 2) (v : Word)
  /-- TXTS_POP (R637): A write of NET_TXTS_POP.POP removes the head timestamp entry. -/
  | txtsPop (n : Fin 2) (v : Word)
  /-- MDIO_FRAME (R633): A write of NET_MDIO.GO starts a Clause 22 management frame. -/
  | mdioFrame (v : Word)
  /-- MDIO_DONE (R633): The management frame ends and read data is available. -/
  | mdioDone (data : BitVec 16) (answered : Bool)
  /-- ETH_LINK_CHANGE (R633): A port's SGMII link comes up or is lost. -/
  | ethLinkChange (n : Fin 2) (up : Bool)
  /-- PTP_SYNC_EXCHANGE (R640): Firmware computes path delay and offset from a Sync exchange and steers the clock. -/
  | ptpSyncExchange (t1 : Nat) (t2 : Nat) (t3 : Nat) (t4 : Nat) (phase : Nat) (aux : List Nat)
  /-- PTP_ANNOUNCE (R641): A qualified Announce selects a time transmitter and may enter QUALIFY. -/
  | ptpAnnounce (n : Fin 2) (ds : List Nat)
  /-- PTP_ANNOUNCE_TIMEOUT (R642): Three announce intervals without Announce enter HOLDOVER. -/
  | ptpAnnounceTimeout
  /-- BAR2_REQUEST (R647): A host BAR2 request is checked against the permission windows and served or refused. -/
  | bar2Request (a : Nat) (n : Nat) (w : Option (List Byte)) (aer : Bool)
  /-- PCIE_RESET (R649): PERST, hot reset or link down returns the endpoint to reset values. -/
  | pcieReset
  /-- FUNCTION_LEVEL_RESET (R649): A Function Level Reset resets the endpoint without retraining. -/
  | functionLevelReset
  /-- D3HOT_ENTRY (R649): The function enters D3hot and memory requests are refused. -/
  | d3hotEntry
  /-- ATT_START (R667): A write of SEC_ATT_CTRL.START composes and signs an attestation report. -/
  | attStart (v : Word)
  /-- ATT_DONE (R667): The vault die finishes signing and DONE is set. -/
  | attDone (ok : Bool)
  /-- TOKEN_CHECK (R681): A write of SEC_TOKEN_CTRL.START checks a debug token. -/
  | tokenCheck (v : Word)
  /-- CHALLENGE_NEW (R680): A write of SEC_CHAL_CTRL.NEW draws a challenge for a level. -/
  | challengeNew (v : Word)
  /-- CHALLENGE_EXPIRE (R680): A challenge expires 60 s after issue. -/
  | challengeExpire
  /-- JOB_CHECK_START (R669): A write of SEC_JOB_CTRL.START starts the manifest check. -/
  | jobCheckStart
  /-- JOB_CHECK_DONE (R669): The manifest check ends and sets JOB_OK, JOB_SIGNED and SEC_MEAS_JOB. -/
  | jobCheckDone
  /-- JOB_MEAS_CLEAR (R670): A write of SEC_JOB_CTRL.CLEAR zeroes the job measurement and flags. -/
  | jobMeasClear
  /-- LIFECYCLE_PROGRAM (R656): A write of SEC_LC_CTRL.GO programs the record and moves the lifecycle forward. -/
  | lifecycleProgram (v : Word)
  /-- ARB_RAISE (R665): A write of SEC_ARB_RAISE.GO burns anti-rollback fuses up to TARGET. -/
  | arbRaise (v : Word)
  /-- DEBUG_CLOSE (R683): A write of SEC_DEBUG.CLOSE sets the debug level to LOCKED. -/
  | debugClose
  /-- MODE_WRITE (R673): A firmware write of SEC_MODE changes the mode or is refused by the SEC block. -/
  | modeWrite (v : Word)
  /-- DEBUG_HALT_REQUEST (R684): A debug-port halt request halts Nagus, first forcing HOLD when lasers may fire. -/
  | debugHaltRequest
  /-- JTAG_INSTRUCTION (R679): A JTAG instruction acts as the debug level allows. -/
  | jtagInstruction (j : Jtag)
  /-- KEY_PAIR_READY (R657): In BLANK the vault die finishes generating a candidate key pair. -/
  | keyPairReady
  /-- BOOT_MEASURE_DONE (R663): The boot ROM verifies and copies a slot, records D and sets MEAS_DONE. -/
  | bootMeasureDone
  /-- FW_READY_SET (R770): After boot tasks and DRAM training end, firmware sets FW_READY and enters IDLE. -/
  | fwReadySet
  /-- COUNTER_RESTORE (R692): After the boot scan firmware restores OPSEC and PCYCLE and clears LOST. -/
  | counterRestore
  /-- TAMPER_SAMPLE (R694): The vault die samples the lid loop and tamper switches. -/
  | tamperSample (lidIn : Bool) (tampA : Bool) (tampB : Bool) (adv : Nat)
  /-- VBAT_LOW (R694): VBAT below 2.1 V for 1 s is a tamper-log event. -/
  | vbatLow (low : Bool) (mv : BitVec 16) (adv : Nat)
  /-- VAULT_CLOCK_FAULT (R694): The vault oscillator stops or drifts and a clock tamper event is logged. -/
  | vaultClockFault (adv : Nat)
  /-- VAULT_TEMP_CHECK (R694): Once per second sensor 11 is checked against the temperature limits. -/
  | vaultTempCheck (t : BitVec 16) (adv : Nat)
  /-- WAKE_REQUEST (R691): WAKE_N low for 20 ms raises PSU_EN. -/
  | wakeRequest (adv : Nat)
  /-- RTC_ALARM (R691): The RTC reaching VLT_ALARM raises PSU_EN. -/
  | rtcAlarm (adv : Nat)
  /-- VBAT_INSERT (R691): VBAT insertion makes a vault power-on reset and raises PSU_EN. -/
  | vbatInsert
  /-- RTC_SET (R693): A write of VLT_RTC_SET sets the RTC seconds. -/
  | rtcSet (v : Word)
  /-- SLEEP_REQUEST (R678): A write of VLT_WAKE.SLEEP requests the drop of PSU_EN. -/
  | sleepRequest (v : Word)
  /-- PSU_EN_DROP (R678): 10 ms after SLEEP the vault die drives PSU_EN low. -/
  | psuEnDrop
  /-- VLT_CLEAR_LOST (R692): A write of VLT_CLEAR.LOST clears LOST. -/
  | vltClearLost
  /-- VLT_CLEAR_TLOG (R696): A write of VLT_CLEAR.TLOG empties the tamper log. -/
  | vltClearTlog
  /-- VLT_CLEAR_TRIP (R606): A write of VLT_CLEAR.TRIP clears the analog trip latch. -/
  | vltClearTrip
  /-- OPSEC_SECOND (R692): Each second with the deck die powered OPSEC advances. -/
  | opsecSecond (adv : Nat)
  /-- SUPPLY_RISE (R753): The main supplies rise, PCYCLE advances and power-on reset proceeds. -/
  | supplyRise
  /-- SUPPLY_MONITOR_TRIP (R752): A rail crosses its monitor threshold and its action is taken. -/
  | supplyMonitorTrip (rail : Fin 6) (rising : Bool)
  /-- RESET_PIN (R754): RESET_N held low for 1 µs resets the device. -/
  | resetPin (ns : Nat)
  /-- POR_END (R754): Power-on reset ends 2 ms after rails, RESET_N and REFCLK are good. -/
  | porEnd
  /-- DROP_FAULT_ENTRY (R712): When the ring has room again, fault 001h with the dropped count is entered. -/
  | dropFaultEntry
  /-- FLUSH_START (R709): The FLU starts flushing uncommitted ring records to flash. -/
  | flushStart (ue : List Nat)
  /-- PAGE_PROGRAM_DONE (R710): A page program completes and its records are verified and committed. -/
  | pageProgramDone (ok : Bool) (ue : List Nat)
  /-- BLOCK_COMPACT (R711): The FLU copies a block's live records forward and voids the originals. -/
  | blockCompact
  /-- ERASE_DONE (R711): A flash block erase completes. -/
  | eraseDone (ok : Bool)
  /-- PFW_ACCEPT (R714): PFW_N accepted low records fault 007h, aborts any erase and flushes. -/
  | pfwAccept
  /-- PFW_RELEASE (R714): PFW_N high for 10 ms lets the FLU resume programming and erasing. -/
  | pfwRelease
  /-- BOOT_SCAN_DONE (R718): The boot scan of the Flue flash ends, repairs slots and writes the scan record. -/
  | bootScanDone
  /-- FLU_FLUSH_WRITE (R709): A write of FLU_CTRL.FLUSH requests a flush. -/
  | fluFlushWrite (v : Word)
  /-- FLU_SUBMIT_GO (R712): A write of FLU_SUBMIT.GO enters the prepared records as one group. -/
  | fluSubmitGo (v : Word)
  /-- FLU_READ_START (R723): A write of FLU_RD_CTRL.START assembles a read reply into Nagus SRAM. -/
  | fluReadStart (v : Word)
  /-- XSPI_READ (R707): FLU_XSPI_CMD OP 1 reads 256 bytes of flash. -/
  | xspiRead
  /-- XSPI_ERASE (R707): FLU_XSPI_CMD OP 2 erases a 4 KiB block outside the Flue ranges or is refused. -/
  | xspiErase
  /-- XSPI_PROGRAM (R707): FLU_XSPI_CMD OP 3 programs 256 bytes outside the Flue ranges or is refused. -/
  | xspiProgram
  /-- XSPI_OP_DONE (R707): A firmware flash operation completes or fails. -/
  | xspiOpDone (ok : Bool)
  /-- TIME_PLL_RELOCK (R79): The time PLL regains lock and the FRC returns to counting every time-clock cycle. -/
  | timePllRelock
  /-- AXIS_COARSE_STEP (R457): The integer part of the commanded position changes at an RT cycle between updates and one coarse step is issued. -/
  | axisCoarseStep (k : Fin 6) (cyc : Nat)
  /-- AXIS_FINE_STEP (R460): The interpolator issues the j-th fine step at floor(j × T / 16) RT cycles after a coarse step. -/
  | axisFineStep (k : Fin 6)
  /-- AXIS_PWM_PERIOD_START (R462): A phase PWM period of an axis starts and takes the new reference magnitude, sign and current level. -/
  | axisPwmPeriodStart (k : Fin 6) (b : Bool)
  /-- SLOW_PWM_PERIOD_START (R403): A period of SLPk starts and a new slow-loop duty takes effect. -/
  | slowPwmPeriodStart (k : Fin 8)
  /-- LIGHT_DMAX_REACHED (R572): DMAX / 256 of a switching period passes without a trip and LDGk goes low, counting the period toward OPEN. -/
  | lightDmaxReached (k : Fin 16)
  /-- CA_ALERT_RELEASE (R510): ALERT_n returns high and the DMC precharges all ranks and replays the 16 buffered commands. -/
  | caAlertRelease (c : Fin 2) (ue : Bool)
  /-- CA_ALERT_TIMEOUT (R510): ALERT_n held low for 10 µs fails the replay attempt under way. -/
  | caAlertTimeout (c : Fin 2)
  /-- CSI_LANE_SYNC_ERROR (R445): A CSI-2 lane fails start-of-transmission or lane synchronisation, counting SYNC_ERR and recording fault 005h. -/
  | csiLaneSyncError (port : Fin 4) (lanes : BitVec 4)
  /-- SYMBOL_LOCK_REGAIN (R293): The uplink receiver re-aligns on the next K28.5 with the tap in use after losing symbol lock. -/
  | symbolLockRegain (p : Fin 16)
  /-- PCIE_LINK_UP (R649): After PCIE_PERST_N rises or the cause of a link reset ends, the link retrains and comes up. -/
  | pcieLinkUp (speed : Fin 3) (width : Fin 3)
  /-- PCIE_CONFIG_REQUEST (R645): A configuration request from the host is served, including MSI-X enable, bus master enable and the return from D3hot to D0. -/
  | pcieConfigRequest (r : CfgReq)
  deriving DecidableEq, Repr

end Sys2Proof
end

