-- ==== Sys2Proof/Decode.lean ====
section
/-! DEFINITION. The decoder of words. The AP16 is a block: no row of spec/opcode_table.json gives its command bits, so no
word spells one. -/

namespace Sys2Proof

/-- The command that an `nbits`-bit word spells by the table's bits: none, for the table gives no row any bits. -/
def decodeTableWord (_nbits _w : Nat) : Option Instr := none

end Sys2Proof
end

