-- ==== Sys2Proof/Config.lean ====
section
/-! DEFINITION. What an implementation fixes and what the spec leaves open: opaque constants, so that no proof can
see a value. Each is a free value named in the assumption log. -/

namespace Sys2Proof

/-- A free value: the `n`-th value the spec leaves open in a run (log entry 4). -/
opaque Config.freeNat : Nat → Nat

/-- The ECDSA P-384 verification of `sig` over the SHA-384 digest of a message under a public key (R652): an
uninterpreted function of the key, the digest and the signature (log entry 5). -/
opaque Config.ecdsaVerify : (key : List Byte) → (digest : List Byte) → (sig : List Byte) → Bool

/-- The device identity key's ECDSA signature over a digest (R667), free in the signature's bytes (log entry 5). -/
opaque Config.ecdsaSign : (keyId : Nat) → (digest : List Byte) → List Byte

/-- The public key of the `n`-th candidate key pair the vault die generates (R657; log entry 5). -/
opaque Config.publicKey : Nat → List Byte

/-- The `n`-th 32-byte value drawn from the vault die's random source (R680; log entry 5). -/
opaque Config.randomBytes : Nat → List Byte

end Sys2Proof
end

