-- ==== Sys2Proof/Machine/Fixed.lean ====
section
/-! DEFINITION. Exact decisions on real values (R776): fixed-point numbers with 2048 fraction bits, and comparisons
that take two values closer than 2^-1024 as equal. Every value the profiles, the loop arithmetic and the conversions
compare is algebraic of low degree and small height, so two unequal ones lie farther apart than that (log entry 7). -/

namespace Sys2Proof.Machine

/-- Fraction bits of a fixed-point real. -/
def fxP : Nat := 2048

/-- A real number, times 2^2048. -/
abbrev Fx := Int

/-- One in fixed point. -/
def fxOne : Nat := 2 ^ fxP

/-- The distance below which two values are equal. -/
def fxTol : Int := (2 ^ 1024 : Nat)

/-- An integer as a fixed-point real. -/
def fxInt (n : Int) : Fx := n * fxOne

/-- The quotient of two integers as a fixed-point real. -/
def fxRat (n : Int) (d : Nat) : Fx := n * fxOne / d

/-- Product. -/
def fxMul (a b : Fx) : Fx := a * b / fxOne

/-- Quotient (0 for a divisor of 0, which no rule forms). -/
def fxDiv (a b : Fx) : Fx := a * fxOne / b

/-- Newton's iteration for the integer square root, from above. -/
def isqrtFrom : Nat → Nat → Nat → Nat
  | 0, _, x => x
  | f + 1, n, x => let y := (x + n / x) / 2; if y < x then isqrtFrom f n y else x

/-- The integer square root. -/
def isqrt (n : Nat) : Nat := if n = 0 then 0 else isqrtFrom 64 n (2 ^ (n.log2 / 2 + 1))

/-- Newton's iteration for the integer cube root, from above. -/
def icbrtFrom : Nat → Nat → Nat → Nat
  | 0, _, x => x
  | f + 1, n, x => let y := (2 * x + n / (x * x)) / 3; if y < x then icbrtFrom f n y else x

/-- The integer cube root. -/
def icbrt (n : Nat) : Nat := if n = 0 then 0 else icbrtFrom 64 n (2 ^ (n.log2 / 3 + 1))

/-- Square root of a non-negative real. -/
def fxSqrt (a : Fx) : Fx := (isqrt (a.toNat * fxOne) : Nat)

/-- Cube root of a non-negative real. -/
def fxCbrt (a : Fx) : Fx := (icbrt (a.toNat * fxOne * fxOne) : Nat)

/-- a ≤ b, decided exactly. -/
def fxLe (a b : Fx) : Bool := decide (a ≤ b + fxTol)

/-- a < b, decided exactly. -/
def fxLt (a b : Fx) : Bool := decide (a + fxTol < b)

/-- The floor, decided exactly. -/
def fxFloor (a : Fx) : Int := (a + fxTol) / fxOne

/-- The ceiling, decided exactly. -/
def fxCeil (a : Fx) : Int := -((-a + fxTol) / fxOne)

/-- Truncation toward zero. -/
def fxTrunc (a : Fx) : Int := if a < 0 then -fxFloor (-a) else fxFloor a

/-- To the nearest integer, ties away from zero (R168). -/
def fxRound (a : Fx) : Int :=
  if a < 0 then -fxFloor (-a + fxOne / 2) else fxFloor (a + fxOne / 2)

/-- To the nearest integer, ties to even. -/
def fxRoundEven (a : Fx) : Int :=
  let f := fxFloor a
  let r := a - f * fxOne
  let h : Int := (fxOne / 2 : Nat)
  if fxLt r h then f else if fxLt h r then f + 1 else if f % 2 = 0 then f else f + 1

/-- `a`, `a·b/1·2`… the terms of the arc tangent of 1/q, summed (`k` counts terms). -/
def atanSum (q2 : Nat) : Nat → Nat → Int → Int → Int
  | 0, _, _, acc => acc
  | f + 1, k, p, acc =>
    let t := p / (2 * k + 1 : Nat)
    atanSum q2 f (k + 1) (p / q2) (if k % 2 = 0 then acc + t else acc - t)

/-- The arc tangent of 1/q. -/
def atanInv (q : Nat) : Fx := atanSum (q * q) 460 0 (fxOne / q : Nat) 0

/-- The circle constant (Machin). -/
def fxPi : Fx := 16 * atanInv 5 - 4 * atanInv 239

/-- Terms x^k/k! of the Taylor series, alternating by twos: the sums of the odd and of the even terms. -/
def trigSum (x : Fx) : Nat → Nat → Fx → Fx → Fx → Fx × Fx
  | 0, _, _, s, c => (s, c)
  | f + 1, k, t, s, c =>
    let t' := fxMul t x / (k + 1 : Nat)
    match k % 4 with
    | 0 => trigSum x f (k + 1) t' s (c + t)
    | 1 => trigSum x f (k + 1) t' (s + t) c
    | 2 => trigSum x f (k + 1) t' s (c - t)
    | _ => trigSum x f (k + 1) t' (s - t) c

/-- Sine and cosine of an angle in radians. -/
def fxSinCos (x : Fx) : Fx × Fx :=
  let y := x % (2 * fxPi)
  trigSum y 400 0 fxOne 0 0

end Sys2Proof.Machine
end

