-- ==== Sys2Proof/Machine/Mem.lean ====
section
/-! DEFINITION. Sparse tables and byte memories as plain data. A memory is a list of (address, byte) cells in one
canonical form: addresses strictly rising, no cell equal to what an unlisted address reads as. -/

namespace Sys2Proof.Machine

/-- A table from numbers to values of `α`; an unlisted key holds a default its reader names. -/
abbrev Tab (α : Type) := List (Nat × α)

/-- The value listed at key `k`, if any. -/
def Tab.find {α : Type} : Tab α → Nat → Option α
  | [], _ => none
  | (j, v) :: t, k => if j = k then some v else Tab.find t k

/-- The value at key `k`, or `d` where the table lists none. -/
def Tab.get {α : Type} (d : α) (t : Tab α) (k : Nat) : α := (Tab.find t k).getD d

/-- The table with `v` at key `k` (kept in rising order of keys). -/
def Tab.put {α : Type} : Tab α → Nat → α → Tab α
  | [], k, v => [(k, v)]
  | (j, w) :: t, k, v =>
    if j = k then (k, v) :: t else if k < j then (k, v) :: (j, w) :: t else (j, w) :: Tab.put t k v

/-- The table without key `k`. -/
def Tab.del {α : Type} (t : Tab α) (k : Nat) : Tab α := t.filter (fun c => c.1 != k)

/-- Byte memory: (address, byte) cells (Host.Cell) in canonical form. -/
abbrev Memory := List (Nat × BitVec 8)

/-- What the byte at `a` reads as in a memory whose unlisted bytes read `d`. -/
def Memory.read (d : Byte) (m : Memory) (a : Nat) : Byte := Tab.get d m a

/-- Insert a cell into a memory that lists no cell at its address, in rising order. -/
def Memory.insert : Memory → Nat → Byte → Memory
  | [], k, v => [(k, v)]
  | (j, w) :: t, k, v => if k < j then (k, v) :: (j, w) :: t else (j, w) :: Memory.insert t k v

/-- Write one byte; a byte equal to what an unlisted address reads as is not listed. -/
def Memory.write (d : Byte) (m : Memory) (a : Nat) (v : Byte) : Memory :=
  if v = d then Tab.del m a else Memory.insert (Tab.del m a) a v

/-- The canonical form: addresses strictly rising, no cell equal to the unlisted byte `d`. -/
def Memory.wf (d : Byte) : Memory → Bool
  | [] => true
  | [c] => c.2 != d
  | c :: e :: t => c.2 != d && decide (c.1 < e.1) && Memory.wf d (e :: t)

/-- Write a string of bytes from address `a` upward. -/
def Memory.writeBytes (d : Byte) : Memory → Nat → List Byte → Memory
  | m, _, [] => m
  | m, a, v :: t => Memory.writeBytes d (Memory.write d m a v) (a + 1) t

/-- Read `n` bytes from address `a` upward. -/
def Memory.readBytes (d : Byte) (m : Memory) (a : Nat) : Nat → List Byte
  | 0 => []
  | n + 1 => Memory.read d m a :: Memory.readBytes d m (a + 1) n

/-- The little-endian bytes of a number (R7). -/
def leBytes : Nat → Nat → List Byte
  | 0, _ => []
  | n + 1, v => byte (v % 256) :: leBytes n (v / 256)

/-- The number a little-endian byte string holds (R7). -/
def leNat : List Byte → Nat
  | [] => 0
  | b :: t => b.toNat + 256 * leNat t

/-- The bytes of a list of 32-bit words, w0 at the lowest address (R7). -/
def wordsBytes (ws : List Word) : List Byte := ws.flatMap (fun w => leBytes 4 w.toNat)

/-- The 32-bit words of a byte string (R7), `n` of them, missing bytes read 0. -/
def bytesWords (bs : List Byte) : Nat → List Word
  | 0 => []
  | n + 1 => word (leNat (bs.take 4)) :: bytesWords (bs.drop 4) n

end Sys2Proof.Machine
end

