-- ==== Sys2Proof/Machine/Digest.lean ====
section
/-! DEFINITION. Checks and digests over byte strings: SHA-384 (R190), CRC-32 (R225), CRC-16 (R277), CRC-8 (R321). -/

namespace Sys2Proof.Machine

/-- A number modulo 2^64. -/
def w64 (n : Nat) : Nat := n % 2 ^ 64

/-- Rotation of a 64-bit number to the right. -/
def ror64 (n k : Nat) : Nat := w64 ((n >>> k) ||| (n <<< (64 - k)))

/-- The first 80 primes. -/
def primes80 : List Nat := ((List.range 410).drop 2).filter (fun n => (List.range n).all (fun d => d < 2 || n % d != 0))

/-- The round constants of SHA-384: the first 64 fraction bits of the primes' cube roots (FIPS 180-4). -/
def shaK : List Nat := primes80.map (fun p => w64 (icbrt (p * 2 ^ 192)))

/-- The initial hash of SHA-384: the first 64 fraction bits of the square roots of the 9th to 16th primes. -/
def shaInit : List Nat := ((primes80.drop 8).take 8).map (fun p => w64 (isqrt (p * 2 ^ 128)))

/-- The big-endian number of a byte string. -/
def beNat (bs : List Byte) : Nat := bs.foldl (fun a b => a * 256 + b.toNat) 0

/-- The big-endian bytes of a number. -/
def beBytes (n v : Nat) : List Byte := (leBytes n v).reverse

/-- The first `n` eight-byte words of a block. -/
def beWords : Nat → List Byte → List Nat
  | 0, _ => []
  | n + 1, bs => beNat (bs.take 8) :: beWords n (bs.drop 8)

/-- Extend the message schedule (latest word first). -/
def shaExpand : Nat → List Nat → List Nat
  | 0, ws => ws
  | n + 1, ws =>
    let a := ws.getD 14 0
    let b := ws.getD 1 0
    let s0 := ror64 a 1 ^^^ ror64 a 8 ^^^ (a >>> 7)
    let s1 := ror64 b 19 ^^^ ror64 b 61 ^^^ (b >>> 6)
    shaExpand n (w64 (s1 + ws.getD 6 0 + s0 + ws.getD 15 0) :: ws)

/-- One round of the compression on the eight working values. -/
def shaRound (h : List Nat) (kw : Nat × Nat) : List Nat := match h with
  | [a, b, c, d, e, f, g, i] =>
    let s1 := ror64 e 14 ^^^ ror64 e 18 ^^^ ror64 e 41
    let ch := (e &&& f) ^^^ ((2 ^ 64 - 1 - e) &&& g)
    let t1 := i + s1 + ch + kw.1 + kw.2
    let s0 := ror64 a 28 ^^^ ror64 a 34 ^^^ ror64 a 39
    let mj := (a &&& b) ^^^ (a &&& c) ^^^ (b &&& c)
    [w64 (t1 + s0 + mj), a, b, c, w64 (d + t1), e, f, g]
  | _ => h

/-- Compress one 128-byte block. -/
def shaBlock (h : List Nat) (blk : List Byte) : List Nat :=
  let ws := (shaExpand 64 (beWords 16 blk).reverse).reverse
  List.zipWith (fun a b => w64 (a + b)) h ((shaK.zip ws).foldl shaRound h)

/-- A SHA-384 message in progress: hash of the whole blocks, bytes of the block begun, length in bytes. -/
structure Sha where
  h   : List Nat := shaInit
  buf : List Byte := []
  n   : Nat := 0
  deriving DecidableEq, Repr

/-- Take whole blocks out of the buffer. -/
def Sha.drain : Nat → Sha → Sha
  | 0, m => m
  | f + 1, m => if m.buf.length < 128 then m else
      Sha.drain f { m with h := shaBlock m.h (m.buf.take 128), buf := m.buf.drop 128 }

/-- Append bytes to the message. -/
def Sha.add (m : Sha) (bs : List Byte) : Sha :=
  Sha.drain (bs.length / 128 + 1) { m with buf := m.buf ++ bs, n := m.n + bs.length }

/-- The 48-byte digest. -/
def Sha.digest (m : Sha) : List Byte :=
  let pad := (List.replicate ((2 * 128 - 17 - m.n % 128) % 128) 0#8)
  let f := m.add (0x80#8 :: pad ++ beBytes 16 (8 * m.n))
  (f.h.take 6).flatMap (beBytes 8)

/-- The SHA-384 digest of a byte string. -/
def sha384 (bs : List Byte) : List Byte := (Sha.add {} bs).digest

/-- CRC-32 step for one byte: polynomial 04C1_1DB7h, reflected (R225). -/
def crc32Bits : Nat → Nat → Nat
  | 0, c => c
  | n + 1, c => crc32Bits n (if c % 2 = 1 then (c / 2) ^^^ 0xEDB88320 else c / 2)

/-- CRC-32 of a byte string (R225). -/
def crc32 (bs : List Byte) : Nat :=
  bs.foldl (fun c b => crc32Bits 8 (c ^^^ b.toNat)) 0xFFFFFFFF ^^^ 0xFFFFFFFF

/-- A CRC of `w` bits, most significant bit first, over the bits of one byte. -/
def crcBits (w poly : Nat) : Nat → Nat → Nat
  | 0, c => c
  | n + 1, c => crcBits w poly n (if c.testBit (w - 1) then (c * 2 % 2 ^ w) ^^^ poly else c * 2 % 2 ^ w)

/-- CRC-16 of R277: polynomial 1021h, initial value FFFFh. -/
def crc16 (bs : List Byte) : Nat := bs.foldl (fun c b => crcBits 16 0x1021 8 (c ^^^ (b.toNat <<< 8))) 0xFFFF

/-- CRC-8 of R321: polynomial 2Fh, initial value FFh, final exclusive-or with FFh. -/
def crc8 (bs : List Byte) : Nat := bs.foldl (fun c b => crcBits 8 0x2F 8 (c ^^^ b.toNat)) 0xFF ^^^ 0xFF

end Sys2Proof.Machine
end

