-- ==== Sys2Proof/Machine/Motion.lean ====
section
/-! DEFINITION. Motion of a pier (R168–R175, R196, R197): profiles of constant jerk along a line or a circle, planned
and sampled on exact values. Lengths are nm, times ns. -/

namespace Sys2Proof.Machine

/-- A stretch of constant jerk: its duration, and the path length, speed and acceleration where it starts. -/
structure Phase where
  dur : Fx
  s0  : Fx
  v0  : Fx
  a0  : Fx
  j   : Fx
  deriving DecidableEq, Repr

/-- The path of a stroke: along a line from an exact point in a unit direction, or about a centre. -/
inductive Path where
  | line (x y z ux uy uz : Fx)
  | arc (cx cy dx dy : Int) (sweep : Int) (z0 z1 : Int)
  deriving DecidableEq, Repr

/-- A planned motion: phases in order, exact motion time T0, T in 1/1024 ns, ticks k, path length, path and the rest
point in nm. -/
structure Plan where
  phases : List Phase
  t0   : Fx
  t    : Nat
  k    : Nat
  len  : Fx
  path : Path
  rx   : Int
  ry   : Int
  rz   : Int
  deriving DecidableEq, Repr

/-- Path length after time `t` of a phase. -/
def Phase.sAt (p : Phase) (t : Fx) : Fx :=
  p.s0 + fxMul p.v0 t + fxMul (fxMul p.a0 t) t / 2 + fxMul (fxMul (fxMul p.j t) t) t / 6

/-- Speed after time `t` of a phase. -/
def Phase.vAt (p : Phase) (t : Fx) : Fx := p.v0 + fxMul p.a0 t + fxMul (fxMul p.j t) t / 2

/-- Acceleration after time `t` of a phase. -/
def Phase.aAt (p : Phase) (t : Fx) : Fx := p.a0 + fxMul p.j t

/-- Chain (duration, jerk) phases from a starting length, speed and acceleration. -/
def chain : Fx → Fx → Fx → List (Fx × Fx) → List Phase
  | _, _, _, [] => []
  | s, v, a, (d, j) :: t =>
    let p : Phase := ⟨d, s, v, a, j⟩
    p :: chain (p.sAt d) (p.vAt d) (p.aAt d) t

/-- The length, speed and acceleration at time `t` of a motion. -/
def sample : List Phase → Fx → Fx × Fx × Fx
  | [], _ => (0, 0, 0)
  | [p], t => (p.sAt t, p.vAt t, p.aAt t)
  | p :: q :: r, t => if fxLt t p.dur then (p.sAt t, p.vAt t, p.aAt t) else sample (q :: r) (t - p.dur)

/-- The total duration of a list of phases. -/
def durOf (ps : List Phase) : Fx := ps.foldl (fun a p => a + p.dur) 0

/-- T: T0 rounded up to a multiple of 1/1024 ns (R168). -/
def gridTime (t0 : Fx) : Nat := (fxCeil (t0 * 1024)).toNat

/-- k: the least integer with k × P ≥ T (R168). -/
def ticksOf (t periodNs : Nat) : Nat := (t + 1024 * periodNs - 1) / (1024 * periodNs)

/-- µm/s as nm/ns. -/
def fxSpeed (v : Nat) : Fx := fxRat v 1000000
/-- m/s² as nm/ns². -/
def fxAcc (a : Nat) : Fx := fxRat a 1000000000
/-- m/s³ as nm/ns³. -/
def fxJerk (j : Nat) : Fx := fxRat j 1000000000000000000

/-- The phases of an acceleration at constant rate to `v`, a cruise and a deceleration over length `len` (R170): the
profile is triangular when `len` is less than v²/a. -/
def trapezoid (len v a : Fx) : List Phase :=
  if fxLt len (fxDiv (fxMul v v) a) then
    let td := fxSqrt (fxDiv len a)
    let vp := fxMul a td
    [⟨td, 0, 0, a, 0⟩, ⟨td, len / 2, vp, -a, 0⟩]
  else
    let ta := fxDiv v a
    let d := fxDiv (fxMul v v) (2 * a)
    let tc := fxDiv (len - 2 * d) v
    [⟨ta, 0, 0, a, 0⟩, ⟨tc, d, v, 0, 0⟩, ⟨ta, len - d, v, -a, 0⟩]

/-- The length a jerk-limited acceleration from rest to speed `v` takes (R169). -/
def rampLen (v a j : Fx) : Fx :=
  if fxLe v (fxDiv (fxMul a a) j) then fxMul v (fxSqrt (fxDiv v j))
  else fxMul v (fxDiv v a + fxDiv a j) / 2

/-- The minimum-time rest-to-rest profile of R169 over length `len` within speed `v`, acceleration `a`, jerk `j`. -/
def jumpPhases (len v a j : Fx) : List Phase :=
  let full (vp tc : Fx) : List (Fx × Fx) :=
    if fxLe vp (fxDiv (fxMul a a) j) then
      let tj := fxSqrt (fxDiv vp j)
      [(tj, j), (tj, -j), (tc, 0), (tj, -j), (tj, j)]
    else
      let tj := fxDiv a j
      let ta := fxDiv vp a - tj
      [(tj, j), (ta, 0), (tj, -j), (tc, 0), (tj, -j), (ta, 0), (tj, j)]
  if fxLe (2 * rampLen v a j) len then
    chain 0 0 0 (full v (fxDiv (len - 2 * rampLen v a j) v))
  else if fxLe len (fxDiv (fxMul (fxMul (2 * a) a) a) (fxMul j j)) then
    let tj := fxCbrt (fxDiv len (2 * j))
    chain 0 0 0 [(tj, j), (tj, -j), (tj, -j), (tj, j)]
  else
    let q := fxDiv a j
    let vp := fxMul a (fxSqrt (fxMul q q + fxDiv (4 * len) a) - q) / 2
    let ta := fxDiv vp a - q
    chain 0 0 0 [(q, j), (ta, 0), (q, -j), (q, -j), (ta, 0), (q, j)]

/-- The minimum-time jerk-limited stop from speed `v` and acceleration `a` within acceleration `am` and jerk `j`
(R196): the acceleration is brought to a peak, held, and brought to zero as the speed becomes zero. -/
def stopPhases (v a am j : Fx) : List Phase :=
  -- the speed left when the acceleration is brought straight to zero
  let left := v + fxDiv (if a < 0 then -fxMul a a else fxMul a a) (2 * j)
  let sg : Int := if left < 0 then -1 else 1
  let v' := sg * v
  let a' := sg * a
  if fxLe left 0 && fxLe 0 left then chain 0 v a [(fxDiv (if a < 0 then -a else a) j, if a < 0 then j else -j)]
  else if fxLt a' (-am) then
    -- already beyond the limit on the braking side: back to it, hold, back to zero
    let hold := fxDiv (sg * left) am
    chain 0 v a [(fxDiv (-am - a') j, sg * j), (hold, 0), (fxDiv am j, sg * j)]
  else
    let pk := fxSqrt (fxMul j v' + fxMul a' a' / 2)
    if fxLe pk am then chain 0 v a [(fxDiv (a' + pk) j, -(sg * j)), (fxDiv pk j, sg * j)]
    else
      let hold := fxDiv (fxMul pk pk - fxMul am am) (fxMul j am)
      chain 0 v a [(fxDiv (a' + am) j, -(sg * j)), (hold, 0), (fxDiv am j, sg * j)]

/-- The radius of an arc. -/
def arcRadius (dx dy : Int) : Fx := (isqrt ((dx * dx + dy * dy).toNat * fxOne * fxOne) : Nat)

/-- The angle of a sweep: sweep × 2π / 2^24 (R173). -/
def sweepAngle (sweep : Int) : Fx := sweep * fxPi / (2 ^ 23 : Nat)

/-- The point of an arc at fraction `f` of its sweep. -/
def arcPoint (cx cy dx dy sweep z0 z1 : Int) (f : Fx) : Fx × Fx × Fx :=
  let sc := fxSinCos (fxMul (sweepAngle sweep) f)
  (fxInt cx + dx * sc.2 - dy * sc.1, fxInt cy + dx * sc.1 + dy * sc.2, fxInt z0 + (z1 - z0) * f)

/-- The path length of an arc: r × |sweep| (R173). -/
def arcLen (dx dy sweep : Int) : Fx := fxMul (arcRadius dx dy) (sweepAngle (sweep.natAbs : Nat))

/-- The exact point of a path at length `s` of `len`. -/
def Path.point (p : Path) (s len : Fx) : Fx × Fx × Fx := match p with
  | .line x y z ux uy uz => (x + fxMul ux s, y + fxMul uy s, z + fxMul uz s)
  | .arc cx cy dx dy sw z0 z1 => arcPoint cx cy dx dy sw z0 z1 (fxDiv s len)

/-- The unit tangent of a path at length `s` in X, Y and Z, and the ratio of length along it to path length (R196). -/
def Path.tangent (p : Path) (s len : Fx) : Fx × Fx × Fx × Fx := match p with
  | .line _ _ _ ux uy uz => (ux, uy, uz, fxOne)
  | .arc _ _ dx dy sw z0 z1 =>
    let sc := fxSinCos (fxMul (sweepAngle sw) (fxDiv s len))
    let r := arcRadius dx dy
    let sg : Int := if sw < 0 then -1 else 1
    let tx := sg * fxDiv (-(dx * sc.1) - dy * sc.2) r
    let ty := sg * fxDiv (dx * sc.2 - dy * sc.1) r
    let tz := fxDiv (fxInt (z1 - z0)) len
    let m := fxSqrt (fxOne + fxMul tz tz)
    (fxDiv tx m, fxDiv ty m, fxDiv tz m, m)

/-- Time min(i × P, T) of tick `i`, and whether it is at or past T0 (R168). -/
def Plan.time (p : Plan) (i periodNs : Nat) : Fx × Bool :=
  let g := min (i * periodNs * 1024) p.t
  let t := fxRat g 1024
  (t, fxLe p.t0 t)

/-- The exact length, speed and acceleration at tick `i` of a plan. -/
def Plan.at_ (p : Plan) (i periodNs : Nat) : Fx × Fx × Fx :=
  let (t, done) := p.time i periodNs
  if done then (p.len, 0, 0) else sample p.phases t

/-- The position of tick `i` in nm (R168). -/
def Plan.pos (p : Plan) (i periodNs : Nat) : Int × Int × Int :=
  let (_, done) := p.time i periodNs
  if done then (p.rx, p.ry, p.rz) else
  let (x, y, z) := p.path.point (p.at_ i periodNs).1 p.len
  (fxRound x, fxRound y, fxRound z)

/-- The length of a vector of integers. -/
def vecLen (x y z : Int) : Fx := (isqrt ((x * x + y * y + z * z).toNat * fxOne * fxOne) : Nat)

/-- The line from one point to another as a path. -/
def linePath (x y z ex ey ez : Int) : Path :=
  let l := vecLen (ex - x) (ey - y) (ez - z)
  .line (fxInt x) (fxInt y) (fxInt z) (fxDiv (fxInt (ex - x)) l) (fxDiv (fxInt (ey - y)) l) (fxDiv (fxInt (ez - z)) l)

/-- A plan from its phases. -/
def mkPlan (ps : List Phase) (len : Fx) (path : Path) (rx ry rz : Int) (periodNs : Nat) : Plan :=
  let t0 := durOf ps
  let t := gridTime t0
  { phases := ps, t0 := t0, t := t, k := ticksOf t periodNs, len := len, path := path, rx := rx, ry := ry, rz := rz }

/-- A JUMP, or the move of R197, from a point to another under the jump limits (R169). -/
def planJump (x y z ex ey ez : Int) (speed v a j periodNs : Nat) : Plan :=
  let len := vecLen (ex - x) (ey - y) (ez - z)
  mkPlan (jumpPhases len (fxSpeed (min speed v)) (fxAcc a) (fxJerk j)) len (linePath x y z ex ey ez) ex ey ez periodNs

/-- A MARK without SKY (R170). -/
def planMark (x y z ex ey ez : Int) (speed a periodNs : Nat) : Plan :=
  let len := vecLen (ex - x) (ey - y) (ez - z)
  mkPlan (trapezoid len (fxSpeed speed) (fxAcc a)) len (linePath x y z ex ey ez) ex ey ez periodNs

/-- The run-in distance of a SKY stroke: SPEED² / (2 A) (R171). -/
def skyRun (speed a : Nat) : Fx := fxDiv (fxMul (fxSpeed speed) (fxSpeed speed)) (2 * fxAcc a)

/-- The path length |E − C|. -/
def markLen (x y z ex ey ez : Int) : Fx := vecLen (ex - x) (ey - y) (ez - z)

/-- The skywriting rest point F = E + d × u, rounded (R171). -/
def skyRest (x y z ex ey ez : Int) (speed a : Nat) : Int × Int × Int :=
  let len := markLen x y z ex ey ez
  let d := skyRun speed a
  (fxRound (fxInt ex + fxDiv (fxMul (fxInt (ex - x)) d) len), fxRound (fxInt ey + fxDiv (fxMul (fxInt (ey - y)) d) len),
   fxRound (fxInt ez + fxDiv (fxMul (fxInt (ez - z)) d) len))

/-- A MARK or STITCH with SKY (R171). Where |E − C| is less than d the run-in cannot be completed: the profile is then
triangular over the path length, as in R170 (log entry 32). -/
def planSky (x y z ex ey ez : Int) (speed a periodNs : Nat) : Plan :=
  let len := markLen x y z ex ey ez + skyRun speed a
  let (fx, fy, fz) := skyRest x y z ex ey ez speed a
  mkPlan (trapezoid len (fxSpeed speed) (fxAcc a)) len (linePath x y z ex ey ez) fx fy fz periodNs

/-- The end point of an ARC in X and Y, rounded (R173). -/
def arcEnd (x y cx cy sweep : Int) : Int × Int :=
  let (ex, ey, _) := arcPoint cx cy (x - cx) (y - cy) sweep 0 0 fxOne
  (fxRound ex, fxRound ey)

/-- An ARC (R173). -/
def planArc (x y z cx cy ez sweep : Int) (speed a periodNs : Nat) : Plan :=
  let len := arcLen (x - cx) (y - cy) sweep
  let (ex, ey) := arcEnd x y cx cy sweep
  mkPlan (trapezoid len (fxSpeed speed) (fxAcc a)) len (.arc cx cy (x - cx) (y - cy) sweep z ez) ex ey ez periodNs

/-- The stop of R196 out of tick `i` of a plan, along the tangent there, within `a` and `j`. -/
def planStop (p : Plan) (i : Nat) (a j periodNs : Nat) : Plan :=
  let (s, v, acc) := p.at_ i periodNs
  let (x, y, z) := if (p.time i periodNs).2 then (fxInt p.rx, fxInt p.ry, fxInt p.rz) else p.path.point s p.len
  let (ux, uy, uz, m) := p.path.tangent s p.len
  let ps := stopPhases (fxMul v m) (fxMul acc m) (fxAcc a) (fxJerk j)
  let l := match ps.getLast? with
    | some q => q.sAt q.dur
    | none => 0
  let path := Path.line x y z ux uy uz
  let (ex, ey, ez) := path.point l l
  mkPlan ps l path (fxRound ex) (fxRound ey) (fxRound ez) periodNs

/-- A coordinate fits in 32 signed bits. -/
def fits32 (x : Int) : Bool := decide (-2147483648 ≤ x) && decide (x ≤ 2147483647)

/-- A point fits. -/
def fitsPt (p : Int × Int × Int) : Bool := fits32 p.1 && fits32 p.2.1 && fits32 p.2.2

/-- The greatest tick in [lo, hi] whose path length does not exceed `s`, by halving. -/
def lastBelow (p : Plan) (periodNs : Nat) (s : Fx) : Nat → Nat → Nat → Nat
  | 0, lo, _ => lo
  | f + 1, lo, hi =>
    if hi ≤ lo + 1 then lo else
    let m := (lo + hi) / 2
    if fxLe (p.at_ m periodNs).1 s then lastBelow p periodNs s f m hi else lastBelow p periodNs s f lo m

/-- The angle of the vector (dx, dy) measured against quarter turn `q`: the arc reaches an extreme of X or Y where the
rotated start vector lies on an axis; the fraction of a turn to it, counter-clockwise, by halving (R163). -/
def turnTo (dx dy : Int) (q : Nat) : Nat → Fx → Fx → Fx
  | 0, lo, _ => lo
  | f + 1, lo, hi =>
    let m := (lo + hi) / 2
    let sc := fxSinCos (fxMul (2 * fxPi) m)
    let rx := dx * sc.2 - dy * sc.1
    let ry := dx * sc.1 + dy * sc.2
    -- the component that changes sign at axis q, positive before it
    let g : Fx := if q % 4 = 0 then -ry else if q % 4 = 1 then rx else if q % 4 = 2 then ry else -rx
    if 0 < g then turnTo dx dy q f m hi else turnTo dx dy q f lo m

/-- The start vector's quadrant: the first axis met turning counter-clockwise is (quadrant + 1). -/
def quadrant (dx dy : Int) : Nat :=
  if 0 < dx ∧ 0 ≤ dy then 0 else if dx ≤ 0 ∧ 0 < dy then 1 else if dx < 0 ∧ dy ≤ 0 then 2 else 3

/-- The ticks next to the extremes of X and Y of an arc: every position between is nearer (R163). -/
def arcExtremes (p : Plan) (dx dy sweep : Int) (periodNs : Nat) : List Nat :=
  -- a clockwise arc is the mirror image of a counter-clockwise one
  let dy' := if sweep < 0 then -dy else dy
  let q0 := quadrant dx dy'
  let first := turnTo dx dy' (q0 + 1) 64 0 (fxOne / 4 : Nat)
  (List.range 4).flatMap (fun n =>
    let turn := first + (n * fxOne / 4 : Nat)
    let s := fxDiv (fxMul p.len (turn * (2 ^ 24 : Nat))) (fxInt sweep.natAbs)
    if fxLe s p.len then
      let i := lastBelow p periodNs s 34 0 p.k
      [i, i + 1, i + 2]
    else [])

/-- Whether every checked position of a plan from a start in range stays in range (R163): a line's positions lie
between its ends, an arc's extremes are checked at the ticks beside them. -/
def Plan.inRange (p : Plan) (periodNs : Nat) : Bool :=
  fitsPt (p.rx, p.ry, p.rz) && match p.path with
  | .line _ _ _ _ _ _ => true
  | .arc _ _ dx dy sw _ _ => (arcExtremes p dx dy sw periodNs).all (fun i => decide (p.k < i) || fitsPt (p.pos i periodNs))

end Sys2Proof.Machine
end

