-- ==== Sys2Proof/Machine/RegTypes.lean ====
section
/-! DEFINITION. How a register of the AP16 is described: access types (R9), fields and field references. -/

namespace Sys2Proof.Machine

/-- The access types of R9; RSV bits are those that no field of a register names. -/
inductive Acc where
  | rw | ro | w1c | wo | rws
  deriving DecidableEq, Repr

/-- One field of a register: bits [hi:lo], its access type, the commit group of an RWS field (R67; 99 for a field
in no group), and the values the field's table lists (an empty list: every value; else inclusive ranges). -/
structure Fld where
  name : String
  hi   : Nat
  lo   : Nat
  acc  : Acc
  grp  : Nat
  ok   : List (Nat × Nat)
  deriving DecidableEq, Repr

/-- One register, or an array of `n1 × n2` registers at strides `s1` and `s2`, at Nagus address `base` (R42). -/
structure RegDesc where
  name : String
  base : Nat
  n1   : Nat
  s1   : Nat
  n2   : Nat
  s2   : Nat
  rst  : Word
  flds : List Fld
  deriving DecidableEq, Repr

/-- A reference to field [hi:lo] of the register at `base`, or of an array of registers. -/
structure Fref where
  base : Nat
  s1   : Nat
  s2   : Nat
  hi   : Nat
  lo   : Nat
  deriving DecidableEq, Repr

/-- The Nagus address of element (`i`, `j`) of the array a field reference names. -/
def Fref.addr (f : Fref) (i : Nat := 0) (j : Nat := 0) : Nat := f.base + i * f.s1 + j * f.s2

/-- The same field in the register `d` bytes above. -/
def Fref.shift (f : Fref) (d : Nat) : Fref := { f with base := f.base + d }

/-- Whether `a` is one of the registers `r` describes. -/
def RegDesc.has (r : RegDesc) (a : Nat) : Bool :=
  let off := a - r.base
  r.base ≤ a && off / r.s1 < r.n1 &&
    ((off % r.s1) % r.s2 == 0) && (off % r.s1) / r.s2 < r.n2

end Sys2Proof.Machine
end

