-- ==== Sys2Proof/Machine/RegMap.lean ====
section
/-! DEFINITION. The register map of the AP16: every register of the 22 windows of R42 with its fields, their
access types (R9), reset values, allowed values (R11, R737) and commit groups (R67), as the register tables of the
chapters of spec/ give them. A field reference `REG_FIELD` names one field (bits [hi:lo]) of a register or of an
array of registers. -/

namespace Sys2Proof.Machine

/-! MBX window (SOURCE 01h), from spec/01_architecture.md, 03_nagus_mailboxes.md. -/

def reg_MBX_VIA_ERR_COUNT : RegDesc := ⟨"MBX_VIA_ERR_COUNT", 0x2001F000, 1, 4, 1, 4, 0x00000000#32,
  [⟨"ALIGN", 31, 24, .ro, 99, []⟩, ⟨"DECODE", 23, 16, .ro, 99, []⟩, ⟨"PERM", 15, 8, .ro, 99, []⟩, ⟨"TARGET", 7, 0, .ro, 99, []⟩]⟩
def reg_MBX_VIA_ERR_FIRST : RegDesc := ⟨"MBX_VIA_ERR_FIRST", 0x2001F004, 1, 4, 1, 4, 0x00000000#32,
  [⟨"VALID", 31, 31, .ro, 99, []⟩, ⟨"KIND", 30, 28, .ro, 99, []⟩, ⟨"REQ", 27, 22, .ro, 99, []⟩, ⟨"WRITE", 21, 21, .ro, 99, []⟩, ⟨"ADDR_HI", 7, 0, .ro, 99, []⟩]⟩
def reg_MBX_VIA_ERR_ADDR : RegDesc := ⟨"MBX_VIA_ERR_ADDR", 0x2001F008, 1, 4, 1, 4, 0x00000000#32,
  [⟨"ADDR_LO", 31, 0, .ro, 99, []⟩]⟩
def reg_MBX_VIA_ERR_CLEAR : RegDesc := ⟨"MBX_VIA_ERR_CLEAR", 0x2001F00C, 1, 4, 1, 4, 0x00000000#32,
  [⟨"CLEAR", 0, 0, .wo, 99, []⟩]⟩
def reg_MBX_VIA_APERTURE : RegDesc := ⟨"MBX_VIA_APERTURE", 0x2001F100, 16, 4, 1, 4, 0x00000000#32,
  [⟨"EN", 31, 31, .rw, 99, []⟩, ⟨"BASE", 11, 0, .rw, 99, [(0, 255)]⟩]⟩
def reg_MBX_STATE : RegDesc := ⟨"MBX_STATE", 0x20010000, 8, 4, 1, 4, 0x00000000#32,
  [⟨"TAG", 31, 16, .ro, 99, []⟩, ⟨"ABORT_REQ", 8, 8, .ro, 99, []⟩, ⟨"STATE", 1, 0, .ro, 99, []⟩]⟩
def reg_MBX_COMPLETE : RegDesc := ⟨"MBX_COMPLETE", 0x20010020, 1, 4, 1, 4, 0x00000000#32,
  [⟨"MAILBOX", 2, 0, .wo, 99, []⟩]⟩
def reg_MBX_PENDING : RegDesc := ⟨"MBX_PENDING", 0x20010024, 1, 4, 1, 4, 0x00000000#32,
  [⟨"RUNG", 7, 0, .w1c, 99, []⟩]⟩
def reg_MBX_HOST_ERR : RegDesc := ⟨"MBX_HOST_ERR", 0x20010030, 1, 4, 1, 4, 0x00000000#32,
  [⟨"WR_BUSY", 31, 24, .ro, 99, []⟩, ⟨"RING_BUSY", 23, 16, .ro, 99, []⟩, ⟨"WR_REPLY", 15, 8, .ro, 99, []⟩, ⟨"SIZE", 7, 4, .ro, 99, []⟩, ⟨"PROTO", 3, 0, .ro, 99, []⟩]⟩
def reg_MBX_HOST_ERR_CLEAR : RegDesc := ⟨"MBX_HOST_ERR_CLEAR", 0x20010034, 1, 4, 1, 4, 0x00000000#32,
  [⟨"CLEAR", 0, 0, .wo, 99, []⟩]⟩
def reg_MBX_EVT_WR : RegDesc := ⟨"MBX_EVT_WR", 0x20010140, 1, 4, 1, 4, 0x00000000#32,
  [⟨"WR", 31, 0, .rw, 99, []⟩]⟩
def reg_MBX_EVT_RD : RegDesc := ⟨"MBX_EVT_RD", 0x20010144, 1, 4, 1, 4, 0x00000000#32,
  [⟨"RD", 31, 0, .ro, 99, []⟩]⟩
def reg_MBX_EVT_STATUS : RegDesc := ⟨"MBX_EVT_STATUS", 0x20010148, 1, 4, 1, 4, 0x00000000#32,
  [⟨"OVERFLOW", 0, 0, .rw, 99, []⟩]⟩
def reg_MBX_READY : RegDesc := ⟨"MBX_READY", 0x20010200, 1, 4, 1, 4, 0x00000000#32,
  [⟨"HALTED", 1, 1, .ro, 99, []⟩, ⟨"FW_READY", 0, 0, .rw, 99, []⟩]⟩
def reg_MBX_WDOG : RegDesc := ⟨"MBX_WDOG", 0x20010204, 1, 4, 1, 4, 0x00000000#32,
  [⟨"EN", 31, 31, .rw, 99, []⟩, ⟨"KICK", 15, 0, .wo, 99, [(42435, 42435)]⟩]⟩
def reg_MBX_RESET_CAUSE : RegDesc := ⟨"MBX_RESET_CAUSE", 0x20010208, 1, 4, 1, 4, 0x00000008#32,
  [⟨"POWER", 3, 3, .ro, 99, []⟩, ⟨"COMMAND", 2, 2, .ro, 99, []⟩, ⟨"WDOG", 1, 1, .ro, 99, []⟩, ⟨"LOCKSTEP", 0, 0, .ro, 99, []⟩]⟩
def reg_MBX_SUMMARY : RegDesc := ⟨"MBX_SUMMARY", 0x20010100, 8, 4, 1, 4, 0x00000000#32,
  [⟨"WORD", 31, 0, .rw, 99, []⟩]⟩

def regsMbx0 : List RegDesc :=
  [reg_MBX_VIA_ERR_COUNT, reg_MBX_VIA_ERR_FIRST, reg_MBX_VIA_ERR_ADDR, reg_MBX_VIA_ERR_CLEAR, reg_MBX_VIA_APERTURE, reg_MBX_STATE, reg_MBX_COMPLETE, reg_MBX_PENDING, reg_MBX_HOST_ERR, reg_MBX_HOST_ERR_CLEAR, reg_MBX_EVT_WR, reg_MBX_EVT_RD, reg_MBX_EVT_STATUS, reg_MBX_READY, reg_MBX_WDOG, reg_MBX_RESET_CAUSE, reg_MBX_SUMMARY]
/-- The registers of the MBX window. -/
def regsMbx : List RegDesc :=
  regsMbx0

/-! KEY window (SOURCE 00h), from spec/02_keystone_tick.md. -/

def reg_KEY_CTRL : RegDesc := ⟨"KEY_CTRL", 0x20000000, 1, 4, 1, 4, 0x00000000#32,
  [⟨"TICK_OUT_EN", 8, 8, .rw, 99, []⟩, ⟨"DISC_MODE", 5, 4, .rws, 0, [(0, 2)]⟩, ⟨"PERIOD", 2, 0, .rws, 0, [(0, 4)]⟩]⟩
def reg_KEY_STATUS : RegDesc := ⟨"KEY_STATUS", 0x20000004, 1, 4, 1, 4, 0x00000400#32,
  [⟨"TIME_PLL_LOCK", 11, 11, .ro, 99, []⟩, ⟨"RT_PLL_LOCK", 10, 10, .ro, 99, []⟩, ⟨"TICK_IN_OK", 9, 9, .ro, 99, []⟩, ⟨"LOCKED", 8, 8, .ro, 99, []⟩, ⟨"DISC_MODE_IF", 5, 4, .ro, 99, []⟩, ⟨"PERIOD_IF", 2, 0, .ro, 99, []⟩]⟩
def reg_KEY_TICK_LO : RegDesc := ⟨"KEY_TICK_LO", 0x20000008, 1, 4, 1, 4, 0x00000000#32,
  [⟨"TICK_LO", 31, 0, .ro, 99, []⟩]⟩
def reg_KEY_TICK_HI : RegDesc := ⟨"KEY_TICK_HI", 0x2000000C, 1, 4, 1, 4, 0x00000000#32,
  [⟨"TICK_HI", 31, 0, .ro, 99, []⟩]⟩
def reg_KEY_COMMIT : RegDesc := ⟨"KEY_COMMIT", 0x20000010, 1, 4, 1, 4, 0x00000000#32,
  [⟨"GROUPS", 9, 0, .wo, 99, []⟩]⟩
def reg_KEY_COMMIT_STATUS : RegDesc := ⟨"KEY_COMMIT_STATUS", 0x20000014, 1, 4, 1, 4, 0x00000000#32,
  [⟨"ARMED", 25, 16, .ro, 99, []⟩, ⟨"DIRTY", 9, 0, .ro, 99, []⟩]⟩
def reg_KEY_LAST_COMMIT_LO : RegDesc := ⟨"KEY_LAST_COMMIT_LO", 0x20000018, 1, 4, 1, 4, 0x00000000#32,
  [⟨"LAST_LO", 31, 0, .ro, 99, []⟩]⟩
def reg_KEY_LAST_COMMIT_HI : RegDesc := ⟨"KEY_LAST_COMMIT_HI", 0x2000001C, 1, 4, 1, 4, 0x00000000#32,
  [⟨"LAST_HI", 31, 0, .ro, 99, []⟩]⟩
def reg_KEY_COMMIT_ERR : RegDesc := ⟨"KEY_COMMIT_ERR", 0x20000020, 1, 4, 1, 4, 0x00000000#32,
  [⟨"PERIOD_REFUSED", 1, 1, .w1c, 99, []⟩, ⟨"SCHED_LATE", 0, 0, .w1c, 99, []⟩]⟩
def reg_KEY_SCHED_TICK_LO : RegDesc := ⟨"KEY_SCHED_TICK_LO", 0x20000100, 8, 16, 1, 4, 0x00000000#32,
  [⟨"TICK_LO", 31, 0, .rw, 99, []⟩]⟩
def reg_KEY_SCHED_TICK_HI : RegDesc := ⟨"KEY_SCHED_TICK_HI", 0x20000104, 8, 16, 1, 4, 0x00000000#32,
  [⟨"TICK_HI", 31, 0, .rw, 99, []⟩]⟩
def reg_KEY_SCHED_CTRL : RegDesc := ⟨"KEY_SCHED_CTRL", 0x20000108, 8, 16, 1, 4, 0x00000000#32,
  [⟨"ARM", 31, 31, .rw, 99, []⟩, ⟨"FIRED", 30, 30, .w1c, 99, []⟩, ⟨"LATE", 29, 29, .w1c, 99, []⟩, ⟨"MASK", 9, 0, .rw, 99, []⟩]⟩
def reg_KEY_OVR_A : RegDesc := ⟨"KEY_OVR_A", 0x20000200, 16, 8, 1, 4, 0x00000000#32,
  [⟨"SCN", 31, 24, .ro, 99, []⟩, ⟨"COR", 23, 16, .ro, 99, []⟩, ⟨"SPN", 15, 8, .ro, 99, []⟩, ⟨"LOP", 7, 0, .ro, 99, []⟩]⟩
def reg_KEY_OVR_B : RegDesc := ⟨"KEY_OVR_B", 0x20000204, 16, 8, 1, 4, 0x00000000#32,
  [⟨"AFE", 7, 0, .ro, 99, []⟩]⟩
def reg_KEY_OVR_CLEAR : RegDesc := ⟨"KEY_OVR_CLEAR", 0x20000280, 1, 4, 1, 4, 0x00000000#32,
  [⟨"CLEAR", 0, 0, .wo, 99, []⟩]⟩
def reg_KEY_OVR_LAST : RegDesc := ⟨"KEY_OVR_LAST", 0x20000284, 1, 4, 1, 4, 0x00000000#32,
  [⟨"VALID", 31, 31, .ro, 99, []⟩, ⟨"BLOCK", 9, 4, .ro, 99, []⟩, ⟨"PIER", 3, 0, .ro, 99, []⟩]⟩
def reg_KEY_FRC_LO : RegDesc := ⟨"KEY_FRC_LO", 0x20000400, 1, 4, 1, 4, 0x00000000#32,
  [⟨"FRC_LO", 31, 0, .ro, 99, []⟩]⟩
def reg_KEY_FRC_HI : RegDesc := ⟨"KEY_FRC_HI", 0x20000404, 1, 4, 1, 4, 0x00000000#32,
  [⟨"FRC_HI", 31, 0, .ro, 99, []⟩]⟩
def reg_KEY_NT_LO : RegDesc := ⟨"KEY_NT_LO", 0x20000408, 1, 4, 1, 4, 0x00000000#32,
  [⟨"NT_LO", 31, 0, .ro, 99, []⟩]⟩
def reg_KEY_NT_HI : RegDesc := ⟨"KEY_NT_HI", 0x2000040C, 1, 4, 1, 4, 0x00000000#32,
  [⟨"NT_HI", 31, 0, .ro, 99, []⟩]⟩
def reg_KEY_SNAP : RegDesc := ⟨"KEY_SNAP", 0x20000410, 1, 4, 1, 4, 0x00000000#32,
  [⟨"CAPTURE", 0, 0, .wo, 99, []⟩]⟩
def reg_KEY_INC_FRAC : RegDesc := ⟨"KEY_INC_FRAC", 0x20000440, 1, 4, 1, 4, 0x00000000#32,
  [⟨"FRAC", 31, 0, .wo, 99, []⟩]⟩
def reg_KEY_INC_INT : RegDesc := ⟨"KEY_INC_INT", 0x20000444, 1, 4, 1, 4, 0x00000000#32,
  [⟨"INT", 0, 0, .wo, 99, []⟩]⟩
def reg_KEY_INC_NOW_FRAC : RegDesc := ⟨"KEY_INC_NOW_FRAC", 0x20000448, 1, 4, 1, 4, 0x00000000#32,
  [⟨"FRAC", 31, 0, .ro, 99, []⟩]⟩
def reg_KEY_INC_NOW_INT : RegDesc := ⟨"KEY_INC_NOW_INT", 0x2000044C, 1, 4, 1, 4, 0x00000001#32,
  [⟨"INT", 0, 0, .ro, 99, []⟩]⟩
def reg_KEY_OFS_LO : RegDesc := ⟨"KEY_OFS_LO", 0x20000450, 1, 4, 1, 4, 0x00000000#32,
  [⟨"OFS_LO", 31, 0, .wo, 99, []⟩]⟩
def reg_KEY_OFS_HI : RegDesc := ⟨"KEY_OFS_HI", 0x20000454, 1, 4, 1, 4, 0x00000000#32,
  [⟨"OFS_HI", 31, 0, .wo, 99, []⟩]⟩
def reg_KEY_OFS_NOW_LO : RegDesc := ⟨"KEY_OFS_NOW_LO", 0x20000458, 1, 4, 1, 4, 0x00000000#32,
  [⟨"LO", 31, 0, .ro, 99, []⟩]⟩
def reg_KEY_OFS_NOW_HI : RegDesc := ⟨"KEY_OFS_NOW_HI", 0x2000045C, 1, 4, 1, 4, 0x00000000#32,
  [⟨"HI", 31, 0, .ro, 99, []⟩]⟩
def reg_KEY_JUMP_LIMIT : RegDesc := ⟨"KEY_JUMP_LIMIT", 0x20000460, 1, 4, 1, 4, 0x000003E8#32,
  [⟨"LIMIT", 31, 0, .rw, 99, []⟩]⟩
def reg_KEY_TIME_CTRL : RegDesc := ⟨"KEY_TIME_CTRL", 0x20000464, 1, 4, 1, 4, 0x00000000#32,
  [⟨"JUMP_ARM", 0, 0, .rw, 99, []⟩]⟩
def reg_KEY_TIME_STATUS : RegDesc := ⟨"KEY_TIME_STATUS", 0x20000468, 1, 4, 1, 4, 0x00000000#32,
  [⟨"JUMPED", 2, 2, .w1c, 99, []⟩, ⟨"INC_RANGE", 1, 1, .w1c, 99, []⟩, ⟨"JUMP_REFUSED", 0, 0, .w1c, 99, []⟩]⟩
def reg_KEY_DISC_ANCHOR_LO : RegDesc := ⟨"KEY_DISC_ANCHOR_LO", 0x20000500, 1, 4, 1, 4, 0x00000000#32,
  [⟨"ANCHOR_LO", 31, 0, .rws, 0, []⟩]⟩
def reg_KEY_DISC_ANCHOR_HI : RegDesc := ⟨"KEY_DISC_ANCHOR_HI", 0x20000504, 1, 4, 1, 4, 0x00000000#32,
  [⟨"ANCHOR_HI", 31, 0, .rws, 0, []⟩]⟩
def reg_KEY_DISC_STATUS : RegDesc := ⟨"KEY_DISC_STATUS", 0x20000508, 1, 4, 1, 4, 0x00000000#32,
  [⟨"UNLOCK", 0, 0, .w1c, 99, []⟩]⟩
def reg_KEY_DISC_ERR : RegDesc := ⟨"KEY_DISC_ERR", 0x2000050C, 1, 4, 1, 4, 0x00000000#32,
  [⟨"ERR", 31, 0, .ro, 99, []⟩]⟩
def reg_KEY_WIRE_COMP : RegDesc := ⟨"KEY_WIRE_COMP", 0x20000510, 1, 4, 1, 4, 0x00000000#32,
  [⟨"COMP", 7, 0, .rws, 0, []⟩]⟩
def reg_KEY_TT_CTRL : RegDesc := ⟨"KEY_TT_CTRL", 0x2000060C, 16, 32, 1, 4, 0x00000000#32,
  [⟨"EN", 31, 31, .rw, 99, []⟩, ⟨"PERIODIC", 30, 30, .rw, 99, []⟩, ⟨"ALIGN", 29, 29, .rw, 99, []⟩, ⟨"DEST", 20, 16, .rw, 99, []⟩, ⟨"INDEX", 7, 0, .rw, 99, []⟩]⟩
def reg_KEY_TT_STATUS : RegDesc := ⟨"KEY_TT_STATUS", 0x20000610, 16, 32, 1, 4, 0x00000000#32,
  [⟨"IGNORED", 3, 3, .w1c, 99, []⟩, ⟨"JUMPED", 2, 2, .w1c, 99, []⟩, ⟨"MISSED", 1, 1, .w1c, 99, []⟩, ⟨"FIRED", 0, 0, .w1c, 99, []⟩]⟩
def reg_KEY_OVR_TICK_LO : RegDesc := ⟨"KEY_OVR_TICK_LO", 0x20000288, 1, 4, 1, 4, 0x00000000#32,
  [⟨"LO", 31, 0, .ro, 99, []⟩]⟩
def reg_KEY_OVR_TICK_HI : RegDesc := ⟨"KEY_OVR_TICK_HI", 0x2000028C, 1, 4, 1, 4, 0x00000000#32,
  [⟨"HI", 31, 0, .ro, 99, []⟩]⟩
def reg_KEY_SNAP_CAP : RegDesc := ⟨"KEY_SNAP_CAP", 0x20000414, 6, 4, 1, 4, 0x00000000#32,
  [⟨"VAL", 31, 0, .ro, 99, []⟩]⟩
def reg_KEY_TT_TARGET_LO : RegDesc := ⟨"KEY_TT_TARGET_LO", 0x20000600, 16, 32, 1, 4, 0x00000000#32,
  [⟨"TARGET", 31, 0, .rw, 99, []⟩]⟩
def reg_KEY_TT_TARGET_HI : RegDesc := ⟨"KEY_TT_TARGET_HI", 0x20000604, 16, 32, 1, 4, 0x00000000#32,
  [⟨"TARGET", 31, 0, .rw, 99, []⟩]⟩
def reg_KEY_TT_PERIOD : RegDesc := ⟨"KEY_TT_PERIOD", 0x20000608, 16, 32, 1, 4, 0x00000000#32,
  [⟨"PERIOD", 31, 0, .rw, 99, []⟩]⟩
def reg_KEY_TT_FIRE_LO : RegDesc := ⟨"KEY_TT_FIRE_LO", 0x20000614, 16, 32, 1, 4, 0x00000000#32,
  [⟨"TICK", 31, 0, .ro, 99, []⟩]⟩
def reg_KEY_TT_FIRE_HI : RegDesc := ⟨"KEY_TT_FIRE_HI", 0x20000618, 16, 32, 1, 4, 0x00000000#32,
  [⟨"TICK", 31, 0, .ro, 99, []⟩]⟩

def regsKey0 : List RegDesc :=
  [reg_KEY_CTRL, reg_KEY_STATUS, reg_KEY_TICK_LO, reg_KEY_TICK_HI, reg_KEY_COMMIT, reg_KEY_COMMIT_STATUS, reg_KEY_LAST_COMMIT_LO, reg_KEY_LAST_COMMIT_HI, reg_KEY_COMMIT_ERR, reg_KEY_SCHED_TICK_LO, reg_KEY_SCHED_TICK_HI, reg_KEY_SCHED_CTRL, reg_KEY_OVR_A, reg_KEY_OVR_B, reg_KEY_OVR_CLEAR, reg_KEY_OVR_LAST, reg_KEY_FRC_LO, reg_KEY_FRC_HI, reg_KEY_NT_LO, reg_KEY_NT_HI]
def regsKey1 : List RegDesc :=
  [reg_KEY_SNAP, reg_KEY_INC_FRAC, reg_KEY_INC_INT, reg_KEY_INC_NOW_FRAC, reg_KEY_INC_NOW_INT, reg_KEY_OFS_LO, reg_KEY_OFS_HI, reg_KEY_OFS_NOW_LO, reg_KEY_OFS_NOW_HI, reg_KEY_JUMP_LIMIT, reg_KEY_TIME_CTRL, reg_KEY_TIME_STATUS, reg_KEY_DISC_ANCHOR_LO, reg_KEY_DISC_ANCHOR_HI, reg_KEY_DISC_STATUS, reg_KEY_DISC_ERR, reg_KEY_WIRE_COMP, reg_KEY_TT_CTRL, reg_KEY_TT_STATUS, reg_KEY_OVR_TICK_LO]
def regsKey2 : List RegDesc :=
  [reg_KEY_OVR_TICK_HI, reg_KEY_SNAP_CAP, reg_KEY_TT_TARGET_LO, reg_KEY_TT_TARGET_HI, reg_KEY_TT_PERIOD, reg_KEY_TT_FIRE_LO, reg_KEY_TT_FIRE_HI]
/-- The registers of the KEY window. -/
def regsKey : List RegDesc :=
  regsKey0 ++ regsKey1 ++ regsKey2

/-! SCN window (SOURCE 02h), from spec/04_stroke_engine.md. -/

def reg_SCN_CTRL : RegDesc := ⟨"SCN_CTRL", 0x20020000, 1, 4, 1, 4, 0x00000000#32,
  [⟨"PIER_EN", 15, 0, .rw, 99, []⟩]⟩
def reg_SCN_CMD : RegDesc := ⟨"SCN_CMD", 0x20020004, 1, 4, 1, 4, 0x00000000#32,
  [⟨"OP", 18, 16, .wo, 99, []⟩, ⟨"MASK", 15, 0, .wo, 99, []⟩]⟩
def reg_SCN_LAYER : RegDesc := ⟨"SCN_LAYER", 0x20020008, 1, 4, 1, 4, 0x00000000#32,
  [⟨"LAYER", 19, 0, .rw, 99, []⟩]⟩
def reg_SCN_LAYER_GO : RegDesc := ⟨"SCN_LAYER_GO", 0x2002000C, 1, 4, 1, 4, 0x00000000#32,
  [⟨"GO", 0, 0, .wo, 99, []⟩]⟩
def reg_SCN_LAYER_TICK_LO : RegDesc := ⟨"SCN_LAYER_TICK_LO", 0x20020010, 1, 4, 1, 4, 0x00000000#32,
  [⟨"TICK_LO", 31, 0, .ro, 99, []⟩]⟩
def reg_SCN_LAYER_TICK_HI : RegDesc := ⟨"SCN_LAYER_TICK_HI", 0x20020014, 1, 4, 1, 4, 0x00000000#32,
  [⟨"TICK_HI", 31, 0, .ro, 99, []⟩]⟩
def reg_SCN_BARRIER_WAIT : RegDesc := ⟨"SCN_BARRIER_WAIT", 0x20020018, 1, 4, 1, 4, 0x000F4240#32,
  [⟨"WAIT", 31, 0, .rws, 1, [(1, 4294967295)]⟩]⟩
def reg_SCN_STATUS : RegDesc := ⟨"SCN_STATUS", 0x2002001C, 1, 4, 1, 4, 0x00000000#32,
  [⟨"DIGEST_PEND", 31, 16, .ro, 99, []⟩, ⟨"LAYER_DONE", 15, 0, .ro, 99, []⟩]⟩
def reg_SCN_ERR : RegDesc := ⟨"SCN_ERR", 0x20020020, 1, 4, 1, 4, 0x00000000#32,
  [⟨"WRITE_REFUSED", 1, 1, .w1c, 99, []⟩, ⟨"LAYER_EARLY", 0, 0, .w1c, 99, []⟩]⟩
def reg_SCN_PROF_SEL : RegDesc := ⟨"SCN_PROF_SEL", 0x20020024, 1, 4, 1, 4, 0x00000000#32,
  [⟨"PIER", 19, 16, .rw, 99, []⟩, ⟨"PROFILE", 15, 8, .rw, 99, []⟩, ⟨"ENTRY", 5, 0, .rw, 99, []⟩]⟩
def reg_SCN_PROF_DATA : RegDesc := ⟨"SCN_PROF_DATA", 0x20020028, 1, 4, 1, 4, 0x00000000#32,
  [⟨"VALUE", 15, 0, .rw, 99, []⟩]⟩
def reg_SCN_FAULT_LAST : RegDesc := ⟨"SCN_FAULT_LAST", 0x2002002C, 1, 4, 1, 4, 0x00000000#32,
  [⟨"VALID", 31, 31, .ro, 99, []⟩, ⟨"PIER", 19, 16, .ro, 99, []⟩, ⟨"CODE", 9, 0, .ro, 99, []⟩]⟩
def reg_SCN_RING_BASE_LO : RegDesc := ⟨"SCN_RING_BASE_LO", 0x20020100, 16, 128, 1, 4, 0x00000000#32,
  [⟨"BASE_LO", 31, 12, .rw, 99, []⟩]⟩
def reg_SCN_RING_BASE_HI : RegDesc := ⟨"SCN_RING_BASE_HI", 0x20020104, 16, 128, 1, 4, 0x00000000#32,
  [⟨"BASE_HI", 7, 0, .rw, 99, []⟩]⟩
def reg_SCN_RING_SIZE : RegDesc := ⟨"SCN_RING_SIZE", 0x20020108, 16, 128, 1, 4, 0x00000000#32,
  [⟨"SIZE", 4, 0, .rw, 99, [(0, 16)]⟩]⟩
def reg_SCN_RING_LWM : RegDesc := ⟨"SCN_RING_LWM", 0x2002010C, 16, 128, 1, 4, 0x00000001#32,
  [⟨"LWM", 22, 0, .rw, 99, []⟩]⟩
def reg_SCN_RING_WR : RegDesc := ⟨"SCN_RING_WR", 0x20020110, 16, 128, 1, 4, 0x00000000#32,
  [⟨"WR", 31, 0, .ro, 99, []⟩]⟩
def reg_SCN_RING_RD : RegDesc := ⟨"SCN_RING_RD", 0x20020114, 16, 128, 1, 4, 0x00000000#32,
  [⟨"RD", 31, 0, .ro, 99, []⟩]⟩
def reg_SCN_FIFO : RegDesc := ⟨"SCN_FIFO", 0x20020118, 16, 128, 1, 4, 0x00000000#32,
  [⟨"OUTST", 18, 16, .ro, 99, []⟩, ⟨"FILL", 14, 0, .ro, 99, []⟩]⟩
def reg_SCN_SEQ_NEXT : RegDesc := ⟨"SCN_SEQ_NEXT", 0x2002011C, 16, 128, 1, 4, 0x00000000#32,
  [⟨"SEQ_NEXT", 31, 0, .rw, 99, []⟩]⟩
def reg_SCN_EPOCH : RegDesc := ⟨"SCN_EPOCH", 0x20020120, 16, 128, 1, 4, 0x00000000#32,
  [⟨"EPOCH", 15, 0, .rw, 99, []⟩]⟩
def reg_SCN_SEQ_LAST : RegDesc := ⟨"SCN_SEQ_LAST", 0x20020124, 16, 128, 1, 4, 0x00000000#32,
  [⟨"SEQ_LAST", 31, 0, .ro, 99, []⟩]⟩
def reg_SCN_SEQ_LAST_EPOCH : RegDesc := ⟨"SCN_SEQ_LAST_EPOCH", 0x20020128, 16, 128, 1, 4, 0x00000000#32,
  [⟨"VALID", 16, 16, .ro, 99, []⟩, ⟨"EPOCH", 15, 0, .ro, 99, []⟩]⟩
def reg_SCN_STATE : RegDesc := ⟨"SCN_STATE", 0x2002012C, 16, 128, 1, 4, 0x00000000#32,
  [⟨"TYPE", 31, 28, .ro, 99, []⟩, ⟨"STATE", 2, 0, .ro, 99, []⟩]⟩
def reg_SCN_POS_X : RegDesc := ⟨"SCN_POS_X", 0x20020130, 16, 128, 1, 4, 0x00000000#32,
  [⟨"POS", 31, 0, .ro, 99, []⟩]⟩
def reg_SCN_POS_Y : RegDesc := ⟨"SCN_POS_Y", 0x20020134, 16, 128, 1, 4, 0x00000000#32,
  [⟨"POS", 31, 0, .ro, 99, []⟩]⟩
def reg_SCN_POS_Z : RegDesc := ⟨"SCN_POS_Z", 0x20020138, 16, 128, 1, 4, 0x00000000#32,
  [⟨"POS", 31, 0, .ro, 99, []⟩]⟩
def reg_SCN_PWR : RegDesc := ⟨"SCN_PWR", 0x2002013C, 16, 128, 1, 4, 0x00000000#32,
  [⟨"GATE_REQ", 16, 16, .ro, 99, []⟩, ⟨"PLANNED", 15, 0, .ro, 99, []⟩]⟩
def reg_SCN_VEL : RegDesc := ⟨"SCN_VEL", 0x20020140, 16, 128, 1, 4, 0x00000000#32,
  [⟨"VEL", 24, 0, .ro, 99, []⟩]⟩
def reg_SCN_LIM_V : RegDesc := ⟨"SCN_LIM_V", 0x20020144, 16, 128, 1, 4, 0x01312D00#32,
  [⟨"V", 31, 0, .rws, 1, [(1, 20000000)]⟩]⟩
def reg_SCN_LIM_A : RegDesc := ⟨"SCN_LIM_A", 0x20020148, 16, 128, 1, 4, 0x0000C350#32,
  [⟨"A", 31, 0, .rws, 1, [(1, 1000000)]⟩]⟩
def reg_SCN_LIM_J : RegDesc := ⟨"SCN_LIM_J", 0x2002014C, 16, 128, 1, 4, 0x17D78400#32,
  [⟨"J", 31, 0, .rws, 1, [(1, 4000000000)]⟩]⟩
def reg_SCN_LIM_AM : RegDesc := ⟨"SCN_LIM_AM", 0x20020150, 16, 128, 1, 4, 0x00001388#32,
  [⟨"A", 31, 0, .rws, 1, [(1, 1000000)]⟩]⟩
def reg_SCN_UNDER : RegDesc := ⟨"SCN_UNDER", 0x20020154, 16, 128, 1, 4, 0x00000000#32,
  [⟨"STARVED", 31, 16, .ro, 99, []⟩, ⟨"LATE", 15, 0, .ro, 99, []⟩]⟩
def reg_SCN_COUNT : RegDesc := ⟨"SCN_COUNT", 0x20020158, 16, 128, 1, 4, 0x00000000#32,
  [⟨"COUNT", 31, 0, .ro, 99, []⟩]⟩
def reg_SCN_MARK_PARAM : RegDesc := ⟨"SCN_MARK_PARAM", 0x2002015C, 16, 128, 1, 4, 0x00000000#32,
  [⟨"PARAM", 31, 0, .ro, 99, []⟩]⟩
def reg_SCN_MARK_SEQ : RegDesc := ⟨"SCN_MARK_SEQ", 0x20020160, 16, 128, 1, 4, 0x00000000#32,
  [⟨"SEQ", 31, 0, .ro, 99, []⟩]⟩
def reg_SCN_MARK_EPOCH : RegDesc := ⟨"SCN_MARK_EPOCH", 0x20020164, 16, 128, 1, 4, 0x00000000#32,
  [⟨"VALID", 16, 16, .ro, 99, []⟩, ⟨"EPOCH", 15, 0, .ro, 99, []⟩]⟩
def reg_SCN_FLAGS : RegDesc := ⟨"SCN_FLAGS", 0x20020168, 16, 128, 1, 4, 0x00000000#32,
  [⟨"WAIT_LATE", 2, 2, .w1c, 99, []⟩, ⟨"SKY_SHORT", 1, 1, .w1c, 99, []⟩, ⟨"IDX_REFUSED", 0, 0, .w1c, 99, []⟩]⟩
def reg_SCN_DIG_LAYER : RegDesc := ⟨"SCN_DIG_LAYER", 0x20021030, 16, 64, 1, 4, 0x00000000#32,
  [⟨"LAYER", 19, 0, .ro, 99, []⟩]⟩
def reg_SCN_DIG_COUNT : RegDesc := ⟨"SCN_DIG_COUNT", 0x20021034, 16, 64, 1, 4, 0x00000000#32,
  [⟨"COUNT", 31, 0, .ro, 99, []⟩]⟩
def reg_SCN_DIG_STATUS : RegDesc := ⟨"SCN_DIG_STATUS", 0x20021038, 16, 64, 1, 4, 0x00000000#32,
  [⟨"INCOMPLETE", 2, 2, .ro, 99, []⟩, ⟨"TAKEN", 1, 1, .ro, 99, []⟩, ⟨"VALID", 0, 0, .ro, 99, []⟩]⟩
def reg_SCN_DIGEST : RegDesc := ⟨"SCN_DIGEST", 0x20021000, 16, 64, 12, 4, 0x00000000#32,
  [⟨"WORD", 31, 0, .ro, 99, []⟩]⟩
def reg_SCN_DIGEST_SEQ : RegDesc := ⟨"SCN_DIGEST_SEQ", 0x20021400, 16, 16, 4, 4, 0x00000000#32,
  [⟨"WORD", 31, 0, .ro, 99, []⟩]⟩

def regsScn0 : List RegDesc :=
  [reg_SCN_CTRL, reg_SCN_CMD, reg_SCN_LAYER, reg_SCN_LAYER_GO, reg_SCN_LAYER_TICK_LO, reg_SCN_LAYER_TICK_HI, reg_SCN_BARRIER_WAIT, reg_SCN_STATUS, reg_SCN_ERR, reg_SCN_PROF_SEL, reg_SCN_PROF_DATA, reg_SCN_FAULT_LAST, reg_SCN_RING_BASE_LO, reg_SCN_RING_BASE_HI, reg_SCN_RING_SIZE, reg_SCN_RING_LWM, reg_SCN_RING_WR, reg_SCN_RING_RD, reg_SCN_FIFO, reg_SCN_SEQ_NEXT]
def regsScn1 : List RegDesc :=
  [reg_SCN_EPOCH, reg_SCN_SEQ_LAST, reg_SCN_SEQ_LAST_EPOCH, reg_SCN_STATE, reg_SCN_POS_X, reg_SCN_POS_Y, reg_SCN_POS_Z, reg_SCN_PWR, reg_SCN_VEL, reg_SCN_LIM_V, reg_SCN_LIM_A, reg_SCN_LIM_J, reg_SCN_LIM_AM, reg_SCN_UNDER, reg_SCN_COUNT, reg_SCN_MARK_PARAM, reg_SCN_MARK_SEQ, reg_SCN_MARK_EPOCH, reg_SCN_FLAGS, reg_SCN_DIG_LAYER]
def regsScn2 : List RegDesc :=
  [reg_SCN_DIG_COUNT, reg_SCN_DIG_STATUS, reg_SCN_DIGEST, reg_SCN_DIGEST_SEQ]
/-- The registers of the SCN window. -/
def regsScn : List RegDesc :=
  regsScn0 ++ regsScn1 ++ regsScn2

/-! COR window (SOURCE 03h), from spec/05_field_correction.md. -/

def reg_COR_STATUS : RegDesc := ⟨"COR_STATUS", 0x20030000, 1, 4, 1, 4, 0x00000000#32,
  [⟨"INIT_DONE", 31, 31, .ro, 99, []⟩, ⟨"ACTIVE", 15, 0, .ro, 99, []⟩]⟩
def reg_COR_CRC_CTRL : RegDesc := ⟨"COR_CRC_CTRL", 0x20030008, 1, 4, 1, 4, 0x00000000#32,
  [⟨"START", 31, 31, .wo, 99, []⟩, ⟨"BUSY", 30, 30, .ro, 99, []⟩, ⟨"DONE", 29, 29, .w1c, 99, []⟩, ⟨"BANK", 8, 8, .rw, 99, []⟩, ⟨"PIER", 3, 0, .rw, 99, []⟩]⟩
def reg_COR_CRC_RESULT : RegDesc := ⟨"COR_CRC_RESULT", 0x2003000C, 1, 4, 1, 4, 0x00000000#32,
  [⟨"CRC", 31, 0, .ro, 99, []⟩]⟩
def reg_COR_FAULT_LAST : RegDesc := ⟨"COR_FAULT_LAST", 0x20030010, 1, 4, 1, 4, 0x00000000#32,
  [⟨"VALID", 31, 31, .ro, 99, []⟩, ⟨"PIER", 19, 16, .ro, 99, []⟩, ⟨"CODE", 9, 0, .ro, 99, []⟩]⟩
def reg_COR_XMIN : RegDesc := ⟨"COR_XMIN", 0x20030100, 16, 64, 1, 4, 0xF85EE000#32,
  [⟨"XMIN", 31, 0, .rws, 2, []⟩]⟩
def reg_COR_YMIN : RegDesc := ⟨"COR_YMIN", 0x20030104, 16, 64, 1, 4, 0xF85EE000#32,
  [⟨"YMIN", 31, 0, .rws, 2, []⟩]⟩
def reg_COR_PITCH_X : RegDesc := ⟨"COR_PITCH_X", 0x20030108, 16, 64, 1, 4, 0x003D0900#32,
  [⟨"PITCH", 23, 0, .rws, 2, [(10000, 16777215)]⟩]⟩
def reg_COR_PITCH_Y : RegDesc := ⟨"COR_PITCH_Y", 0x2003010C, 16, 64, 1, 4, 0x003D0900#32,
  [⟨"PITCH", 23, 0, .rws, 2, [(10000, 16777215)]⟩]⟩
def reg_COR_ZGAIN : RegDesc := ⟨"COR_ZGAIN", 0x20030110, 16, 64, 1, 4, 0x00000000#32,
  [⟨"ZGAIN", 31, 0, .rws, 2, []⟩]⟩
def reg_COR_PCTRL : RegDesc := ⟨"COR_PCTRL", 0x20030114, 16, 64, 1, 4, 0x00000000#32,
  [⟨"CLAMP_F1", 0, 0, .rws, 2, []⟩]⟩
def reg_COR_BANK : RegDesc := ⟨"COR_BANK", 0x20030118, 16, 64, 1, 4, 0x00000000#32,
  [⟨"SWAP_PEND", 5, 4, .ro, 99, []⟩, ⟨"READY", 2, 2, .ro, 99, []⟩, ⟨"ACTIVE_LOADED", 1, 1, .ro, 99, []⟩, ⟨"ACTIVE", 0, 0, .ro, 99, []⟩]⟩
def reg_COR_BANK_CMD : RegDesc := ⟨"COR_BANK_CMD", 0x2003011C, 16, 64, 1, 4, 0x00000000#32,
  [⟨"SWAP", 2, 1, .wo, 99, []⟩, ⟨"READY", 0, 0, .wo, 99, []⟩]⟩
def reg_COR_CODE_X : RegDesc := ⟨"COR_CODE_X", 0x20030120, 16, 64, 1, 4, 0x00800000#32,
  [⟨"CLAMPED", 31, 31, .ro, 99, []⟩, ⟨"HOLD", 30, 30, .ro, 99, []⟩, ⟨"CODE", 23, 0, .ro, 99, []⟩]⟩
def reg_COR_CODE_Y : RegDesc := ⟨"COR_CODE_Y", 0x20030124, 16, 64, 1, 4, 0x00800000#32,
  [⟨"HOLD", 30, 30, .ro, 99, []⟩, ⟨"CODE", 23, 0, .ro, 99, []⟩]⟩
def reg_COR_CODE_Z : RegDesc := ⟨"COR_CODE_Z", 0x20030128, 16, 64, 1, 4, 0x00800000#32,
  [⟨"HOLD", 30, 30, .ro, 99, []⟩, ⟨"CODE", 23, 0, .ro, 99, []⟩]⟩
def reg_COR_CLAMP_CNT : RegDesc := ⟨"COR_CLAMP_CNT", 0x2003012C, 16, 64, 1, 4, 0x00000000#32,
  [⟨"LIT", 31, 16, .ro, 99, []⟩, ⟨"DARK", 15, 0, .ro, 99, []⟩]⟩
def reg_COR_ECC : RegDesc := ⟨"COR_ECC", 0x20030130, 16, 64, 1, 4, 0x00000000#32,
  [⟨"CORRECTED", 15, 0, .ro, 99, []⟩]⟩
def reg_COR_FLAGS : RegDesc := ⟨"COR_FLAGS", 0x20030134, 16, 64, 1, 4, 0x00000000#32,
  [⟨"NO_GRID", 4, 4, .w1c, 99, []⟩, ⟨"SWAP_CANCELLED", 3, 3, .w1c, 99, []⟩, ⟨"SWAP_REFUSED", 2, 2, .w1c, 99, []⟩, ⟨"CODE_SAT", 1, 1, .w1c, 99, []⟩, ⟨"CLAMP_LIT", 0, 0, .w1c, 99, []⟩]⟩

def regsCor0 : List RegDesc :=
  [reg_COR_STATUS, reg_COR_CRC_CTRL, reg_COR_CRC_RESULT, reg_COR_FAULT_LAST, reg_COR_XMIN, reg_COR_YMIN, reg_COR_PITCH_X, reg_COR_PITCH_Y, reg_COR_ZGAIN, reg_COR_PCTRL, reg_COR_BANK, reg_COR_BANK_CMD, reg_COR_CODE_X, reg_COR_CODE_Y, reg_COR_CODE_Z, reg_COR_CLAMP_CNT, reg_COR_ECC, reg_COR_FLAGS]
/-- The registers of the COR window. -/
def regsCor : List RegDesc :=
  regsCor0

/-! SPN window (SOURCE 04h), from spec/06_span_coordination.md. -/

def reg_SPN_CTRL : RegDesc := ⟨"SPN_CTRL", 0x20040000, 1, 4, 1, 4, 0x00000000#32,
  [⟨"GUARD_EN", 0, 0, .rws, 3, []⟩]⟩
def reg_SPN_STITCH_WAIT : RegDesc := ⟨"SPN_STITCH_WAIT", 0x20040004, 1, 4, 1, 4, 0x000003E8#32,
  [⟨"WAIT", 15, 0, .rws, 3, [(1, 65535)]⟩]⟩
def reg_SPN_GAS : RegDesc := ⟨"SPN_GAS", 0x20040008, 1, 4, 1, 4, 0x00000001#32,
  [⟨"GY", 31, 16, .rws, 3, []⟩, ⟨"GX", 15, 0, .rws, 3, []⟩]⟩
def reg_SPN_STATUS : RegDesc := ⟨"SPN_STATUS", 0x2004000C, 1, 4, 1, 4, 0x00000000#32,
  [⟨"OUTSTANDING", 26, 16, .ro, 99, []⟩, ⟨"STITCHING", 15, 0, .ro, 99, []⟩]⟩
def reg_SPN_FLAGS : RegDesc := ⟨"SPN_FLAGS", 0x20040010, 1, 4, 1, 4, 0x00000000#32,
  [⟨"WRITE_REFUSED", 5, 5, .w1c, 99, []⟩, ⟨"RING_ERR", 4, 4, .w1c, 99, []⟩, ⟨"PATCH_LOST", 3, 3, .w1c, 99, []⟩, ⟨"FADE_CLIP", 2, 2, .w1c, 99, []⟩, ⟨"ORPHAN", 1, 1, .w1c, 99, []⟩, ⟨"SOLO", 0, 0, .w1c, 99, []⟩]⟩
def reg_SPN_FAULT_LAST : RegDesc := ⟨"SPN_FAULT_LAST", 0x20040014, 1, 4, 1, 4, 0x00000000#32,
  [⟨"VALID", 31, 31, .ro, 99, []⟩, ⟨"PIER", 19, 16, .ro, 99, []⟩, ⟨"CODE", 9, 0, .ro, 99, []⟩]⟩
def reg_SPN_GUARD_LAST : RegDesc := ⟨"SPN_GUARD_LAST", 0x20040018, 1, 4, 1, 4, 0x00000000#32,
  [⟨"VALID", 31, 31, .ro, 99, []⟩, ⟨"UPWIND", 7, 4, .ro, 99, []⟩, ⟨"DOWNWIND", 3, 0, .ro, 99, []⟩]⟩
def reg_SPN_PATCH_CTRL : RegDesc := ⟨"SPN_PATCH_CTRL", 0x20040020, 1, 4, 1, 4, 0x00000000#32,
  [⟨"EN", 31, 31, .rw, 99, []⟩]⟩
def reg_SPN_PATCH_BASE_LO : RegDesc := ⟨"SPN_PATCH_BASE_LO", 0x20040024, 1, 4, 1, 4, 0x00000000#32,
  [⟨"BASE_LO", 31, 12, .rw, 99, []⟩]⟩
def reg_SPN_PATCH_BASE_HI : RegDesc := ⟨"SPN_PATCH_BASE_HI", 0x20040028, 1, 4, 1, 4, 0x00000000#32,
  [⟨"BASE_HI", 7, 0, .rw, 99, []⟩]⟩
def reg_SPN_PATCH_SIZE : RegDesc := ⟨"SPN_PATCH_SIZE", 0x2004002C, 1, 4, 1, 4, 0x00000000#32,
  [⟨"SIZE", 3, 0, .rw, 99, [(0, 12)]⟩]⟩
def reg_SPN_PATCH_THRESH : RegDesc := ⟨"SPN_PATCH_THRESH", 0x20040030, 1, 4, 1, 4, 0x00000001#32,
  [⟨"THRESH", 19, 0, .rw, 99, []⟩]⟩
def reg_SPN_PATCH_WR : RegDesc := ⟨"SPN_PATCH_WR", 0x20040034, 1, 4, 1, 4, 0x00000000#32,
  [⟨"WR", 31, 0, .ro, 99, []⟩]⟩
def reg_SPN_PATCH_LOST : RegDesc := ⟨"SPN_PATCH_LOST", 0x20040038, 1, 4, 1, 4, 0x00000000#32,
  [⟨"LOST", 31, 0, .ro, 99, []⟩]⟩
def reg_SPN_PATCH_STAGE : RegDesc := ⟨"SPN_PATCH_STAGE", 0x2004003C, 1, 4, 1, 4, 0x00000000#32,
  [⟨"STAGED", 10, 0, .ro, 99, []⟩]⟩
def reg_SPN_CNT_A : RegDesc := ⟨"SPN_CNT_A", 0x20040100, 16, 8, 1, 4, 0x00000000#32,
  [⟨"BLANKED", 31, 16, .ro, 99, []⟩, ⟨"RECORDS", 15, 0, .ro, 99, []⟩]⟩
def reg_SPN_CNT_B : RegDesc := ⟨"SPN_CNT_B", 0x20040104, 16, 8, 1, 4, 0x00000000#32,
  [⟨"SOLO", 31, 24, .ro, 99, []⟩, ⟨"DARK", 23, 16, .ro, 99, []⟩, ⟨"SLIP", 15, 8, .ro, 99, []⟩]⟩
def reg_SPN_MATRIX : RegDesc := ⟨"SPN_MATRIX", 0x20040200, 64, 4, 1, 4, 0x00000000#32,
  [⟨"E3", 31, 24, .rws, 3, []⟩, ⟨"E2", 23, 16, .rws, 3, []⟩, ⟨"E1", 15, 8, .rws, 3, []⟩, ⟨"E0", 7, 0, .rws, 3, []⟩]⟩
def reg_SPN_STITCH_SEL : RegDesc := ⟨"SPN_STITCH_SEL", 0x20040400, 1, 4, 1, 4, 0x00000000#32,
  [⟨"ID", 9, 0, .rw, 99, []⟩]⟩
def reg_SPN_STITCH_INFO : RegDesc := ⟨"SPN_STITCH_INFO", 0x20040404, 1, 4, 1, 4, 0x00000000#32,
  [⟨"STATE", 31, 29, .ro, 99, []⟩, ⟨"SIDE", 28, 28, .ro, 99, []⟩, ⟨"PIER", 27, 24, .ro, 99, []⟩, ⟨"PARTNER", 23, 20, .ro, 99, []⟩, ⟨"WAIT_LEFT", 15, 0, .ro, 99, []⟩]⟩
def reg_SPN_STITCH_TICK : RegDesc := ⟨"SPN_STITCH_TICK", 0x20040408, 1, 4, 1, 4, 0x00000000#32,
  [⟨"TICK", 31, 0, .ro, 99, []⟩]⟩

def regsSpn0 : List RegDesc :=
  [reg_SPN_CTRL, reg_SPN_STITCH_WAIT, reg_SPN_GAS, reg_SPN_STATUS, reg_SPN_FLAGS, reg_SPN_FAULT_LAST, reg_SPN_GUARD_LAST, reg_SPN_PATCH_CTRL, reg_SPN_PATCH_BASE_LO, reg_SPN_PATCH_BASE_HI, reg_SPN_PATCH_SIZE, reg_SPN_PATCH_THRESH, reg_SPN_PATCH_WR, reg_SPN_PATCH_LOST, reg_SPN_PATCH_STAGE, reg_SPN_CNT_A, reg_SPN_CNT_B, reg_SPN_MATRIX, reg_SPN_STITCH_SEL, reg_SPN_STITCH_INFO]
def regsSpn1 : List RegDesc :=
  [reg_SPN_STITCH_TICK]
/-- The registers of the SPN window. -/
def regsSpn : List RegDesc :=
  regsSpn0 ++ regsSpn1

/-! PLK window (SOURCE 05h), from spec/07_pier_link.md. -/

def reg_PLK_STATUS : RegDesc := ⟨"PLK_STATUS", 0x20050000, 1, 4, 1, 4, 0x00000000#32,
  [⟨"TRAINING", 31, 16, .ro, 99, []⟩, ⟨"UP", 15, 0, .ro, 99, []⟩]⟩
def reg_PLK_ERR : RegDesc := ⟨"PLK_ERR", 0x20050004, 1, 4, 1, 4, 0x00000000#32,
  [⟨"WRITE_REFUSED", 0, 0, .w1c, 99, []⟩]⟩
def reg_PLK_FAULT_LAST : RegDesc := ⟨"PLK_FAULT_LAST", 0x20050008, 1, 4, 1, 4, 0x00000000#32,
  [⟨"VALID", 31, 31, .ro, 99, []⟩, ⟨"PIER", 19, 16, .ro, 99, []⟩, ⟨"CODE", 9, 0, .ro, 99, []⟩]⟩
def reg_PLK_CTRL : RegDesc := ⟨"PLK_CTRL", 0x20050100, 16, 64, 1, 4, 0x012C0000#32,
  [⟨"UL_DEADLINE", 24, 16, .rws, 4, [(200, 380)]⟩, ⟨"SWING", 9, 8, .rw, 99, [(0, 2)]⟩, ⟨"AC", 4, 4, .rw, 99, []⟩, ⟨"MODE", 1, 0, .rw, 99, [(0, 2)]⟩]⟩
def reg_PLK_TRAIN : RegDesc := ⟨"PLK_TRAIN", 0x20050104, 16, 64, 1, 4, 0x40000000#32,
  [⟨"START", 31, 31, .wo, 99, []⟩, ⟨"SWEEP", 30, 30, .rw, 99, []⟩, ⟨"EYE", 13, 8, .ro, 99, []⟩, ⟨"BEST", 4, 0, .ro, 99, []⟩]⟩
def reg_PLK_TAP : RegDesc := ⟨"PLK_TAP", 0x20050108, 16, 64, 1, 4, 0x00001010#32,
  [⟨"TAP_USE", 12, 8, .ro, 99, []⟩, ⟨"TAP", 4, 0, .rws, 9, []⟩]⟩
def reg_PLK_STATE : RegDesc := ⟨"PLK_STATE", 0x2005010C, 16, 64, 1, 4, 0x00000000#32,
  [⟨"REASON", 31, 28, .ro, 99, []⟩, ⟨"TRAIN_TICK", 21, 16, .ro, 99, []⟩, ⟨"CONSEC", 9, 8, .ro, 99, []⟩, ⟨"LINK_OK", 3, 3, .ro, 99, []⟩, ⟨"STATE", 2, 0, .ro, 99, []⟩]⟩
def reg_PLK_HEAD : RegDesc := ⟨"PLK_HEAD", 0x20050110, 16, 64, 1, 4, 0x00000000#32,
  [⟨"VERSION", 31, 24, .ro, 99, []⟩, ⟨"CAPS", 23, 16, .ro, 99, []⟩, ⟨"LATENCY", 15, 0, .ro, 99, []⟩]⟩
def reg_PLK_HEAD_SN : RegDesc := ⟨"PLK_HEAD_SN", 0x20050114, 16, 64, 1, 4, 0x00000000#32,
  [⟨"SERIAL", 31, 0, .ro, 99, []⟩]⟩
def reg_PLK_ACT_X : RegDesc := ⟨"PLK_ACT_X", 0x20050118, 16, 64, 1, 4, 0x00000000#32,
  [⟨"VALID", 31, 31, .ro, 99, []⟩, ⟨"CODE", 23, 0, .ro, 99, []⟩]⟩
def reg_PLK_ACT_Y : RegDesc := ⟨"PLK_ACT_Y", 0x2005011C, 16, 64, 1, 4, 0x00000000#32,
  [⟨"VALID", 31, 31, .ro, 99, []⟩, ⟨"CODE", 23, 0, .ro, 99, []⟩]⟩
def reg_PLK_ACT_Z : RegDesc := ⟨"PLK_ACT_Z", 0x20050120, 16, 64, 1, 4, 0x00000000#32,
  [⟨"VALID", 31, 31, .ro, 99, []⟩, ⟨"CODE", 23, 0, .ro, 99, []⟩]⟩
def reg_PLK_UL_STATUS : RegDesc := ⟨"PLK_UL_STATUS", 0x20050124, 16, 64, 1, 4, 0x00000000#32,
  [⟨"STATUS", 15, 0, .ro, 99, []⟩]⟩
def reg_PLK_CNT_A : RegDesc := ⟨"PLK_CNT_A", 0x20050128, 16, 64, 1, 4, 0x00000000#32,
  [⟨"DL_BAD", 31, 16, .ro, 99, []⟩, ⟨"UL_BAD", 15, 0, .ro, 99, []⟩]⟩
def reg_PLK_CNT_B : RegDesc := ⟨"PLK_CNT_B", 0x2005012C, 16, 64, 1, 4, 0x00000000#32,
  [⟨"SYM_ERR", 31, 16, .ro, 99, []⟩, ⟨"HELD_LIT", 15, 8, .ro, 99, []⟩, ⟨"FAILED", 7, 0, .ro, 99, []⟩]⟩
def reg_PLK_FLAGS : RegDesc := ⟨"PLK_FLAGS", 0x20050130, 16, 64, 1, 4, 0x00000000#32,
  [⟨"LOCK_LOST", 5, 5, .w1c, 99, []⟩, ⟨"HEAD_FAULT", 4, 4, .w1c, 99, []⟩, ⟨"HEAD_WARN", 3, 3, .w1c, 99, []⟩, ⟨"EDGE_LOST", 2, 2, .w1c, 99, []⟩, ⟨"DL_BAD", 1, 1, .w1c, 99, []⟩, ⟨"UL_BAD", 0, 0, .w1c, 99, []⟩]⟩

def regsPlk0 : List RegDesc :=
  [reg_PLK_STATUS, reg_PLK_ERR, reg_PLK_FAULT_LAST, reg_PLK_CTRL, reg_PLK_TRAIN, reg_PLK_TAP, reg_PLK_STATE, reg_PLK_HEAD, reg_PLK_HEAD_SN, reg_PLK_ACT_X, reg_PLK_ACT_Y, reg_PLK_ACT_Z, reg_PLK_UL_STATUS, reg_PLK_CNT_A, reg_PLK_CNT_B, reg_PLK_FLAGS]
/-- The registers of the PLK window. -/
def regsPlk : List RegDesc :=
  regsPlk0

/-! LSR window (SOURCE 06h), from spec/08_laser_channels.md. -/

def reg_LSR_PERMIT : RegDesc := ⟨"LSR_PERMIT", 0x20060000, 1, 4, 1, 4, 0x00000000#32,
  [⟨"MODE_ALLOW", 6, 6, .ro, 99, []⟩, ⟨"EMIT_EN", 5, 5, .ro, 99, []⟩, ⟨"DISCREP", 4, 4, .ro, 99, []⟩, ⟨"PERMIT", 2, 2, .ro, 99, []⟩, ⟨"CH_B", 1, 1, .ro, 99, []⟩, ⟨"CH_A", 0, 0, .ro, 99, []⟩]⟩
def reg_LSR_IN_A : RegDesc := ⟨"LSR_IN_A", 0x20060004, 1, 4, 1, 4, 0x00000000#32,
  [⟨"ALARM", 31, 16, .ro, 99, []⟩, ⟨"READY", 15, 0, .ro, 99, []⟩]⟩
def reg_LSR_IN_B : RegDesc := ⟨"LSR_IN_B", 0x20060008, 1, 4, 1, 4, 0x00000000#32,
  [⟨"GATE_PAD", 31, 16, .ro, 99, []⟩, ⟨"EMA", 15, 0, .ro, 99, []⟩]⟩
def reg_LSR_FLAGS : RegDesc := ⟨"LSR_FLAGS", 0x2006000C, 1, 4, 1, 4, 0x00000000#32,
  [⟨"WRITE_REFUSED", 2, 2, .w1c, 99, []⟩, ⟨"DISCREP", 1, 1, .w1c, 99, []⟩, ⟨"PERMIT_LOST", 0, 0, .w1c, 99, []⟩]⟩
def reg_LSR_FAULT_LAST : RegDesc := ⟨"LSR_FAULT_LAST", 0x20060010, 1, 4, 1, 4, 0x00000000#32,
  [⟨"VALID", 31, 31, .ro, 99, []⟩, ⟨"PIER", 19, 16, .ro, 99, []⟩, ⟨"CODE", 9, 0, .ro, 99, []⟩]⟩
def reg_LSR_CTRL : RegDesc := ⟨"LSR_CTRL", 0x20060100, 16, 64, 1, 4, 0x00000000#32,
  [⟨"DIFF", 8, 8, .rws, 5, []⟩, ⟨"EMA_CHECK", 1, 1, .rws, 5, []⟩, ⟨"LINK_EN", 0, 0, .rw, 99, []⟩]⟩
def reg_LSR_DELAY : RegDesc := ⟨"LSR_DELAY", 0x20060104, 16, 64, 1, 4, 0x00000000#32,
  [⟨"FINE", 26, 16, .rws, 9, [(0, 1999)]⟩, ⟨"COARSE", 7, 0, .rws, 5, []⟩]⟩
def reg_LSR_LIMIT : RegDesc := ⟨"LSR_LIMIT", 0x20060108, 16, 64, 1, 4, 0x0000FFFF#32,
  [⟨"LIMIT", 15, 0, .rws, 5, [(1, 65535)]⟩]⟩
def reg_LSR_CMD : RegDesc := ⟨"LSR_CMD", 0x2006010C, 16, 64, 1, 4, 0x00000000#32,
  [⟨"ENABLE_REQ", 7, 7, .rws, 5, []⟩, ⟨"USER", 5, 0, .rws, 5, []⟩]⟩
def reg_LSR_EMA_WIN : RegDesc := ⟨"LSR_EMA_WIN", 0x20060110, 16, 64, 1, 4, 0x01F40064#32,
  [⟨"ON_MAX", 31, 16, .rws, 5, [(1, 65535)]⟩, ⟨"OFF_MAX", 15, 0, .rws, 5, [(1, 65535)]⟩]⟩
def reg_LSR_WORD : RegDesc := ⟨"LSR_WORD", 0x20060114, 16, 64, 1, 4, 0x00000000#32,
  [⟨"WORD", 31, 0, .ro, 99, []⟩]⟩
def reg_LSR_TEST : RegDesc := ⟨"LSR_TEST", 0x20060118, 16, 64, 1, 4, 0x00000064#32,
  [⟨"FIRE", 31, 31, .wo, 99, []⟩, ⟨"BUSY", 30, 30, .ro, 99, []⟩, ⟨"WIDTH", 15, 0, .rw, 99, [(10, 65535)]⟩]⟩
def reg_LSR_TEST_PWR : RegDesc := ⟨"LSR_TEST_PWR", 0x2006011C, 16, 64, 1, 4, 0x00000000#32,
  [⟨"POWER", 15, 0, .rw, 99, []⟩]⟩
def reg_LSR_CNT_A : RegDesc := ⟨"LSR_CNT_A", 0x20060120, 16, 64, 1, 4, 0x00000000#32,
  [⟨"LIMITED", 31, 16, .ro, 99, []⟩, ⟨"ALARM", 15, 0, .ro, 99, []⟩]⟩
def reg_LSR_CNT_B : RegDesc := ⟨"LSR_CNT_B", 0x20060124, 16, 64, 1, 4, 0x00000000#32,
  [⟨"EMA_MISS", 31, 16, .ro, 99, []⟩, ⟨"NOT_READY", 15, 8, .ro, 99, []⟩, ⟨"UNCMD", 7, 0, .ro, 99, []⟩]⟩
def reg_LSR_FLAGS_P : RegDesc := ⟨"LSR_FLAGS_P", 0x20060128, 16, 64, 1, 4, 0x00000000#32,
  [⟨"TEST_REFUSED", 5, 5, .w1c, 99, []⟩, ⟨"LIMITED", 4, 4, .w1c, 99, []⟩, ⟨"UNCMD_EMIT", 3, 3, .w1c, 99, []⟩, ⟨"EMA_MISSING", 2, 2, .w1c, 99, []⟩, ⟨"NOT_READY", 1, 1, .w1c, 99, []⟩, ⟨"ALARM", 0, 0, .w1c, 99, []⟩]⟩

def regsLsr0 : List RegDesc :=
  [reg_LSR_PERMIT, reg_LSR_IN_A, reg_LSR_IN_B, reg_LSR_FLAGS, reg_LSR_FAULT_LAST, reg_LSR_CTRL, reg_LSR_DELAY, reg_LSR_LIMIT, reg_LSR_CMD, reg_LSR_EMA_WIN, reg_LSR_WORD, reg_LSR_TEST, reg_LSR_TEST_PWR, reg_LSR_CNT_A, reg_LSR_CNT_B, reg_LSR_FLAGS_P]
/-- The registers of the LSR window. -/
def regsLsr : List RegDesc :=
  regsLsr0

/-! AFE window (SOURCE 07h), from spec/09_meltpool_frontend.md. -/

def reg_AFE_STATUS : RegDesc := ⟨"AFE_STATUS", 0x20070000, 1, 4, 1, 4, 0x00000000#32,
  [⟨"HEARTH_OK", 31, 31, .ro, 99, []⟩, ⟨"NTC_BAD", 11, 8, .ro, 99, []⟩, ⟨"AUX_SETTLING", 7, 0, .ro, 99, []⟩]⟩
def reg_AFE_FLAGS : RegDesc := ⟨"AFE_FLAGS", 0x20070004, 1, 4, 1, 4, 0x00000000#32,
  [⟨"CAL_REFUSED", 6, 6, .w1c, 99, []⟩, ⟨"LINK_LOST", 5, 5, .w1c, 99, []⟩, ⟨"PARITY", 4, 4, .w1c, 99, []⟩, ⟨"NTC_BAD", 3, 3, .w1c, 99, []⟩, ⟨"AUX_FAULT", 2, 2, .w1c, 99, []⟩, ⟨"OPEN", 1, 1, .w1c, 99, []⟩, ⟨"OVR", 0, 0, .w1c, 99, []⟩]⟩
def reg_AFE_FAULT_LAST : RegDesc := ⟨"AFE_FAULT_LAST", 0x20070008, 1, 4, 1, 4, 0x00000000#32,
  [⟨"VALID", 31, 31, .ro, 99, []⟩, ⟨"INPUT", 20, 16, .ro, 99, []⟩, ⟨"CODE", 9, 0, .ro, 99, []⟩]⟩
def reg_AFE_CAL_CTRL : RegDesc := ⟨"AFE_CAL_CTRL", 0x2007000C, 1, 4, 1, 4, 0x00000000#32,
  [⟨"START", 31, 31, .wo, 99, []⟩, ⟨"BUSY", 30, 30, .ro, 99, []⟩, ⟨"DONE", 29, 29, .w1c, 99, []⟩, ⟨"PIER", 3, 0, .rw, 99, []⟩]⟩
def reg_AFE_IN_CTRL : RegDesc := ⟨"AFE_IN_CTRL", 0x20070100, 32, 16, 1, 4, 0x00000000#32,
  [⟨"OPEN_EN", 4, 4, .rws, 6, []⟩, ⟨"GAIN", 2, 0, .rws, 6, [(0, 6)]⟩]⟩
def reg_AFE_IN_DATA : RegDesc := ⟨"AFE_IN_DATA", 0x20070104, 32, 16, 1, 4, 0x00000000#32,
  [⟨"S200", 31, 16, .ro, 99, []⟩, ⟨"S0", 15, 0, .ro, 99, []⟩]⟩
def reg_AFE_IN_STAT : RegDesc := ⟨"AFE_IN_STAT", 0x20070108, 32, 16, 1, 4, 0x00000000#32,
  [⟨"OVR_CNT", 31, 16, .ro, 99, []⟩, ⟨"PARITY", 15, 8, .ro, 99, []⟩, ⟨"OPEN", 0, 0, .ro, 99, []⟩]⟩
def reg_AFE_OFS : RegDesc := ⟨"AFE_OFS", 0x2007010C, 32, 16, 1, 4, 0x00000000#32,
  [⟨"MEAS", 31, 16, .ro, 99, []⟩, ⟨"TRIM", 7, 0, .rws, 9, []⟩]⟩
def reg_AFE_XSYNC : RegDesc := ⟨"AFE_XSYNC", 0x20070400, 16, 16, 1, 4, 0x00000000#32,
  [⟨"EN", 31, 31, .rws, 6, []⟩, ⟨"TT", 19, 16, .rws, 6, []⟩, ⟨"SETTINGS_ID", 15, 0, .rws, 6, []⟩]⟩
def reg_AFE_XSUM : RegDesc := ⟨"AFE_XSUM", 0x20070404, 16, 16, 1, 4, 0x00000000#32,
  [⟨"SUM", 31, 0, .ro, 99, []⟩]⟩
def reg_AFE_XCNT : RegDesc := ⟨"AFE_XCNT", 0x20070408, 16, 16, 1, 4, 0x00000000#32,
  [⟨"ID", 31, 16, .ro, 99, []⟩, ⟨"COUNT", 15, 0, .ro, 99, []⟩]⟩
def reg_AFE_AUX_CTRL : RegDesc := ⟨"AFE_AUX_CTRL", 0x20070600, 1, 4, 1, 4, 0x00000000#32,
  [⟨"TIMER_EN", 31, 31, .rws, 6, []⟩, ⟨"IEXC1", 6, 4, .rws, 6, [(0, 4)]⟩, ⟨"IEXC0", 2, 0, .rws, 6, [(0, 4)]⟩]⟩
def reg_AFE_AUX_CFG : RegDesc := ⟨"AFE_AUX_CFG", 0x20070640, 8, 16, 1, 4, 0x00000000#32,
  [⟨"BIAS", 5, 5, .rws, 6, []⟩, ⟨"BURNOUT_EN", 4, 4, .rws, 6, []⟩, ⟨"GAIN", 2, 0, .rws, 6, []⟩]⟩
def reg_AFE_AUX_DATA : RegDesc := ⟨"AFE_AUX_DATA", 0x20070644, 8, 16, 1, 4, 0x00000000#32,
  [⟨"DATA", 31, 0, .ro, 99, []⟩]⟩
def reg_AFE_AUX_STAT : RegDesc := ⟨"AFE_AUX_STAT", 0x20070648, 8, 16, 1, 4, 0x00000000#32,
  [⟨"SEQ", 31, 16, .ro, 99, []⟩, ⟨"SETTLING", 2, 2, .ro, 99, []⟩, ⟨"BURNOUT", 1, 1, .ro, 99, []⟩, ⟨"OVR", 0, 0, .ro, 99, []⟩]⟩
def reg_AFE_NTC : RegDesc := ⟨"AFE_NTC", 0x20070700, 4, 4, 1, 4, 0x00000000#32,
  [⟨"SHORT", 13, 13, .ro, 99, []⟩, ⟨"OPEN", 12, 12, .ro, 99, []⟩, ⟨"CODE", 11, 0, .ro, 99, []⟩]⟩

def regsAfe0 : List RegDesc :=
  [reg_AFE_STATUS, reg_AFE_FLAGS, reg_AFE_FAULT_LAST, reg_AFE_CAL_CTRL, reg_AFE_IN_CTRL, reg_AFE_IN_DATA, reg_AFE_IN_STAT, reg_AFE_OFS, reg_AFE_XSYNC, reg_AFE_XSUM, reg_AFE_XCNT, reg_AFE_AUX_CTRL, reg_AFE_AUX_CFG, reg_AFE_AUX_DATA, reg_AFE_AUX_STAT, reg_AFE_NTC]
/-- The registers of the AFE window. -/
def regsAfe : List RegDesc :=
  regsAfe0

/-! LOP window (SOURCE 08h), from spec/10_loop_engine.md. -/

def reg_LOP_STATUS : RegDesc := ⟨"LOP_STATUS", 0x20080000, 1, 4, 1, 4, 0x00000000#32,
  [⟨"LIVE", 23, 0, .ro, 99, []⟩]⟩
def reg_LOP_FORCED : RegDesc := ⟨"LOP_FORCED", 0x20080004, 1, 4, 1, 4, 0x00000000#32,
  [⟨"FORCED", 23, 0, .ro, 99, []⟩]⟩
def reg_LOP_CLEAR : RegDesc := ⟨"LOP_CLEAR", 0x20080008, 1, 4, 1, 4, 0x00000000#32,
  [⟨"CLEAR", 23, 0, .wo, 99, []⟩]⟩
def reg_LOP_FLAGS : RegDesc := ⟨"LOP_FLAGS", 0x2008000C, 1, 4, 1, 4, 0x00000000#32,
  [⟨"START_MERGED", 2, 2, .w1c, 99, []⟩, ⟨"IMG_REFUSED", 1, 1, .w1c, 99, []⟩, ⟨"WRITE_REFUSED", 0, 0, .w1c, 99, []⟩]⟩
def reg_LOP_FAULT_LAST : RegDesc := ⟨"LOP_FAULT_LAST", 0x20080010, 1, 4, 1, 4, 0x00000000#32,
  [⟨"VALID", 31, 31, .ro, 99, []⟩, ⟨"SLOT", 20, 16, .ro, 99, []⟩, ⟨"CODE", 9, 0, .ro, 99, []⟩]⟩
def reg_LOP_IMG_SEL : RegDesc := ⟨"LOP_IMG_SEL", 0x20080020, 1, 4, 1, 4, 0x00000000#32,
  [⟨"IMAGE", 21, 16, .rw, 99, []⟩, ⟨"INDEX", 9, 4, .rw, 99, [(0, 47)]⟩, ⟨"WORD", 1, 0, .rw, 99, []⟩]⟩
def reg_LOP_IMG_DATA : RegDesc := ⟨"LOP_IMG_DATA", 0x20080024, 1, 4, 1, 4, 0x00000000#32,
  [⟨"DATA", 31, 0, .rw, 99, []⟩]⟩
def reg_LOP_IMG_CMD : RegDesc := ⟨"LOP_IMG_CMD", 0x20080028, 1, 4, 1, 4, 0x00000000#32,
  [⟨"MARK", 31, 31, .wo, 99, []⟩, ⟨"KIND", 16, 16, .wo, 99, []⟩, ⟨"COUNT", 5, 0, .wo, 99, [(1, 48)]⟩]⟩
def reg_LOP_IMG_STATUS : RegDesc := ⟨"LOP_IMG_STATUS", 0x2008002C, 1, 4, 1, 4, 0x00000000#32,
  [⟨"ERR_INDEX", 23, 18, .ro, 99, []⟩, ⟨"ERR", 15, 12, .ro, 99, []⟩, ⟨"BUSY", 0, 0, .ro, 99, []⟩]⟩
def reg_LOP_VCLASS : RegDesc := ⟨"LOP_VCLASS", 0x20080040, 7, 4, 1, 4, 0x00000000#32,
  [⟨"VEL", 24, 0, .rws, 7, []⟩]⟩
def reg_LOP_FCTRL : RegDesc := ⟨"LOP_FCTRL", 0x20080100, 16, 64, 1, 4, 0x003F0000#32,
  [⟨"MODE", 31, 31, .rws, 7, []⟩, ⟨"CAM_EN", 30, 30, .rws, 7, []⟩, ⟨"PLAUS_F1", 29, 29, .rws, 7, []⟩, ⟨"IMAGE", 21, 16, .rws, 7, []⟩, ⟨"CAM_CTX", 4, 0, .rws, 7, []⟩]⟩
def reg_LOP_PLAUS_ABS : RegDesc := ⟨"LOP_PLAUS_ABS", 0x20080104, 16, 64, 1, 4, 0x00000000#32,
  [⟨"ABS", 23, 0, .rws, 7, [(0, 4294967295)]⟩]⟩
def reg_LOP_PLAUS_N : RegDesc := ⟨"LOP_PLAUS_N", 0x20080108, 16, 64, 1, 4, 0x00640000#32,
  [⟨"N", 31, 16, .rws, 7, [(1, 65535)]⟩, ⟨"REL", 15, 0, .rws, 7, []⟩]⟩
def reg_LOP_CAM_AREA : RegDesc := ⟨"LOP_CAM_AREA", 0x2008010C, 16, 64, 1, 4, 0x00000000#32,
  [⟨"AREA_T", 15, 0, .rws, 7, []⟩]⟩
def reg_LOP_CAM_INV : RegDesc := ⟨"LOP_CAM_INV", 0x20080110, 16, 64, 1, 4, 0x00000000#32,
  [⟨"INV_T", 23, 0, .rws, 7, []⟩]⟩
def reg_LOP_CAM_CFG : RegDesc := ⟨"LOP_CAM_CFG", 0x20080114, 16, 64, 1, 4, 0x08000000#32,
  [⟨"KC", 31, 16, .rws, 7, []⟩, ⟨"TMAX", 15, 0, .rws, 7, [(0, 16384)]⟩]⟩
def reg_LOP_CAM_AGE : RegDesc := ⟨"LOP_CAM_AGE", 0x20080118, 16, 64, 1, 4, 0x0A3203E8#32,
  [⟨"AGE_MAX", 31, 24, .rws, 7, [(1, 255)]⟩, ⟨"TRIM_LIT", 23, 16, .rws, 7, [(1, 255)]⟩, ⟨"STALE_HOLD", 15, 0, .rws, 7, [(1, 65535)]⟩]⟩
def reg_LOP_K : RegDesc := ⟨"LOP_K", 0x20080120, 16, 64, 8, 4, 0x00000000#32,
  [⟨"K", 23, 0, .rws, 7, []⟩]⟩
def reg_LOP_FSTAT : RegDesc := ⟨"LOP_FSTAT", 0x20080600, 16, 32, 1, 4, 0x000000FC#32,
  [⟨"WORD", 31, 16, .ro, 99, []⟩, ⟨"RUN", 9, 8, .ro, 99, []⟩, ⟨"IMAGE_IF", 7, 2, .ro, 99, []⟩, ⟨"STATE", 1, 0, .ro, 99, []⟩]⟩
def reg_LOP_FFLAGS : RegDesc := ⟨"LOP_FFLAGS", 0x20080604, 16, 32, 1, 4, 0x00000000#32,
  [⟨"NOT_LOADED", 9, 9, .w1c, 99, []⟩, ⟨"OUT_CLAMP", 8, 8, .w1c, 99, []⟩, ⟨"SUBST", 7, 7, .w1c, 99, []⟩, ⟨"STALE", 6, 6, .w1c, 99, []⟩, ⟨"TRIM_CLAMP", 5, 5, .w1c, 99, []⟩, ⟨"LIMITED", 4, 4, .w1c, 99, []⟩, ⟨"UNDER", 2, 2, .w1c, 99, []⟩, ⟨"ESAT", 1, 1, .w1c, 99, []⟩, ⟨"PLAUS_TRIP", 0, 0, .w1c, 99, []⟩]⟩
def reg_LOP_FCNT_A : RegDesc := ⟨"LOP_FCNT_A", 0x20080608, 16, 32, 1, 4, 0x00000000#32,
  [⟨"OUT_WIN", 31, 16, .ro, 99, []⟩, ⟨"HOLD_RUNS", 15, 0, .ro, 99, []⟩]⟩
def reg_LOP_FCNT_B : RegDesc := ⟨"LOP_FCNT_B", 0x2008060C, 16, 32, 1, 4, 0x00000000#32,
  [⟨"STALE", 31, 16, .ro, 99, []⟩, ⟨"SUBST", 15, 0, .ro, 99, []⟩]⟩
def reg_LOP_TRIM : RegDesc := ⟨"LOP_TRIM", 0x20080610, 16, 32, 1, 4, 0x00000000#32,
  [⟨"TRIM", 15, 0, .ro, 99, []⟩]⟩
def reg_LOP_RESID : RegDesc := ⟨"LOP_RESID", 0x20080614, 16, 32, 1, 4, 0x00000000#32,
  [⟨"RESID", 23, 0, .ro, 99, []⟩]⟩
def reg_LOP_EXPECT : RegDesc := ⟨"LOP_EXPECT", 0x20080618, 16, 32, 1, 4, 0x00000000#32,
  [⟨"EXPECT", 23, 0, .ro, 99, []⟩]⟩
def reg_LOP_PLAUS_RUN : RegDesc := ⟨"LOP_PLAUS_RUN", 0x2008061C, 16, 32, 1, 4, 0x00000000#32,
  [⟨"RUN", 15, 0, .ro, 99, []⟩]⟩
def reg_LOP_SCTRL : RegDesc := ⟨"LOP_SCTRL", 0x20080800, 8, 32, 1, 4, 0x003F0000#32,
  [⟨"MODE", 31, 31, .rws, 7, []⟩, ⟨"IMAGE", 21, 16, .rws, 7, []⟩, ⟨"INMASK", 7, 0, .rws, 7, []⟩]⟩
def reg_LOP_SLOW_SP : RegDesc := ⟨"LOP_SLOW_SP", 0x20080804, 8, 32, 1, 4, 0x00000000#32,
  [⟨"SP", 23, 0, .rws, 7, []⟩]⟩
def reg_LOP_SLOW_MAN : RegDesc := ⟨"LOP_SLOW_MAN", 0x20080808, 8, 32, 1, 4, 0x00000000#32,
  [⟨"DUTY", 15, 0, .rws, 7, []⟩]⟩
def reg_LOP_SLOW_PWM : RegDesc := ⟨"LOP_SLOW_PWM", 0x2008080C, 8, 32, 1, 4, 0x000003E8#32,
  [⟨"PERIOD", 13, 0, .rws, 7, [(10, 10000)]⟩]⟩
def reg_LOP_SSTAT : RegDesc := ⟨"LOP_SSTAT", 0x20080810, 8, 32, 1, 4, 0x000000FC#32,
  [⟨"DUTY", 31, 16, .ro, 99, []⟩, ⟨"IMAGE_IF", 7, 2, .ro, 99, []⟩, ⟨"STATE", 1, 0, .ro, 99, []⟩]⟩
def reg_LOP_SFLAGS : RegDesc := ⟨"LOP_SFLAGS", 0x20080814, 8, 32, 1, 4, 0x00000000#32,
  [⟨"NOT_LOADED", 5, 5, .w1c, 99, []⟩, ⟨"STALE", 4, 4, .w1c, 99, []⟩, ⟨"INPUT_FAULT", 3, 3, .w1c, 99, []⟩, ⟨"OUT_CLAMP", 2, 2, .w1c, 99, []⟩, ⟨"UNDER", 1, 1, .w1c, 99, []⟩, ⟨"ESAT", 0, 0, .w1c, 99, []⟩]⟩
def reg_LOP_SCNT : RegDesc := ⟨"LOP_SCNT", 0x20080818, 8, 32, 1, 4, 0x00000000#32,
  [⟨"RUNS", 31, 0, .ro, 99, []⟩]⟩
def reg_LOP_IMG_LOADED_LO : RegDesc := ⟨"LOP_IMG_LOADED_LO", 0x20080030, 1, 4, 1, 4, 0x00000000#32,
  [⟨"LOADED", 31, 0, .ro, 99, []⟩]⟩
def reg_LOP_IMG_LOADED_HI : RegDesc := ⟨"LOP_IMG_LOADED_HI", 0x20080034, 1, 4, 1, 4, 0x00000000#32,
  [⟨"LOADED", 31, 0, .ro, 99, []⟩]⟩
def reg_LOP_IMG_KIND_LO : RegDesc := ⟨"LOP_IMG_KIND_LO", 0x20080038, 1, 4, 1, 4, 0x00000000#32,
  [⟨"KIND", 31, 0, .ro, 99, []⟩]⟩
def reg_LOP_IMG_KIND_HI : RegDesc := ⟨"LOP_IMG_KIND_HI", 0x2008003C, 1, 4, 1, 4, 0x00000000#32,
  [⟨"KIND", 31, 0, .ro, 99, []⟩]⟩

def regsLop0 : List RegDesc :=
  [reg_LOP_STATUS, reg_LOP_FORCED, reg_LOP_CLEAR, reg_LOP_FLAGS, reg_LOP_FAULT_LAST, reg_LOP_IMG_SEL, reg_LOP_IMG_DATA, reg_LOP_IMG_CMD, reg_LOP_IMG_STATUS, reg_LOP_VCLASS, reg_LOP_FCTRL, reg_LOP_PLAUS_ABS, reg_LOP_PLAUS_N, reg_LOP_CAM_AREA, reg_LOP_CAM_INV, reg_LOP_CAM_CFG, reg_LOP_CAM_AGE, reg_LOP_K, reg_LOP_FSTAT, reg_LOP_FFLAGS]
def regsLop1 : List RegDesc :=
  [reg_LOP_FCNT_A, reg_LOP_FCNT_B, reg_LOP_TRIM, reg_LOP_RESID, reg_LOP_EXPECT, reg_LOP_PLAUS_RUN, reg_LOP_SCTRL, reg_LOP_SLOW_SP, reg_LOP_SLOW_MAN, reg_LOP_SLOW_PWM, reg_LOP_SSTAT, reg_LOP_SFLAGS, reg_LOP_SCNT, reg_LOP_IMG_LOADED_LO, reg_LOP_IMG_LOADED_HI, reg_LOP_IMG_KIND_LO, reg_LOP_IMG_KIND_HI]
/-- The registers of the LOP window. -/
def regsLop : List RegDesc :=
  regsLop0 ++ regsLop1

/-! CAM window (SOURCE 09h), from spec/11_camera_pipeline.md. -/

def reg_CAM_STATUS : RegDesc := ⟨"CAM_STATUS", 0x20090000, 1, 4, 1, 4, 0x00000000#32,
  [⟨"PIPE_BUSY", 31, 31, .ro, 99, []⟩, ⟨"PORT_OPEN", 19, 16, .ro, 99, []⟩, ⟨"BACKLOG", 15, 0, .ro, 99, []⟩]⟩
def reg_CAM_FLAGS : RegDesc := ⟨"CAM_FLAGS", 0x20090004, 1, 4, 1, 4, 0x00000000#32,
  [⟨"WRITE_REFUSED", 11, 11, .w1c, 99, []⟩, ⟨"TNR_FIT", 10, 10, .w1c, 99, []⟩, ⟨"CTX_CONFLICT", 9, 9, .w1c, 99, []⟩, ⟨"DEF_ORDER", 8, 8, .w1c, 99, []⟩, ⟨"DLOG_LOST", 7, 7, .w1c, 99, []⟩, ⟨"WR_ERR", 6, 6, .w1c, 99, []⟩, ⟨"TRIG_OVERLAP", 5, 5, .w1c, 99, []⟩, ⟨"TRIG_LOST", 4, 4, .w1c, 99, []⟩, ⟨"CCI_FAIL", 3, 3, .w1c, 99, []⟩, ⟨"OVF_DROP", 2, 2, .w1c, 99, []⟩, ⟨"MALFORMED", 1, 1, .w1c, 99, []⟩, ⟨"LINK_ERR", 0, 0, .w1c, 99, []⟩]⟩
def reg_CAM_FAULT_LAST : RegDesc := ⟨"CAM_FAULT_LAST", 0x20090008, 1, 4, 1, 4, 0x00000000#32,
  [⟨"VALID", 31, 31, .ro, 99, []⟩, ⟨"UNIT", 20, 16, .ro, 99, []⟩, ⟨"CODE", 9, 0, .ro, 99, []⟩]⟩
def reg_CAM_CTX_APPLY : RegDesc := ⟨"CAM_CTX_APPLY", 0x2009000C, 1, 4, 1, 4, 0x00000000#32,
  [⟨"APPLY", 31, 0, .wo, 99, []⟩]⟩
def reg_CAM_CTX_PEND : RegDesc := ⟨"CAM_CTX_PEND", 0x20090010, 1, 4, 1, 4, 0x00000000#32,
  [⟨"PEND", 31, 0, .ro, 99, []⟩]⟩
def reg_CAM_DLOG_CTRL : RegDesc := ⟨"CAM_DLOG_CTRL", 0x20090020, 1, 4, 1, 4, 0x00000000#32,
  [⟨"EN", 31, 31, .rw, 99, []⟩]⟩
def reg_CAM_DLOG_BASE_LO : RegDesc := ⟨"CAM_DLOG_BASE_LO", 0x20090024, 1, 4, 1, 4, 0x00000000#32,
  [⟨"BASE_LO", 31, 12, .rw, 99, []⟩]⟩
def reg_CAM_DLOG_BASE_HI : RegDesc := ⟨"CAM_DLOG_BASE_HI", 0x20090028, 1, 4, 1, 4, 0x00000000#32,
  [⟨"BASE_HI", 7, 0, .rw, 99, []⟩]⟩
def reg_CAM_DLOG_SIZE : RegDesc := ⟨"CAM_DLOG_SIZE", 0x2009002C, 1, 4, 1, 4, 0x00000000#32,
  [⟨"SIZE", 3, 0, .rw, 99, [(0, 12)]⟩]⟩
def reg_CAM_DLOG_WR : RegDesc := ⟨"CAM_DLOG_WR", 0x20090030, 1, 4, 1, 4, 0x00000000#32,
  [⟨"WR", 31, 0, .ro, 99, []⟩]⟩
def reg_CAM_DLOG_LOST : RegDesc := ⟨"CAM_DLOG_LOST", 0x20090034, 1, 4, 1, 4, 0x00000000#32,
  [⟨"LOST", 31, 0, .ro, 99, []⟩]⟩
def reg_CAM_DEF_SEL : RegDesc := ⟨"CAM_DEF_SEL", 0x20090040, 1, 4, 1, 4, 0x00000000#32,
  [⟨"INDEX", 13, 0, .rw, 99, []⟩]⟩
def reg_CAM_DEF_DATA : RegDesc := ⟨"CAM_DEF_DATA", 0x20090044, 1, 4, 1, 4, 0x00000000#32,
  [⟨"Y", 28, 16, .rw, 99, []⟩, ⟨"X", 11, 0, .rw, 99, []⟩]⟩
def reg_CAM_PORT_CTRL : RegDesc := ⟨"CAM_PORT_CTRL", 0x20090100, 4, 64, 1, 4, 0x000005DC#32,
  [⟨"EN", 31, 31, .rw, 99, []⟩, ⟨"LANES", 17, 16, .rw, 99, []⟩, ⟨"RATE", 11, 0, .rw, 99, [(80, 2500)]⟩]⟩
def reg_CAM_PORT_MAP : RegDesc := ⟨"CAM_PORT_MAP", 0x20090104, 4, 64, 1, 4, 0x000000E4#32,
  [⟨"INV", 20, 16, .rw, 99, []⟩, ⟨"MAP", 7, 0, .rw, 99, []⟩]⟩
def reg_CAM_PORT_STAT : RegDesc := ⟨"CAM_PORT_STAT", 0x20090108, 4, 64, 1, 4, 0x00000000#32,
  [⟨"HS_SYNC", 31, 28, .ro, 99, []⟩, ⟨"ULPS", 27, 24, .ro, 99, []⟩, ⟨"FILL", 18, 0, .ro, 99, []⟩]⟩
def reg_CAM_PORT_CNT_A : RegDesc := ⟨"CAM_PORT_CNT_A", 0x2009010C, 4, 64, 1, 4, 0x00000000#32,
  [⟨"ECC_CORR", 31, 16, .ro, 99, []⟩, ⟨"ECC_UNCORR", 15, 0, .ro, 99, []⟩]⟩
def reg_CAM_PORT_CNT_B : RegDesc := ⟨"CAM_PORT_CNT_B", 0x20090110, 4, 64, 1, 4, 0x00000000#32,
  [⟨"CRC_ERR", 31, 16, .ro, 99, []⟩, ⟨"UNSUP", 15, 0, .ro, 99, []⟩]⟩
def reg_CAM_PORT_CNT_C : RegDesc := ⟨"CAM_PORT_CNT_C", 0x20090114, 4, 64, 1, 4, 0x00000000#32,
  [⟨"OVF_DROP", 31, 16, .ro, 99, []⟩, ⟨"MALFORMED", 15, 0, .ro, 99, []⟩]⟩
def reg_CAM_PORT_CNT_D : RegDesc := ⟨"CAM_PORT_CNT_D", 0x20090118, 4, 64, 1, 4, 0x00000000#32,
  [⟨"SYNC_ERR", 31, 0, .ro, 99, []⟩]⟩
def reg_CAM_CCI_CTRL : RegDesc := ⟨"CAM_CCI_CTRL", 0x2009011C, 4, 64, 1, 4, 0x00000001#32,
  [⟨"EN", 31, 31, .rw, 99, []⟩, ⟨"RATE", 1, 0, .rw, 99, [(0, 2)]⟩]⟩
def reg_CAM_CCI_STAT : RegDesc := ⟨"CAM_CCI_STAT", 0x20090120, 4, 64, 1, 4, 0x00000000#32,
  [⟨"BUSY", 31, 31, .ro, 99, []⟩, ⟨"WRITES", 15, 0, .ro, 99, []⟩]⟩
def reg_CAM_TRIG : RegDesc := ⟨"CAM_TRIG", 0x20090400, 17, 4, 1, 4, 0x00000028#32,
  [⟨"EN", 31, 31, .rw, 99, []⟩, ⟨"POL", 30, 30, .rw, 99, []⟩, ⟨"ACTIVE", 29, 29, .ro, 99, []⟩, ⟨"WIDTH", 23, 0, .rw, 99, [(4, 16777215)]⟩]⟩
def reg_CAM_EXP : RegDesc := ⟨"CAM_EXP", 0x20091800, 32, 16, 1, 4, 0x00004E20#32,
  [⟨"EXPOSURE", 31, 0, .rw, 99, []⟩]⟩
def reg_CAM_EXP_ID : RegDesc := ⟨"CAM_EXP_ID", 0x20091804, 32, 16, 1, 4, 0x00001000#32,
  [⟨"SETTINGS_ID", 31, 16, .rw, 99, []⟩, ⟨"GAIN", 15, 0, .rw, 99, [(1, 65535)]⟩]⟩
def reg_CAM_EXP_CTRL : RegDesc := ⟨"CAM_EXP_CTRL", 0x20091808, 32, 16, 1, 4, 0x00000000#32,
  [⟨"ARM", 31, 31, .rw, 99, []⟩, ⟨"SUPERSEDED", 30, 30, .w1c, 99, []⟩, ⟨"CCI_FAIL", 29, 29, .w1c, 99, []⟩]⟩
def reg_CAM_EXP_IF : RegDesc := ⟨"CAM_EXP_IF", 0x2009180C, 32, 16, 1, 4, 0x00000000#32,
  [⟨"ID_IF", 31, 16, .ro, 99, []⟩, ⟨"ID_FRAME", 15, 0, .ro, 99, []⟩]⟩
def reg_CAM_LATCH : RegDesc := ⟨"CAM_LATCH", 0x20092400, 32, 4, 1, 4, 0x00000000#32,
  [⟨"AGE", 31, 24, .ro, 99, []⟩, ⟨"OVERTAKEN", 15, 0, .ro, 99, []⟩]⟩
def reg_CAM_CCNT0 : RegDesc := ⟨"CAM_CCNT0", 0x20094000, 32, 16, 1, 4, 0x00000000#32,
  [⟨"FRAMES", 31, 0, .ro, 99, []⟩]⟩
def reg_CAM_CCNT1 : RegDesc := ⟨"CAM_CCNT1", 0x20094004, 32, 16, 1, 4, 0x00000000#32,
  [⟨"DROPPED", 31, 16, .ro, 99, []⟩, ⟨"SKIPPED", 15, 0, .ro, 99, []⟩]⟩
def reg_CAM_CCNT2 : RegDesc := ⟨"CAM_CCNT2", 0x20094008, 32, 16, 1, 4, 0x00000000#32,
  [⟨"TRIG_LOST", 31, 16, .ro, 99, []⟩, ⟨"UNTRIG", 15, 0, .ro, 99, []⟩]⟩
def reg_CAM_CCNT3 : RegDesc := ⟨"CAM_CCNT3", 0x2009400C, 32, 16, 1, 4, 0x00000000#32,
  [⟨"FNUM_ERR", 31, 16, .ro, 99, []⟩, ⟨"TRIG_OVERLAP", 15, 0, .ro, 99, []⟩]⟩
def reg_CAM_DESC : RegDesc := ⟨"CAM_DESC", 0x20092000, 32, 32, 8, 4, 0x00000000#32,
  [⟨"WORD", 31, 0, .ro, 99, []⟩]⟩
def reg_CAM_STATS : RegDesc := ⟨"CAM_STATS", 0x20093000, 32, 128, 32, 4, 0x00000000#32,
  [⟨"WORD", 31, 0, .ro, 99, []⟩]⟩
def reg_CAM_CTX0 : RegDesc := ⟨"CAM_CTX0", 0x20091000, 32, 64, 1, 4, 0x002C0000#32,
  [⟨"DLOG_EN", 30, 30, .rw, 99, []⟩, ⟨"PORT", 29, 28, .rw, 99, []⟩, ⟨"VC", 27, 24, .rw, 99, []⟩, ⟨"DT", 21, 16, .rw, 99, [(42, 44), (46, 46)]⟩, ⟨"PRIORITY", 15, 12, .rw, 99, []⟩, ⟨"EXP_MODE", 11, 10, .rw, 99, [(0, 2)]⟩, ⟨"SENSOR_LATENCY", 9, 8, .rw, 99, []⟩, ⟨"TNR_EN", 7, 7, .rw, 99, []⟩, ⟨"SNR_EN", 6, 6, .rw, 99, []⟩, ⟨"SNR_5X5", 5, 5, .rw, 99, []⟩, ⟨"DEF_DYN", 4, 4, .rw, 99, []⟩, ⟨"WR_EN", 3, 3, .rw, 99, []⟩, ⟨"EMB_EN", 2, 2, .rw, 99, []⟩, ⟨"CRC_DROP", 1, 1, .rw, 99, []⟩]⟩
def reg_CAM_CTX1 : RegDesc := ⟨"CAM_CTX1", 0x20091004, 32, 64, 1, 4, 0x00400040#32,
  [⟨"FRAME_H", 29, 16, .rw, 99, [(1, 8192)]⟩, ⟨"FRAME_W", 12, 0, .rw, 99, [(1, 4096)]⟩]⟩
def reg_CAM_CTX2 : RegDesc := ⟨"CAM_CTX2", 0x20091008, 32, 64, 1, 4, 0x00000000#32,
  [⟨"ROI_Y0", 28, 16, .rw, 99, []⟩, ⟨"ROI_X0", 12, 0, .rw, 99, []⟩]⟩
def reg_CAM_CTX3 : RegDesc := ⟨"CAM_CTX3", 0x2009100C, 32, 64, 1, 4, 0x00000000#32,
  [⟨"ROI_H", 29, 16, .rw, 99, [(0, 8192)]⟩, ⟨"ROI_W", 12, 0, .rw, 99, []⟩]⟩
def reg_CAM_CTX4 : RegDesc := ⟨"CAM_CTX4", 0x20091010, 32, 64, 1, 4, 0x00000000#32,
  [⟨"BLACK", 31, 16, .rw, 99, []⟩, ⟨"SNR_THR", 15, 0, .rw, 99, []⟩]⟩
def reg_CAM_CTX5 : RegDesc := ⟨"CAM_CTX5", 0x20091014, 32, 64, 1, 4, 0x00008000#32,
  [⟨"TNR_THR", 31, 16, .rw, 99, []⟩, ⟨"TNR_K", 15, 8, .rw, 99, [(1, 255)]⟩, ⟨"TNR_BASE", 5, 0, .rw, 99, []⟩]⟩
def reg_CAM_CTX6 : RegDesc := ⟨"CAM_CTX6", 0x20091018, 32, 64, 1, 4, 0x80008000#32,
  [⟨"THR", 31, 16, .rw, 99, []⟩, ⟨"SPAT_THR", 15, 0, .rw, 99, []⟩]⟩
def reg_CAM_CTX7 : RegDesc := ⟨"CAM_CTX7", 0x2009101C, 32, 64, 1, 4, 0x00000000#32,
  [⟨"DEF_BASE", 29, 16, .rw, 99, []⟩, ⟨"DEF_COUNT", 14, 0, .rw, 99, [(0, 16384)]⟩]⟩
def reg_CAM_CTX8 : RegDesc := ⟨"CAM_CTX8", 0x20091020, 32, 64, 1, 4, 0x10001F28#32,
  [⟨"DYN_THR", 31, 16, .rw, 99, []⟩, ⟨"TRIG", 12, 8, .rw, 99, [(0, 16), (31, 31)]⟩, ⟨"TRIG_AGE", 7, 0, .rw, 99, [(1, 255)]⟩]⟩
def reg_CAM_CTX9 : RegDesc := ⟨"CAM_CTX9", 0x20091024, 32, 64, 1, 4, 0x00000000#32,
  [⟨"DEV", 30, 24, .rw, 99, []⟩, ⟨"EXP_REG", 23, 8, .rw, 99, []⟩, ⟨"EXP_BYTES", 5, 4, .rw, 99, []⟩, ⟨"PIER", 3, 0, .rw, 99, []⟩]⟩
def reg_CAM_CTX10 : RegDesc := ⟨"CAM_CTX10", 0x20091028, 32, 64, 1, 4, 0x00000010#32,
  [⟨"EXP_UNIT", 31, 0, .rw, 99, [(1, 4294967295)]⟩]⟩
def reg_CAM_CTX11 : RegDesc := ⟨"CAM_CTX11", 0x2009102C, 32, 64, 1, 4, 0x00000000#32,
  [⟨"WR_BASE_LO", 31, 8, .rw, 99, []⟩]⟩
def reg_CAM_CTX12 : RegDesc := ⟨"CAM_CTX12", 0x20091030, 32, 64, 1, 4, 0x00000000#32,
  [⟨"WR_BASE_HI", 7, 0, .rw, 99, []⟩]⟩
def reg_CAM_CTX13 : RegDesc := ⟨"CAM_CTX13", 0x20091034, 32, 64, 1, 4, 0x00000000#32,
  [⟨"STRIDE", 23, 0, .rw, 99, []⟩]⟩
def reg_CAM_CTX14 : RegDesc := ⟨"CAM_CTX14", 0x20091038, 32, 64, 1, 4, 0x00000000#32,
  [⟨"WR_COUNT", 7, 0, .rw, 99, []⟩]⟩

def regsCam0 : List RegDesc :=
  [reg_CAM_STATUS, reg_CAM_FLAGS, reg_CAM_FAULT_LAST, reg_CAM_CTX_APPLY, reg_CAM_CTX_PEND, reg_CAM_DLOG_CTRL, reg_CAM_DLOG_BASE_LO, reg_CAM_DLOG_BASE_HI, reg_CAM_DLOG_SIZE, reg_CAM_DLOG_WR, reg_CAM_DLOG_LOST, reg_CAM_DEF_SEL, reg_CAM_DEF_DATA, reg_CAM_PORT_CTRL, reg_CAM_PORT_MAP, reg_CAM_PORT_STAT, reg_CAM_PORT_CNT_A, reg_CAM_PORT_CNT_B, reg_CAM_PORT_CNT_C, reg_CAM_PORT_CNT_D]
def regsCam1 : List RegDesc :=
  [reg_CAM_CCI_CTRL, reg_CAM_CCI_STAT, reg_CAM_TRIG, reg_CAM_EXP, reg_CAM_EXP_ID, reg_CAM_EXP_CTRL, reg_CAM_EXP_IF, reg_CAM_LATCH, reg_CAM_CCNT0, reg_CAM_CCNT1, reg_CAM_CCNT2, reg_CAM_CCNT3, reg_CAM_DESC, reg_CAM_STATS, reg_CAM_CTX0, reg_CAM_CTX1, reg_CAM_CTX2, reg_CAM_CTX3, reg_CAM_CTX4, reg_CAM_CTX5]
def regsCam2 : List RegDesc :=
  [reg_CAM_CTX6, reg_CAM_CTX7, reg_CAM_CTX8, reg_CAM_CTX9, reg_CAM_CTX10, reg_CAM_CTX11, reg_CAM_CTX12, reg_CAM_CTX13, reg_CAM_CTX14]
/-- The registers of the CAM window. -/
def regsCam : List RegDesc :=
  regsCam0 ++ regsCam1 ++ regsCam2

/-! AXS window (SOURCE 0Ah), from spec/12_axis_control.md. -/

def reg_AXS_STATUS : RegDesc := ⟨"AXS_STATUS", 0x200A0000, 1, 4, 1, 4, 0x00000000#32,
  [⟨"REFERENCED", 21, 16, .ro, 99, []⟩, ⟨"MOVING", 5, 0, .ro, 99, []⟩]⟩
def reg_AXS_FAULT_LAST : RegDesc := ⟨"AXS_FAULT_LAST", 0x200A0004, 1, 4, 1, 4, 0x00000000#32,
  [⟨"VALID", 31, 31, .ro, 99, []⟩, ⟨"AXIS", 18, 16, .ro, 99, []⟩, ⟨"CODE", 9, 0, .ro, 99, []⟩]⟩
def reg_AXS_SINE : RegDesc := ⟨"AXS_SINE", 0x200A1000, 1024, 4, 1, 4, 0x00000000#32,
  [⟨"S", 15, 0, .rw, 99, []⟩]⟩
def reg_AXS_CMD : RegDesc := ⟨"AXS_CMD", 0x200A0160, 6, 256, 1, 4, 0x00000000#32,
  [⟨"OP", 2, 0, .wo, 99, [(1, 6)]⟩]⟩
def reg_AXS_TGT : RegDesc := ⟨"AXS_TGT", 0x200A0164, 6, 256, 1, 4, 0x00000000#32,
  [⟨"TGT", 31, 0, .rw, 99, []⟩]⟩
def reg_AXS_SPD : RegDesc := ⟨"AXS_SPD", 0x200A0168, 6, 256, 1, 4, 0x00000FA0#32,
  [⟨"SPD", 31, 0, .rw, 99, [(1, 4294967295)]⟩]⟩
def reg_AXS_ACC : RegDesc := ⟨"AXS_ACC", 0x200A016C, 6, 256, 1, 4, 0x000186A0#32,
  [⟨"ACC", 31, 0, .rw, 99, [(1, 4294967295)]⟩]⟩
def reg_AXS_JRK : RegDesc := ⟨"AXS_JRK", 0x200A0170, 6, 256, 1, 4, 0x00000000#32,
  [⟨"JRK", 31, 0, .rw, 99, []⟩]⟩
def reg_AXS_STAT : RegDesc := ⟨"AXS_STAT", 0x200A0174, 6, 256, 1, 4, 0x08000000#32,
  [⟨"REFERENCED", 31, 31, .ro, 99, []⟩, ⟨"HOME_ACT", 30, 30, .ro, 99, []⟩, ⟨"LIMP_ACT", 29, 29, .ro, 99, []⟩, ⟨"LIMN_ACT", 28, 28, .ro, 99, []⟩, ⟨"DIR", 27, 27, .ro, 99, []⟩, ⟨"ZSEEN", 26, 26, .ro, 99, []⟩, ⟨"CUR", 25, 24, .ro, 99, []⟩, ⟨"VEL_MODE", 3, 3, .ro, 99, []⟩, ⟨"STATE", 2, 0, .ro, 99, []⟩]⟩
def reg_AXS_POS : RegDesc := ⟨"AXS_POS", 0x200A0178, 6, 256, 1, 4, 0x00000000#32,
  [⟨"POS", 31, 0, .ro, 99, []⟩]⟩
def reg_AXS_VEL : RegDesc := ⟨"AXS_VEL", 0x200A017C, 6, 256, 1, 4, 0x00000000#32,
  [⟨"VEL", 31, 0, .ro, 99, []⟩]⟩
def reg_AXS_ENC : RegDesc := ⟨"AXS_ENC", 0x200A0180, 6, 256, 1, 4, 0x00000000#32,
  [⟨"ENC", 31, 0, .ro, 99, []⟩]⟩
def reg_AXS_ENC_H : RegDesc := ⟨"AXS_ENC_H", 0x200A0184, 6, 256, 1, 4, 0x00000000#32,
  [⟨"ENC_H", 31, 0, .ro, 99, []⟩]⟩
def reg_AXS_SPEED : RegDesc := ⟨"AXS_SPEED", 0x200A0188, 6, 256, 1, 4, 0x00000000#32,
  [⟨"SPEED", 31, 0, .ro, 99, []⟩]⟩
def reg_AXS_DEV : RegDesc := ⟨"AXS_DEV", 0x200A018C, 6, 256, 1, 4, 0x00000000#32,
  [⟨"DEV", 31, 0, .ro, 99, []⟩]⟩
def reg_AXS_LATCH : RegDesc := ⟨"AXS_LATCH", 0x200A0190, 6, 256, 1, 4, 0x00000000#32,
  [⟨"LATCH", 31, 0, .ro, 99, []⟩]⟩
def reg_AXS_ENC_REF : RegDesc := ⟨"AXS_ENC_REF", 0x200A0194, 6, 256, 1, 4, 0x00000000#32,
  [⟨"ENC_REF", 31, 0, .ro, 99, []⟩]⟩
def reg_AXS_ZLAT : RegDesc := ⟨"AXS_ZLAT", 0x200A0198, 6, 256, 1, 4, 0x00000000#32,
  [⟨"ZLAT", 31, 0, .ro, 99, []⟩]⟩
def reg_AXS_CMP : RegDesc := ⟨"AXS_CMP", 0x200A019C, 6, 256, 1, 4, 0x00000000#32,
  [⟨"CMP", 31, 0, .rw, 99, []⟩]⟩
def reg_AXS_CMP_CTRL : RegDesc := ⟨"AXS_CMP_CTRL", 0x200A01A0, 6, 256, 1, 4, 0x00000000#32,
  [⟨"ARMED", 31, 31, .ro, 99, []⟩, ⟨"FIRED", 30, 30, .w1c, 99, []⟩, ⟨"COMPARE_BEHIND", 29, 29, .w1c, 99, []⟩, ⟨"CMP_SRC", 0, 0, .rw, 99, []⟩]⟩
def reg_AXS_CMP_TICK_LO : RegDesc := ⟨"AXS_CMP_TICK_LO", 0x200A01A4, 6, 256, 1, 4, 0x00000000#32,
  [⟨"TICK_LO", 31, 0, .ro, 99, []⟩]⟩
def reg_AXS_CMP_TICK_HI : RegDesc := ⟨"AXS_CMP_TICK_HI", 0x200A01A8, 6, 256, 1, 4, 0x00000000#32,
  [⟨"TICK_HI", 31, 0, .ro, 99, []⟩]⟩
def reg_AXS_CMP_POS : RegDesc := ⟨"AXS_CMP_POS", 0x200A01AC, 6, 256, 1, 4, 0x00000000#32,
  [⟨"CMP_POS", 31, 0, .ro, 99, []⟩]⟩
def reg_AXS_FLAGS : RegDesc := ⟨"AXS_FLAGS", 0x200A01B0, 6, 256, 1, 4, 0x00000000#32,
  [⟨"WRITE_REFUSED", 10, 10, .w1c, 99, []⟩, ⟨"ACC_DEFERRED", 9, 9, .w1c, 99, []⟩, ⟨"SOFT", 8, 8, .w1c, 99, []⟩, ⟨"SSI_ERR", 7, 7, .w1c, 99, []⟩, ⟨"EDGE_FAST", 6, 6, .w1c, 99, []⟩, ⟨"ILLEGAL", 5, 5, .w1c, 99, []⟩, ⟨"HOME_FAIL", 4, 4, .w1c, 99, []⟩, ⟨"HOME_LIMIT", 3, 3, .w1c, 99, []⟩, ⟨"LIMIT", 2, 2, .w1c, 99, []⟩, ⟨"STALL", 1, 1, .w1c, 99, []⟩]⟩
def reg_AXS_CNT_A : RegDesc := ⟨"AXS_CNT_A", 0x200A01B4, 6, 256, 1, 4, 0x00000000#32,
  [⟨"ILLEGAL", 31, 16, .ro, 99, []⟩, ⟨"EDGE_FAST", 15, 0, .ro, 99, []⟩]⟩
def reg_AXS_CNT_B : RegDesc := ⟨"AXS_CNT_B", 0x200A01B8, 6, 256, 1, 4, 0x00000000#32,
  [⟨"SSI_ERR", 31, 16, .ro, 99, []⟩, ⟨"STEP_DROP", 15, 0, .ro, 99, []⟩]⟩
def reg_AXS_CFG0 : RegDesc := ⟨"AXS_CFG0", 0x200A0100, 6, 256, 1, 4, 0x00F40000#32,
  [⟨"EN", 31, 31, .rw, 99, []⟩, ⟨"SRC", 30, 30, .rw, 99, []⟩, ⟨"ENC", 29, 28, .rw, 99, []⟩, ⟨"ENC_INV", 27, 27, .rw, 99, []⟩, ⟨"DIR_INV", 26, 26, .rw, 99, []⟩, ⟨"USE_Z", 25, 25, .rw, 99, []⟩, ⟨"HOME_DIR", 24, 24, .rw, 99, []⟩, ⟨"HOME_POL", 23, 23, .rw, 99, []⟩, ⟨"LIMP_POL", 22, 22, .rw, 99, []⟩, ⟨"LIMN_POL", 21, 21, .rw, 99, []⟩, ⟨"Z_POL", 20, 20, .rw, 99, []⟩, ⟨"SOFT_EN", 19, 19, .rw, 99, []⟩, ⟨"INTERP_EN", 18, 18, .rw, 99, []⟩]⟩
def reg_AXS_CFG1 : RegDesc := ⟨"AXS_CFG1", 0x200A0104, 6, 256, 1, 4, 0x000F4240#32,
  [⟨"V_MAX", 31, 0, .rw, 99, [(1, 1000000)]⟩]⟩
def reg_AXS_CFG2 : RegDesc := ⟨"AXS_CFG2", 0x200A0108, 6, 256, 1, 4, 0x00989680#32,
  [⟨"A_MAX", 31, 0, .rw, 99, [(1, 100000000)]⟩]⟩
def reg_AXS_CFG3 : RegDesc := ⟨"AXS_CFG3", 0x200A010C, 6, 256, 1, 4, 0x3B9ACA00#32,
  [⟨"J_MAX", 31, 0, .rw, 99, [(1, 4294967295)]⟩]⟩
def reg_AXS_CFG4 : RegDesc := ⟨"AXS_CFG4", 0x200A0110, 6, 256, 1, 4, 0x00989680#32,
  [⟨"DEC_LIMIT", 31, 0, .rw, 99, [(1, 100000000)]⟩]⟩
def reg_AXS_CFG5 : RegDesc := ⟨"AXS_CFG5", 0x200A0114, 6, 256, 1, 4, 0x00000064#32,
  [⟨"I_RUN", 31, 24, .rw, 99, []⟩, ⟨"I_HOLD", 23, 16, .rw, 99, []⟩, ⟨"I_HOME", 15, 8, .rw, 99, []⟩, ⟨"HOLD_DELAY", 7, 0, .rw, 99, []⟩]⟩
def reg_AXS_CFG6 : RegDesc := ⟨"AXS_CFG6", 0x200A0118, 6, 256, 1, 4, 0x00000FA0#32,
  [⟨"PWM_PERIOD", 15, 0, .rw, 99, [(400, 16000)]⟩]⟩
def reg_AXS_CFG7 : RegDesc := ⟨"AXS_CFG7", 0x200A011C, 6, 256, 1, 4, 0x00010000#32,
  [⟨"ENC_SCALE", 31, 0, .rw, 99, []⟩]⟩
def reg_AXS_CFG8 : RegDesc := ⟨"AXS_CFG8", 0x200A0120, 6, 256, 1, 4, 0x00000000#32,
  [⟨"DEV_WIN", 15, 0, .rw, 99, []⟩]⟩
def reg_AXS_CFG9 : RegDesc := ⟨"AXS_CFG9", 0x200A0124, 6, 256, 1, 4, 0x00000A00#32,
  [⟨"MIN_EDGE", 29, 24, .rw, 99, []⟩, ⟨"SPEED_TO", 15, 8, .rw, 99, [(1, 255)]⟩]⟩
def reg_AXS_CFG10 : RegDesc := ⟨"AXS_CFG10", 0x200A0128, 6, 256, 1, 4, 0x200A0064#32,
  [⟨"SSI_BITS", 29, 24, .rw, 99, [(8, 32)]⟩, ⟨"SSI_PERIOD", 23, 16, .rw, 99, [(1, 255)]⟩, ⟨"SSI_HALF", 10, 0, .rw, 99, [(50, 2000)]⟩]⟩
def reg_AXS_CFG11 : RegDesc := ⟨"AXS_CFG11", 0x200A012C, 6, 256, 1, 4, 0x00140000#32,
  [⟨"SSI_PAUSE", 31, 16, .rw, 99, [(1, 65535)]⟩, ⟨"SSI_DELAY", 15, 8, .rw, 99, []⟩]⟩
def reg_AXS_CFG12 : RegDesc := ⟨"AXS_CFG12", 0x200A0130, 6, 256, 1, 4, 0x00001000#32,
  [⟨"SSI_MAX_DELTA", 31, 0, .rw, 99, [(1, 2147483647)]⟩]⟩
def reg_AXS_CFG13 : RegDesc := ⟨"AXS_CFG13", 0x200A0134, 6, 256, 1, 4, 0x00000FA0#32,
  [⟨"HOME_SPEED", 31, 0, .rw, 99, [(1, 4294967295)]⟩]⟩
def reg_AXS_CFG14 : RegDesc := ⟨"AXS_CFG14", 0x200A0138, 6, 256, 1, 4, 0x000186A0#32,
  [⟨"HOME_ACC", 31, 0, .rw, 99, [(1, 4294967295)]⟩]⟩
def reg_AXS_CFG15 : RegDesc := ⟨"AXS_CFG15", 0x200A013C, 6, 256, 1, 4, 0x00000000#32,
  [⟨"HOME_OFS", 31, 0, .rw, 99, []⟩]⟩
def reg_AXS_CFG16 : RegDesc := ⟨"AXS_CFG16", 0x200A0140, 6, 256, 1, 4, 0x00000000#32,
  [⟨"HOME_BACKOFF", 31, 0, .rw, 99, [(0, 2147483647)]⟩]⟩
def reg_AXS_CFG17 : RegDesc := ⟨"AXS_CFG17", 0x200A0144, 6, 256, 1, 4, 0x7FFFFFFF#32,
  [⟨"HOME_MAX_DIST", 31, 0, .rw, 99, [(1, 2147483647)]⟩]⟩
def reg_AXS_CFG18 : RegDesc := ⟨"AXS_CFG18", 0x200A0148, 6, 256, 1, 4, 0x00050000#32,
  [⟨"DEBOUNCE", 31, 16, .rw, 99, []⟩]⟩
def reg_AXS_CFG19 : RegDesc := ⟨"AXS_CFG19", 0x200A014C, 6, 256, 1, 4, 0x80000000#32,
  [⟨"SOFT_MIN", 31, 0, .rw, 99, []⟩]⟩
def reg_AXS_CFG20 : RegDesc := ⟨"AXS_CFG20", 0x200A0150, 6, 256, 1, 4, 0x7FFFFFFF#32,
  [⟨"SOFT_MAX", 31, 0, .rw, 99, []⟩]⟩
def reg_AXS_CFG21 : RegDesc := ⟨"AXS_CFG21", 0x200A0154, 6, 256, 1, 4, 0x000003E8#32,
  [⟨"INTERP_TMAX", 15, 0, .rw, 99, [(1, 65535)]⟩]⟩

def regsAxs0 : List RegDesc :=
  [reg_AXS_STATUS, reg_AXS_FAULT_LAST, reg_AXS_SINE, reg_AXS_CMD, reg_AXS_TGT, reg_AXS_SPD, reg_AXS_ACC, reg_AXS_JRK, reg_AXS_STAT, reg_AXS_POS, reg_AXS_VEL, reg_AXS_ENC, reg_AXS_ENC_H, reg_AXS_SPEED, reg_AXS_DEV, reg_AXS_LATCH, reg_AXS_ENC_REF, reg_AXS_ZLAT, reg_AXS_CMP, reg_AXS_CMP_CTRL]
def regsAxs1 : List RegDesc :=
  [reg_AXS_CMP_TICK_LO, reg_AXS_CMP_TICK_HI, reg_AXS_CMP_POS, reg_AXS_FLAGS, reg_AXS_CNT_A, reg_AXS_CNT_B, reg_AXS_CFG0, reg_AXS_CFG1, reg_AXS_CFG2, reg_AXS_CFG3, reg_AXS_CFG4, reg_AXS_CFG5, reg_AXS_CFG6, reg_AXS_CFG7, reg_AXS_CFG8, reg_AXS_CFG9, reg_AXS_CFG10, reg_AXS_CFG11, reg_AXS_CFG12, reg_AXS_CFG13]
def regsAxs2 : List RegDesc :=
  [reg_AXS_CFG14, reg_AXS_CFG15, reg_AXS_CFG16, reg_AXS_CFG17, reg_AXS_CFG18, reg_AXS_CFG19, reg_AXS_CFG20, reg_AXS_CFG21]
/-- The registers of the AXS window. -/
def regsAxs : List RegDesc :=
  regsAxs0 ++ regsAxs1 ++ regsAxs2

/-! DMC window (SOURCE 0Bh), from spec/13_memory_dma.md. -/

def reg_DMC_CFG : RegDesc := ⟨"DMC_CFG", 0x200B0000, 1, 4, 1, 4, 0x000000E0#32,
  [⟨"CMD_2N", 8, 8, .rw, 99, []⟩, ⟨"DBI_WR", 7, 7, .rw, 99, []⟩, ⟨"DBI_RD", 6, 6, .rw, 99, []⟩, ⟨"CA_PAR_EN", 5, 5, .rw, 99, []⟩, ⟨"RANKS", 1, 1, .rw, 99, []⟩, ⟨"DENSITY", 0, 0, .rw, 99, []⟩]⟩
def reg_DMC_CTRL : RegDesc := ⟨"DMC_CTRL", 0x200B0004, 1, 4, 1, 4, 0x00000000#32,
  [⟨"TRAIN", 0, 0, .wo, 99, []⟩]⟩
def reg_DMC_STATUS : RegDesc := ⟨"DMC_STATUS", 0x200B0008, 1, 4, 1, 4, 0x000F0000#32,
  [⟨"READY", 31, 31, .ro, 99, []⟩, ⟨"TRAINING", 30, 30, .ro, 99, []⟩, ⟨"STEP", 23, 20, .ro, 99, []⟩, ⟨"LANE", 19, 16, .ro, 99, []⟩, ⟨"CH", 15, 15, .ro, 99, []⟩, ⟨"SIZE", 6, 0, .ro, 99, []⟩]⟩
def reg_DMC_FLAGS : RegDesc := ⟨"DMC_FLAGS", 0x200B000C, 1, 4, 1, 4, 0x00000000#32,
  [⟨"WRITE_REFUSED", 7, 7, .w1c, 99, []⟩, ⟨"TRAIN_FAIL", 6, 6, .w1c, 99, []⟩, ⟨"PAR_ALERT", 5, 5, .w1c, 99, []⟩, ⟨"PAR_FATAL", 4, 4, .w1c, 99, []⟩, ⟨"CE_THRESH", 3, 3, .w1c, 99, []⟩, ⟨"UE", 2, 2, .w1c, 99, []⟩, ⟨"SCRUB_UE", 1, 1, .w1c, 99, []⟩, ⟨"THROTTLED", 0, 0, .w1c, 99, []⟩]⟩
def reg_DMC_FAULT_LAST : RegDesc := ⟨"DMC_FAULT_LAST", 0x200B0010, 1, 4, 1, 4, 0x00000000#32,
  [⟨"VALID", 31, 31, .ro, 99, []⟩, ⟨"CH", 16, 16, .ro, 99, []⟩, ⟨"CODE", 9, 0, .ro, 99, []⟩]⟩
def reg_DMC_PD : RegDesc := ⟨"DMC_PD", 0x200B0014, 1, 4, 1, 4, 0x00000100#32,
  [⟨"PD_IDLE", 15, 0, .rw, 99, []⟩]⟩
def reg_DMC_REF_CTRL : RegDesc := ⟨"DMC_REF_CTRL", 0x200B0018, 1, 4, 1, 4, 0x00000008#32,
  [⟨"REF_2X", 8, 8, .rw, 99, []⟩, ⟨"POSTPONE_MAX", 3, 0, .rw, 99, [(0, 8)]⟩]⟩
def reg_DMC_TIM_A : RegDesc := ⟨"DMC_TIM_A", 0x200B0020, 1, 4, 1, 4, 0x34161616#32,
  [⟨"TRAS", 31, 24, .rw, 99, [(1, 255)]⟩, ⟨"TRP", 23, 16, .rw, 99, [(1, 255)]⟩, ⟨"TRCD", 15, 8, .rw, 99, [(1, 255)]⟩, ⟨"CL", 7, 0, .rw, 99, [(1, 255)]⟩]⟩
def reg_DMC_TIM_B : RegDesc := ⟨"DMC_TIM_B", 0x200B0024, 1, 4, 1, 4, 0x4A221810#32,
  [⟨"TRC", 31, 24, .rw, 99, [(1, 255)]⟩, ⟨"TFAW", 23, 16, .rw, 99, [(1, 255)]⟩, ⟨"TWR", 15, 8, .rw, 99, [(1, 255)]⟩, ⟨"CWL", 7, 0, .rw, 99, [(1, 255)]⟩]⟩
def reg_DMC_TIM_C : RegDesc := ⟨"DMC_TIM_C", 0x200B0028, 1, 4, 1, 4, 0x0C0C0484#32,
  [⟨"TRTP", 31, 24, .rw, 99, [(1, 255)]⟩, ⟨"TWTR_L", 23, 16, .rw, 99, [(1, 255)]⟩, ⟨"TWTR_S", 15, 8, .rw, 99, [(1, 255)]⟩, ⟨"TRRD_L", 7, 4, .rw, 99, [(1, 15)]⟩, ⟨"TRRD_S", 3, 0, .rw, 99, [(1, 15)]⟩]⟩
def reg_DMC_TIM_D : RegDesc := ⟨"DMC_TIM_D", 0x200B002C, 1, 4, 1, 4, 0x30C00370#32,
  [⟨"TREFI", 31, 16, .rw, 99, [(1, 65535)]⟩, ⟨"TRFC", 11, 0, .rw, 99, [(1, 4095)]⟩]⟩
def reg_DMC_RH_THRESH : RegDesc := ⟨"DMC_RH_THRESH", 0x200B0030, 1, 4, 1, 4, 0x000007D0#32,
  [⟨"THRESH", 15, 0, .rw, 99, [(256, 65535)]⟩]⟩
def reg_DMC_RH_EVICT : RegDesc := ⟨"DMC_RH_EVICT", 0x200B0034, 1, 4, 1, 4, 0x01400200#32,
  [⟨"GAP", 31, 16, .rw, 99, [(16, 65535)]⟩, ⟨"LIMIT", 15, 0, .rw, 99, [(1, 65535)]⟩]⟩
def reg_DMC_RH_REFRESH : RegDesc := ⟨"DMC_RH_REFRESH", 0x200B0038, 1, 4, 1, 4, 0x00000000#32,
  [⟨"REFRESH", 31, 0, .ro, 99, []⟩]⟩
def reg_DMC_RH_EVICTED : RegDesc := ⟨"DMC_RH_EVICTED", 0x200B003C, 1, 4, 1, 4, 0x00000000#32,
  [⟨"EVICTED", 31, 0, .ro, 99, []⟩]⟩
def reg_DMC_THROTTLE_LAST : RegDesc := ⟨"DMC_THROTTLE_LAST", 0x200B0040, 1, 4, 1, 4, 0x00000000#32,
  [⟨"VALID", 31, 31, .ro, 99, []⟩, ⟨"ACTIVE", 30, 30, .ro, 99, []⟩, ⟨"REQ", 29, 24, .ro, 99, []⟩, ⟨"EPISODES", 15, 0, .ro, 99, []⟩]⟩
def reg_DMC_SCRUB_CTRL : RegDesc := ⟨"DMC_SCRUB_CTRL", 0x200B0044, 1, 4, 1, 4, 0x80015180#32,
  [⟨"EN", 31, 31, .rw, 99, []⟩, ⟨"PERIOD", 19, 0, .rw, 99, [(300, 604800)]⟩]⟩
def reg_DMC_SCRUB_POS_LO : RegDesc := ⟨"DMC_SCRUB_POS_LO", 0x200B0048, 1, 4, 1, 4, 0x00000000#32,
  [⟨"POS_LO", 31, 6, .ro, 99, []⟩]⟩
def reg_DMC_SCRUB_POS_HI : RegDesc := ⟨"DMC_SCRUB_POS_HI", 0x200B004C, 1, 4, 1, 4, 0x00000000#32,
  [⟨"POS_HI", 7, 0, .ro, 99, []⟩]⟩
def reg_DMC_SCRUB_PASS : RegDesc := ⟨"DMC_SCRUB_PASS", 0x200B0050, 1, 4, 1, 4, 0x00000000#32,
  [⟨"PASSES", 31, 0, .ro, 99, []⟩]⟩
def reg_DMC_ECC_THRESH : RegDesc := ⟨"DMC_ECC_THRESH", 0x200B0054, 1, 4, 1, 4, 0x00000064#32,
  [⟨"CE_THRESH", 15, 0, .rw, 99, [(1, 65535)]⟩]⟩
def reg_DMC_ECC_CLEAR : RegDesc := ⟨"DMC_ECC_CLEAR", 0x200B0058, 1, 4, 1, 4, 0x00000000#32,
  [⟨"CLEAR", 0, 0, .wo, 99, []⟩]⟩
def reg_DMC_ECC_LAST : RegDesc := ⟨"DMC_ECC_LAST", 0x200B0070, 1, 4, 1, 4, 0x00000000#32,
  [⟨"VALID", 31, 31, .ro, 99, []⟩, ⟨"UE", 30, 30, .ro, 99, []⟩, ⟨"SCRUB", 29, 29, .ro, 99, []⟩, ⟨"CH", 28, 28, .ro, 99, []⟩, ⟨"RANK", 27, 27, .ro, 99, []⟩, ⟨"BEAT", 26, 24, .ro, 99, []⟩, ⟨"REQ", 23, 18, .ro, 99, []⟩, ⟨"SYNDROME", 7, 0, .ro, 99, []⟩]⟩
def reg_DMC_ECC_ADDR_LO : RegDesc := ⟨"DMC_ECC_ADDR_LO", 0x200B0074, 1, 4, 1, 4, 0x00000000#32,
  [⟨"ADDR_LO", 31, 0, .ro, 99, []⟩]⟩
def reg_DMC_ECC_ADDR_HI : RegDesc := ⟨"DMC_ECC_ADDR_HI", 0x200B0078, 1, 4, 1, 4, 0x00000000#32,
  [⟨"ADDR_HI", 7, 0, .ro, 99, []⟩]⟩
def reg_DMC_PAR : RegDesc := ⟨"DMC_PAR", 0x200B0080, 2, 4, 1, 4, 0x00000000#32,
  [⟨"FATAL", 31, 31, .ro, 99, []⟩, ⟨"ALERTS", 30, 16, .ro, 99, []⟩, ⟨"REPLAYS", 15, 0, .ro, 99, []⟩]⟩
def reg_DMC_PORT_BYTES : RegDesc := ⟨"DMC_PORT_BYTES", 0x200B0100, 7, 4, 1, 4, 0x00000000#32,
  [⟨"BURSTS", 31, 0, .ro, 99, []⟩]⟩
def reg_DMC_TRAIN : RegDesc := ⟨"DMC_TRAIN", 0x200B0200, 2, 64, 9, 4, 0x00000000#32,
  [⟨"WL", 31, 24, .ro, 99, []⟩, ⟨"GATE", 23, 16, .ro, 99, []⟩, ⟨"RD_EYE", 15, 8, .ro, 99, []⟩, ⟨"WR_EYE", 7, 0, .ro, 99, []⟩]⟩
def reg_DMC_VREF : RegDesc := ⟨"DMC_VREF", 0x200B0224, 2, 64, 1, 4, 0x00000000#32,
  [⟨"RANK1", 13, 8, .ro, 99, []⟩, ⟨"RANK0", 5, 0, .ro, 99, []⟩]⟩
def reg_DMC_ECC_CNT : RegDesc := ⟨"DMC_ECC_CNT", 0x200B0060, 2, 8, 2, 4, 0x00000000#32,
  [⟨"CE", 31, 16, .ro, 99, []⟩, ⟨"UE", 15, 0, .ro, 99, []⟩]⟩

def regsDmc0 : List RegDesc :=
  [reg_DMC_CFG, reg_DMC_CTRL, reg_DMC_STATUS, reg_DMC_FLAGS, reg_DMC_FAULT_LAST, reg_DMC_PD, reg_DMC_REF_CTRL, reg_DMC_TIM_A, reg_DMC_TIM_B, reg_DMC_TIM_C, reg_DMC_TIM_D, reg_DMC_RH_THRESH, reg_DMC_RH_EVICT, reg_DMC_RH_REFRESH, reg_DMC_RH_EVICTED, reg_DMC_THROTTLE_LAST, reg_DMC_SCRUB_CTRL, reg_DMC_SCRUB_POS_LO, reg_DMC_SCRUB_POS_HI, reg_DMC_SCRUB_PASS]
def regsDmc1 : List RegDesc :=
  [reg_DMC_ECC_THRESH, reg_DMC_ECC_CLEAR, reg_DMC_ECC_LAST, reg_DMC_ECC_ADDR_LO, reg_DMC_ECC_ADDR_HI, reg_DMC_PAR, reg_DMC_PORT_BYTES, reg_DMC_TRAIN, reg_DMC_VREF, reg_DMC_ECC_CNT]
/-- The registers of the DMC window. -/
def regsDmc : List RegDesc :=
  regsDmc0 ++ regsDmc1

/-! DMA window (SOURCE 0Ch), from spec/13_memory_dma.md. -/

def reg_DMA_STATUS : RegDesc := ⟨"DMA_STATUS", 0x200C0000, 1, 4, 1, 4, 0x00000000#32,
  [⟨"HALTED", 31, 31, .ro, 99, []⟩, ⟨"OUTSTANDING", 6, 0, .ro, 99, []⟩]⟩
def reg_DMA_ACTIVE : RegDesc := ⟨"DMA_ACTIVE", 0x200C0004, 1, 4, 1, 4, 0x00000000#32,
  [⟨"ACTIVE", 31, 0, .ro, 99, []⟩]⟩
def reg_DMA_CLEAR : RegDesc := ⟨"DMA_CLEAR", 0x200C0008, 1, 4, 1, 4, 0x00000000#32,
  [⟨"HALT", 0, 0, .wo, 99, []⟩]⟩
def reg_DMA_FLAGS : RegDesc := ⟨"DMA_FLAGS", 0x200C000C, 1, 4, 1, 4, 0x00000000#32,
  [⟨"WRITE_REFUSED", 0, 0, .w1c, 99, []⟩]⟩
def reg_DMA_IRQ_HALF : RegDesc := ⟨"DMA_IRQ_HALF", 0x200C0010, 1, 4, 1, 4, 0x00000000#32,
  [⟨"HALF", 31, 0, .w1c, 99, []⟩]⟩
def reg_DMA_IRQ_FULL : RegDesc := ⟨"DMA_IRQ_FULL", 0x200C0014, 1, 4, 1, 4, 0x00000000#32,
  [⟨"FULL", 31, 0, .w1c, 99, []⟩]⟩
def reg_DMA_IRQ_ERR : RegDesc := ⟨"DMA_IRQ_ERR", 0x200C0018, 1, 4, 1, 4, 0x00000000#32,
  [⟨"ERR", 31, 0, .w1c, 99, []⟩]⟩
def reg_DMA_FAULT_LAST : RegDesc := ⟨"DMA_FAULT_LAST", 0x200C001C, 1, 4, 1, 4, 0x00000000#32,
  [⟨"VALID", 31, 31, .ro, 99, []⟩, ⟨"CHANNEL", 20, 16, .ro, 99, []⟩, ⟨"CODE", 9, 0, .ro, 99, []⟩]⟩
def reg_DMA_ERR_ADDR_LO : RegDesc := ⟨"DMA_ERR_ADDR_LO", 0x200C0020, 1, 4, 1, 4, 0x00000000#32,
  [⟨"ADDR_LO", 31, 0, .ro, 99, []⟩]⟩
def reg_DMA_ERR_ADDR_HI : RegDesc := ⟨"DMA_ERR_ADDR_HI", 0x200C0024, 1, 4, 1, 4, 0x00000000#32,
  [⟨"ADDR_HI", 7, 0, .ro, 99, []⟩]⟩
def reg_DMA_SRC_LO : RegDesc := ⟨"DMA_SRC_LO", 0x200C0100, 32, 32, 1, 4, 0x00000000#32,
  [⟨"SRC_LO", 31, 0, .rw, 99, []⟩]⟩
def reg_DMA_SRC_HI : RegDesc := ⟨"DMA_SRC_HI", 0x200C0104, 32, 32, 1, 4, 0x00000000#32,
  [⟨"SRC_HI", 7, 0, .rw, 99, []⟩]⟩
def reg_DMA_DST_LO : RegDesc := ⟨"DMA_DST_LO", 0x200C0108, 32, 32, 1, 4, 0x00000000#32,
  [⟨"DST_LO", 31, 0, .rw, 99, []⟩]⟩
def reg_DMA_DST_HI : RegDesc := ⟨"DMA_DST_HI", 0x200C010C, 32, 32, 1, 4, 0x00000000#32,
  [⟨"DST_HI", 7, 0, .rw, 99, []⟩]⟩
def reg_DMA_LEN : RegDesc := ⟨"DMA_LEN", 0x200C0110, 32, 32, 1, 4, 0x00000000#32,
  [⟨"LEN", 31, 0, .rw, 99, []⟩]⟩
def reg_DMA_CTRL : RegDesc := ⟨"DMA_CTRL", 0x200C0114, 32, 32, 1, 4, 0x00000200#32,
  [⟨"START", 31, 31, .wo, 99, []⟩, ⟨"STOP", 30, 30, .wo, 99, []⟩, ⟨"BURST", 9, 8, .rw, 99, [(0, 2)]⟩, ⟨"HALF_IE", 6, 6, .rw, 99, []⟩, ⟨"FULL_IE", 5, 5, .rw, 99, []⟩, ⟨"ALLOW_OVERLAP", 3, 3, .rw, 99, []⟩, ⟨"DST_FIX", 2, 2, .rw, 99, []⟩, ⟨"SRC_FIX", 1, 1, .rw, 99, []⟩]⟩
def reg_DMA_STAT : RegDesc := ⟨"DMA_STAT", 0x200C0118, 32, 32, 1, 4, 0x00000000#32,
  [⟨"STATE", 31, 29, .ro, 99, []⟩, ⟨"QUEUED", 28, 28, .ro, 99, []⟩, ⟨"LATE_ERR", 27, 27, .w1c, 99, []⟩, ⟨"REFUSED", 26, 26, .w1c, 99, []⟩, ⟨"ERR", 19, 16, .ro, 99, []⟩]⟩
def reg_DMA_DONE : RegDesc := ⟨"DMA_DONE", 0x200C011C, 32, 32, 1, 4, 0x00000000#32,
  [⟨"DONE", 31, 0, .ro, 99, []⟩]⟩

def regsDma0 : List RegDesc :=
  [reg_DMA_STATUS, reg_DMA_ACTIVE, reg_DMA_CLEAR, reg_DMA_FLAGS, reg_DMA_IRQ_HALF, reg_DMA_IRQ_FULL, reg_DMA_IRQ_ERR, reg_DMA_FAULT_LAST, reg_DMA_ERR_ADDR_LO, reg_DMA_ERR_ADDR_HI, reg_DMA_SRC_LO, reg_DMA_SRC_HI, reg_DMA_DST_LO, reg_DMA_DST_HI, reg_DMA_LEN, reg_DMA_CTRL, reg_DMA_STAT, reg_DMA_DONE]
/-- The registers of the DMA window. -/
def regsDma : List RegDesc :=
  regsDma0

/-! DSP window (SOURCE 0Dh), from spec/14_display.md. -/

def reg_DSP_CTRL : RegDesc := ⟨"DSP_CTRL", 0x200D0000, 1, 4, 1, 4, 0x00000000#32,
  [⟨"BL_EN", 1, 1, .rw, 99, []⟩, ⟨"SCAN_EN", 0, 0, .rw, 99, []⟩]⟩
def reg_DSP_STATUS : RegDesc := ⟨"DSP_STATUS", 0x200D0004, 1, 4, 1, 4, 0x00000000#32,
  [⟨"LINK_UP", 31, 31, .ro, 99, []⟩, ⟨"TRAINING", 30, 30, .ro, 99, []⟩, ⟨"STATIC", 29, 29, .ro, 99, []⟩, ⟨"BLANK", 28, 28, .ro, 99, []⟩, ⟨"ACC_BUSY", 27, 27, .ro, 99, []⟩, ⟨"LINE", 12, 0, .ro, 99, []⟩]⟩
def reg_DSP_FLAGS : RegDesc := ⟨"DSP_FLAGS", 0x200D0008, 1, 4, 1, 4, 0x00000000#32,
  [⟨"WRITE_REFUSED", 10, 10, .w1c, 99, []⟩, ⟨"ACC_FAIL", 9, 9, .w1c, 99, []⟩, ⟨"BUF_PARITY", 8, 8, .w1c, 99, []⟩, ⟨"FS_PARITY", 7, 7, .w1c, 99, []⟩, ⟨"FETCH_ERR", 6, 6, .w1c, 99, []⟩, ⟨"WB_ERR", 5, 5, .w1c, 99, []⟩, ⟨"WB_LOST", 4, 4, .w1c, 99, []⟩, ⟨"LINK_LOST", 3, 3, .w1c, 99, []⟩, ⟨"TRAIN_FAIL", 2, 2, .w1c, 99, []⟩, ⟨"LATE", 1, 1, .w1c, 99, []⟩, ⟨"UNDERRUN", 0, 0, .w1c, 99, []⟩]⟩
def reg_DSP_FAULT_LAST : RegDesc := ⟨"DSP_FAULT_LAST", 0x200D000C, 1, 4, 1, 4, 0x00000000#32,
  [⟨"VALID", 31, 31, .ro, 99, []⟩, ⟨"LAYER", 18, 16, .ro, 99, []⟩, ⟨"CODE", 9, 0, .ro, 99, []⟩]⟩
def reg_DSP_COMMIT : RegDesc := ⟨"DSP_COMMIT", 0x200D0010, 1, 4, 1, 4, 0x00000000#32,
  [⟨"GO", 31, 31, .wo, 99, []⟩, ⟨"ARMED", 30, 30, .ro, 99, []⟩, ⟨"MASK", 7, 0, .wo, 99, []⟩]⟩
def reg_DSP_COMMIT_ERR : RegDesc := ⟨"DSP_COMMIT_ERR", 0x200D0014, 1, 4, 1, 4, 0x00000000#32,
  [⟨"REFUSED", 31, 31, .w1c, 99, []⟩, ⟨"LAYER", 18, 16, .ro, 99, []⟩, ⟨"REASON", 3, 0, .ro, 99, []⟩]⟩
def reg_DSP_FRAME : RegDesc := ⟨"DSP_FRAME", 0x200D0018, 1, 4, 1, 4, 0x00000000#32,
  [⟨"FRAME", 31, 0, .ro, 99, []⟩]⟩
def reg_DSP_CNT_A : RegDesc := ⟨"DSP_CNT_A", 0x200D001C, 1, 4, 1, 4, 0x00000000#32,
  [⟨"UNDERRUN_LINES", 31, 16, .ro, 99, []⟩, ⟨"UNDERRUN_FRAMES", 15, 0, .ro, 99, []⟩]⟩
def reg_DSP_CNT_B : RegDesc := ⟨"DSP_CNT_B", 0x200D0020, 1, 4, 1, 4, 0x00000000#32,
  [⟨"LATE", 31, 16, .ro, 99, []⟩, ⟨"RETRAINS", 15, 8, .ro, 99, []⟩, ⟨"TRAIN_FAILS", 7, 0, .ro, 99, []⟩]⟩
def reg_DSP_LEAD : RegDesc := ⟨"DSP_LEAD", 0x200D0024, 1, 4, 1, 4, 0x00000000#32,
  [⟨"LEAD", 31, 16, .ro, 99, []⟩]⟩
def reg_DSP_BL : RegDesc := ⟨"DSP_BL", 0x200D0028, 1, 4, 1, 4, 0x000000C8#32,
  [⟨"BL_DUTY", 31, 16, .rw, 99, []⟩, ⟨"BL_FREQ", 15, 0, .rw, 99, [(100, 50000)]⟩]⟩
def reg_DSP_LINK : RegDesc := ⟨"DSP_LINK", 0x200D002C, 1, 4, 1, 4, 0x00000000#32,
  [⟨"VS", 17, 16, .ro, 99, []⟩, ⟨"PE", 13, 12, .ro, 99, []⟩, ⟨"RATE", 11, 8, .ro, 99, []⟩, ⟨"LANES", 1, 0, .ro, 99, []⟩]⟩
def reg_DSP_WB_BASE_LO : RegDesc := ⟨"DSP_WB_BASE_LO", 0x200D0080, 1, 4, 1, 4, 0x00000000#32,
  [⟨"BASE_LO", 31, 12, .rw, 99, []⟩]⟩
def reg_DSP_WB_BASE_HI : RegDesc := ⟨"DSP_WB_BASE_HI", 0x200D0084, 1, 4, 1, 4, 0x00000000#32,
  [⟨"BASE_HI", 7, 0, .rw, 99, []⟩]⟩
def reg_DSP_WB_CTRL : RegDesc := ⟨"DSP_WB_CTRL", 0x200D0088, 1, 4, 1, 4, 0x00000002#32,
  [⟨"HDR_EN", 31, 31, .rw, 99, []⟩, ⟨"PIX_EN", 30, 30, .rw, 99, []⟩, ⟨"COUNT", 4, 0, .rw, 99, [(2, 16)]⟩]⟩
def reg_DSP_WB_WR : RegDesc := ⟨"DSP_WB_WR", 0x200D008C, 1, 4, 1, 4, 0x00000000#32,
  [⟨"WR", 31, 0, .ro, 99, []⟩]⟩
def reg_DSP_LSTAT_CRC : RegDesc := ⟨"DSP_LSTAT_CRC", 0x200D0500, 6, 16, 1, 4, 0x00000000#32,
  [⟨"CRC", 31, 0, .ro, 99, []⟩]⟩
def reg_DSP_LSTAT_RETF : RegDesc := ⟨"DSP_LSTAT_RETF", 0x200D0504, 6, 16, 1, 4, 0xFFFFFFFF#32,
  [⟨"RETIRE_FRAME", 31, 0, .ro, 99, []⟩]⟩
def reg_DSP_LSTAT_RETLO : RegDesc := ⟨"DSP_LSTAT_RETLO", 0x200D0508, 6, 16, 1, 4, 0x00000000#32,
  [⟨"RETIRE_LO", 31, 0, .ro, 99, []⟩]⟩
def reg_DSP_LSTAT_INFO : RegDesc := ⟨"DSP_LSTAT_INFO", 0x200D050C, 6, 16, 1, 4, 0x00000000#32,
  [⟨"TRANSPARENT", 31, 31, .ro, 99, []⟩, ⟨"SKIPPED", 30, 30, .ro, 99, []⟩, ⟨"HELD", 29, 29, .ro, 99, []⟩, ⟨"FETCH_ERR", 28, 28, .ro, 99, []⟩, ⟨"CRC_VALID", 27, 27, .ro, 99, []⟩, ⟨"RETIRE_HI", 7, 0, .ro, 99, []⟩]⟩
def reg_DSP_AUX_CTRL : RegDesc := ⟨"DSP_AUX_CTRL", 0x200D0C00, 1, 4, 1, 4, 0x00000000#32,
  [⟨"GO", 31, 31, .wo, 99, []⟩, ⟨"BUSY", 30, 30, .ro, 99, []⟩, ⟨"CMD", 29, 28, .rw, 99, []⟩, ⟨"LEN", 27, 24, .rw, 99, []⟩, ⟨"ADDR", 19, 0, .rw, 99, []⟩]⟩
def reg_DSP_AUX_DATA : RegDesc := ⟨"DSP_AUX_DATA", 0x200D0C04, 4, 4, 1, 4, 0x00000000#32,
  [⟨"DATA", 31, 0, .rw, 99, []⟩]⟩
def reg_DSP_AUX_STAT : RegDesc := ⟨"DSP_AUX_STAT", 0x200D0C14, 1, 4, 1, 4, 0x00000000#32,
  [⟨"DONE", 31, 31, .w1c, 99, []⟩, ⟨"RESULT", 3, 0, .ro, 99, []⟩]⟩
def reg_DSP_ACC_LIST_LO : RegDesc := ⟨"DSP_ACC_LIST_LO", 0x200D0D00, 1, 4, 1, 4, 0x00000000#32,
  [⟨"LIST_LO", 31, 0, .rw, 99, []⟩]⟩
def reg_DSP_ACC_LIST_HI : RegDesc := ⟨"DSP_ACC_LIST_HI", 0x200D0D04, 1, 4, 1, 4, 0x00000000#32,
  [⟨"LIST_HI", 7, 0, .rw, 99, []⟩]⟩
def reg_DSP_ACC_CTRL : RegDesc := ⟨"DSP_ACC_CTRL", 0x200D0D08, 1, 4, 1, 4, 0x00000001#32,
  [⟨"START", 31, 31, .wo, 99, []⟩, ⟨"COUNT", 12, 0, .rw, 99, [(1, 4096)]⟩]⟩
def reg_DSP_ACC_DONE : RegDesc := ⟨"DSP_ACC_DONE", 0x200D0D0C, 1, 4, 1, 4, 0x00000000#32,
  [⟨"RESULT", 31, 28, .ro, 99, []⟩, ⟨"DONE", 12, 0, .ro, 99, []⟩]⟩
def reg_DSP_ACC_SAT : RegDesc := ⟨"DSP_ACC_SAT", 0x200D0D10, 1, 4, 1, 4, 0x00000000#32,
  [⟨"SAT", 31, 0, .ro, 99, []⟩]⟩
def reg_DSP_COEF_A : RegDesc := ⟨"DSP_COEF_A", 0x200D2000, 2, 512, 64, 8, 0x00000000#32,
  [⟨"C1orC3", 27, 16, .rw, 99, []⟩, ⟨"C0orC2", 11, 0, .rw, 99, []⟩]⟩
def reg_DSP_COEF_B : RegDesc := ⟨"DSP_COEF_B", 0x200D2004, 2, 512, 64, 8, 0x00000000#32,
  [⟨"C1orC3", 27, 16, .rw, 99, []⟩, ⟨"C0orC2", 11, 0, .rw, 99, []⟩]⟩
def reg_DSP_LAYER : RegDesc := ⟨"DSP_LAYER", 0x200D0100, 6, 64, 12, 4, 0x00000000#32,
  [⟨"WORD", 31, 0, .rw, 99, []⟩]⟩
def reg_DSP_LAYER_IF : RegDesc := ⟨"DSP_LAYER_IF", 0x200D0300, 6, 64, 12, 4, 0x00000000#32,
  [⟨"WORD", 31, 0, .ro, 99, []⟩]⟩
def reg_DSP_PAL : RegDesc := ⟨"DSP_PAL", 0x200D1000, 4, 1024, 256, 4, 0x00000000#32,
  [⟨"ARGB", 31, 0, .rw, 99, []⟩]⟩
def reg_DSP_T0 : RegDesc := ⟨"DSP_T0", 0x200D0040, 1, 4, 1, 4, 0x04B00780#32,
  [⟨"V_ACTIVE", 31, 16, .rw, 99, [(480, 1200)]⟩, ⟨"H_ACTIVE", 15, 0, .rw, 99, [(640, 1920)]⟩]⟩
def reg_DSP_TI0 : RegDesc := ⟨"DSP_TI0", 0x200D0060, 1, 4, 1, 4, 0x04B00780#32,
  [⟨"V_ACTIVE", 31, 16, .ro, 99, []⟩, ⟨"H_ACTIVE", 15, 0, .ro, 99, []⟩]⟩
def reg_DSP_T1 : RegDesc := ⟨"DSP_T1", 0x200D0044, 1, 4, 1, 4, 0x00200030#32,
  [⟨"H_SYNC", 31, 16, .rw, 99, [(8, 511)]⟩, ⟨"H_FP", 15, 0, .rw, 99, [(8, 1023)]⟩]⟩
def reg_DSP_TI1 : RegDesc := ⟨"DSP_TI1", 0x200D0064, 1, 4, 1, 4, 0x00200030#32,
  [⟨"H_SYNC", 31, 16, .ro, 99, []⟩, ⟨"H_FP", 15, 0, .ro, 99, []⟩]⟩
def reg_DSP_T2 : RegDesc := ⟨"DSP_T2", 0x200D0048, 1, 4, 1, 4, 0x00030050#32,
  [⟨"V_FP", 31, 16, .rw, 99, [(1, 255)]⟩, ⟨"H_BP", 15, 0, .rw, 99, [(8, 1023)]⟩]⟩
def reg_DSP_TI2 : RegDesc := ⟨"DSP_TI2", 0x200D0068, 1, 4, 1, 4, 0x00030050#32,
  [⟨"V_FP", 31, 16, .ro, 99, []⟩, ⟨"H_BP", 15, 0, .ro, 99, []⟩]⟩
def reg_DSP_T3 : RegDesc := ⟨"DSP_T3", 0x200D004C, 1, 4, 1, 4, 0x001A0006#32,
  [⟨"V_BP", 31, 16, .rw, 99, [(1, 255)]⟩, ⟨"V_SYNC", 15, 0, .rw, 99, [(1, 63)]⟩]⟩
def reg_DSP_TI3 : RegDesc := ⟨"DSP_TI3", 0x200D006C, 1, 4, 1, 4, 0x001A0006#32,
  [⟨"V_BP", 31, 16, .ro, 99, []⟩, ⟨"V_SYNC", 15, 0, .ro, 99, []⟩]⟩
def reg_DSP_T4 : RegDesc := ⟨"DSP_T4", 0x200D0050, 1, 4, 1, 4, 0x00025990#32,
  [⟨"PCLK", 31, 0, .rw, 99, [(25000, 165000)]⟩]⟩
def reg_DSP_TI4 : RegDesc := ⟨"DSP_TI4", 0x200D0070, 1, 4, 1, 4, 0x00025990#32,
  [⟨"PCLK", 31, 0, .ro, 99, []⟩]⟩
def reg_DSP_T5 : RegDesc := ⟨"DSP_T5", 0x200D0054, 1, 4, 1, 4, 0x00010302#32,
  [⟨"VSYNC_POL", 17, 17, .rw, 99, []⟩, ⟨"HSYNC_POL", 16, 16, .rw, 99, []⟩, ⟨"RATE", 11, 8, .rw, 99, [(0, 6)]⟩, ⟨"LANES", 1, 0, .rw, 99, [(0, 2)]⟩]⟩
def reg_DSP_TI5 : RegDesc := ⟨"DSP_TI5", 0x200D0074, 1, 4, 1, 4, 0x00010302#32,
  [⟨"VSYNC_POL", 17, 17, .ro, 99, []⟩, ⟨"HSYNC_POL", 16, 16, .ro, 99, []⟩, ⟨"RATE", 11, 8, .ro, 99, []⟩, ⟨"LANES", 1, 0, .ro, 99, []⟩]⟩
def reg_DSP_T6 : RegDesc := ⟨"DSP_T6", 0x200D0058, 1, 4, 1, 4, 0x00000000#32,
  [⟨"VRR_OK", 16, 16, .rw, 99, []⟩, ⟨"STATIC_RATE", 9, 8, .rw, 99, [(0, 2)]⟩, ⟨"STATIC_FRAMES", 7, 0, .rw, 99, []⟩]⟩
def reg_DSP_TI6 : RegDesc := ⟨"DSP_TI6", 0x200D0078, 1, 4, 1, 4, 0x00000000#32,
  [⟨"VRR_OK", 16, 16, .ro, 99, []⟩, ⟨"STATIC_RATE", 9, 8, .ro, 99, []⟩, ⟨"STATIC_FRAMES", 7, 0, .ro, 99, []⟩]⟩
def reg_DSP_T7 : RegDesc := ⟨"DSP_T7", 0x200D005C, 1, 4, 1, 4, 0x00000000#32,
  [⟨"BACKGROUND", 23, 0, .rw, 99, []⟩]⟩
def reg_DSP_TI7 : RegDesc := ⟨"DSP_TI7", 0x200D007C, 1, 4, 1, 4, 0x00000000#32,
  [⟨"BACKGROUND", 23, 0, .ro, 99, []⟩]⟩

def regsDsp0 : List RegDesc :=
  [reg_DSP_CTRL, reg_DSP_STATUS, reg_DSP_FLAGS, reg_DSP_FAULT_LAST, reg_DSP_COMMIT, reg_DSP_COMMIT_ERR, reg_DSP_FRAME, reg_DSP_CNT_A, reg_DSP_CNT_B, reg_DSP_LEAD, reg_DSP_BL, reg_DSP_LINK, reg_DSP_WB_BASE_LO, reg_DSP_WB_BASE_HI, reg_DSP_WB_CTRL, reg_DSP_WB_WR, reg_DSP_LSTAT_CRC, reg_DSP_LSTAT_RETF, reg_DSP_LSTAT_RETLO, reg_DSP_LSTAT_INFO]
def regsDsp1 : List RegDesc :=
  [reg_DSP_AUX_CTRL, reg_DSP_AUX_DATA, reg_DSP_AUX_STAT, reg_DSP_ACC_LIST_LO, reg_DSP_ACC_LIST_HI, reg_DSP_ACC_CTRL, reg_DSP_ACC_DONE, reg_DSP_ACC_SAT, reg_DSP_COEF_A, reg_DSP_COEF_B, reg_DSP_LAYER, reg_DSP_LAYER_IF, reg_DSP_PAL, reg_DSP_T0, reg_DSP_TI0, reg_DSP_T1, reg_DSP_TI1, reg_DSP_T2, reg_DSP_TI2, reg_DSP_T3]
def regsDsp2 : List RegDesc :=
  [reg_DSP_TI3, reg_DSP_T4, reg_DSP_TI4, reg_DSP_T5, reg_DSP_TI5, reg_DSP_T6, reg_DSP_TI6, reg_DSP_T7, reg_DSP_TI7]
/-- The registers of the DSP window. -/
def regsDsp : List RegDesc :=
  regsDsp0 ++ regsDsp1 ++ regsDsp2

/-! LIT window (SOURCE 0Eh), from spec/15_lighting.md. -/

def reg_LIT_CTRL : RegDesc := ⟨"LIT_CTRL", 0x200E0000, 1, 4, 1, 4, 0x00000000#32,
  [⟨"EMIT_ARM", 0, 0, .rw, 99, []⟩]⟩
def reg_LIT_STATUS : RegDesc := ⟨"LIT_STATUS", 0x200E0004, 1, 4, 1, 4, 0x00000000#32,
  [⟨"EMIT_EN", 31, 31, .ro, 99, []⟩, ⟨"GROUP_OFF", 27, 24, .ro, 99, []⟩, ⟨"ON", 15, 0, .ro, 99, []⟩]⟩
def reg_LIT_LATCH : RegDesc := ⟨"LIT_LATCH", 0x200E0008, 1, 4, 1, 4, 0x00000000#32,
  [⟨"SHORT", 31, 16, .ro, 99, []⟩, ⟨"OPEN", 15, 0, .ro, 99, []⟩]⟩
def reg_LIT_OT : RegDesc := ⟨"LIT_OT", 0x200E000C, 1, 4, 1, 4, 0x00000000#32,
  [⟨"DERATING", 31, 16, .ro, 99, []⟩, ⟨"OT", 15, 0, .ro, 99, []⟩]⟩
def reg_LIT_FLAGS : RegDesc := ⟨"LIT_FLAGS", 0x200E0010, 1, 4, 1, 4, 0x00000000#32,
  [⟨"WRITE_REFUSED", 5, 5, .w1c, 99, []⟩, ⟨"STROBE_OVERLAP", 4, 4, .w1c, 99, []⟩, ⟨"BEACON_FAIL", 3, 3, .w1c, 99, []⟩, ⟨"OT", 2, 2, .w1c, 99, []⟩, ⟨"SHORT", 1, 1, .w1c, 99, []⟩, ⟨"OPEN", 0, 0, .w1c, 99, []⟩]⟩
def reg_LIT_FAULT_LAST : RegDesc := ⟨"LIT_FAULT_LAST", 0x200E0014, 1, 4, 1, 4, 0x00000000#32,
  [⟨"VALID", 31, 31, .ro, 99, []⟩, ⟨"UNIT", 19, 16, .ro, 99, []⟩, ⟨"CODE", 9, 0, .ro, 99, []⟩]⟩
def reg_LIT_CLEAR : RegDesc := ⟨"LIT_CLEAR", 0x200E0018, 1, 4, 1, 4, 0x00000000#32,
  [⟨"CLEAR", 15, 0, .wo, 99, []⟩]⟩
def reg_LIT_GROUP : RegDesc := ⟨"LIT_GROUP", 0x200E0020, 4, 4, 1, 4, 0x00000000#32,
  [⟨"BEACON", 1, 1, .rw, 99, []⟩, ⟨"AON", 0, 0, .rw, 99, []⟩]⟩
def reg_LIT_NTC_T : RegDesc := ⟨"LIT_NTC_T", 0x200E0030, 4, 4, 1, 4, 0x00000000#32,
  [⟨"T", 15, 0, .ro, 99, []⟩]⟩
def reg_LIT_CURVE : RegDesc := ⟨"LIT_CURVE", 0x200E0040, 33, 4, 1, 4, 0x00000000#32,
  [⟨"T", 15, 0, .rw, 99, []⟩]⟩
def reg_LIT_CFG : RegDesc := ⟨"LIT_CFG", 0x200E0100, 16, 32, 1, 4, 0x00000000#32,
  [⟨"EN", 31, 31, .rws, 8, []⟩, ⟨"STROBE", 30, 30, .rws, 8, []⟩, ⟨"GRP_EN", 29, 29, .rws, 8, []⟩, ⟨"GROUP", 28, 27, .rws, 8, []⟩, ⟨"NTC_EN", 26, 26, .rws, 8, []⟩, ⟨"NTC", 25, 24, .rws, 8, []⟩, ⟨"IREF", 9, 0, .rws, 8, []⟩]⟩
def reg_LIT_SW : RegDesc := ⟨"LIT_SW", 0x200E0104, 16, 32, 1, 4, 0x019000C0#32,
  [⟨"SW_PERIOD", 25, 16, .rws, 8, [(200, 800)]⟩, ⟨"DMAX", 7, 0, .rws, 8, [(1, 240)]⟩]⟩
def reg_LIT_DIM : RegDesc := ⟨"LIT_DIM", 0x200E0108, 16, 32, 1, 4, 0x00004E20#32,
  [⟨"DUTY", 31, 20, .rws, 8, []⟩, ⟨"DIM_PERIOD", 18, 0, .rws, 8, [(16000, 400000)]⟩]⟩
def reg_LIT_PHASE : RegDesc := ⟨"LIT_PHASE", 0x200E010C, 16, 32, 1, 4, 0x00000000#32,
  [⟨"PHASE", 11, 0, .rws, 8, []⟩]⟩
def reg_LIT_DET : RegDesc := ⟨"LIT_DET", 0x200E0110, 16, 32, 1, 4, 0x08081404#32,
  [⟨"OPEN_N", 31, 24, .rws, 8, []⟩, ⟨"SHORT_N", 23, 16, .rws, 8, []⟩, ⟨"SHORT_T", 15, 8, .rws, 8, [(9, 255)]⟩, ⟨"SKIP", 7, 0, .rws, 8, []⟩]⟩
def reg_LIT_DERATE : RegDesc := ⟨"LIT_DERATE", 0x200E0114, 16, 32, 1, 4, 0x05500460#32,
  [⟨"T_OFF", 31, 16, .rws, 8, []⟩, ⟨"T_DERATE", 15, 0, .rws, 8, []⟩]⟩
def reg_LIT_STROBE : RegDesc := ⟨"LIT_STROBE", 0x200E0118, 16, 32, 1, 4, 0x00000000#32,
  [⟨"STR_DLY", 31, 16, .rws, 8, []⟩, ⟨"STR_W", 15, 0, .rws, 8, []⟩]⟩
def reg_LIT_TRIM : RegDesc := ⟨"LIT_TRIM", 0x200E011C, 16, 32, 1, 4, 0x00000000#32,
  [⟨"TRIM", 5, 0, .rws, 9, []⟩]⟩
def reg_LIT_STAT : RegDesc := ⟨"LIT_STAT", 0x200E0400, 16, 4, 1, 4, 0x00000000#32,
  [⟨"IEFF", 25, 16, .ro, 99, []⟩, ⟨"STATE", 2, 0, .ro, 99, []⟩]⟩
def reg_LIT_RS : RegDesc := ⟨"LIT_RS", 0x200E0440, 16, 4, 1, 4, 0x00000000#32,
  [⟨"RS", 15, 0, .rw, 99, []⟩]⟩

def regsLit0 : List RegDesc :=
  [reg_LIT_CTRL, reg_LIT_STATUS, reg_LIT_LATCH, reg_LIT_OT, reg_LIT_FLAGS, reg_LIT_FAULT_LAST, reg_LIT_CLEAR, reg_LIT_GROUP, reg_LIT_NTC_T, reg_LIT_CURVE, reg_LIT_CFG, reg_LIT_SW, reg_LIT_DIM, reg_LIT_PHASE, reg_LIT_DET, reg_LIT_DERATE, reg_LIT_STROBE, reg_LIT_TRIM, reg_LIT_STAT, reg_LIT_RS]
/-- The registers of the LIT window. -/
def regsLit : List RegDesc :=
  regsLit0

/-! THM window (SOURCE 0Fh), from spec/16_thermal.md. -/

def reg_THM_STATUS : RegDesc := ⟨"THM_STATUS", 0x200F0000, 1, 4, 1, 4, 0x00000000#32,
  [⟨"TMAX", 31, 16, .ro, 99, []⟩, ⟨"MAX_SENSOR", 15, 12, .ro, 99, []⟩, ⟨"RED", 11, 8, .ro, 99, []⟩, ⟨"SHUT_DONE", 2, 2, .ro, 99, []⟩, ⟨"LEVEL", 1, 0, .ro, 99, []⟩]⟩
def reg_THM_FLAGS : RegDesc := ⟨"THM_FLAGS", 0x200F0004, 1, 4, 1, 4, 0x00000000#32,
  [⟨"WRITE_REFUSED", 6, 6, .w1c, 99, []⟩, ⟨"TRIP_SEEN", 5, 5, .w1c, 99, []⟩, ⟨"SENSORS_LOW", 4, 4, .w1c, 99, []⟩, ⟨"BROKEN", 3, 3, .w1c, 99, []⟩, ⟨"SHUTDOWN", 2, 2, .w1c, 99, []⟩, ⟨"THROTTLE", 1, 1, .w1c, 99, []⟩, ⟨"WARN", 0, 0, .w1c, 99, []⟩]⟩
def reg_THM_FAULT_LAST : RegDesc := ⟨"THM_FAULT_LAST", 0x200F0008, 1, 4, 1, 4, 0x00000000#32,
  [⟨"VALID", 31, 31, .ro, 99, []⟩, ⟨"SENSOR", 19, 16, .ro, 99, []⟩, ⟨"CODE", 9, 0, .ro, 99, []⟩]⟩
def reg_THM_THRESH_A : RegDesc := ⟨"THM_THRESH_A", 0x200F000C, 1, 4, 1, 4, 0x064006C0#32,
  [⟨"WARN", 31, 16, .rw, 99, []⟩, ⟨"THROT", 15, 0, .rw, 99, []⟩]⟩
def reg_THM_THRESH_B : RegDesc := ⟨"THM_THRESH_B", 0x200F0010, 1, 4, 1, 4, 0x07600040#32,
  [⟨"SHUT", 31, 16, .rw, 99, [(0, 1888)]⟩, ⟨"HYST", 15, 0, .rw, 99, [(16, 128)]⟩]⟩
def reg_THM_DAMP : RegDesc := ⟨"THM_DAMP", 0x200F0014, 1, 4, 1, 4, 0x100A0A04#32,
  [⟨"STEP", 31, 24, .rw, 99, [(1, 255)]⟩, ⟨"MAX_RED", 19, 16, .rw, 99, [(1, 15)]⟩, ⟨"RELAX", 15, 8, .rw, 99, [(1, 255)]⟩, ⟨"PAUSE_FROM", 3, 0, .rw, 99, [(1, 15)]⟩]⟩
def reg_THM_PAUSE : RegDesc := ⟨"THM_PAUSE", 0x200F0018, 1, 4, 1, 4, 0x006401F4#32,
  [⟨"DMA_UNIT", 31, 16, .rw, 99, [(1, 65535)]⟩, ⟨"CAM_UNIT", 15, 0, .rw, 99, [(1, 65535)]⟩]⟩
def reg_THM_BROKEN : RegDesc := ⟨"THM_BROKEN", 0x200F001C, 1, 4, 1, 4, 0x00000000#32,
  [⟨"BROKEN", 11, 0, .ro, 99, []⟩]⟩
def reg_THM_SENSOR_CLEAR : RegDesc := ⟨"THM_SENSOR_CLEAR", 0x200F0020, 1, 4, 1, 4, 0x00000000#32,
  [⟨"CLEAR", 11, 0, .wo, 99, []⟩]⟩
def reg_THM_BRK : RegDesc := ⟨"THM_BRK", 0x200F0024, 1, 4, 1, 4, 0x00C00064#32,
  [⟨"DELTA", 31, 16, .rw, 99, [(64, 512)]⟩, ⟨"TIME", 15, 0, .rw, 99, [(10, 10000)]⟩]⟩
def reg_THM_SHUT_CTRL : RegDesc := ⟨"THM_SHUT_CTRL", 0x200F0028, 1, 4, 1, 4, 0x00000005#32,
  [⟨"STEP_NOW", 18, 16, .ro, 99, []⟩, ⟨"FLASH_MAX", 3, 0, .rw, 99, [(1, 10)]⟩]⟩
def reg_THM_T : RegDesc := ⟨"THM_T", 0x200F0100, 12, 4, 1, 4, 0x00000000#32,
  [⟨"VALID", 31, 31, .ro, 99, []⟩, ⟨"BROKEN", 30, 30, .ro, 99, []⟩, ⟨"T", 15, 0, .ro, 99, []⟩]⟩
def reg_THM_PEAK : RegDesc := ⟨"THM_PEAK", 0x200F0140, 1, 4, 1, 4, 0x00000000#32,
  [⟨"CLEAR", 31, 31, .wo, 99, []⟩, ⟨"PEAK", 15, 0, .ro, 99, []⟩]⟩
def reg_THM_CNT : RegDesc := ⟨"THM_CNT", 0x200F0144, 1, 4, 1, 4, 0x00000000#32,
  [⟨"THR_S", 31, 16, .ro, 99, []⟩, ⟨"EPISODES", 15, 0, .ro, 99, []⟩]⟩

def regsThm0 : List RegDesc :=
  [reg_THM_STATUS, reg_THM_FLAGS, reg_THM_FAULT_LAST, reg_THM_THRESH_A, reg_THM_THRESH_B, reg_THM_DAMP, reg_THM_PAUSE, reg_THM_BROKEN, reg_THM_SENSOR_CLEAR, reg_THM_BRK, reg_THM_SHUT_CTRL, reg_THM_T, reg_THM_PEAK, reg_THM_CNT]
/-- The registers of the THM window. -/
def regsThm : List RegDesc :=
  regsThm0

/-! CAL window (SOURCE 10h), from spec/17_calibration.md. -/

def reg_CAL_STATUS : RegDesc := ⟨"CAL_STATUS", 0x20100000, 1, 4, 1, 4, 0x00000000#32,
  [⟨"SWP_BUSY", 31, 31, .ro, 99, []⟩, ⟨"LT_BUSY", 30, 30, .ro, 99, []⟩, ⟨"MC_BUSY", 29, 29, .ro, 99, []⟩, ⟨"SWP_PIER", 23, 20, .ro, 99, []⟩, ⟨"MC_PIER", 19, 16, .ro, 99, []⟩, ⟨"LT_CHAN", 3, 0, .ro, 99, []⟩]⟩
def reg_CAL_FLAGS : RegDesc := ⟨"CAL_FLAGS", 0x20100004, 1, 4, 1, 4, 0x00000000#32,
  [⟨"WRITE_REFUSED", 4, 4, .w1c, 99, []⟩, ⟨"MODE_END", 3, 3, .w1c, 99, []⟩, ⟨"LT_RANGE", 2, 2, .w1c, 99, []⟩, ⟨"SWP_FAIL", 1, 1, .w1c, 99, []⟩, ⟨"NO_GAP", 0, 0, .w1c, 99, []⟩]⟩
def reg_CAL_FAULT_LAST : RegDesc := ⟨"CAL_FAULT_LAST", 0x20100008, 1, 4, 1, 4, 0x00000000#32,
  [⟨"VALID", 31, 31, .ro, 99, []⟩, ⟨"UNIT", 19, 16, .ro, 99, []⟩, ⟨"CODE", 9, 0, .ro, 99, []⟩]⟩
def reg_CAL_GAP : RegDesc := ⟨"CAL_GAP", 0x2010000C, 1, 4, 1, 4, 0x27100028#32,
  [⟨"WAIT", 31, 16, .rw, 99, [(1, 65535)]⟩, ⟨"GAP_MIN", 15, 0, .rw, 99, [(40, 10000)]⟩]⟩
def reg_CAL_MC : RegDesc := ⟨"CAL_MC", 0x20100010, 1, 4, 1, 4, 0x00000000#32,
  [⟨"START", 31, 31, .wo, 99, []⟩, ⟨"PIER", 19, 16, .rw, 99, []⟩, ⟨"RESULTS", 9, 0, .ro, 99, []⟩]⟩
def reg_CAL_MC_STAT : RegDesc := ⟨"CAL_MC_STAT", 0x20100014, 1, 4, 1, 4, 0x00000000#32,
  [⟨"PIECES", 31, 16, .ro, 99, []⟩]⟩
def reg_CAL_SWP_CTRL : RegDesc := ⟨"CAL_SWP_CTRL", 0x20100020, 1, 4, 1, 4, 0x0500003F#32,
  [⟨"START", 31, 31, .wo, 99, []⟩, ⟨"REPEAT", 27, 24, .rw, 99, [(1, 15)]⟩, ⟨"INPUT", 20, 20, .rw, 99, []⟩, ⟨"PIER", 19, 16, .rw, 99, []⟩, ⟨"WINDOW", 5, 0, .rw, 99, [(4, 63)]⟩]⟩
def reg_CAL_SWP_CFG : RegDesc := ⟨"CAL_SWP_CFG", 0x20100024, 1, 4, 1, 4, 0x03E80000#32,
  [⟨"GAP", 31, 16, .rw, 99, [(64, 65535)]⟩, ⟨"POWER", 15, 0, .rw, 99, []⟩]⟩
def reg_CAL_SWP_RES : RegDesc := ⟨"CAL_SWP_RES", 0x20100028, 1, 4, 1, 4, 0x00000000#32,
  [⟨"VALID", 31, 31, .ro, 99, []⟩, ⟨"STATUS", 30, 28, .ro, 99, []⟩, ⟨"ONSET", 15, 0, .ro, 99, []⟩]⟩
def reg_CAL_SWP_LEVEL : RegDesc := ⟨"CAL_SWP_LEVEL", 0x2010002C, 1, 4, 1, 4, 0x10000000#32,
  [⟨"LEVEL_MIN", 31, 16, .rw, 99, []⟩, ⟨"LEVEL", 15, 0, .ro, 99, []⟩]⟩
def reg_CAL_LT_CTRL : RegDesc := ⟨"CAL_LT_CTRL", 0x20100030, 1, 4, 1, 4, 0x00000000#32,
  [⟨"START", 31, 31, .wo, 99, []⟩, ⟨"CHANNEL", 3, 0, .rw, 99, []⟩]⟩
def reg_CAL_LT_RES : RegDesc := ⟨"CAL_LT_RES", 0x20100034, 1, 4, 1, 4, 0x00000000#32,
  [⟨"VALID", 31, 31, .ro, 99, []⟩, ⟨"RANGE", 30, 30, .ro, 99, []⟩, ⟨"TRIM", 5, 0, .ro, 99, []⟩]⟩

def regsCal0 : List RegDesc :=
  [reg_CAL_STATUS, reg_CAL_FLAGS, reg_CAL_FAULT_LAST, reg_CAL_GAP, reg_CAL_MC, reg_CAL_MC_STAT, reg_CAL_SWP_CTRL, reg_CAL_SWP_CFG, reg_CAL_SWP_RES, reg_CAL_SWP_LEVEL, reg_CAL_LT_CTRL, reg_CAL_LT_RES]
/-- The registers of the CAL window. -/
def regsCal : List RegDesc :=
  regsCal0

/-! NET window (SOURCE 11h), from spec/18_network_time_host.md. -/

def reg_NET_STATUS : RegDesc := ⟨"NET_STATUS", 0x20110000, 1, 4, 1, 4, 0x00000000#32,
  [⟨"LINK", 1, 0, .ro, 99, []⟩]⟩
def reg_NET_FLAGS : RegDesc := ⟨"NET_FLAGS", 0x20110004, 1, 4, 1, 4, 0x00000000#32,
  [⟨"RX_NOBUF", 3, 3, .w1c, 99, []⟩, ⟨"TXTS_OVF", 2, 2, .w1c, 99, []⟩, ⟨"LINK_LOST", 1, 1, .w1c, 99, []⟩, ⟨"MDIO_ERR", 0, 0, .w1c, 99, []⟩]⟩
def reg_NET_FAULT_LAST : RegDesc := ⟨"NET_FAULT_LAST", 0x20110008, 1, 4, 1, 4, 0x00000000#32,
  [⟨"VALID", 31, 31, .ro, 99, []⟩, ⟨"PORT", 16, 16, .ro, 99, []⟩, ⟨"CODE", 9, 0, .ro, 99, []⟩]⟩
def reg_NET_MDIO : RegDesc := ⟨"NET_MDIO", 0x2011000C, 1, 4, 1, 4, 0x00000000#32,
  [⟨"GO", 31, 31, .wo, 99, []⟩, ⟨"BUSY", 30, 30, .ro, 99, []⟩, ⟨"OP", 29, 28, .rw, 99, [(1, 2)]⟩, ⟨"PHY", 25, 21, .rw, 99, []⟩, ⟨"REG", 20, 16, .rw, 99, []⟩, ⟨"DATA", 15, 0, .rw, 99, []⟩]⟩
def reg_NET_PTP : RegDesc := ⟨"NET_PTP", 0x20110010, 1, 4, 1, 4, 0x00000000#32,
  [⟨"PORT", 2, 2, .rw, 99, []⟩, ⟨"STATE", 1, 0, .rw, 99, []⟩]⟩
def reg_NET_CTRL : RegDesc := ⟨"NET_CTRL", 0x20110100, 2, 128, 1, 4, 0x00000000#32,
  [⟨"EN", 31, 31, .rw, 99, []⟩]⟩
def reg_NET_MAC_LO : RegDesc := ⟨"NET_MAC_LO", 0x20110104, 2, 128, 1, 4, 0x00000000#32,
  [⟨"MAC_LO", 31, 0, .rw, 99, []⟩]⟩
def reg_NET_MAC_HI : RegDesc := ⟨"NET_MAC_HI", 0x20110108, 2, 128, 1, 4, 0x00000000#32,
  [⟨"MAC_HI", 15, 0, .rw, 99, []⟩]⟩
def reg_NET_LAT : RegDesc := ⟨"NET_LAT", 0x2011010C, 2, 128, 1, 4, 0x00000000#32,
  [⟨"EGRESS", 31, 16, .rw, 99, []⟩, ⟨"INGRESS", 15, 0, .rw, 99, []⟩]⟩
def reg_NET_TXR_BASE : RegDesc := ⟨"NET_TXR_BASE", 0x20110110, 2, 128, 1, 4, 0x10000000#32,
  [⟨"TXR_BASE", 31, 0, .rw, 99, []⟩]⟩
def reg_NET_TXR_SIZE : RegDesc := ⟨"NET_TXR_SIZE", 0x20110114, 2, 128, 1, 4, 0x00000010#32,
  [⟨"COUNT", 7, 0, .rw, 99, [(4, 128)]⟩]⟩
def reg_NET_TXR_POS : RegDesc := ⟨"NET_TXR_POS", 0x20110118, 2, 128, 1, 4, 0x00000000#32,
  [⟨"POS", 6, 0, .ro, 99, []⟩]⟩
def reg_NET_TX_KICK : RegDesc := ⟨"NET_TX_KICK", 0x2011011C, 2, 128, 1, 4, 0x00000000#32,
  [⟨"KICK", 0, 0, .wo, 99, []⟩]⟩
def reg_NET_RXR_BASE : RegDesc := ⟨"NET_RXR_BASE", 0x20110120, 2, 128, 1, 4, 0x10000000#32,
  [⟨"RXR_BASE", 31, 0, .rw, 99, []⟩]⟩
def reg_NET_RXR_SIZE : RegDesc := ⟨"NET_RXR_SIZE", 0x20110124, 2, 128, 1, 4, 0x00000010#32,
  [⟨"COUNT", 7, 0, .rw, 99, [(4, 128)]⟩]⟩
def reg_NET_RXR_POS : RegDesc := ⟨"NET_RXR_POS", 0x20110128, 2, 128, 1, 4, 0x00000000#32,
  [⟨"POS", 6, 0, .ro, 99, []⟩]⟩
def reg_NET_TXTS_INFO : RegDesc := ⟨"NET_TXTS_INFO", 0x20110130, 2, 128, 1, 4, 0x00000000#32,
  [⟨"VALID", 31, 31, .ro, 99, []⟩, ⟨"NOTPTP", 30, 30, .ro, 99, []⟩, ⟨"MSGTYPE", 27, 24, .ro, 99, []⟩, ⟨"SEQID", 15, 0, .ro, 99, []⟩]⟩
def reg_NET_TXTS_LO : RegDesc := ⟨"NET_TXTS_LO", 0x20110134, 2, 128, 1, 4, 0x00000000#32,
  [⟨"T_LO", 31, 0, .ro, 99, []⟩]⟩
def reg_NET_TXTS_HI : RegDesc := ⟨"NET_TXTS_HI", 0x20110138, 2, 128, 1, 4, 0x00000000#32,
  [⟨"T_HI", 31, 0, .ro, 99, []⟩]⟩
def reg_NET_TXTS_POP : RegDesc := ⟨"NET_TXTS_POP", 0x2011013C, 2, 128, 1, 4, 0x00000000#32,
  [⟨"POP", 31, 31, .wo, 99, []⟩, ⟨"FILL", 3, 0, .ro, 99, []⟩]⟩
def reg_NET_CNT_A : RegDesc := ⟨"NET_CNT_A", 0x20110140, 2, 128, 1, 4, 0x00000000#32,
  [⟨"RX_FRAMES", 31, 16, .ro, 99, []⟩, ⟨"RX_NOBUF", 15, 0, .ro, 99, []⟩]⟩
def reg_NET_CNT_B : RegDesc := ⟨"NET_CNT_B", 0x20110144, 2, 128, 1, 4, 0x00000000#32,
  [⟨"FCS_ERR", 31, 16, .ro, 99, []⟩, ⟨"TX_FRAMES", 15, 0, .ro, 99, []⟩]⟩
def reg_NET_CNT_C : RegDesc := ⟨"NET_CNT_C", 0x20110148, 2, 128, 1, 4, 0x00000000#32,
  [⟨"TXTS_OVF", 31, 16, .ro, 99, []⟩, ⟨"PTP_REJ", 15, 0, .ro, 99, []⟩]⟩

def regsNet0 : List RegDesc :=
  [reg_NET_STATUS, reg_NET_FLAGS, reg_NET_FAULT_LAST, reg_NET_MDIO, reg_NET_PTP, reg_NET_CTRL, reg_NET_MAC_LO, reg_NET_MAC_HI, reg_NET_LAT, reg_NET_TXR_BASE, reg_NET_TXR_SIZE, reg_NET_TXR_POS, reg_NET_TX_KICK, reg_NET_RXR_BASE, reg_NET_RXR_SIZE, reg_NET_RXR_POS, reg_NET_TXTS_INFO, reg_NET_TXTS_LO, reg_NET_TXTS_HI, reg_NET_TXTS_POP]
def regsNet1 : List RegDesc :=
  [reg_NET_CNT_A, reg_NET_CNT_B, reg_NET_CNT_C]
/-- The registers of the NET window. -/
def regsNet : List RegDesc :=
  regsNet0 ++ regsNet1

/-! PCI window (SOURCE 12h), from spec/18_network_time_host.md. -/

def reg_PCI_STATUS : RegDesc := ⟨"PCI_STATUS", 0x20120000, 1, 4, 1, 4, 0x00000000#32,
  [⟨"LINK_UP", 31, 31, .ro, 99, []⟩, ⟨"SPEED", 30, 28, .ro, 99, []⟩, ⟨"WIDTH", 27, 24, .ro, 99, []⟩, ⟨"D3HOT", 3, 3, .ro, 99, []⟩, ⟨"MSIX_EN", 2, 2, .ro, 99, []⟩, ⟨"FN_MASK", 1, 1, .ro, 99, []⟩, ⟨"BME", 0, 0, .ro, 99, []⟩]⟩
def reg_PCI_FLAGS : RegDesc := ⟨"PCI_FLAGS", 0x20120004, 1, 4, 1, 4, 0x00000000#32,
  [⟨"POISON", 2, 2, .w1c, 99, []⟩, ⟨"DENIED", 1, 1, .w1c, 99, []⟩, ⟨"RESET", 0, 0, .w1c, 99, []⟩]⟩
def reg_PCI_FAULT_LAST : RegDesc := ⟨"PCI_FAULT_LAST", 0x20120008, 1, 4, 1, 4, 0x00000000#32,
  [⟨"VALID", 31, 31, .ro, 99, []⟩, ⟨"CODE", 9, 0, .ro, 99, []⟩]⟩
def reg_PCI_ID : RegDesc := ⟨"PCI_ID", 0x2012000C, 1, 4, 1, 4, 0xA0160001#32,
  [⟨"DEVICE", 31, 16, .ro, 99, []⟩, ⟨"REVISION", 7, 0, .ro, 99, []⟩]⟩
def reg_PCI_DENY : RegDesc := ⟨"PCI_DENY", 0x20120010, 1, 4, 1, 4, 0x00000000#32,
  [⟨"READS", 31, 16, .ro, 99, []⟩, ⟨"WRITES", 15, 0, .ro, 99, []⟩]⟩
def reg_PCI_DENY_ADDR_LO : RegDesc := ⟨"PCI_DENY_ADDR_LO", 0x20120014, 1, 4, 1, 4, 0x00000000#32,
  [⟨"ADDR_LO", 31, 0, .ro, 99, []⟩]⟩
def reg_PCI_DENY_ADDR_HI : RegDesc := ⟨"PCI_DENY_ADDR_HI", 0x20120018, 1, 4, 1, 4, 0x00000000#32,
  [⟨"ADDR_HI", 7, 0, .ro, 99, []⟩]⟩
def reg_PCI_WIN_BASE_LO : RegDesc := ⟨"PCI_WIN_BASE_LO", 0x20120100, 16, 16, 1, 4, 0x00000000#32,
  [⟨"BASE_LO", 31, 12, .rw, 99, []⟩]⟩
def reg_PCI_WIN_BASE_HI : RegDesc := ⟨"PCI_WIN_BASE_HI", 0x20120104, 16, 16, 1, 4, 0x00000000#32,
  [⟨"BASE_HI", 7, 0, .rw, 99, []⟩]⟩
def reg_PCI_WIN_SIZE : RegDesc := ⟨"PCI_WIN_SIZE", 0x20120108, 16, 16, 1, 4, 0x0000000C#32,
  [⟨"LOG2", 5, 0, .rw, 99, [(12, 36)]⟩]⟩
def reg_PCI_WIN_CTRL : RegDesc := ⟨"PCI_WIN_CTRL", 0x2012010C, 16, 16, 1, 4, 0x00000000#32,
  [⟨"EN", 31, 31, .rw, 99, []⟩, ⟨"WRITE", 30, 30, .rw, 99, []⟩, ⟨"USE", 1, 0, .rw, 99, []⟩]⟩

def regsPci0 : List RegDesc :=
  [reg_PCI_STATUS, reg_PCI_FLAGS, reg_PCI_FAULT_LAST, reg_PCI_ID, reg_PCI_DENY, reg_PCI_DENY_ADDR_LO, reg_PCI_DENY_ADDR_HI, reg_PCI_WIN_BASE_LO, reg_PCI_WIN_BASE_HI, reg_PCI_WIN_SIZE, reg_PCI_WIN_CTRL]
/-- The registers of the PCI window. -/
def regsPci : List RegDesc :=
  regsPci0

/-! SEC window (SOURCE 13h), from spec/19_security_modes_debug.md. -/

def reg_SEC_STATUS : RegDesc := ⟨"SEC_STATUS", 0x20130000, 1, 4, 1, 4, 0x00000010#32,
  [⟨"KEY_READY", 31, 31, .ro, 99, []⟩, ⟨"MEAS_DONE", 30, 30, .ro, 99, []⟩, ⟨"DEBUG_SEEN", 29, 29, .ro, 99, []⟩, ⟨"JOB_OK", 28, 28, .ro, 99, []⟩, ⟨"JOB_SIGNED", 27, 27, .ro, 99, []⟩, ⟨"MODE_ALLOW", 9, 9, .ro, 99, []⟩, ⟨"LASERS", 8, 8, .ro, 99, []⟩, ⟨"MODE", 7, 4, .ro, 99, []⟩, ⟨"DEBUG", 3, 2, .ro, 99, []⟩, ⟨"LIFECYCLE", 1, 0, .ro, 99, []⟩]⟩
def reg_SEC_MODE : RegDesc := ⟨"SEC_MODE", 0x20130004, 1, 4, 1, 4, 0x00000001#32,
  [⟨"RET", 23, 20, .ro, 99, []⟩, ⟨"LASERS", 8, 8, .rw, 99, []⟩, ⟨"MODE", 3, 0, .rw, 99, [(2, 6)]⟩]⟩
def reg_SEC_DEBUG : RegDesc := ⟨"SEC_DEBUG", 0x20130008, 1, 4, 1, 4, 0x00000000#32,
  [⟨"CLOSE", 31, 31, .wo, 99, []⟩, ⟨"HALTED", 30, 30, .ro, 99, []⟩, ⟨"LEVEL", 1, 0, .ro, 99, []⟩]⟩
def reg_SEC_FLAGS : RegDesc := ⟨"SEC_FLAGS", 0x2013000C, 1, 4, 1, 4, 0x00000000#32,
  [⟨"WRITE_REFUSED", 2, 2, .w1c, 99, []⟩, ⟨"TOKEN_REFUSED", 1, 1, .w1c, 99, []⟩, ⟨"MODE_REFUSED", 0, 0, .w1c, 99, []⟩]⟩
def reg_SEC_FAULT_LAST : RegDesc := ⟨"SEC_FAULT_LAST", 0x20130010, 1, 4, 1, 4, 0x00000000#32,
  [⟨"VALID", 31, 31, .ro, 99, []⟩, ⟨"CODE", 9, 0, .ro, 99, []⟩]⟩
def reg_SEC_ARB : RegDesc := ⟨"SEC_ARB", 0x20130014, 1, 4, 1, 4, 0x00000000#32,
  [⟨"COUNT", 5, 0, .ro, 99, []⟩]⟩
def reg_SEC_ARB_RAISE : RegDesc := ⟨"SEC_ARB_RAISE", 0x20130018, 1, 4, 1, 4, 0x00000000#32,
  [⟨"GO", 31, 31, .wo, 99, []⟩, ⟨"TARGET", 5, 0, .wo, 99, []⟩]⟩
def reg_SEC_SLOT : RegDesc := ⟨"SEC_SLOT", 0x2013001C, 1, 4, 1, 4, 0x00000000#32,
  [⟨"CONFIRMED", 1, 1, .ro, 99, []⟩, ⟨"SLOT", 0, 0, .ro, 99, []⟩]⟩
def reg_SEC_TOKEN_ADDR : RegDesc := ⟨"SEC_TOKEN_ADDR", 0x20130060, 1, 4, 1, 4, 0x00000000#32,
  [⟨"ADDR", 31, 0, .rw, 99, []⟩]⟩
def reg_SEC_TOKEN_CTRL : RegDesc := ⟨"SEC_TOKEN_CTRL", 0x20130064, 1, 4, 1, 4, 0x00000000#32,
  [⟨"START", 31, 31, .wo, 99, []⟩, ⟨"BUSY", 30, 30, .ro, 99, []⟩, ⟨"RESULT", 29, 28, .ro, 99, []⟩, ⟨"LEN", 9, 0, .rw, 99, [(4, 4), (196, 196)]⟩]⟩
def reg_SEC_CHAL_CTRL : RegDesc := ⟨"SEC_CHAL_CTRL", 0x20130068, 1, 4, 1, 4, 0x00000001#32,
  [⟨"NEW", 31, 31, .wo, 99, []⟩, ⟨"VALID", 30, 30, .ro, 99, []⟩, ⟨"LEVEL", 1, 0, .rw, 99, [(1, 2)]⟩]⟩
def reg_SEC_JOB_ADDR_LO : RegDesc := ⟨"SEC_JOB_ADDR_LO", 0x20130080, 1, 4, 1, 4, 0x00000000#32,
  [⟨"ADDR_LO", 31, 0, .rw, 99, []⟩]⟩
def reg_SEC_JOB_ADDR_HI : RegDesc := ⟨"SEC_JOB_ADDR_HI", 0x20130084, 1, 4, 1, 4, 0x00000000#32,
  [⟨"ADDR_HI", 7, 0, .rw, 99, []⟩]⟩
def reg_SEC_JOB_LEN : RegDesc := ⟨"SEC_JOB_LEN", 0x20130088, 1, 4, 1, 4, 0x00000000#32,
  [⟨"LEN", 31, 0, .rw, 99, [(64, 65536)]⟩]⟩
def reg_SEC_JOB_CTRL : RegDesc := ⟨"SEC_JOB_CTRL", 0x2013008C, 1, 4, 1, 4, 0x00000000#32,
  [⟨"START", 31, 31, .wo, 99, []⟩, ⟨"CLEAR", 30, 30, .wo, 99, []⟩, ⟨"BUSY", 29, 29, .ro, 99, []⟩]⟩
def reg_SEC_LC_CTRL : RegDesc := ⟨"SEC_LC_CTRL", 0x20130090, 1, 4, 1, 4, 0x00000000#32,
  [⟨"GO", 31, 31, .wo, 99, []⟩, ⟨"BUSY", 30, 30, .ro, 99, []⟩, ⟨"TARGET", 1, 0, .rw, 99, [(1, 3)]⟩]⟩
def reg_SEC_LC_ADDR : RegDesc := ⟨"SEC_LC_ADDR", 0x20130094, 1, 4, 1, 4, 0x00000000#32,
  [⟨"LC_ADDR", 31, 0, .rw, 99, []⟩]⟩
def reg_SEC_ATT_CTRL : RegDesc := ⟨"SEC_ATT_CTRL", 0x201300A0, 1, 4, 1, 4, 0x00000000#32,
  [⟨"START", 31, 31, .wo, 99, []⟩, ⟨"BUSY", 30, 30, .ro, 99, []⟩, ⟨"DONE", 29, 29, .w1c, 99, []⟩, ⟨"ERR", 28, 28, .w1c, 99, []⟩]⟩
def reg_SEC_ATT_ADDR : RegDesc := ⟨"SEC_ATT_ADDR", 0x201300A4, 1, 4, 1, 4, 0x00000000#32,
  [⟨"ATT_ADDR", 31, 0, .rw, 99, []⟩]⟩
def reg_SEC_UID : RegDesc := ⟨"SEC_UID", 0x20130020, 4, 4, 1, 4, 0x00000000#32,
  [⟨"BYTES", 31, 0, .ro, 99, []⟩]⟩
def reg_SEC_CHAL : RegDesc := ⟨"SEC_CHAL", 0x20130040, 8, 4, 1, 4, 0x00000000#32,
  [⟨"BYTES", 31, 0, .ro, 99, []⟩]⟩
def reg_SEC_MEAS_FW : RegDesc := ⟨"SEC_MEAS_FW", 0x20130100, 12, 4, 1, 4, 0x00000000#32,
  [⟨"BYTES", 31, 0, .ro, 99, []⟩]⟩
def reg_SEC_MEAS_JOB : RegDesc := ⟨"SEC_MEAS_JOB", 0x20130140, 12, 4, 1, 4, 0x00000000#32,
  [⟨"BYTES", 31, 0, .ro, 99, []⟩]⟩
def reg_SEC_IDPUB : RegDesc := ⟨"SEC_IDPUB", 0x20130180, 24, 4, 1, 4, 0x00000000#32,
  [⟨"BYTES", 31, 0, .ro, 99, []⟩]⟩

def regsSec0 : List RegDesc :=
  [reg_SEC_STATUS, reg_SEC_MODE, reg_SEC_DEBUG, reg_SEC_FLAGS, reg_SEC_FAULT_LAST, reg_SEC_ARB, reg_SEC_ARB_RAISE, reg_SEC_SLOT, reg_SEC_TOKEN_ADDR, reg_SEC_TOKEN_CTRL, reg_SEC_CHAL_CTRL, reg_SEC_JOB_ADDR_LO, reg_SEC_JOB_ADDR_HI, reg_SEC_JOB_LEN, reg_SEC_JOB_CTRL, reg_SEC_LC_CTRL, reg_SEC_LC_ADDR, reg_SEC_ATT_CTRL, reg_SEC_ATT_ADDR, reg_SEC_UID]
def regsSec1 : List RegDesc :=
  [reg_SEC_CHAL, reg_SEC_MEAS_FW, reg_SEC_MEAS_JOB, reg_SEC_IDPUB]
/-- The registers of the SEC window. -/
def regsSec : List RegDesc :=
  regsSec0 ++ regsSec1

/-! VLT window (SOURCE 15h), from spec/19_security_modes_debug.md. -/

def reg_VLT_STATUS : RegDesc := ⟨"VLT_STATUS", 0x20150000, 1, 4, 1, 4, 0x04000000#32,
  [⟨"LINK_OK", 31, 31, .ro, 99, []⟩, ⟨"TRIP", 30, 30, .ro, 99, []⟩, ⟨"LOST", 29, 29, .ro, 99, []⟩, ⟨"TAMPERED", 28, 28, .ro, 99, []⟩, ⟨"VBAT_LOW", 27, 27, .ro, 99, []⟩, ⟨"PSU_EN", 26, 26, .ro, 99, []⟩, ⟨"TLOG_FILL", 20, 16, .ro, 99, []⟩, ⟨"TLOG_OVF", 15, 0, .ro, 99, []⟩]⟩
def reg_VLT_OPSEC : RegDesc := ⟨"VLT_OPSEC", 0x20150004, 1, 4, 1, 4, 0x00000000#32,
  [⟨"OPSEC", 31, 0, .rw, 99, []⟩]⟩
def reg_VLT_PCYCLE : RegDesc := ⟨"VLT_PCYCLE", 0x20150008, 1, 4, 1, 4, 0x00000000#32,
  [⟨"PCYCLE", 23, 0, .rw, 99, []⟩]⟩
def reg_VLT_RTC_SEC : RegDesc := ⟨"VLT_RTC_SEC", 0x2015000C, 1, 4, 1, 4, 0x00000000#32,
  [⟨"SEC", 31, 0, .ro, 99, []⟩]⟩
def reg_VLT_RTC_SUB : RegDesc := ⟨"VLT_RTC_SUB", 0x20150010, 1, 4, 1, 4, 0x00000000#32,
  [⟨"SUB", 14, 0, .ro, 99, []⟩]⟩
def reg_VLT_RTC_SET : RegDesc := ⟨"VLT_RTC_SET", 0x20150014, 1, 4, 1, 4, 0x00000000#32,
  [⟨"SET", 31, 0, .wo, 99, []⟩]⟩
def reg_VLT_ALARM : RegDesc := ⟨"VLT_ALARM", 0x20150018, 1, 4, 1, 4, 0x00000000#32,
  [⟨"ALARM", 31, 0, .rw, 99, []⟩]⟩
def reg_VLT_WAKE : RegDesc := ⟨"VLT_WAKE", 0x2015001C, 1, 4, 1, 4, 0x00000000#32,
  [⟨"ALARM_EN", 31, 31, .rw, 99, []⟩, ⟨"WAKE_EN", 30, 30, .rw, 99, []⟩, ⟨"SLEEP", 29, 29, .wo, 99, []⟩, ⟨"CAUSE", 2, 0, .ro, 99, []⟩]⟩
def reg_VLT_TAMP_EN : RegDesc := ⟨"VLT_TAMP_EN", 0x20150020, 1, 4, 1, 4, 0x00000000#32,
  [⟨"EN", 5, 0, .rw, 99, []⟩]⟩
def reg_VLT_CLEAR : RegDesc := ⟨"VLT_CLEAR", 0x20150024, 1, 4, 1, 4, 0x00000000#32,
  [⟨"LOST", 2, 2, .wo, 99, []⟩, ⟨"TLOG", 1, 1, .wo, 99, []⟩, ⟨"TRIP", 0, 0, .wo, 99, []⟩]⟩
def reg_VLT_FLAGS : RegDesc := ⟨"VLT_FLAGS", 0x20150028, 1, 4, 1, 4, 0x00000000#32,
  [⟨"LINK_ERR", 1, 1, .w1c, 99, []⟩, ⟨"WRITE_REFUSED", 0, 0, .w1c, 99, []⟩]⟩
def reg_VLT_FAULT_LAST : RegDesc := ⟨"VLT_FAULT_LAST", 0x2015002C, 1, 4, 1, 4, 0x00000000#32,
  [⟨"VALID", 31, 31, .ro, 99, []⟩, ⟨"CODE", 9, 0, .ro, 99, []⟩]⟩
def reg_VLT_TLOG_SEC : RegDesc := ⟨"VLT_TLOG_SEC", 0x20150040, 16, 8, 1, 4, 0x00000000#32,
  [⟨"SEC", 31, 0, .ro, 99, []⟩]⟩
def reg_VLT_TLOG_INFO : RegDesc := ⟨"VLT_TLOG_INFO", 0x20150044, 16, 8, 1, 4, 0x00000000#32,
  [⟨"SOURCE", 31, 28, .ro, 99, []⟩, ⟨"COUNT", 27, 16, .ro, 99, []⟩, ⟨"DETAIL", 15, 0, .ro, 99, []⟩]⟩

def regsVlt0 : List RegDesc :=
  [reg_VLT_STATUS, reg_VLT_OPSEC, reg_VLT_PCYCLE, reg_VLT_RTC_SEC, reg_VLT_RTC_SUB, reg_VLT_RTC_SET, reg_VLT_ALARM, reg_VLT_WAKE, reg_VLT_TAMP_EN, reg_VLT_CLEAR, reg_VLT_FLAGS, reg_VLT_FAULT_LAST, reg_VLT_TLOG_SEC, reg_VLT_TLOG_INFO]
/-- The registers of the VLT window. -/
def regsVlt : List RegDesc :=
  regsVlt0

/-! FLU window (SOURCE 14h), from spec/20_event_recorder.md. -/

def reg_FLU_STATUS : RegDesc := ⟨"FLU_STATUS", 0x20140000, 1, 4, 1, 4, 0x00000000#32,
  [⟨"READY", 31, 31, .ro, 99, []⟩, ⟨"SEALED_FULL", 30, 30, .ro, 99, []⟩, ⟨"RESERVE", 29, 29, .ro, 99, []⟩, ⟨"PF", 28, 28, .ro, 99, []⟩, ⟨"PF_DONE", 27, 27, .ro, 99, []⟩, ⟨"ERASING", 26, 26, .ro, 99, []⟩, ⟨"BACKLOG", 25, 16, .ro, 99, []⟩, ⟨"RING", 11, 0, .ro, 99, []⟩]⟩
def reg_FLU_FLAGS : RegDesc := ⟨"FLU_FLAGS", 0x20140004, 1, 4, 1, 4, 0x00000000#32,
  [⟨"WRITE_REFUSED", 7, 7, .w1c, 99, []⟩, ⟨"PROTECTED", 6, 6, .w1c, 99, []⟩, ⟨"FLASH_ERR", 5, 5, .w1c, 99, []⟩, ⟨"TORN", 4, 4, .w1c, 99, []⟩, ⟨"SRAM_UE", 3, 3, .w1c, 99, []⟩, ⟨"DROP", 2, 2, .w1c, 99, []⟩, ⟨"RESERVE_IN", 1, 1, .w1c, 99, []⟩, ⟨"PFW", 0, 0, .w1c, 99, []⟩]⟩
def reg_FLU_FAULT_LAST : RegDesc := ⟨"FLU_FAULT_LAST", 0x20140008, 1, 4, 1, 4, 0x00000000#32,
  [⟨"VALID", 31, 31, .ro, 99, []⟩, ⟨"CODE", 9, 0, .ro, 99, []⟩]⟩
def reg_FLU_CTRL : RegDesc := ⟨"FLU_CTRL", 0x2014000C, 1, 4, 1, 4, 0x00000000#32,
  [⟨"FLUSH", 0, 0, .wo, 99, []⟩]⟩
def reg_FLU_SEQ_NEXT_LO : RegDesc := ⟨"FLU_SEQ_NEXT_LO", 0x20140010, 1, 4, 1, 4, 0x00000000#32,
  [⟨"NEXT_LO", 31, 0, .ro, 99, []⟩]⟩
def reg_FLU_SEQ_NEXT_HI : RegDesc := ⟨"FLU_SEQ_NEXT_HI", 0x20140014, 1, 4, 1, 4, 0x00000000#32,
  [⟨"NEXT_HI", 15, 0, .ro, 99, []⟩]⟩
def reg_FLU_OLDEST_LO : RegDesc := ⟨"FLU_OLDEST_LO", 0x20140018, 1, 4, 1, 4, 0x00000000#32,
  [⟨"OLD_LO", 31, 0, .ro, 99, []⟩]⟩
def reg_FLU_OLDEST_HI : RegDesc := ⟨"FLU_OLDEST_HI", 0x2014001C, 1, 4, 1, 4, 0x00000000#32,
  [⟨"OLD_HI", 15, 0, .ro, 99, []⟩]⟩
def reg_FLU_LIVE : RegDesc := ⟨"FLU_LIVE", 0x20140020, 1, 4, 1, 4, 0x00000000#32,
  [⟨"LIVE", 20, 0, .ro, 99, []⟩]⟩
def reg_FLU_RESV : RegDesc := ⟨"FLU_RESV", 0x20140024, 1, 4, 1, 4, 0x00000000#32,
  [⟨"RESV", 15, 0, .ro, 99, []⟩]⟩
def reg_FLU_DROP : RegDesc := ⟨"FLU_DROP", 0x20140028, 1, 4, 1, 4, 0x00000000#32,
  [⟨"DROP", 31, 0, .ro, 99, []⟩]⟩
def reg_FLU_DISP_A : RegDesc := ⟨"FLU_DISP_A", 0x2014002C, 1, 4, 1, 4, 0x00000000#32,
  [⟨"DISP_A", 31, 0, .ro, 99, []⟩]⟩
def reg_FLU_DISP_B : RegDesc := ⟨"FLU_DISP_B", 0x20140030, 1, 4, 1, 4, 0x00000000#32,
  [⟨"DISP_B", 31, 0, .ro, 99, []⟩]⟩
def reg_FLU_SCAN : RegDesc := ⟨"FLU_SCAN", 0x20140034, 1, 4, 1, 4, 0x00000000#32,
  [⟨"TORN", 31, 16, .ro, 99, []⟩, ⟨"REERASED", 15, 0, .ro, 99, []⟩]⟩
def reg_FLU_SUBMIT : RegDesc := ⟨"FLU_SUBMIT", 0x20140180, 1, 4, 1, 4, 0x00000000#32,
  [⟨"GO", 31, 31, .wo, 99, []⟩, ⟨"BUSY", 30, 30, .ro, 99, []⟩, ⟨"NOSPACE", 29, 29, .w1c, 99, []⟩, ⟨"PARTS", 2, 0, .rw, 99, []⟩]⟩
def reg_FLU_SUBMIT_SEQ_LO : RegDesc := ⟨"FLU_SUBMIT_SEQ_LO", 0x20140184, 1, 4, 1, 4, 0x00000000#32,
  [⟨"SEQ_LO", 31, 0, .ro, 99, []⟩]⟩
def reg_FLU_SUBMIT_SEQ_HI : RegDesc := ⟨"FLU_SUBMIT_SEQ_HI", 0x20140188, 1, 4, 1, 4, 0x00000000#32,
  [⟨"SEQ_HI", 15, 0, .ro, 99, []⟩]⟩
def reg_FLU_RD_FIRST_LO : RegDesc := ⟨"FLU_RD_FIRST_LO", 0x20140190, 1, 4, 1, 4, 0x00000000#32,
  [⟨"FIRST_LO", 31, 0, .rw, 99, []⟩]⟩
def reg_FLU_RD_FIRST_HI : RegDesc := ⟨"FLU_RD_FIRST_HI", 0x20140194, 1, 4, 1, 4, 0x00000000#32,
  [⟨"FIRST_HI", 15, 0, .rw, 99, []⟩]⟩
def reg_FLU_RD_ADDR : RegDesc := ⟨"FLU_RD_ADDR", 0x20140198, 1, 4, 1, 4, 0x00000000#32,
  [⟨"ADDR", 31, 0, .rw, 99, []⟩]⟩
def reg_FLU_RD_CTRL : RegDesc := ⟨"FLU_RD_CTRL", 0x2014019C, 1, 4, 1, 4, 0x00000001#32,
  [⟨"START", 31, 31, .wo, 99, []⟩, ⟨"BUSY", 30, 30, .ro, 99, []⟩, ⟨"MORE", 29, 29, .ro, 99, []⟩, ⟨"RETURNED", 12, 8, .ro, 99, []⟩, ⟨"COUNT", 4, 0, .rw, 99, [(1, 30)]⟩]⟩
def reg_FLU_XSPI_CFG : RegDesc := ⟨"FLU_XSPI_CFG", 0x20140200, 1, 4, 1, 4, 0x00000F1A#32,
  [⟨"PROTO", 17, 16, .rw, 99, [(0, 1)]⟩, ⟨"DIV", 11, 8, .rw, 99, [(4, 15)]⟩, ⟨"SIZE", 4, 0, .rw, 99, [(26, 30)]⟩]⟩
def reg_FLU_XSPI_CMD : RegDesc := ⟨"FLU_XSPI_CMD", 0x20140204, 1, 4, 1, 4, 0x00000000#32,
  [⟨"GO", 31, 31, .wo, 99, []⟩, ⟨"BUSY", 30, 30, .ro, 99, []⟩, ⟨"ERR", 29, 29, .w1c, 99, []⟩, ⟨"OP", 2, 0, .rw, 99, [(1, 3)]⟩]⟩
def reg_FLU_XSPI_FADDR : RegDesc := ⟨"FLU_XSPI_FADDR", 0x20140208, 1, 4, 1, 4, 0x00000000#32,
  [⟨"FADDR", 27, 0, .rw, 99, []⟩]⟩
def reg_FLU_XSPI_SADDR : RegDesc := ⟨"FLU_XSPI_SADDR", 0x2014020C, 1, 4, 1, 4, 0x00000000#32,
  [⟨"SADDR", 31, 0, .rw, 99, []⟩]⟩
def reg_FLU_REC_HEAD : RegDesc := ⟨"FLU_REC_HEAD", 0x20140100, 8, 16, 1, 4, 0x00000000#32,
  [⟨"SEV", 18, 16, .rw, 99, []⟩, ⟨"CODE", 15, 0, .rw, 99, []⟩]⟩
def reg_FLU_REC_PAY : RegDesc := ⟨"FLU_REC_PAY", 0x20140104, 8, 16, 3, 4, 0x00000000#32,
  [⟨"BYTES", 31, 0, .rw, 99, []⟩]⟩
def reg_FLU_RD_BEFORE_LO : RegDesc := ⟨"FLU_RD_BEFORE_LO", 0x201401A0, 1, 4, 1, 4, 0x00000000#32,
  [⟨"SEQ", 31, 0, .ro, 99, []⟩]⟩
def reg_FLU_RD_BEFORE_HI : RegDesc := ⟨"FLU_RD_BEFORE_HI", 0x201401A4, 1, 4, 1, 4, 0x00000000#32,
  [⟨"SEQ", 15, 0, .ro, 99, []⟩]⟩
def reg_FLU_RD_RET_LO : RegDesc := ⟨"FLU_RD_RET_LO", 0x201401A8, 1, 4, 1, 4, 0x00000000#32,
  [⟨"SEQ", 31, 0, .ro, 99, []⟩]⟩
def reg_FLU_RD_RET_HI : RegDesc := ⟨"FLU_RD_RET_HI", 0x201401AC, 1, 4, 1, 4, 0x00000000#32,
  [⟨"SEQ", 15, 0, .ro, 99, []⟩]⟩
def reg_FLU_RD_AFTER_LO : RegDesc := ⟨"FLU_RD_AFTER_LO", 0x201401B0, 1, 4, 1, 4, 0x00000000#32,
  [⟨"SEQ", 31, 0, .ro, 99, []⟩]⟩
def reg_FLU_RD_AFTER_HI : RegDesc := ⟨"FLU_RD_AFTER_HI", 0x201401B4, 1, 4, 1, 4, 0x00000000#32,
  [⟨"SEQ", 15, 0, .ro, 99, []⟩]⟩

def regsFlu0 : List RegDesc :=
  [reg_FLU_STATUS, reg_FLU_FLAGS, reg_FLU_FAULT_LAST, reg_FLU_CTRL, reg_FLU_SEQ_NEXT_LO, reg_FLU_SEQ_NEXT_HI, reg_FLU_OLDEST_LO, reg_FLU_OLDEST_HI, reg_FLU_LIVE, reg_FLU_RESV, reg_FLU_DROP, reg_FLU_DISP_A, reg_FLU_DISP_B, reg_FLU_SCAN, reg_FLU_SUBMIT, reg_FLU_SUBMIT_SEQ_LO, reg_FLU_SUBMIT_SEQ_HI, reg_FLU_RD_FIRST_LO, reg_FLU_RD_FIRST_HI, reg_FLU_RD_ADDR]
def regsFlu1 : List RegDesc :=
  [reg_FLU_RD_CTRL, reg_FLU_XSPI_CFG, reg_FLU_XSPI_CMD, reg_FLU_XSPI_FADDR, reg_FLU_XSPI_SADDR, reg_FLU_REC_HEAD, reg_FLU_REC_PAY, reg_FLU_RD_BEFORE_LO, reg_FLU_RD_BEFORE_HI, reg_FLU_RD_RET_LO, reg_FLU_RD_RET_HI, reg_FLU_RD_AFTER_LO, reg_FLU_RD_AFTER_HI]
/-- The registers of the FLU window. -/
def regsFlu : List RegDesc :=
  regsFlu0 ++ regsFlu1

/-- The registers of window `k` (the SOURCE of R30). -/
def regWindow (k : Nat) : List RegDesc :=
  match k with
  | 0 => regsKey
  | 1 => regsMbx
  | 2 => regsScn
  | 3 => regsCor
  | 4 => regsSpn
  | 5 => regsPlk
  | 6 => regsLsr
  | 7 => regsAfe
  | 8 => regsLop
  | 9 => regsCam
  | 10 => regsAxs
  | 11 => regsDmc
  | 12 => regsDma
  | 13 => regsDsp
  | 14 => regsLit
  | 15 => regsThm
  | 16 => regsCal
  | 17 => regsNet
  | 18 => regsPci
  | 19 => regsSec
  | 20 => regsFlu
  | 21 => regsVlt
  | _ => []

/-! The field references. -/

def MBX_VIA_ERR_COUNT_ALIGN : Fref := ⟨0x2001F000, 0, 0, 31, 24⟩
def MBX_VIA_ERR_COUNT_DECODE : Fref := ⟨0x2001F000, 0, 0, 23, 16⟩
def MBX_VIA_ERR_COUNT_PERM : Fref := ⟨0x2001F000, 0, 0, 15, 8⟩
def MBX_VIA_ERR_COUNT_TARGET : Fref := ⟨0x2001F000, 0, 0, 7, 0⟩
def MBX_VIA_ERR_FIRST_VALID : Fref := ⟨0x2001F004, 0, 0, 31, 31⟩
def MBX_VIA_ERR_FIRST_KIND : Fref := ⟨0x2001F004, 0, 0, 30, 28⟩
def MBX_VIA_ERR_FIRST_REQ : Fref := ⟨0x2001F004, 0, 0, 27, 22⟩
def MBX_VIA_ERR_FIRST_WRITE : Fref := ⟨0x2001F004, 0, 0, 21, 21⟩
def MBX_VIA_ERR_FIRST_ADDR_HI : Fref := ⟨0x2001F004, 0, 0, 7, 0⟩
def MBX_VIA_ERR_ADDR_ADDR_LO : Fref := ⟨0x2001F008, 0, 0, 31, 0⟩
def MBX_VIA_ERR_CLEAR_CLEAR : Fref := ⟨0x2001F00C, 0, 0, 0, 0⟩
def MBX_VIA_APERTURE_EN : Fref := ⟨0x2001F100, 4, 0, 31, 31⟩
def MBX_VIA_APERTURE_BASE : Fref := ⟨0x2001F100, 4, 0, 11, 0⟩
def MBX_STATE_TAG : Fref := ⟨0x20010000, 4, 0, 31, 16⟩
def MBX_STATE_ABORT_REQ : Fref := ⟨0x20010000, 4, 0, 8, 8⟩
def MBX_STATE_STATE : Fref := ⟨0x20010000, 4, 0, 1, 0⟩
def MBX_COMPLETE_MAILBOX : Fref := ⟨0x20010020, 0, 0, 2, 0⟩
def MBX_PENDING_RUNG : Fref := ⟨0x20010024, 0, 0, 7, 0⟩
def MBX_HOST_ERR_WR_BUSY : Fref := ⟨0x20010030, 0, 0, 31, 24⟩
def MBX_HOST_ERR_RING_BUSY : Fref := ⟨0x20010030, 0, 0, 23, 16⟩
def MBX_HOST_ERR_WR_REPLY : Fref := ⟨0x20010030, 0, 0, 15, 8⟩
def MBX_HOST_ERR_SIZE : Fref := ⟨0x20010030, 0, 0, 7, 4⟩
def MBX_HOST_ERR_PROTO : Fref := ⟨0x20010030, 0, 0, 3, 0⟩
def MBX_HOST_ERR_CLEAR_CLEAR : Fref := ⟨0x20010034, 0, 0, 0, 0⟩
def MBX_EVT_WR_WR : Fref := ⟨0x20010140, 0, 0, 31, 0⟩
def MBX_EVT_RD_RD : Fref := ⟨0x20010144, 0, 0, 31, 0⟩
def MBX_EVT_STATUS_OVERFLOW : Fref := ⟨0x20010148, 0, 0, 0, 0⟩
def MBX_READY_HALTED : Fref := ⟨0x20010200, 0, 0, 1, 1⟩
def MBX_READY_FW_READY : Fref := ⟨0x20010200, 0, 0, 0, 0⟩
def MBX_WDOG_EN : Fref := ⟨0x20010204, 0, 0, 31, 31⟩
def MBX_WDOG_KICK : Fref := ⟨0x20010204, 0, 0, 15, 0⟩
def MBX_RESET_CAUSE_POWER : Fref := ⟨0x20010208, 0, 0, 3, 3⟩
def MBX_RESET_CAUSE_COMMAND : Fref := ⟨0x20010208, 0, 0, 2, 2⟩
def MBX_RESET_CAUSE_WDOG : Fref := ⟨0x20010208, 0, 0, 1, 1⟩
def MBX_RESET_CAUSE_LOCKSTEP : Fref := ⟨0x20010208, 0, 0, 0, 0⟩
def MBX_SUMMARY_WORD : Fref := ⟨0x20010100, 4, 0, 31, 0⟩
def KEY_CTRL_TICK_OUT_EN : Fref := ⟨0x20000000, 0, 0, 8, 8⟩
def KEY_CTRL_DISC_MODE : Fref := ⟨0x20000000, 0, 0, 5, 4⟩
def KEY_CTRL_PERIOD : Fref := ⟨0x20000000, 0, 0, 2, 0⟩
def KEY_STATUS_TIME_PLL_LOCK : Fref := ⟨0x20000004, 0, 0, 11, 11⟩
def KEY_STATUS_RT_PLL_LOCK : Fref := ⟨0x20000004, 0, 0, 10, 10⟩
def KEY_STATUS_TICK_IN_OK : Fref := ⟨0x20000004, 0, 0, 9, 9⟩
def KEY_STATUS_LOCKED : Fref := ⟨0x20000004, 0, 0, 8, 8⟩
def KEY_STATUS_DISC_MODE_IF : Fref := ⟨0x20000004, 0, 0, 5, 4⟩
def KEY_STATUS_PERIOD_IF : Fref := ⟨0x20000004, 0, 0, 2, 0⟩
def KEY_TICK_LO_TICK_LO : Fref := ⟨0x20000008, 0, 0, 31, 0⟩
def KEY_TICK_HI_TICK_HI : Fref := ⟨0x2000000C, 0, 0, 31, 0⟩
def KEY_COMMIT_GROUPS : Fref := ⟨0x20000010, 0, 0, 9, 0⟩
def KEY_COMMIT_STATUS_ARMED : Fref := ⟨0x20000014, 0, 0, 25, 16⟩
def KEY_COMMIT_STATUS_DIRTY : Fref := ⟨0x20000014, 0, 0, 9, 0⟩
def KEY_LAST_COMMIT_LO_LAST_LO : Fref := ⟨0x20000018, 0, 0, 31, 0⟩
def KEY_LAST_COMMIT_HI_LAST_HI : Fref := ⟨0x2000001C, 0, 0, 31, 0⟩
def KEY_COMMIT_ERR_PERIOD_REFUSED : Fref := ⟨0x20000020, 0, 0, 1, 1⟩
def KEY_COMMIT_ERR_SCHED_LATE : Fref := ⟨0x20000020, 0, 0, 0, 0⟩
def KEY_SCHED_TICK_LO_TICK_LO : Fref := ⟨0x20000100, 16, 0, 31, 0⟩
def KEY_SCHED_TICK_HI_TICK_HI : Fref := ⟨0x20000104, 16, 0, 31, 0⟩
def KEY_SCHED_CTRL_ARM : Fref := ⟨0x20000108, 16, 0, 31, 31⟩
def KEY_SCHED_CTRL_FIRED : Fref := ⟨0x20000108, 16, 0, 30, 30⟩
def KEY_SCHED_CTRL_LATE : Fref := ⟨0x20000108, 16, 0, 29, 29⟩
def KEY_SCHED_CTRL_MASK : Fref := ⟨0x20000108, 16, 0, 9, 0⟩
def KEY_OVR_A_SCN : Fref := ⟨0x20000200, 8, 0, 31, 24⟩
def KEY_OVR_A_COR : Fref := ⟨0x20000200, 8, 0, 23, 16⟩
def KEY_OVR_A_SPN : Fref := ⟨0x20000200, 8, 0, 15, 8⟩
def KEY_OVR_A_LOP : Fref := ⟨0x20000200, 8, 0, 7, 0⟩
def KEY_OVR_B_AFE : Fref := ⟨0x20000204, 8, 0, 7, 0⟩
def KEY_OVR_CLEAR_CLEAR : Fref := ⟨0x20000280, 0, 0, 0, 0⟩
def KEY_OVR_LAST_VALID : Fref := ⟨0x20000284, 0, 0, 31, 31⟩
def KEY_OVR_LAST_BLOCK : Fref := ⟨0x20000284, 0, 0, 9, 4⟩
def KEY_OVR_LAST_PIER : Fref := ⟨0x20000284, 0, 0, 3, 0⟩
def KEY_FRC_LO_FRC_LO : Fref := ⟨0x20000400, 0, 0, 31, 0⟩
def KEY_FRC_HI_FRC_HI : Fref := ⟨0x20000404, 0, 0, 31, 0⟩
def KEY_NT_LO_NT_LO : Fref := ⟨0x20000408, 0, 0, 31, 0⟩
def KEY_NT_HI_NT_HI : Fref := ⟨0x2000040C, 0, 0, 31, 0⟩
def KEY_SNAP_CAPTURE : Fref := ⟨0x20000410, 0, 0, 0, 0⟩
def KEY_INC_FRAC_FRAC : Fref := ⟨0x20000440, 0, 0, 31, 0⟩
def KEY_INC_INT_INT : Fref := ⟨0x20000444, 0, 0, 0, 0⟩
def KEY_INC_NOW_FRAC_FRAC : Fref := ⟨0x20000448, 0, 0, 31, 0⟩
def KEY_INC_NOW_INT_INT : Fref := ⟨0x2000044C, 0, 0, 0, 0⟩
def KEY_OFS_LO_OFS_LO : Fref := ⟨0x20000450, 0, 0, 31, 0⟩
def KEY_OFS_HI_OFS_HI : Fref := ⟨0x20000454, 0, 0, 31, 0⟩
def KEY_OFS_NOW_LO_LO : Fref := ⟨0x20000458, 0, 0, 31, 0⟩
def KEY_OFS_NOW_HI_HI : Fref := ⟨0x2000045C, 0, 0, 31, 0⟩
def KEY_JUMP_LIMIT_LIMIT : Fref := ⟨0x20000460, 0, 0, 31, 0⟩
def KEY_TIME_CTRL_JUMP_ARM : Fref := ⟨0x20000464, 0, 0, 0, 0⟩
def KEY_TIME_STATUS_JUMPED : Fref := ⟨0x20000468, 0, 0, 2, 2⟩
def KEY_TIME_STATUS_INC_RANGE : Fref := ⟨0x20000468, 0, 0, 1, 1⟩
def KEY_TIME_STATUS_JUMP_REFUSED : Fref := ⟨0x20000468, 0, 0, 0, 0⟩
def KEY_DISC_ANCHOR_LO_ANCHOR_LO : Fref := ⟨0x20000500, 0, 0, 31, 0⟩
def KEY_DISC_ANCHOR_HI_ANCHOR_HI : Fref := ⟨0x20000504, 0, 0, 31, 0⟩
def KEY_DISC_STATUS_UNLOCK : Fref := ⟨0x20000508, 0, 0, 0, 0⟩
def KEY_DISC_ERR_ERR : Fref := ⟨0x2000050C, 0, 0, 31, 0⟩
def KEY_WIRE_COMP_COMP : Fref := ⟨0x20000510, 0, 0, 7, 0⟩
def KEY_TT_CTRL_EN : Fref := ⟨0x2000060C, 32, 0, 31, 31⟩
def KEY_TT_CTRL_PERIODIC : Fref := ⟨0x2000060C, 32, 0, 30, 30⟩
def KEY_TT_CTRL_ALIGN : Fref := ⟨0x2000060C, 32, 0, 29, 29⟩
def KEY_TT_CTRL_DEST : Fref := ⟨0x2000060C, 32, 0, 20, 16⟩
def KEY_TT_CTRL_INDEX : Fref := ⟨0x2000060C, 32, 0, 7, 0⟩
def KEY_TT_STATUS_IGNORED : Fref := ⟨0x20000610, 32, 0, 3, 3⟩
def KEY_TT_STATUS_JUMPED : Fref := ⟨0x20000610, 32, 0, 2, 2⟩
def KEY_TT_STATUS_MISSED : Fref := ⟨0x20000610, 32, 0, 1, 1⟩
def KEY_TT_STATUS_FIRED : Fref := ⟨0x20000610, 32, 0, 0, 0⟩
def KEY_OVR_TICK_LO_LO : Fref := ⟨0x20000288, 0, 0, 31, 0⟩
def KEY_OVR_TICK_HI_HI : Fref := ⟨0x2000028C, 0, 0, 31, 0⟩
def KEY_SNAP_CAP_VAL : Fref := ⟨0x20000414, 4, 0, 31, 0⟩
def KEY_TT_TARGET_LO_TARGET : Fref := ⟨0x20000600, 32, 0, 31, 0⟩
def KEY_TT_TARGET_HI_TARGET : Fref := ⟨0x20000604, 32, 0, 31, 0⟩
def KEY_TT_PERIOD_PERIOD : Fref := ⟨0x20000608, 32, 0, 31, 0⟩
def KEY_TT_FIRE_LO_TICK : Fref := ⟨0x20000614, 32, 0, 31, 0⟩
def KEY_TT_FIRE_HI_TICK : Fref := ⟨0x20000618, 32, 0, 31, 0⟩
def SCN_CTRL_PIER_EN : Fref := ⟨0x20020000, 0, 0, 15, 0⟩
def SCN_CMD_OP : Fref := ⟨0x20020004, 0, 0, 18, 16⟩
def SCN_CMD_MASK : Fref := ⟨0x20020004, 0, 0, 15, 0⟩
def SCN_LAYER_LAYER : Fref := ⟨0x20020008, 0, 0, 19, 0⟩
def SCN_LAYER_GO_GO : Fref := ⟨0x2002000C, 0, 0, 0, 0⟩
def SCN_LAYER_TICK_LO_TICK_LO : Fref := ⟨0x20020010, 0, 0, 31, 0⟩
def SCN_LAYER_TICK_HI_TICK_HI : Fref := ⟨0x20020014, 0, 0, 31, 0⟩
def SCN_BARRIER_WAIT_WAIT : Fref := ⟨0x20020018, 0, 0, 31, 0⟩
def SCN_STATUS_DIGEST_PEND : Fref := ⟨0x2002001C, 0, 0, 31, 16⟩
def SCN_STATUS_LAYER_DONE : Fref := ⟨0x2002001C, 0, 0, 15, 0⟩
def SCN_ERR_WRITE_REFUSED : Fref := ⟨0x20020020, 0, 0, 1, 1⟩
def SCN_ERR_LAYER_EARLY : Fref := ⟨0x20020020, 0, 0, 0, 0⟩
def SCN_PROF_SEL_PIER : Fref := ⟨0x20020024, 0, 0, 19, 16⟩
def SCN_PROF_SEL_PROFILE : Fref := ⟨0x20020024, 0, 0, 15, 8⟩
def SCN_PROF_SEL_ENTRY : Fref := ⟨0x20020024, 0, 0, 5, 0⟩
def SCN_PROF_DATA_VALUE : Fref := ⟨0x20020028, 0, 0, 15, 0⟩
def SCN_FAULT_LAST_VALID : Fref := ⟨0x2002002C, 0, 0, 31, 31⟩
def SCN_FAULT_LAST_PIER : Fref := ⟨0x2002002C, 0, 0, 19, 16⟩
def SCN_FAULT_LAST_CODE : Fref := ⟨0x2002002C, 0, 0, 9, 0⟩
def SCN_RING_BASE_LO_BASE_LO : Fref := ⟨0x20020100, 128, 0, 31, 12⟩
def SCN_RING_BASE_HI_BASE_HI : Fref := ⟨0x20020104, 128, 0, 7, 0⟩
def SCN_RING_SIZE_SIZE : Fref := ⟨0x20020108, 128, 0, 4, 0⟩
def SCN_RING_LWM_LWM : Fref := ⟨0x2002010C, 128, 0, 22, 0⟩
def SCN_RING_WR_WR : Fref := ⟨0x20020110, 128, 0, 31, 0⟩
def SCN_RING_RD_RD : Fref := ⟨0x20020114, 128, 0, 31, 0⟩
def SCN_FIFO_OUTST : Fref := ⟨0x20020118, 128, 0, 18, 16⟩
def SCN_FIFO_FILL : Fref := ⟨0x20020118, 128, 0, 14, 0⟩
def SCN_SEQ_NEXT_SEQ_NEXT : Fref := ⟨0x2002011C, 128, 0, 31, 0⟩
def SCN_EPOCH_EPOCH : Fref := ⟨0x20020120, 128, 0, 15, 0⟩
def SCN_SEQ_LAST_SEQ_LAST : Fref := ⟨0x20020124, 128, 0, 31, 0⟩
def SCN_SEQ_LAST_EPOCH_VALID : Fref := ⟨0x20020128, 128, 0, 16, 16⟩
def SCN_SEQ_LAST_EPOCH_EPOCH : Fref := ⟨0x20020128, 128, 0, 15, 0⟩
def SCN_STATE_TYPE : Fref := ⟨0x2002012C, 128, 0, 31, 28⟩
def SCN_STATE_STATE : Fref := ⟨0x2002012C, 128, 0, 2, 0⟩
def SCN_POS_X_POS : Fref := ⟨0x20020130, 128, 0, 31, 0⟩
def SCN_POS_Y_POS : Fref := ⟨0x20020134, 128, 0, 31, 0⟩
def SCN_POS_Z_POS : Fref := ⟨0x20020138, 128, 0, 31, 0⟩
def SCN_PWR_GATE_REQ : Fref := ⟨0x2002013C, 128, 0, 16, 16⟩
def SCN_PWR_PLANNED : Fref := ⟨0x2002013C, 128, 0, 15, 0⟩
def SCN_VEL_VEL : Fref := ⟨0x20020140, 128, 0, 24, 0⟩
def SCN_LIM_V_V : Fref := ⟨0x20020144, 128, 0, 31, 0⟩
def SCN_LIM_A_A : Fref := ⟨0x20020148, 128, 0, 31, 0⟩
def SCN_LIM_J_J : Fref := ⟨0x2002014C, 128, 0, 31, 0⟩
def SCN_LIM_AM_A : Fref := ⟨0x20020150, 128, 0, 31, 0⟩
def SCN_UNDER_STARVED : Fref := ⟨0x20020154, 128, 0, 31, 16⟩
def SCN_UNDER_LATE : Fref := ⟨0x20020154, 128, 0, 15, 0⟩
def SCN_COUNT_COUNT : Fref := ⟨0x20020158, 128, 0, 31, 0⟩
def SCN_MARK_PARAM_PARAM : Fref := ⟨0x2002015C, 128, 0, 31, 0⟩
def SCN_MARK_SEQ_SEQ : Fref := ⟨0x20020160, 128, 0, 31, 0⟩
def SCN_MARK_EPOCH_VALID : Fref := ⟨0x20020164, 128, 0, 16, 16⟩
def SCN_MARK_EPOCH_EPOCH : Fref := ⟨0x20020164, 128, 0, 15, 0⟩
def SCN_FLAGS_WAIT_LATE : Fref := ⟨0x20020168, 128, 0, 2, 2⟩
def SCN_FLAGS_SKY_SHORT : Fref := ⟨0x20020168, 128, 0, 1, 1⟩
def SCN_FLAGS_IDX_REFUSED : Fref := ⟨0x20020168, 128, 0, 0, 0⟩
def SCN_DIG_LAYER_LAYER : Fref := ⟨0x20021030, 64, 0, 19, 0⟩
def SCN_DIG_COUNT_COUNT : Fref := ⟨0x20021034, 64, 0, 31, 0⟩
def SCN_DIG_STATUS_INCOMPLETE : Fref := ⟨0x20021038, 64, 0, 2, 2⟩
def SCN_DIG_STATUS_TAKEN : Fref := ⟨0x20021038, 64, 0, 1, 1⟩
def SCN_DIG_STATUS_VALID : Fref := ⟨0x20021038, 64, 0, 0, 0⟩
def SCN_DIGEST_WORD : Fref := ⟨0x20021000, 64, 4, 31, 0⟩
def SCN_DIGEST_SEQ_WORD : Fref := ⟨0x20021400, 16, 4, 31, 0⟩
def COR_STATUS_INIT_DONE : Fref := ⟨0x20030000, 0, 0, 31, 31⟩
def COR_STATUS_ACTIVE : Fref := ⟨0x20030000, 0, 0, 15, 0⟩
def COR_CRC_CTRL_START : Fref := ⟨0x20030008, 0, 0, 31, 31⟩
def COR_CRC_CTRL_BUSY : Fref := ⟨0x20030008, 0, 0, 30, 30⟩
def COR_CRC_CTRL_DONE : Fref := ⟨0x20030008, 0, 0, 29, 29⟩
def COR_CRC_CTRL_BANK : Fref := ⟨0x20030008, 0, 0, 8, 8⟩
def COR_CRC_CTRL_PIER : Fref := ⟨0x20030008, 0, 0, 3, 0⟩
def COR_CRC_RESULT_CRC : Fref := ⟨0x2003000C, 0, 0, 31, 0⟩
def COR_FAULT_LAST_VALID : Fref := ⟨0x20030010, 0, 0, 31, 31⟩
def COR_FAULT_LAST_PIER : Fref := ⟨0x20030010, 0, 0, 19, 16⟩
def COR_FAULT_LAST_CODE : Fref := ⟨0x20030010, 0, 0, 9, 0⟩
def COR_XMIN_XMIN : Fref := ⟨0x20030100, 64, 0, 31, 0⟩
def COR_YMIN_YMIN : Fref := ⟨0x20030104, 64, 0, 31, 0⟩
def COR_PITCH_X_PITCH : Fref := ⟨0x20030108, 64, 0, 23, 0⟩
def COR_PITCH_Y_PITCH : Fref := ⟨0x2003010C, 64, 0, 23, 0⟩
def COR_ZGAIN_ZGAIN : Fref := ⟨0x20030110, 64, 0, 31, 0⟩
def COR_PCTRL_CLAMP_F1 : Fref := ⟨0x20030114, 64, 0, 0, 0⟩
def COR_BANK_SWAP_PEND : Fref := ⟨0x20030118, 64, 0, 5, 4⟩
def COR_BANK_READY : Fref := ⟨0x20030118, 64, 0, 2, 2⟩
def COR_BANK_ACTIVE_LOADED : Fref := ⟨0x20030118, 64, 0, 1, 1⟩
def COR_BANK_ACTIVE : Fref := ⟨0x20030118, 64, 0, 0, 0⟩
def COR_BANK_CMD_SWAP : Fref := ⟨0x2003011C, 64, 0, 2, 1⟩
def COR_BANK_CMD_READY : Fref := ⟨0x2003011C, 64, 0, 0, 0⟩
def COR_CODE_X_CLAMPED : Fref := ⟨0x20030120, 64, 0, 31, 31⟩
def COR_CODE_X_HOLD : Fref := ⟨0x20030120, 64, 0, 30, 30⟩
def COR_CODE_X_CODE : Fref := ⟨0x20030120, 64, 0, 23, 0⟩
def COR_CODE_Y_HOLD : Fref := ⟨0x20030124, 64, 0, 30, 30⟩
def COR_CODE_Y_CODE : Fref := ⟨0x20030124, 64, 0, 23, 0⟩
def COR_CODE_Z_HOLD : Fref := ⟨0x20030128, 64, 0, 30, 30⟩
def COR_CODE_Z_CODE : Fref := ⟨0x20030128, 64, 0, 23, 0⟩
def COR_CLAMP_CNT_LIT : Fref := ⟨0x2003012C, 64, 0, 31, 16⟩
def COR_CLAMP_CNT_DARK : Fref := ⟨0x2003012C, 64, 0, 15, 0⟩
def COR_ECC_CORRECTED : Fref := ⟨0x20030130, 64, 0, 15, 0⟩
def COR_FLAGS_NO_GRID : Fref := ⟨0x20030134, 64, 0, 4, 4⟩
def COR_FLAGS_SWAP_CANCELLED : Fref := ⟨0x20030134, 64, 0, 3, 3⟩
def COR_FLAGS_SWAP_REFUSED : Fref := ⟨0x20030134, 64, 0, 2, 2⟩
def COR_FLAGS_CODE_SAT : Fref := ⟨0x20030134, 64, 0, 1, 1⟩
def COR_FLAGS_CLAMP_LIT : Fref := ⟨0x20030134, 64, 0, 0, 0⟩
def SPN_CTRL_GUARD_EN : Fref := ⟨0x20040000, 0, 0, 0, 0⟩
def SPN_STITCH_WAIT_WAIT : Fref := ⟨0x20040004, 0, 0, 15, 0⟩
def SPN_GAS_GY : Fref := ⟨0x20040008, 0, 0, 31, 16⟩
def SPN_GAS_GX : Fref := ⟨0x20040008, 0, 0, 15, 0⟩
def SPN_STATUS_OUTSTANDING : Fref := ⟨0x2004000C, 0, 0, 26, 16⟩
def SPN_STATUS_STITCHING : Fref := ⟨0x2004000C, 0, 0, 15, 0⟩
def SPN_FLAGS_WRITE_REFUSED : Fref := ⟨0x20040010, 0, 0, 5, 5⟩
def SPN_FLAGS_RING_ERR : Fref := ⟨0x20040010, 0, 0, 4, 4⟩
def SPN_FLAGS_PATCH_LOST : Fref := ⟨0x20040010, 0, 0, 3, 3⟩
def SPN_FLAGS_FADE_CLIP : Fref := ⟨0x20040010, 0, 0, 2, 2⟩
def SPN_FLAGS_ORPHAN : Fref := ⟨0x20040010, 0, 0, 1, 1⟩
def SPN_FLAGS_SOLO : Fref := ⟨0x20040010, 0, 0, 0, 0⟩
def SPN_FAULT_LAST_VALID : Fref := ⟨0x20040014, 0, 0, 31, 31⟩
def SPN_FAULT_LAST_PIER : Fref := ⟨0x20040014, 0, 0, 19, 16⟩
def SPN_FAULT_LAST_CODE : Fref := ⟨0x20040014, 0, 0, 9, 0⟩
def SPN_GUARD_LAST_VALID : Fref := ⟨0x20040018, 0, 0, 31, 31⟩
def SPN_GUARD_LAST_UPWIND : Fref := ⟨0x20040018, 0, 0, 7, 4⟩
def SPN_GUARD_LAST_DOWNWIND : Fref := ⟨0x20040018, 0, 0, 3, 0⟩
def SPN_PATCH_CTRL_EN : Fref := ⟨0x20040020, 0, 0, 31, 31⟩
def SPN_PATCH_BASE_LO_BASE_LO : Fref := ⟨0x20040024, 0, 0, 31, 12⟩
def SPN_PATCH_BASE_HI_BASE_HI : Fref := ⟨0x20040028, 0, 0, 7, 0⟩
def SPN_PATCH_SIZE_SIZE : Fref := ⟨0x2004002C, 0, 0, 3, 0⟩
def SPN_PATCH_THRESH_THRESH : Fref := ⟨0x20040030, 0, 0, 19, 0⟩
def SPN_PATCH_WR_WR : Fref := ⟨0x20040034, 0, 0, 31, 0⟩
def SPN_PATCH_LOST_LOST : Fref := ⟨0x20040038, 0, 0, 31, 0⟩
def SPN_PATCH_STAGE_STAGED : Fref := ⟨0x2004003C, 0, 0, 10, 0⟩
def SPN_CNT_A_BLANKED : Fref := ⟨0x20040100, 8, 0, 31, 16⟩
def SPN_CNT_A_RECORDS : Fref := ⟨0x20040100, 8, 0, 15, 0⟩
def SPN_CNT_B_SOLO : Fref := ⟨0x20040104, 8, 0, 31, 24⟩
def SPN_CNT_B_DARK : Fref := ⟨0x20040104, 8, 0, 23, 16⟩
def SPN_CNT_B_SLIP : Fref := ⟨0x20040104, 8, 0, 15, 8⟩
def SPN_MATRIX_E3 : Fref := ⟨0x20040200, 4, 0, 31, 24⟩
def SPN_MATRIX_E2 : Fref := ⟨0x20040200, 4, 0, 23, 16⟩
def SPN_MATRIX_E1 : Fref := ⟨0x20040200, 4, 0, 15, 8⟩
def SPN_MATRIX_E0 : Fref := ⟨0x20040200, 4, 0, 7, 0⟩
def SPN_STITCH_SEL_ID : Fref := ⟨0x20040400, 0, 0, 9, 0⟩
def SPN_STITCH_INFO_STATE : Fref := ⟨0x20040404, 0, 0, 31, 29⟩
def SPN_STITCH_INFO_SIDE : Fref := ⟨0x20040404, 0, 0, 28, 28⟩
def SPN_STITCH_INFO_PIER : Fref := ⟨0x20040404, 0, 0, 27, 24⟩
def SPN_STITCH_INFO_PARTNER : Fref := ⟨0x20040404, 0, 0, 23, 20⟩
def SPN_STITCH_INFO_WAIT_LEFT : Fref := ⟨0x20040404, 0, 0, 15, 0⟩
def SPN_STITCH_TICK_TICK : Fref := ⟨0x20040408, 0, 0, 31, 0⟩
def PLK_STATUS_TRAINING : Fref := ⟨0x20050000, 0, 0, 31, 16⟩
def PLK_STATUS_UP : Fref := ⟨0x20050000, 0, 0, 15, 0⟩
def PLK_ERR_WRITE_REFUSED : Fref := ⟨0x20050004, 0, 0, 0, 0⟩
def PLK_FAULT_LAST_VALID : Fref := ⟨0x20050008, 0, 0, 31, 31⟩
def PLK_FAULT_LAST_PIER : Fref := ⟨0x20050008, 0, 0, 19, 16⟩
def PLK_FAULT_LAST_CODE : Fref := ⟨0x20050008, 0, 0, 9, 0⟩
def PLK_CTRL_UL_DEADLINE : Fref := ⟨0x20050100, 64, 0, 24, 16⟩
def PLK_CTRL_SWING : Fref := ⟨0x20050100, 64, 0, 9, 8⟩
def PLK_CTRL_AC : Fref := ⟨0x20050100, 64, 0, 4, 4⟩
def PLK_CTRL_MODE : Fref := ⟨0x20050100, 64, 0, 1, 0⟩
def PLK_TRAIN_START : Fref := ⟨0x20050104, 64, 0, 31, 31⟩
def PLK_TRAIN_SWEEP : Fref := ⟨0x20050104, 64, 0, 30, 30⟩
def PLK_TRAIN_EYE : Fref := ⟨0x20050104, 64, 0, 13, 8⟩
def PLK_TRAIN_BEST : Fref := ⟨0x20050104, 64, 0, 4, 0⟩
def PLK_TAP_TAP_USE : Fref := ⟨0x20050108, 64, 0, 12, 8⟩
def PLK_TAP_TAP : Fref := ⟨0x20050108, 64, 0, 4, 0⟩
def PLK_STATE_REASON : Fref := ⟨0x2005010C, 64, 0, 31, 28⟩
def PLK_STATE_TRAIN_TICK : Fref := ⟨0x2005010C, 64, 0, 21, 16⟩
def PLK_STATE_CONSEC : Fref := ⟨0x2005010C, 64, 0, 9, 8⟩
def PLK_STATE_LINK_OK : Fref := ⟨0x2005010C, 64, 0, 3, 3⟩
def PLK_STATE_STATE : Fref := ⟨0x2005010C, 64, 0, 2, 0⟩
def PLK_HEAD_VERSION : Fref := ⟨0x20050110, 64, 0, 31, 24⟩
def PLK_HEAD_CAPS : Fref := ⟨0x20050110, 64, 0, 23, 16⟩
def PLK_HEAD_LATENCY : Fref := ⟨0x20050110, 64, 0, 15, 0⟩
def PLK_HEAD_SN_SERIAL : Fref := ⟨0x20050114, 64, 0, 31, 0⟩
def PLK_ACT_X_VALID : Fref := ⟨0x20050118, 64, 0, 31, 31⟩
def PLK_ACT_X_CODE : Fref := ⟨0x20050118, 64, 0, 23, 0⟩
def PLK_ACT_Y_VALID : Fref := ⟨0x2005011C, 64, 0, 31, 31⟩
def PLK_ACT_Y_CODE : Fref := ⟨0x2005011C, 64, 0, 23, 0⟩
def PLK_ACT_Z_VALID : Fref := ⟨0x20050120, 64, 0, 31, 31⟩
def PLK_ACT_Z_CODE : Fref := ⟨0x20050120, 64, 0, 23, 0⟩
def PLK_UL_STATUS_STATUS : Fref := ⟨0x20050124, 64, 0, 15, 0⟩
def PLK_CNT_A_DL_BAD : Fref := ⟨0x20050128, 64, 0, 31, 16⟩
def PLK_CNT_A_UL_BAD : Fref := ⟨0x20050128, 64, 0, 15, 0⟩
def PLK_CNT_B_SYM_ERR : Fref := ⟨0x2005012C, 64, 0, 31, 16⟩
def PLK_CNT_B_HELD_LIT : Fref := ⟨0x2005012C, 64, 0, 15, 8⟩
def PLK_CNT_B_FAILED : Fref := ⟨0x2005012C, 64, 0, 7, 0⟩
def PLK_FLAGS_LOCK_LOST : Fref := ⟨0x20050130, 64, 0, 5, 5⟩
def PLK_FLAGS_HEAD_FAULT : Fref := ⟨0x20050130, 64, 0, 4, 4⟩
def PLK_FLAGS_HEAD_WARN : Fref := ⟨0x20050130, 64, 0, 3, 3⟩
def PLK_FLAGS_EDGE_LOST : Fref := ⟨0x20050130, 64, 0, 2, 2⟩
def PLK_FLAGS_DL_BAD : Fref := ⟨0x20050130, 64, 0, 1, 1⟩
def PLK_FLAGS_UL_BAD : Fref := ⟨0x20050130, 64, 0, 0, 0⟩
def LSR_PERMIT_MODE_ALLOW : Fref := ⟨0x20060000, 0, 0, 6, 6⟩
def LSR_PERMIT_EMIT_EN : Fref := ⟨0x20060000, 0, 0, 5, 5⟩
def LSR_PERMIT_DISCREP : Fref := ⟨0x20060000, 0, 0, 4, 4⟩
def LSR_PERMIT_PERMIT : Fref := ⟨0x20060000, 0, 0, 2, 2⟩
def LSR_PERMIT_CH_B : Fref := ⟨0x20060000, 0, 0, 1, 1⟩
def LSR_PERMIT_CH_A : Fref := ⟨0x20060000, 0, 0, 0, 0⟩
def LSR_IN_A_ALARM : Fref := ⟨0x20060004, 0, 0, 31, 16⟩
def LSR_IN_A_READY : Fref := ⟨0x20060004, 0, 0, 15, 0⟩
def LSR_IN_B_GATE_PAD : Fref := ⟨0x20060008, 0, 0, 31, 16⟩
def LSR_IN_B_EMA : Fref := ⟨0x20060008, 0, 0, 15, 0⟩
def LSR_FLAGS_WRITE_REFUSED : Fref := ⟨0x2006000C, 0, 0, 2, 2⟩
def LSR_FLAGS_DISCREP : Fref := ⟨0x2006000C, 0, 0, 1, 1⟩
def LSR_FLAGS_PERMIT_LOST : Fref := ⟨0x2006000C, 0, 0, 0, 0⟩
def LSR_FAULT_LAST_VALID : Fref := ⟨0x20060010, 0, 0, 31, 31⟩
def LSR_FAULT_LAST_PIER : Fref := ⟨0x20060010, 0, 0, 19, 16⟩
def LSR_FAULT_LAST_CODE : Fref := ⟨0x20060010, 0, 0, 9, 0⟩
def LSR_CTRL_DIFF : Fref := ⟨0x20060100, 64, 0, 8, 8⟩
def LSR_CTRL_EMA_CHECK : Fref := ⟨0x20060100, 64, 0, 1, 1⟩
def LSR_CTRL_LINK_EN : Fref := ⟨0x20060100, 64, 0, 0, 0⟩
def LSR_DELAY_FINE : Fref := ⟨0x20060104, 64, 0, 26, 16⟩
def LSR_DELAY_COARSE : Fref := ⟨0x20060104, 64, 0, 7, 0⟩
def LSR_LIMIT_LIMIT : Fref := ⟨0x20060108, 64, 0, 15, 0⟩
def LSR_CMD_ENABLE_REQ : Fref := ⟨0x2006010C, 64, 0, 7, 7⟩
def LSR_CMD_USER : Fref := ⟨0x2006010C, 64, 0, 5, 0⟩
def LSR_EMA_WIN_ON_MAX : Fref := ⟨0x20060110, 64, 0, 31, 16⟩
def LSR_EMA_WIN_OFF_MAX : Fref := ⟨0x20060110, 64, 0, 15, 0⟩
def LSR_WORD_WORD : Fref := ⟨0x20060114, 64, 0, 31, 0⟩
def LSR_TEST_FIRE : Fref := ⟨0x20060118, 64, 0, 31, 31⟩
def LSR_TEST_BUSY : Fref := ⟨0x20060118, 64, 0, 30, 30⟩
def LSR_TEST_WIDTH : Fref := ⟨0x20060118, 64, 0, 15, 0⟩
def LSR_TEST_PWR_POWER : Fref := ⟨0x2006011C, 64, 0, 15, 0⟩
def LSR_CNT_A_LIMITED : Fref := ⟨0x20060120, 64, 0, 31, 16⟩
def LSR_CNT_A_ALARM : Fref := ⟨0x20060120, 64, 0, 15, 0⟩
def LSR_CNT_B_EMA_MISS : Fref := ⟨0x20060124, 64, 0, 31, 16⟩
def LSR_CNT_B_NOT_READY : Fref := ⟨0x20060124, 64, 0, 15, 8⟩
def LSR_CNT_B_UNCMD : Fref := ⟨0x20060124, 64, 0, 7, 0⟩
def LSR_FLAGS_P_TEST_REFUSED : Fref := ⟨0x20060128, 64, 0, 5, 5⟩
def LSR_FLAGS_P_LIMITED : Fref := ⟨0x20060128, 64, 0, 4, 4⟩
def LSR_FLAGS_P_UNCMD_EMIT : Fref := ⟨0x20060128, 64, 0, 3, 3⟩
def LSR_FLAGS_P_EMA_MISSING : Fref := ⟨0x20060128, 64, 0, 2, 2⟩
def LSR_FLAGS_P_NOT_READY : Fref := ⟨0x20060128, 64, 0, 1, 1⟩
def LSR_FLAGS_P_ALARM : Fref := ⟨0x20060128, 64, 0, 0, 0⟩
def AFE_STATUS_HEARTH_OK : Fref := ⟨0x20070000, 0, 0, 31, 31⟩
def AFE_STATUS_NTC_BAD : Fref := ⟨0x20070000, 0, 0, 11, 8⟩
def AFE_STATUS_AUX_SETTLING : Fref := ⟨0x20070000, 0, 0, 7, 0⟩
def AFE_FLAGS_CAL_REFUSED : Fref := ⟨0x20070004, 0, 0, 6, 6⟩
def AFE_FLAGS_LINK_LOST : Fref := ⟨0x20070004, 0, 0, 5, 5⟩
def AFE_FLAGS_PARITY : Fref := ⟨0x20070004, 0, 0, 4, 4⟩
def AFE_FLAGS_NTC_BAD : Fref := ⟨0x20070004, 0, 0, 3, 3⟩
def AFE_FLAGS_AUX_FAULT : Fref := ⟨0x20070004, 0, 0, 2, 2⟩
def AFE_FLAGS_OPEN : Fref := ⟨0x20070004, 0, 0, 1, 1⟩
def AFE_FLAGS_OVR : Fref := ⟨0x20070004, 0, 0, 0, 0⟩
def AFE_FAULT_LAST_VALID : Fref := ⟨0x20070008, 0, 0, 31, 31⟩
def AFE_FAULT_LAST_INPUT : Fref := ⟨0x20070008, 0, 0, 20, 16⟩
def AFE_FAULT_LAST_CODE : Fref := ⟨0x20070008, 0, 0, 9, 0⟩
def AFE_CAL_CTRL_START : Fref := ⟨0x2007000C, 0, 0, 31, 31⟩
def AFE_CAL_CTRL_BUSY : Fref := ⟨0x2007000C, 0, 0, 30, 30⟩
def AFE_CAL_CTRL_DONE : Fref := ⟨0x2007000C, 0, 0, 29, 29⟩
def AFE_CAL_CTRL_PIER : Fref := ⟨0x2007000C, 0, 0, 3, 0⟩
def AFE_IN_CTRL_OPEN_EN : Fref := ⟨0x20070100, 16, 0, 4, 4⟩
def AFE_IN_CTRL_GAIN : Fref := ⟨0x20070100, 16, 0, 2, 0⟩
def AFE_IN_DATA_S200 : Fref := ⟨0x20070104, 16, 0, 31, 16⟩
def AFE_IN_DATA_S0 : Fref := ⟨0x20070104, 16, 0, 15, 0⟩
def AFE_IN_STAT_OVR_CNT : Fref := ⟨0x20070108, 16, 0, 31, 16⟩
def AFE_IN_STAT_PARITY : Fref := ⟨0x20070108, 16, 0, 15, 8⟩
def AFE_IN_STAT_OPEN : Fref := ⟨0x20070108, 16, 0, 0, 0⟩
def AFE_OFS_MEAS : Fref := ⟨0x2007010C, 16, 0, 31, 16⟩
def AFE_OFS_TRIM : Fref := ⟨0x2007010C, 16, 0, 7, 0⟩
def AFE_XSYNC_EN : Fref := ⟨0x20070400, 16, 0, 31, 31⟩
def AFE_XSYNC_TT : Fref := ⟨0x20070400, 16, 0, 19, 16⟩
def AFE_XSYNC_SETTINGS_ID : Fref := ⟨0x20070400, 16, 0, 15, 0⟩
def AFE_XSUM_SUM : Fref := ⟨0x20070404, 16, 0, 31, 0⟩
def AFE_XCNT_ID : Fref := ⟨0x20070408, 16, 0, 31, 16⟩
def AFE_XCNT_COUNT : Fref := ⟨0x20070408, 16, 0, 15, 0⟩
def AFE_AUX_CTRL_TIMER_EN : Fref := ⟨0x20070600, 0, 0, 31, 31⟩
def AFE_AUX_CTRL_IEXC1 : Fref := ⟨0x20070600, 0, 0, 6, 4⟩
def AFE_AUX_CTRL_IEXC0 : Fref := ⟨0x20070600, 0, 0, 2, 0⟩
def AFE_AUX_CFG_BIAS : Fref := ⟨0x20070640, 16, 0, 5, 5⟩
def AFE_AUX_CFG_BURNOUT_EN : Fref := ⟨0x20070640, 16, 0, 4, 4⟩
def AFE_AUX_CFG_GAIN : Fref := ⟨0x20070640, 16, 0, 2, 0⟩
def AFE_AUX_DATA_DATA : Fref := ⟨0x20070644, 16, 0, 31, 0⟩
def AFE_AUX_STAT_SEQ : Fref := ⟨0x20070648, 16, 0, 31, 16⟩
def AFE_AUX_STAT_SETTLING : Fref := ⟨0x20070648, 16, 0, 2, 2⟩
def AFE_AUX_STAT_BURNOUT : Fref := ⟨0x20070648, 16, 0, 1, 1⟩
def AFE_AUX_STAT_OVR : Fref := ⟨0x20070648, 16, 0, 0, 0⟩
def AFE_NTC_SHORT : Fref := ⟨0x20070700, 4, 0, 13, 13⟩
def AFE_NTC_OPEN : Fref := ⟨0x20070700, 4, 0, 12, 12⟩
def AFE_NTC_CODE : Fref := ⟨0x20070700, 4, 0, 11, 0⟩
def LOP_STATUS_LIVE : Fref := ⟨0x20080000, 0, 0, 23, 0⟩
def LOP_FORCED_FORCED : Fref := ⟨0x20080004, 0, 0, 23, 0⟩
def LOP_CLEAR_CLEAR : Fref := ⟨0x20080008, 0, 0, 23, 0⟩
def LOP_FLAGS_START_MERGED : Fref := ⟨0x2008000C, 0, 0, 2, 2⟩
def LOP_FLAGS_IMG_REFUSED : Fref := ⟨0x2008000C, 0, 0, 1, 1⟩
def LOP_FLAGS_WRITE_REFUSED : Fref := ⟨0x2008000C, 0, 0, 0, 0⟩
def LOP_FAULT_LAST_VALID : Fref := ⟨0x20080010, 0, 0, 31, 31⟩
def LOP_FAULT_LAST_SLOT : Fref := ⟨0x20080010, 0, 0, 20, 16⟩
def LOP_FAULT_LAST_CODE : Fref := ⟨0x20080010, 0, 0, 9, 0⟩
def LOP_IMG_SEL_IMAGE : Fref := ⟨0x20080020, 0, 0, 21, 16⟩
def LOP_IMG_SEL_INDEX : Fref := ⟨0x20080020, 0, 0, 9, 4⟩
def LOP_IMG_SEL_WORD : Fref := ⟨0x20080020, 0, 0, 1, 0⟩
def LOP_IMG_DATA_DATA : Fref := ⟨0x20080024, 0, 0, 31, 0⟩
def LOP_IMG_CMD_MARK : Fref := ⟨0x20080028, 0, 0, 31, 31⟩
def LOP_IMG_CMD_KIND : Fref := ⟨0x20080028, 0, 0, 16, 16⟩
def LOP_IMG_CMD_COUNT : Fref := ⟨0x20080028, 0, 0, 5, 0⟩
def LOP_IMG_STATUS_ERR_INDEX : Fref := ⟨0x2008002C, 0, 0, 23, 18⟩
def LOP_IMG_STATUS_ERR : Fref := ⟨0x2008002C, 0, 0, 15, 12⟩
def LOP_IMG_STATUS_BUSY : Fref := ⟨0x2008002C, 0, 0, 0, 0⟩
def LOP_VCLASS_VEL : Fref := ⟨0x20080040, 4, 0, 24, 0⟩
def LOP_FCTRL_MODE : Fref := ⟨0x20080100, 64, 0, 31, 31⟩
def LOP_FCTRL_CAM_EN : Fref := ⟨0x20080100, 64, 0, 30, 30⟩
def LOP_FCTRL_PLAUS_F1 : Fref := ⟨0x20080100, 64, 0, 29, 29⟩
def LOP_FCTRL_IMAGE : Fref := ⟨0x20080100, 64, 0, 21, 16⟩
def LOP_FCTRL_CAM_CTX : Fref := ⟨0x20080100, 64, 0, 4, 0⟩
def LOP_PLAUS_ABS_ABS : Fref := ⟨0x20080104, 64, 0, 23, 0⟩
def LOP_PLAUS_N_N : Fref := ⟨0x20080108, 64, 0, 31, 16⟩
def LOP_PLAUS_N_REL : Fref := ⟨0x20080108, 64, 0, 15, 0⟩
def LOP_CAM_AREA_AREA_T : Fref := ⟨0x2008010C, 64, 0, 15, 0⟩
def LOP_CAM_INV_INV_T : Fref := ⟨0x20080110, 64, 0, 23, 0⟩
def LOP_CAM_CFG_KC : Fref := ⟨0x20080114, 64, 0, 31, 16⟩
def LOP_CAM_CFG_TMAX : Fref := ⟨0x20080114, 64, 0, 15, 0⟩
def LOP_CAM_AGE_AGE_MAX : Fref := ⟨0x20080118, 64, 0, 31, 24⟩
def LOP_CAM_AGE_TRIM_LIT : Fref := ⟨0x20080118, 64, 0, 23, 16⟩
def LOP_CAM_AGE_STALE_HOLD : Fref := ⟨0x20080118, 64, 0, 15, 0⟩
def LOP_K_K : Fref := ⟨0x20080120, 64, 4, 23, 0⟩
def LOP_FSTAT_WORD : Fref := ⟨0x20080600, 32, 0, 31, 16⟩
def LOP_FSTAT_RUN : Fref := ⟨0x20080600, 32, 0, 9, 8⟩
def LOP_FSTAT_IMAGE_IF : Fref := ⟨0x20080600, 32, 0, 7, 2⟩
def LOP_FSTAT_STATE : Fref := ⟨0x20080600, 32, 0, 1, 0⟩
def LOP_FFLAGS_NOT_LOADED : Fref := ⟨0x20080604, 32, 0, 9, 9⟩
def LOP_FFLAGS_OUT_CLAMP : Fref := ⟨0x20080604, 32, 0, 8, 8⟩
def LOP_FFLAGS_SUBST : Fref := ⟨0x20080604, 32, 0, 7, 7⟩
def LOP_FFLAGS_STALE : Fref := ⟨0x20080604, 32, 0, 6, 6⟩
def LOP_FFLAGS_TRIM_CLAMP : Fref := ⟨0x20080604, 32, 0, 5, 5⟩
def LOP_FFLAGS_LIMITED : Fref := ⟨0x20080604, 32, 0, 4, 4⟩
def LOP_FFLAGS_UNDER : Fref := ⟨0x20080604, 32, 0, 2, 2⟩
def LOP_FFLAGS_ESAT : Fref := ⟨0x20080604, 32, 0, 1, 1⟩
def LOP_FFLAGS_PLAUS_TRIP : Fref := ⟨0x20080604, 32, 0, 0, 0⟩
def LOP_FCNT_A_OUT_WIN : Fref := ⟨0x20080608, 32, 0, 31, 16⟩
def LOP_FCNT_A_HOLD_RUNS : Fref := ⟨0x20080608, 32, 0, 15, 0⟩
def LOP_FCNT_B_STALE : Fref := ⟨0x2008060C, 32, 0, 31, 16⟩
def LOP_FCNT_B_SUBST : Fref := ⟨0x2008060C, 32, 0, 15, 0⟩
def LOP_TRIM_TRIM : Fref := ⟨0x20080610, 32, 0, 15, 0⟩
def LOP_RESID_RESID : Fref := ⟨0x20080614, 32, 0, 23, 0⟩
def LOP_EXPECT_EXPECT : Fref := ⟨0x20080618, 32, 0, 23, 0⟩
def LOP_PLAUS_RUN_RUN : Fref := ⟨0x2008061C, 32, 0, 15, 0⟩
def LOP_SCTRL_MODE : Fref := ⟨0x20080800, 32, 0, 31, 31⟩
def LOP_SCTRL_IMAGE : Fref := ⟨0x20080800, 32, 0, 21, 16⟩
def LOP_SCTRL_INMASK : Fref := ⟨0x20080800, 32, 0, 7, 0⟩
def LOP_SLOW_SP_SP : Fref := ⟨0x20080804, 32, 0, 23, 0⟩
def LOP_SLOW_MAN_DUTY : Fref := ⟨0x20080808, 32, 0, 15, 0⟩
def LOP_SLOW_PWM_PERIOD : Fref := ⟨0x2008080C, 32, 0, 13, 0⟩
def LOP_SSTAT_DUTY : Fref := ⟨0x20080810, 32, 0, 31, 16⟩
def LOP_SSTAT_IMAGE_IF : Fref := ⟨0x20080810, 32, 0, 7, 2⟩
def LOP_SSTAT_STATE : Fref := ⟨0x20080810, 32, 0, 1, 0⟩
def LOP_SFLAGS_NOT_LOADED : Fref := ⟨0x20080814, 32, 0, 5, 5⟩
def LOP_SFLAGS_STALE : Fref := ⟨0x20080814, 32, 0, 4, 4⟩
def LOP_SFLAGS_INPUT_FAULT : Fref := ⟨0x20080814, 32, 0, 3, 3⟩
def LOP_SFLAGS_OUT_CLAMP : Fref := ⟨0x20080814, 32, 0, 2, 2⟩
def LOP_SFLAGS_UNDER : Fref := ⟨0x20080814, 32, 0, 1, 1⟩
def LOP_SFLAGS_ESAT : Fref := ⟨0x20080814, 32, 0, 0, 0⟩
def LOP_SCNT_RUNS : Fref := ⟨0x20080818, 32, 0, 31, 0⟩
def LOP_IMG_LOADED_LO_LOADED : Fref := ⟨0x20080030, 0, 0, 31, 0⟩
def LOP_IMG_LOADED_HI_LOADED : Fref := ⟨0x20080034, 0, 0, 31, 0⟩
def LOP_IMG_KIND_LO_KIND : Fref := ⟨0x20080038, 0, 0, 31, 0⟩
def LOP_IMG_KIND_HI_KIND : Fref := ⟨0x2008003C, 0, 0, 31, 0⟩
def CAM_STATUS_PIPE_BUSY : Fref := ⟨0x20090000, 0, 0, 31, 31⟩
def CAM_STATUS_PORT_OPEN : Fref := ⟨0x20090000, 0, 0, 19, 16⟩
def CAM_STATUS_BACKLOG : Fref := ⟨0x20090000, 0, 0, 15, 0⟩
def CAM_FLAGS_WRITE_REFUSED : Fref := ⟨0x20090004, 0, 0, 11, 11⟩
def CAM_FLAGS_TNR_FIT : Fref := ⟨0x20090004, 0, 0, 10, 10⟩
def CAM_FLAGS_CTX_CONFLICT : Fref := ⟨0x20090004, 0, 0, 9, 9⟩
def CAM_FLAGS_DEF_ORDER : Fref := ⟨0x20090004, 0, 0, 8, 8⟩
def CAM_FLAGS_DLOG_LOST : Fref := ⟨0x20090004, 0, 0, 7, 7⟩
def CAM_FLAGS_WR_ERR : Fref := ⟨0x20090004, 0, 0, 6, 6⟩
def CAM_FLAGS_TRIG_OVERLAP : Fref := ⟨0x20090004, 0, 0, 5, 5⟩
def CAM_FLAGS_TRIG_LOST : Fref := ⟨0x20090004, 0, 0, 4, 4⟩
def CAM_FLAGS_CCI_FAIL : Fref := ⟨0x20090004, 0, 0, 3, 3⟩
def CAM_FLAGS_OVF_DROP : Fref := ⟨0x20090004, 0, 0, 2, 2⟩
def CAM_FLAGS_MALFORMED : Fref := ⟨0x20090004, 0, 0, 1, 1⟩
def CAM_FLAGS_LINK_ERR : Fref := ⟨0x20090004, 0, 0, 0, 0⟩
def CAM_FAULT_LAST_VALID : Fref := ⟨0x20090008, 0, 0, 31, 31⟩
def CAM_FAULT_LAST_UNIT : Fref := ⟨0x20090008, 0, 0, 20, 16⟩
def CAM_FAULT_LAST_CODE : Fref := ⟨0x20090008, 0, 0, 9, 0⟩
def CAM_CTX_APPLY_APPLY : Fref := ⟨0x2009000C, 0, 0, 31, 0⟩
def CAM_CTX_PEND_PEND : Fref := ⟨0x20090010, 0, 0, 31, 0⟩
def CAM_DLOG_CTRL_EN : Fref := ⟨0x20090020, 0, 0, 31, 31⟩
def CAM_DLOG_BASE_LO_BASE_LO : Fref := ⟨0x20090024, 0, 0, 31, 12⟩
def CAM_DLOG_BASE_HI_BASE_HI : Fref := ⟨0x20090028, 0, 0, 7, 0⟩
def CAM_DLOG_SIZE_SIZE : Fref := ⟨0x2009002C, 0, 0, 3, 0⟩
def CAM_DLOG_WR_WR : Fref := ⟨0x20090030, 0, 0, 31, 0⟩
def CAM_DLOG_LOST_LOST : Fref := ⟨0x20090034, 0, 0, 31, 0⟩
def CAM_DEF_SEL_INDEX : Fref := ⟨0x20090040, 0, 0, 13, 0⟩
def CAM_DEF_DATA_Y : Fref := ⟨0x20090044, 0, 0, 28, 16⟩
def CAM_DEF_DATA_X : Fref := ⟨0x20090044, 0, 0, 11, 0⟩
def CAM_PORT_CTRL_EN : Fref := ⟨0x20090100, 64, 0, 31, 31⟩
def CAM_PORT_CTRL_LANES : Fref := ⟨0x20090100, 64, 0, 17, 16⟩
def CAM_PORT_CTRL_RATE : Fref := ⟨0x20090100, 64, 0, 11, 0⟩
def CAM_PORT_MAP_INV : Fref := ⟨0x20090104, 64, 0, 20, 16⟩
def CAM_PORT_MAP_MAP : Fref := ⟨0x20090104, 64, 0, 7, 0⟩
def CAM_PORT_STAT_HS_SYNC : Fref := ⟨0x20090108, 64, 0, 31, 28⟩
def CAM_PORT_STAT_ULPS : Fref := ⟨0x20090108, 64, 0, 27, 24⟩
def CAM_PORT_STAT_FILL : Fref := ⟨0x20090108, 64, 0, 18, 0⟩
def CAM_PORT_CNT_A_ECC_CORR : Fref := ⟨0x2009010C, 64, 0, 31, 16⟩
def CAM_PORT_CNT_A_ECC_UNCORR : Fref := ⟨0x2009010C, 64, 0, 15, 0⟩
def CAM_PORT_CNT_B_CRC_ERR : Fref := ⟨0x20090110, 64, 0, 31, 16⟩
def CAM_PORT_CNT_B_UNSUP : Fref := ⟨0x20090110, 64, 0, 15, 0⟩
def CAM_PORT_CNT_C_OVF_DROP : Fref := ⟨0x20090114, 64, 0, 31, 16⟩
def CAM_PORT_CNT_C_MALFORMED : Fref := ⟨0x20090114, 64, 0, 15, 0⟩
def CAM_PORT_CNT_D_SYNC_ERR : Fref := ⟨0x20090118, 64, 0, 31, 0⟩
def CAM_CCI_CTRL_EN : Fref := ⟨0x2009011C, 64, 0, 31, 31⟩
def CAM_CCI_CTRL_RATE : Fref := ⟨0x2009011C, 64, 0, 1, 0⟩
def CAM_CCI_STAT_BUSY : Fref := ⟨0x20090120, 64, 0, 31, 31⟩
def CAM_CCI_STAT_WRITES : Fref := ⟨0x20090120, 64, 0, 15, 0⟩
def CAM_TRIG_EN : Fref := ⟨0x20090400, 4, 0, 31, 31⟩
def CAM_TRIG_POL : Fref := ⟨0x20090400, 4, 0, 30, 30⟩
def CAM_TRIG_ACTIVE : Fref := ⟨0x20090400, 4, 0, 29, 29⟩
def CAM_TRIG_WIDTH : Fref := ⟨0x20090400, 4, 0, 23, 0⟩
def CAM_EXP_EXPOSURE : Fref := ⟨0x20091800, 16, 0, 31, 0⟩
def CAM_EXP_ID_SETTINGS_ID : Fref := ⟨0x20091804, 16, 0, 31, 16⟩
def CAM_EXP_ID_GAIN : Fref := ⟨0x20091804, 16, 0, 15, 0⟩
def CAM_EXP_CTRL_ARM : Fref := ⟨0x20091808, 16, 0, 31, 31⟩
def CAM_EXP_CTRL_SUPERSEDED : Fref := ⟨0x20091808, 16, 0, 30, 30⟩
def CAM_EXP_CTRL_CCI_FAIL : Fref := ⟨0x20091808, 16, 0, 29, 29⟩
def CAM_EXP_IF_ID_IF : Fref := ⟨0x2009180C, 16, 0, 31, 16⟩
def CAM_EXP_IF_ID_FRAME : Fref := ⟨0x2009180C, 16, 0, 15, 0⟩
def CAM_LATCH_AGE : Fref := ⟨0x20092400, 4, 0, 31, 24⟩
def CAM_LATCH_OVERTAKEN : Fref := ⟨0x20092400, 4, 0, 15, 0⟩
def CAM_CCNT0_FRAMES : Fref := ⟨0x20094000, 16, 0, 31, 0⟩
def CAM_CCNT1_DROPPED : Fref := ⟨0x20094004, 16, 0, 31, 16⟩
def CAM_CCNT1_SKIPPED : Fref := ⟨0x20094004, 16, 0, 15, 0⟩
def CAM_CCNT2_TRIG_LOST : Fref := ⟨0x20094008, 16, 0, 31, 16⟩
def CAM_CCNT2_UNTRIG : Fref := ⟨0x20094008, 16, 0, 15, 0⟩
def CAM_CCNT3_FNUM_ERR : Fref := ⟨0x2009400C, 16, 0, 31, 16⟩
def CAM_CCNT3_TRIG_OVERLAP : Fref := ⟨0x2009400C, 16, 0, 15, 0⟩
def CAM_DESC_WORD : Fref := ⟨0x20092000, 32, 4, 31, 0⟩
def CAM_STATS_WORD : Fref := ⟨0x20093000, 128, 4, 31, 0⟩
def CAM_CTX0_DLOG_EN : Fref := ⟨0x20091000, 64, 0, 30, 30⟩
def CAM_CTX0_PORT : Fref := ⟨0x20091000, 64, 0, 29, 28⟩
def CAM_CTX0_VC : Fref := ⟨0x20091000, 64, 0, 27, 24⟩
def CAM_CTX0_DT : Fref := ⟨0x20091000, 64, 0, 21, 16⟩
def CAM_CTX0_PRIORITY : Fref := ⟨0x20091000, 64, 0, 15, 12⟩
def CAM_CTX0_EXP_MODE : Fref := ⟨0x20091000, 64, 0, 11, 10⟩
def CAM_CTX0_SENSOR_LATENCY : Fref := ⟨0x20091000, 64, 0, 9, 8⟩
def CAM_CTX0_TNR_EN : Fref := ⟨0x20091000, 64, 0, 7, 7⟩
def CAM_CTX0_SNR_EN : Fref := ⟨0x20091000, 64, 0, 6, 6⟩
def CAM_CTX0_SNR_5X5 : Fref := ⟨0x20091000, 64, 0, 5, 5⟩
def CAM_CTX0_DEF_DYN : Fref := ⟨0x20091000, 64, 0, 4, 4⟩
def CAM_CTX0_WR_EN : Fref := ⟨0x20091000, 64, 0, 3, 3⟩
def CAM_CTX0_EMB_EN : Fref := ⟨0x20091000, 64, 0, 2, 2⟩
def CAM_CTX0_CRC_DROP : Fref := ⟨0x20091000, 64, 0, 1, 1⟩
def CAM_CTX1_FRAME_H : Fref := ⟨0x20091004, 64, 0, 29, 16⟩
def CAM_CTX1_FRAME_W : Fref := ⟨0x20091004, 64, 0, 12, 0⟩
def CAM_CTX2_ROI_Y0 : Fref := ⟨0x20091008, 64, 0, 28, 16⟩
def CAM_CTX2_ROI_X0 : Fref := ⟨0x20091008, 64, 0, 12, 0⟩
def CAM_CTX3_ROI_H : Fref := ⟨0x2009100C, 64, 0, 29, 16⟩
def CAM_CTX3_ROI_W : Fref := ⟨0x2009100C, 64, 0, 12, 0⟩
def CAM_CTX4_BLACK : Fref := ⟨0x20091010, 64, 0, 31, 16⟩
def CAM_CTX4_SNR_THR : Fref := ⟨0x20091010, 64, 0, 15, 0⟩
def CAM_CTX5_TNR_THR : Fref := ⟨0x20091014, 64, 0, 31, 16⟩
def CAM_CTX5_TNR_K : Fref := ⟨0x20091014, 64, 0, 15, 8⟩
def CAM_CTX5_TNR_BASE : Fref := ⟨0x20091014, 64, 0, 5, 0⟩
def CAM_CTX6_THR : Fref := ⟨0x20091018, 64, 0, 31, 16⟩
def CAM_CTX6_SPAT_THR : Fref := ⟨0x20091018, 64, 0, 15, 0⟩
def CAM_CTX7_DEF_BASE : Fref := ⟨0x2009101C, 64, 0, 29, 16⟩
def CAM_CTX7_DEF_COUNT : Fref := ⟨0x2009101C, 64, 0, 14, 0⟩
def CAM_CTX8_DYN_THR : Fref := ⟨0x20091020, 64, 0, 31, 16⟩
def CAM_CTX8_TRIG : Fref := ⟨0x20091020, 64, 0, 12, 8⟩
def CAM_CTX8_TRIG_AGE : Fref := ⟨0x20091020, 64, 0, 7, 0⟩
def CAM_CTX9_DEV : Fref := ⟨0x20091024, 64, 0, 30, 24⟩
def CAM_CTX9_EXP_REG : Fref := ⟨0x20091024, 64, 0, 23, 8⟩
def CAM_CTX9_EXP_BYTES : Fref := ⟨0x20091024, 64, 0, 5, 4⟩
def CAM_CTX9_PIER : Fref := ⟨0x20091024, 64, 0, 3, 0⟩
def CAM_CTX10_EXP_UNIT : Fref := ⟨0x20091028, 64, 0, 31, 0⟩
def CAM_CTX11_WR_BASE_LO : Fref := ⟨0x2009102C, 64, 0, 31, 8⟩
def CAM_CTX12_WR_BASE_HI : Fref := ⟨0x20091030, 64, 0, 7, 0⟩
def CAM_CTX13_STRIDE : Fref := ⟨0x20091034, 64, 0, 23, 0⟩
def CAM_CTX14_WR_COUNT : Fref := ⟨0x20091038, 64, 0, 7, 0⟩
def AXS_STATUS_REFERENCED : Fref := ⟨0x200A0000, 0, 0, 21, 16⟩
def AXS_STATUS_MOVING : Fref := ⟨0x200A0000, 0, 0, 5, 0⟩
def AXS_FAULT_LAST_VALID : Fref := ⟨0x200A0004, 0, 0, 31, 31⟩
def AXS_FAULT_LAST_AXIS : Fref := ⟨0x200A0004, 0, 0, 18, 16⟩
def AXS_FAULT_LAST_CODE : Fref := ⟨0x200A0004, 0, 0, 9, 0⟩
def AXS_SINE_S : Fref := ⟨0x200A1000, 4, 0, 15, 0⟩
def AXS_CMD_OP : Fref := ⟨0x200A0160, 256, 0, 2, 0⟩
def AXS_TGT_TGT : Fref := ⟨0x200A0164, 256, 0, 31, 0⟩
def AXS_SPD_SPD : Fref := ⟨0x200A0168, 256, 0, 31, 0⟩
def AXS_ACC_ACC : Fref := ⟨0x200A016C, 256, 0, 31, 0⟩
def AXS_JRK_JRK : Fref := ⟨0x200A0170, 256, 0, 31, 0⟩
def AXS_STAT_REFERENCED : Fref := ⟨0x200A0174, 256, 0, 31, 31⟩
def AXS_STAT_HOME_ACT : Fref := ⟨0x200A0174, 256, 0, 30, 30⟩
def AXS_STAT_LIMP_ACT : Fref := ⟨0x200A0174, 256, 0, 29, 29⟩
def AXS_STAT_LIMN_ACT : Fref := ⟨0x200A0174, 256, 0, 28, 28⟩
def AXS_STAT_DIR : Fref := ⟨0x200A0174, 256, 0, 27, 27⟩
def AXS_STAT_ZSEEN : Fref := ⟨0x200A0174, 256, 0, 26, 26⟩
def AXS_STAT_CUR : Fref := ⟨0x200A0174, 256, 0, 25, 24⟩
def AXS_STAT_VEL_MODE : Fref := ⟨0x200A0174, 256, 0, 3, 3⟩
def AXS_STAT_STATE : Fref := ⟨0x200A0174, 256, 0, 2, 0⟩
def AXS_POS_POS : Fref := ⟨0x200A0178, 256, 0, 31, 0⟩
def AXS_VEL_VEL : Fref := ⟨0x200A017C, 256, 0, 31, 0⟩
def AXS_ENC_ENC : Fref := ⟨0x200A0180, 256, 0, 31, 0⟩
def AXS_ENC_H_ENC_H : Fref := ⟨0x200A0184, 256, 0, 31, 0⟩
def AXS_SPEED_SPEED : Fref := ⟨0x200A0188, 256, 0, 31, 0⟩
def AXS_DEV_DEV : Fref := ⟨0x200A018C, 256, 0, 31, 0⟩
def AXS_LATCH_LATCH : Fref := ⟨0x200A0190, 256, 0, 31, 0⟩
def AXS_ENC_REF_ENC_REF : Fref := ⟨0x200A0194, 256, 0, 31, 0⟩
def AXS_ZLAT_ZLAT : Fref := ⟨0x200A0198, 256, 0, 31, 0⟩
def AXS_CMP_CMP : Fref := ⟨0x200A019C, 256, 0, 31, 0⟩
def AXS_CMP_CTRL_ARMED : Fref := ⟨0x200A01A0, 256, 0, 31, 31⟩
def AXS_CMP_CTRL_FIRED : Fref := ⟨0x200A01A0, 256, 0, 30, 30⟩
def AXS_CMP_CTRL_COMPARE_BEHIND : Fref := ⟨0x200A01A0, 256, 0, 29, 29⟩
def AXS_CMP_CTRL_CMP_SRC : Fref := ⟨0x200A01A0, 256, 0, 0, 0⟩
def AXS_CMP_TICK_LO_TICK_LO : Fref := ⟨0x200A01A4, 256, 0, 31, 0⟩
def AXS_CMP_TICK_HI_TICK_HI : Fref := ⟨0x200A01A8, 256, 0, 31, 0⟩
def AXS_CMP_POS_CMP_POS : Fref := ⟨0x200A01AC, 256, 0, 31, 0⟩
def AXS_FLAGS_WRITE_REFUSED : Fref := ⟨0x200A01B0, 256, 0, 10, 10⟩
def AXS_FLAGS_ACC_DEFERRED : Fref := ⟨0x200A01B0, 256, 0, 9, 9⟩
def AXS_FLAGS_SOFT : Fref := ⟨0x200A01B0, 256, 0, 8, 8⟩
def AXS_FLAGS_SSI_ERR : Fref := ⟨0x200A01B0, 256, 0, 7, 7⟩
def AXS_FLAGS_EDGE_FAST : Fref := ⟨0x200A01B0, 256, 0, 6, 6⟩
def AXS_FLAGS_ILLEGAL : Fref := ⟨0x200A01B0, 256, 0, 5, 5⟩
def AXS_FLAGS_HOME_FAIL : Fref := ⟨0x200A01B0, 256, 0, 4, 4⟩
def AXS_FLAGS_HOME_LIMIT : Fref := ⟨0x200A01B0, 256, 0, 3, 3⟩
def AXS_FLAGS_LIMIT : Fref := ⟨0x200A01B0, 256, 0, 2, 2⟩
def AXS_FLAGS_STALL : Fref := ⟨0x200A01B0, 256, 0, 1, 1⟩
def AXS_CNT_A_ILLEGAL : Fref := ⟨0x200A01B4, 256, 0, 31, 16⟩
def AXS_CNT_A_EDGE_FAST : Fref := ⟨0x200A01B4, 256, 0, 15, 0⟩
def AXS_CNT_B_SSI_ERR : Fref := ⟨0x200A01B8, 256, 0, 31, 16⟩
def AXS_CNT_B_STEP_DROP : Fref := ⟨0x200A01B8, 256, 0, 15, 0⟩
def AXS_CFG0_EN : Fref := ⟨0x200A0100, 256, 0, 31, 31⟩
def AXS_CFG0_SRC : Fref := ⟨0x200A0100, 256, 0, 30, 30⟩
def AXS_CFG0_ENC : Fref := ⟨0x200A0100, 256, 0, 29, 28⟩
def AXS_CFG0_ENC_INV : Fref := ⟨0x200A0100, 256, 0, 27, 27⟩
def AXS_CFG0_DIR_INV : Fref := ⟨0x200A0100, 256, 0, 26, 26⟩
def AXS_CFG0_USE_Z : Fref := ⟨0x200A0100, 256, 0, 25, 25⟩
def AXS_CFG0_HOME_DIR : Fref := ⟨0x200A0100, 256, 0, 24, 24⟩
def AXS_CFG0_HOME_POL : Fref := ⟨0x200A0100, 256, 0, 23, 23⟩
def AXS_CFG0_LIMP_POL : Fref := ⟨0x200A0100, 256, 0, 22, 22⟩
def AXS_CFG0_LIMN_POL : Fref := ⟨0x200A0100, 256, 0, 21, 21⟩
def AXS_CFG0_Z_POL : Fref := ⟨0x200A0100, 256, 0, 20, 20⟩
def AXS_CFG0_SOFT_EN : Fref := ⟨0x200A0100, 256, 0, 19, 19⟩
def AXS_CFG0_INTERP_EN : Fref := ⟨0x200A0100, 256, 0, 18, 18⟩
def AXS_CFG1_V_MAX : Fref := ⟨0x200A0104, 256, 0, 31, 0⟩
def AXS_CFG2_A_MAX : Fref := ⟨0x200A0108, 256, 0, 31, 0⟩
def AXS_CFG3_J_MAX : Fref := ⟨0x200A010C, 256, 0, 31, 0⟩
def AXS_CFG4_DEC_LIMIT : Fref := ⟨0x200A0110, 256, 0, 31, 0⟩
def AXS_CFG5_I_RUN : Fref := ⟨0x200A0114, 256, 0, 31, 24⟩
def AXS_CFG5_I_HOLD : Fref := ⟨0x200A0114, 256, 0, 23, 16⟩
def AXS_CFG5_I_HOME : Fref := ⟨0x200A0114, 256, 0, 15, 8⟩
def AXS_CFG5_HOLD_DELAY : Fref := ⟨0x200A0114, 256, 0, 7, 0⟩
def AXS_CFG6_PWM_PERIOD : Fref := ⟨0x200A0118, 256, 0, 15, 0⟩
def AXS_CFG7_ENC_SCALE : Fref := ⟨0x200A011C, 256, 0, 31, 0⟩
def AXS_CFG8_DEV_WIN : Fref := ⟨0x200A0120, 256, 0, 15, 0⟩
def AXS_CFG9_MIN_EDGE : Fref := ⟨0x200A0124, 256, 0, 29, 24⟩
def AXS_CFG9_SPEED_TO : Fref := ⟨0x200A0124, 256, 0, 15, 8⟩
def AXS_CFG10_SSI_BITS : Fref := ⟨0x200A0128, 256, 0, 29, 24⟩
def AXS_CFG10_SSI_PERIOD : Fref := ⟨0x200A0128, 256, 0, 23, 16⟩
def AXS_CFG10_SSI_HALF : Fref := ⟨0x200A0128, 256, 0, 10, 0⟩
def AXS_CFG11_SSI_PAUSE : Fref := ⟨0x200A012C, 256, 0, 31, 16⟩
def AXS_CFG11_SSI_DELAY : Fref := ⟨0x200A012C, 256, 0, 15, 8⟩
def AXS_CFG12_SSI_MAX_DELTA : Fref := ⟨0x200A0130, 256, 0, 31, 0⟩
def AXS_CFG13_HOME_SPEED : Fref := ⟨0x200A0134, 256, 0, 31, 0⟩
def AXS_CFG14_HOME_ACC : Fref := ⟨0x200A0138, 256, 0, 31, 0⟩
def AXS_CFG15_HOME_OFS : Fref := ⟨0x200A013C, 256, 0, 31, 0⟩
def AXS_CFG16_HOME_BACKOFF : Fref := ⟨0x200A0140, 256, 0, 31, 0⟩
def AXS_CFG17_HOME_MAX_DIST : Fref := ⟨0x200A0144, 256, 0, 31, 0⟩
def AXS_CFG18_DEBOUNCE : Fref := ⟨0x200A0148, 256, 0, 31, 16⟩
def AXS_CFG19_SOFT_MIN : Fref := ⟨0x200A014C, 256, 0, 31, 0⟩
def AXS_CFG20_SOFT_MAX : Fref := ⟨0x200A0150, 256, 0, 31, 0⟩
def AXS_CFG21_INTERP_TMAX : Fref := ⟨0x200A0154, 256, 0, 15, 0⟩
def DMC_CFG_CMD_2N : Fref := ⟨0x200B0000, 0, 0, 8, 8⟩
def DMC_CFG_DBI_WR : Fref := ⟨0x200B0000, 0, 0, 7, 7⟩
def DMC_CFG_DBI_RD : Fref := ⟨0x200B0000, 0, 0, 6, 6⟩
def DMC_CFG_CA_PAR_EN : Fref := ⟨0x200B0000, 0, 0, 5, 5⟩
def DMC_CFG_RANKS : Fref := ⟨0x200B0000, 0, 0, 1, 1⟩
def DMC_CFG_DENSITY : Fref := ⟨0x200B0000, 0, 0, 0, 0⟩
def DMC_CTRL_TRAIN : Fref := ⟨0x200B0004, 0, 0, 0, 0⟩
def DMC_STATUS_READY : Fref := ⟨0x200B0008, 0, 0, 31, 31⟩
def DMC_STATUS_TRAINING : Fref := ⟨0x200B0008, 0, 0, 30, 30⟩
def DMC_STATUS_STEP : Fref := ⟨0x200B0008, 0, 0, 23, 20⟩
def DMC_STATUS_LANE : Fref := ⟨0x200B0008, 0, 0, 19, 16⟩
def DMC_STATUS_CH : Fref := ⟨0x200B0008, 0, 0, 15, 15⟩
def DMC_STATUS_SIZE : Fref := ⟨0x200B0008, 0, 0, 6, 0⟩
def DMC_FLAGS_WRITE_REFUSED : Fref := ⟨0x200B000C, 0, 0, 7, 7⟩
def DMC_FLAGS_TRAIN_FAIL : Fref := ⟨0x200B000C, 0, 0, 6, 6⟩
def DMC_FLAGS_PAR_ALERT : Fref := ⟨0x200B000C, 0, 0, 5, 5⟩
def DMC_FLAGS_PAR_FATAL : Fref := ⟨0x200B000C, 0, 0, 4, 4⟩
def DMC_FLAGS_CE_THRESH : Fref := ⟨0x200B000C, 0, 0, 3, 3⟩
def DMC_FLAGS_UE : Fref := ⟨0x200B000C, 0, 0, 2, 2⟩
def DMC_FLAGS_SCRUB_UE : Fref := ⟨0x200B000C, 0, 0, 1, 1⟩
def DMC_FLAGS_THROTTLED : Fref := ⟨0x200B000C, 0, 0, 0, 0⟩
def DMC_FAULT_LAST_VALID : Fref := ⟨0x200B0010, 0, 0, 31, 31⟩
def DMC_FAULT_LAST_CH : Fref := ⟨0x200B0010, 0, 0, 16, 16⟩
def DMC_FAULT_LAST_CODE : Fref := ⟨0x200B0010, 0, 0, 9, 0⟩
def DMC_PD_PD_IDLE : Fref := ⟨0x200B0014, 0, 0, 15, 0⟩
def DMC_REF_CTRL_REF_2X : Fref := ⟨0x200B0018, 0, 0, 8, 8⟩
def DMC_REF_CTRL_POSTPONE_MAX : Fref := ⟨0x200B0018, 0, 0, 3, 0⟩
def DMC_TIM_A_TRAS : Fref := ⟨0x200B0020, 0, 0, 31, 24⟩
def DMC_TIM_A_TRP : Fref := ⟨0x200B0020, 0, 0, 23, 16⟩
def DMC_TIM_A_TRCD : Fref := ⟨0x200B0020, 0, 0, 15, 8⟩
def DMC_TIM_A_CL : Fref := ⟨0x200B0020, 0, 0, 7, 0⟩
def DMC_TIM_B_TRC : Fref := ⟨0x200B0024, 0, 0, 31, 24⟩
def DMC_TIM_B_TFAW : Fref := ⟨0x200B0024, 0, 0, 23, 16⟩
def DMC_TIM_B_TWR : Fref := ⟨0x200B0024, 0, 0, 15, 8⟩
def DMC_TIM_B_CWL : Fref := ⟨0x200B0024, 0, 0, 7, 0⟩
def DMC_TIM_C_TRTP : Fref := ⟨0x200B0028, 0, 0, 31, 24⟩
def DMC_TIM_C_TWTR_L : Fref := ⟨0x200B0028, 0, 0, 23, 16⟩
def DMC_TIM_C_TWTR_S : Fref := ⟨0x200B0028, 0, 0, 15, 8⟩
def DMC_TIM_C_TRRD_L : Fref := ⟨0x200B0028, 0, 0, 7, 4⟩
def DMC_TIM_C_TRRD_S : Fref := ⟨0x200B0028, 0, 0, 3, 0⟩
def DMC_TIM_D_TREFI : Fref := ⟨0x200B002C, 0, 0, 31, 16⟩
def DMC_TIM_D_TRFC : Fref := ⟨0x200B002C, 0, 0, 11, 0⟩
def DMC_RH_THRESH_THRESH : Fref := ⟨0x200B0030, 0, 0, 15, 0⟩
def DMC_RH_EVICT_GAP : Fref := ⟨0x200B0034, 0, 0, 31, 16⟩
def DMC_RH_EVICT_LIMIT : Fref := ⟨0x200B0034, 0, 0, 15, 0⟩
def DMC_RH_REFRESH_REFRESH : Fref := ⟨0x200B0038, 0, 0, 31, 0⟩
def DMC_RH_EVICTED_EVICTED : Fref := ⟨0x200B003C, 0, 0, 31, 0⟩
def DMC_THROTTLE_LAST_VALID : Fref := ⟨0x200B0040, 0, 0, 31, 31⟩
def DMC_THROTTLE_LAST_ACTIVE : Fref := ⟨0x200B0040, 0, 0, 30, 30⟩
def DMC_THROTTLE_LAST_REQ : Fref := ⟨0x200B0040, 0, 0, 29, 24⟩
def DMC_THROTTLE_LAST_EPISODES : Fref := ⟨0x200B0040, 0, 0, 15, 0⟩
def DMC_SCRUB_CTRL_EN : Fref := ⟨0x200B0044, 0, 0, 31, 31⟩
def DMC_SCRUB_CTRL_PERIOD : Fref := ⟨0x200B0044, 0, 0, 19, 0⟩
def DMC_SCRUB_POS_LO_POS_LO : Fref := ⟨0x200B0048, 0, 0, 31, 6⟩
def DMC_SCRUB_POS_HI_POS_HI : Fref := ⟨0x200B004C, 0, 0, 7, 0⟩
def DMC_SCRUB_PASS_PASSES : Fref := ⟨0x200B0050, 0, 0, 31, 0⟩
def DMC_ECC_THRESH_CE_THRESH : Fref := ⟨0x200B0054, 0, 0, 15, 0⟩
def DMC_ECC_CLEAR_CLEAR : Fref := ⟨0x200B0058, 0, 0, 0, 0⟩
def DMC_ECC_LAST_VALID : Fref := ⟨0x200B0070, 0, 0, 31, 31⟩
def DMC_ECC_LAST_UE : Fref := ⟨0x200B0070, 0, 0, 30, 30⟩
def DMC_ECC_LAST_SCRUB : Fref := ⟨0x200B0070, 0, 0, 29, 29⟩
def DMC_ECC_LAST_CH : Fref := ⟨0x200B0070, 0, 0, 28, 28⟩
def DMC_ECC_LAST_RANK : Fref := ⟨0x200B0070, 0, 0, 27, 27⟩
def DMC_ECC_LAST_BEAT : Fref := ⟨0x200B0070, 0, 0, 26, 24⟩
def DMC_ECC_LAST_REQ : Fref := ⟨0x200B0070, 0, 0, 23, 18⟩
def DMC_ECC_LAST_SYNDROME : Fref := ⟨0x200B0070, 0, 0, 7, 0⟩
def DMC_ECC_ADDR_LO_ADDR_LO : Fref := ⟨0x200B0074, 0, 0, 31, 0⟩
def DMC_ECC_ADDR_HI_ADDR_HI : Fref := ⟨0x200B0078, 0, 0, 7, 0⟩
def DMC_PAR_FATAL : Fref := ⟨0x200B0080, 4, 0, 31, 31⟩
def DMC_PAR_ALERTS : Fref := ⟨0x200B0080, 4, 0, 30, 16⟩
def DMC_PAR_REPLAYS : Fref := ⟨0x200B0080, 4, 0, 15, 0⟩
def DMC_PORT_BYTES_BURSTS : Fref := ⟨0x200B0100, 4, 0, 31, 0⟩
def DMC_TRAIN_WL : Fref := ⟨0x200B0200, 64, 4, 31, 24⟩
def DMC_TRAIN_GATE : Fref := ⟨0x200B0200, 64, 4, 23, 16⟩
def DMC_TRAIN_RD_EYE : Fref := ⟨0x200B0200, 64, 4, 15, 8⟩
def DMC_TRAIN_WR_EYE : Fref := ⟨0x200B0200, 64, 4, 7, 0⟩
def DMC_VREF_RANK1 : Fref := ⟨0x200B0224, 64, 0, 13, 8⟩
def DMC_VREF_RANK0 : Fref := ⟨0x200B0224, 64, 0, 5, 0⟩
def DMC_ECC_CNT_CE : Fref := ⟨0x200B0060, 8, 4, 31, 16⟩
def DMC_ECC_CNT_UE : Fref := ⟨0x200B0060, 8, 4, 15, 0⟩
def DMA_STATUS_HALTED : Fref := ⟨0x200C0000, 0, 0, 31, 31⟩
def DMA_STATUS_OUTSTANDING : Fref := ⟨0x200C0000, 0, 0, 6, 0⟩
def DMA_ACTIVE_ACTIVE : Fref := ⟨0x200C0004, 0, 0, 31, 0⟩
def DMA_CLEAR_HALT : Fref := ⟨0x200C0008, 0, 0, 0, 0⟩
def DMA_FLAGS_WRITE_REFUSED : Fref := ⟨0x200C000C, 0, 0, 0, 0⟩
def DMA_IRQ_HALF_HALF : Fref := ⟨0x200C0010, 0, 0, 31, 0⟩
def DMA_IRQ_FULL_FULL : Fref := ⟨0x200C0014, 0, 0, 31, 0⟩
def DMA_IRQ_ERR_ERR : Fref := ⟨0x200C0018, 0, 0, 31, 0⟩
def DMA_FAULT_LAST_VALID : Fref := ⟨0x200C001C, 0, 0, 31, 31⟩
def DMA_FAULT_LAST_CHANNEL : Fref := ⟨0x200C001C, 0, 0, 20, 16⟩
def DMA_FAULT_LAST_CODE : Fref := ⟨0x200C001C, 0, 0, 9, 0⟩
def DMA_ERR_ADDR_LO_ADDR_LO : Fref := ⟨0x200C0020, 0, 0, 31, 0⟩
def DMA_ERR_ADDR_HI_ADDR_HI : Fref := ⟨0x200C0024, 0, 0, 7, 0⟩
def DMA_SRC_LO_SRC_LO : Fref := ⟨0x200C0100, 32, 0, 31, 0⟩
def DMA_SRC_HI_SRC_HI : Fref := ⟨0x200C0104, 32, 0, 7, 0⟩
def DMA_DST_LO_DST_LO : Fref := ⟨0x200C0108, 32, 0, 31, 0⟩
def DMA_DST_HI_DST_HI : Fref := ⟨0x200C010C, 32, 0, 7, 0⟩
def DMA_LEN_LEN : Fref := ⟨0x200C0110, 32, 0, 31, 0⟩
def DMA_CTRL_START : Fref := ⟨0x200C0114, 32, 0, 31, 31⟩
def DMA_CTRL_STOP : Fref := ⟨0x200C0114, 32, 0, 30, 30⟩
def DMA_CTRL_BURST : Fref := ⟨0x200C0114, 32, 0, 9, 8⟩
def DMA_CTRL_HALF_IE : Fref := ⟨0x200C0114, 32, 0, 6, 6⟩
def DMA_CTRL_FULL_IE : Fref := ⟨0x200C0114, 32, 0, 5, 5⟩
def DMA_CTRL_ALLOW_OVERLAP : Fref := ⟨0x200C0114, 32, 0, 3, 3⟩
def DMA_CTRL_DST_FIX : Fref := ⟨0x200C0114, 32, 0, 2, 2⟩
def DMA_CTRL_SRC_FIX : Fref := ⟨0x200C0114, 32, 0, 1, 1⟩
def DMA_STAT_STATE : Fref := ⟨0x200C0118, 32, 0, 31, 29⟩
def DMA_STAT_QUEUED : Fref := ⟨0x200C0118, 32, 0, 28, 28⟩
def DMA_STAT_LATE_ERR : Fref := ⟨0x200C0118, 32, 0, 27, 27⟩
def DMA_STAT_REFUSED : Fref := ⟨0x200C0118, 32, 0, 26, 26⟩
def DMA_STAT_ERR : Fref := ⟨0x200C0118, 32, 0, 19, 16⟩
def DMA_DONE_DONE : Fref := ⟨0x200C011C, 32, 0, 31, 0⟩
def DSP_CTRL_BL_EN : Fref := ⟨0x200D0000, 0, 0, 1, 1⟩
def DSP_CTRL_SCAN_EN : Fref := ⟨0x200D0000, 0, 0, 0, 0⟩
def DSP_STATUS_LINK_UP : Fref := ⟨0x200D0004, 0, 0, 31, 31⟩
def DSP_STATUS_TRAINING : Fref := ⟨0x200D0004, 0, 0, 30, 30⟩
def DSP_STATUS_STATIC : Fref := ⟨0x200D0004, 0, 0, 29, 29⟩
def DSP_STATUS_BLANK : Fref := ⟨0x200D0004, 0, 0, 28, 28⟩
def DSP_STATUS_ACC_BUSY : Fref := ⟨0x200D0004, 0, 0, 27, 27⟩
def DSP_STATUS_LINE : Fref := ⟨0x200D0004, 0, 0, 12, 0⟩
def DSP_FLAGS_WRITE_REFUSED : Fref := ⟨0x200D0008, 0, 0, 10, 10⟩
def DSP_FLAGS_ACC_FAIL : Fref := ⟨0x200D0008, 0, 0, 9, 9⟩
def DSP_FLAGS_BUF_PARITY : Fref := ⟨0x200D0008, 0, 0, 8, 8⟩
def DSP_FLAGS_FS_PARITY : Fref := ⟨0x200D0008, 0, 0, 7, 7⟩
def DSP_FLAGS_FETCH_ERR : Fref := ⟨0x200D0008, 0, 0, 6, 6⟩
def DSP_FLAGS_WB_ERR : Fref := ⟨0x200D0008, 0, 0, 5, 5⟩
def DSP_FLAGS_WB_LOST : Fref := ⟨0x200D0008, 0, 0, 4, 4⟩
def DSP_FLAGS_LINK_LOST : Fref := ⟨0x200D0008, 0, 0, 3, 3⟩
def DSP_FLAGS_TRAIN_FAIL : Fref := ⟨0x200D0008, 0, 0, 2, 2⟩
def DSP_FLAGS_LATE : Fref := ⟨0x200D0008, 0, 0, 1, 1⟩
def DSP_FLAGS_UNDERRUN : Fref := ⟨0x200D0008, 0, 0, 0, 0⟩
def DSP_FAULT_LAST_VALID : Fref := ⟨0x200D000C, 0, 0, 31, 31⟩
def DSP_FAULT_LAST_LAYER : Fref := ⟨0x200D000C, 0, 0, 18, 16⟩
def DSP_FAULT_LAST_CODE : Fref := ⟨0x200D000C, 0, 0, 9, 0⟩
def DSP_COMMIT_GO : Fref := ⟨0x200D0010, 0, 0, 31, 31⟩
def DSP_COMMIT_ARMED : Fref := ⟨0x200D0010, 0, 0, 30, 30⟩
def DSP_COMMIT_MASK : Fref := ⟨0x200D0010, 0, 0, 7, 0⟩
def DSP_COMMIT_ERR_REFUSED : Fref := ⟨0x200D0014, 0, 0, 31, 31⟩
def DSP_COMMIT_ERR_LAYER : Fref := ⟨0x200D0014, 0, 0, 18, 16⟩
def DSP_COMMIT_ERR_REASON : Fref := ⟨0x200D0014, 0, 0, 3, 0⟩
def DSP_FRAME_FRAME : Fref := ⟨0x200D0018, 0, 0, 31, 0⟩
def DSP_CNT_A_UNDERRUN_LINES : Fref := ⟨0x200D001C, 0, 0, 31, 16⟩
def DSP_CNT_A_UNDERRUN_FRAMES : Fref := ⟨0x200D001C, 0, 0, 15, 0⟩
def DSP_CNT_B_LATE : Fref := ⟨0x200D0020, 0, 0, 31, 16⟩
def DSP_CNT_B_RETRAINS : Fref := ⟨0x200D0020, 0, 0, 15, 8⟩
def DSP_CNT_B_TRAIN_FAILS : Fref := ⟨0x200D0020, 0, 0, 7, 0⟩
def DSP_LEAD_LEAD : Fref := ⟨0x200D0024, 0, 0, 31, 16⟩
def DSP_BL_BL_DUTY : Fref := ⟨0x200D0028, 0, 0, 31, 16⟩
def DSP_BL_BL_FREQ : Fref := ⟨0x200D0028, 0, 0, 15, 0⟩
def DSP_LINK_VS : Fref := ⟨0x200D002C, 0, 0, 17, 16⟩
def DSP_LINK_PE : Fref := ⟨0x200D002C, 0, 0, 13, 12⟩
def DSP_LINK_RATE : Fref := ⟨0x200D002C, 0, 0, 11, 8⟩
def DSP_LINK_LANES : Fref := ⟨0x200D002C, 0, 0, 1, 0⟩
def DSP_WB_BASE_LO_BASE_LO : Fref := ⟨0x200D0080, 0, 0, 31, 12⟩
def DSP_WB_BASE_HI_BASE_HI : Fref := ⟨0x200D0084, 0, 0, 7, 0⟩
def DSP_WB_CTRL_HDR_EN : Fref := ⟨0x200D0088, 0, 0, 31, 31⟩
def DSP_WB_CTRL_PIX_EN : Fref := ⟨0x200D0088, 0, 0, 30, 30⟩
def DSP_WB_CTRL_COUNT : Fref := ⟨0x200D0088, 0, 0, 4, 0⟩
def DSP_WB_WR_WR : Fref := ⟨0x200D008C, 0, 0, 31, 0⟩
def DSP_LSTAT_CRC_CRC : Fref := ⟨0x200D0500, 16, 0, 31, 0⟩
def DSP_LSTAT_RETF_RETIRE_FRAME : Fref := ⟨0x200D0504, 16, 0, 31, 0⟩
def DSP_LSTAT_RETLO_RETIRE_LO : Fref := ⟨0x200D0508, 16, 0, 31, 0⟩
def DSP_LSTAT_INFO_TRANSPARENT : Fref := ⟨0x200D050C, 16, 0, 31, 31⟩
def DSP_LSTAT_INFO_SKIPPED : Fref := ⟨0x200D050C, 16, 0, 30, 30⟩
def DSP_LSTAT_INFO_HELD : Fref := ⟨0x200D050C, 16, 0, 29, 29⟩
def DSP_LSTAT_INFO_FETCH_ERR : Fref := ⟨0x200D050C, 16, 0, 28, 28⟩
def DSP_LSTAT_INFO_CRC_VALID : Fref := ⟨0x200D050C, 16, 0, 27, 27⟩
def DSP_LSTAT_INFO_RETIRE_HI : Fref := ⟨0x200D050C, 16, 0, 7, 0⟩
def DSP_AUX_CTRL_GO : Fref := ⟨0x200D0C00, 0, 0, 31, 31⟩
def DSP_AUX_CTRL_BUSY : Fref := ⟨0x200D0C00, 0, 0, 30, 30⟩
def DSP_AUX_CTRL_CMD : Fref := ⟨0x200D0C00, 0, 0, 29, 28⟩
def DSP_AUX_CTRL_LEN : Fref := ⟨0x200D0C00, 0, 0, 27, 24⟩
def DSP_AUX_CTRL_ADDR : Fref := ⟨0x200D0C00, 0, 0, 19, 0⟩
def DSP_AUX_DATA_DATA : Fref := ⟨0x200D0C04, 4, 0, 31, 0⟩
def DSP_AUX_STAT_DONE : Fref := ⟨0x200D0C14, 0, 0, 31, 31⟩
def DSP_AUX_STAT_RESULT : Fref := ⟨0x200D0C14, 0, 0, 3, 0⟩
def DSP_ACC_LIST_LO_LIST_LO : Fref := ⟨0x200D0D00, 0, 0, 31, 0⟩
def DSP_ACC_LIST_HI_LIST_HI : Fref := ⟨0x200D0D04, 0, 0, 7, 0⟩
def DSP_ACC_CTRL_START : Fref := ⟨0x200D0D08, 0, 0, 31, 31⟩
def DSP_ACC_CTRL_COUNT : Fref := ⟨0x200D0D08, 0, 0, 12, 0⟩
def DSP_ACC_DONE_RESULT : Fref := ⟨0x200D0D0C, 0, 0, 31, 28⟩
def DSP_ACC_DONE_DONE : Fref := ⟨0x200D0D0C, 0, 0, 12, 0⟩
def DSP_ACC_SAT_SAT : Fref := ⟨0x200D0D10, 0, 0, 31, 0⟩
def DSP_COEF_A_C1orC3 : Fref := ⟨0x200D2000, 512, 8, 27, 16⟩
def DSP_COEF_A_C0orC2 : Fref := ⟨0x200D2000, 512, 8, 11, 0⟩
def DSP_COEF_B_C1orC3 : Fref := ⟨0x200D2004, 512, 8, 27, 16⟩
def DSP_COEF_B_C0orC2 : Fref := ⟨0x200D2004, 512, 8, 11, 0⟩
def DSP_LAYER_WORD : Fref := ⟨0x200D0100, 64, 4, 31, 0⟩
def DSP_LAYER_IF_WORD : Fref := ⟨0x200D0300, 64, 4, 31, 0⟩
def DSP_PAL_ARGB : Fref := ⟨0x200D1000, 1024, 4, 31, 0⟩
def DSP_T0_V_ACTIVE : Fref := ⟨0x200D0040, 0, 0, 31, 16⟩
def DSP_T0_H_ACTIVE : Fref := ⟨0x200D0040, 0, 0, 15, 0⟩
def DSP_TI0_V_ACTIVE : Fref := ⟨0x200D0060, 0, 0, 31, 16⟩
def DSP_TI0_H_ACTIVE : Fref := ⟨0x200D0060, 0, 0, 15, 0⟩
def DSP_T1_H_SYNC : Fref := ⟨0x200D0044, 0, 0, 31, 16⟩
def DSP_T1_H_FP : Fref := ⟨0x200D0044, 0, 0, 15, 0⟩
def DSP_TI1_H_SYNC : Fref := ⟨0x200D0064, 0, 0, 31, 16⟩
def DSP_TI1_H_FP : Fref := ⟨0x200D0064, 0, 0, 15, 0⟩
def DSP_T2_V_FP : Fref := ⟨0x200D0048, 0, 0, 31, 16⟩
def DSP_T2_H_BP : Fref := ⟨0x200D0048, 0, 0, 15, 0⟩
def DSP_TI2_V_FP : Fref := ⟨0x200D0068, 0, 0, 31, 16⟩
def DSP_TI2_H_BP : Fref := ⟨0x200D0068, 0, 0, 15, 0⟩
def DSP_T3_V_BP : Fref := ⟨0x200D004C, 0, 0, 31, 16⟩
def DSP_T3_V_SYNC : Fref := ⟨0x200D004C, 0, 0, 15, 0⟩
def DSP_TI3_V_BP : Fref := ⟨0x200D006C, 0, 0, 31, 16⟩
def DSP_TI3_V_SYNC : Fref := ⟨0x200D006C, 0, 0, 15, 0⟩
def DSP_T4_PCLK : Fref := ⟨0x200D0050, 0, 0, 31, 0⟩
def DSP_TI4_PCLK : Fref := ⟨0x200D0070, 0, 0, 31, 0⟩
def DSP_T5_VSYNC_POL : Fref := ⟨0x200D0054, 0, 0, 17, 17⟩
def DSP_T5_HSYNC_POL : Fref := ⟨0x200D0054, 0, 0, 16, 16⟩
def DSP_T5_RATE : Fref := ⟨0x200D0054, 0, 0, 11, 8⟩
def DSP_T5_LANES : Fref := ⟨0x200D0054, 0, 0, 1, 0⟩
def DSP_TI5_VSYNC_POL : Fref := ⟨0x200D0074, 0, 0, 17, 17⟩
def DSP_TI5_HSYNC_POL : Fref := ⟨0x200D0074, 0, 0, 16, 16⟩
def DSP_TI5_RATE : Fref := ⟨0x200D0074, 0, 0, 11, 8⟩
def DSP_TI5_LANES : Fref := ⟨0x200D0074, 0, 0, 1, 0⟩
def DSP_T6_VRR_OK : Fref := ⟨0x200D0058, 0, 0, 16, 16⟩
def DSP_T6_STATIC_RATE : Fref := ⟨0x200D0058, 0, 0, 9, 8⟩
def DSP_T6_STATIC_FRAMES : Fref := ⟨0x200D0058, 0, 0, 7, 0⟩
def DSP_TI6_VRR_OK : Fref := ⟨0x200D0078, 0, 0, 16, 16⟩
def DSP_TI6_STATIC_RATE : Fref := ⟨0x200D0078, 0, 0, 9, 8⟩
def DSP_TI6_STATIC_FRAMES : Fref := ⟨0x200D0078, 0, 0, 7, 0⟩
def DSP_T7_BACKGROUND : Fref := ⟨0x200D005C, 0, 0, 23, 0⟩
def DSP_TI7_BACKGROUND : Fref := ⟨0x200D007C, 0, 0, 23, 0⟩
def LIT_CTRL_EMIT_ARM : Fref := ⟨0x200E0000, 0, 0, 0, 0⟩
def LIT_STATUS_EMIT_EN : Fref := ⟨0x200E0004, 0, 0, 31, 31⟩
def LIT_STATUS_GROUP_OFF : Fref := ⟨0x200E0004, 0, 0, 27, 24⟩
def LIT_STATUS_ON : Fref := ⟨0x200E0004, 0, 0, 15, 0⟩
def LIT_LATCH_SHORT : Fref := ⟨0x200E0008, 0, 0, 31, 16⟩
def LIT_LATCH_OPEN : Fref := ⟨0x200E0008, 0, 0, 15, 0⟩
def LIT_OT_DERATING : Fref := ⟨0x200E000C, 0, 0, 31, 16⟩
def LIT_OT_OT : Fref := ⟨0x200E000C, 0, 0, 15, 0⟩
def LIT_FLAGS_WRITE_REFUSED : Fref := ⟨0x200E0010, 0, 0, 5, 5⟩
def LIT_FLAGS_STROBE_OVERLAP : Fref := ⟨0x200E0010, 0, 0, 4, 4⟩
def LIT_FLAGS_BEACON_FAIL : Fref := ⟨0x200E0010, 0, 0, 3, 3⟩
def LIT_FLAGS_OT : Fref := ⟨0x200E0010, 0, 0, 2, 2⟩
def LIT_FLAGS_SHORT : Fref := ⟨0x200E0010, 0, 0, 1, 1⟩
def LIT_FLAGS_OPEN : Fref := ⟨0x200E0010, 0, 0, 0, 0⟩
def LIT_FAULT_LAST_VALID : Fref := ⟨0x200E0014, 0, 0, 31, 31⟩
def LIT_FAULT_LAST_UNIT : Fref := ⟨0x200E0014, 0, 0, 19, 16⟩
def LIT_FAULT_LAST_CODE : Fref := ⟨0x200E0014, 0, 0, 9, 0⟩
def LIT_CLEAR_CLEAR : Fref := ⟨0x200E0018, 0, 0, 15, 0⟩
def LIT_GROUP_BEACON : Fref := ⟨0x200E0020, 4, 0, 1, 1⟩
def LIT_GROUP_AON : Fref := ⟨0x200E0020, 4, 0, 0, 0⟩
def LIT_NTC_T_T : Fref := ⟨0x200E0030, 4, 0, 15, 0⟩
def LIT_CURVE_T : Fref := ⟨0x200E0040, 4, 0, 15, 0⟩
def LIT_CFG_EN : Fref := ⟨0x200E0100, 32, 0, 31, 31⟩
def LIT_CFG_STROBE : Fref := ⟨0x200E0100, 32, 0, 30, 30⟩
def LIT_CFG_GRP_EN : Fref := ⟨0x200E0100, 32, 0, 29, 29⟩
def LIT_CFG_GROUP : Fref := ⟨0x200E0100, 32, 0, 28, 27⟩
def LIT_CFG_NTC_EN : Fref := ⟨0x200E0100, 32, 0, 26, 26⟩
def LIT_CFG_NTC : Fref := ⟨0x200E0100, 32, 0, 25, 24⟩
def LIT_CFG_IREF : Fref := ⟨0x200E0100, 32, 0, 9, 0⟩
def LIT_SW_SW_PERIOD : Fref := ⟨0x200E0104, 32, 0, 25, 16⟩
def LIT_SW_DMAX : Fref := ⟨0x200E0104, 32, 0, 7, 0⟩
def LIT_DIM_DUTY : Fref := ⟨0x200E0108, 32, 0, 31, 20⟩
def LIT_DIM_DIM_PERIOD : Fref := ⟨0x200E0108, 32, 0, 18, 0⟩
def LIT_PHASE_PHASE : Fref := ⟨0x200E010C, 32, 0, 11, 0⟩
def LIT_DET_OPEN_N : Fref := ⟨0x200E0110, 32, 0, 31, 24⟩
def LIT_DET_SHORT_N : Fref := ⟨0x200E0110, 32, 0, 23, 16⟩
def LIT_DET_SHORT_T : Fref := ⟨0x200E0110, 32, 0, 15, 8⟩
def LIT_DET_SKIP : Fref := ⟨0x200E0110, 32, 0, 7, 0⟩
def LIT_DERATE_T_OFF : Fref := ⟨0x200E0114, 32, 0, 31, 16⟩
def LIT_DERATE_T_DERATE : Fref := ⟨0x200E0114, 32, 0, 15, 0⟩
def LIT_STROBE_STR_DLY : Fref := ⟨0x200E0118, 32, 0, 31, 16⟩
def LIT_STROBE_STR_W : Fref := ⟨0x200E0118, 32, 0, 15, 0⟩
def LIT_TRIM_TRIM : Fref := ⟨0x200E011C, 32, 0, 5, 0⟩
def LIT_STAT_IEFF : Fref := ⟨0x200E0400, 4, 0, 25, 16⟩
def LIT_STAT_STATE : Fref := ⟨0x200E0400, 4, 0, 2, 0⟩
def LIT_RS_RS : Fref := ⟨0x200E0440, 4, 0, 15, 0⟩
def THM_STATUS_TMAX : Fref := ⟨0x200F0000, 0, 0, 31, 16⟩
def THM_STATUS_MAX_SENSOR : Fref := ⟨0x200F0000, 0, 0, 15, 12⟩
def THM_STATUS_RED : Fref := ⟨0x200F0000, 0, 0, 11, 8⟩
def THM_STATUS_SHUT_DONE : Fref := ⟨0x200F0000, 0, 0, 2, 2⟩
def THM_STATUS_LEVEL : Fref := ⟨0x200F0000, 0, 0, 1, 0⟩
def THM_FLAGS_WRITE_REFUSED : Fref := ⟨0x200F0004, 0, 0, 6, 6⟩
def THM_FLAGS_TRIP_SEEN : Fref := ⟨0x200F0004, 0, 0, 5, 5⟩
def THM_FLAGS_SENSORS_LOW : Fref := ⟨0x200F0004, 0, 0, 4, 4⟩
def THM_FLAGS_BROKEN : Fref := ⟨0x200F0004, 0, 0, 3, 3⟩
def THM_FLAGS_SHUTDOWN : Fref := ⟨0x200F0004, 0, 0, 2, 2⟩
def THM_FLAGS_THROTTLE : Fref := ⟨0x200F0004, 0, 0, 1, 1⟩
def THM_FLAGS_WARN : Fref := ⟨0x200F0004, 0, 0, 0, 0⟩
def THM_FAULT_LAST_VALID : Fref := ⟨0x200F0008, 0, 0, 31, 31⟩
def THM_FAULT_LAST_SENSOR : Fref := ⟨0x200F0008, 0, 0, 19, 16⟩
def THM_FAULT_LAST_CODE : Fref := ⟨0x200F0008, 0, 0, 9, 0⟩
def THM_THRESH_A_WARN : Fref := ⟨0x200F000C, 0, 0, 31, 16⟩
def THM_THRESH_A_THROT : Fref := ⟨0x200F000C, 0, 0, 15, 0⟩
def THM_THRESH_B_SHUT : Fref := ⟨0x200F0010, 0, 0, 31, 16⟩
def THM_THRESH_B_HYST : Fref := ⟨0x200F0010, 0, 0, 15, 0⟩
def THM_DAMP_STEP : Fref := ⟨0x200F0014, 0, 0, 31, 24⟩
def THM_DAMP_MAX_RED : Fref := ⟨0x200F0014, 0, 0, 19, 16⟩
def THM_DAMP_RELAX : Fref := ⟨0x200F0014, 0, 0, 15, 8⟩
def THM_DAMP_PAUSE_FROM : Fref := ⟨0x200F0014, 0, 0, 3, 0⟩
def THM_PAUSE_DMA_UNIT : Fref := ⟨0x200F0018, 0, 0, 31, 16⟩
def THM_PAUSE_CAM_UNIT : Fref := ⟨0x200F0018, 0, 0, 15, 0⟩
def THM_BROKEN_BROKEN : Fref := ⟨0x200F001C, 0, 0, 11, 0⟩
def THM_SENSOR_CLEAR_CLEAR : Fref := ⟨0x200F0020, 0, 0, 11, 0⟩
def THM_BRK_DELTA : Fref := ⟨0x200F0024, 0, 0, 31, 16⟩
def THM_BRK_TIME : Fref := ⟨0x200F0024, 0, 0, 15, 0⟩
def THM_SHUT_CTRL_STEP_NOW : Fref := ⟨0x200F0028, 0, 0, 18, 16⟩
def THM_SHUT_CTRL_FLASH_MAX : Fref := ⟨0x200F0028, 0, 0, 3, 0⟩
def THM_T_VALID : Fref := ⟨0x200F0100, 4, 0, 31, 31⟩
def THM_T_BROKEN : Fref := ⟨0x200F0100, 4, 0, 30, 30⟩
def THM_T_T : Fref := ⟨0x200F0100, 4, 0, 15, 0⟩
def THM_PEAK_CLEAR : Fref := ⟨0x200F0140, 0, 0, 31, 31⟩
def THM_PEAK_PEAK : Fref := ⟨0x200F0140, 0, 0, 15, 0⟩
def THM_CNT_THR_S : Fref := ⟨0x200F0144, 0, 0, 31, 16⟩
def THM_CNT_EPISODES : Fref := ⟨0x200F0144, 0, 0, 15, 0⟩
def CAL_STATUS_SWP_BUSY : Fref := ⟨0x20100000, 0, 0, 31, 31⟩
def CAL_STATUS_LT_BUSY : Fref := ⟨0x20100000, 0, 0, 30, 30⟩
def CAL_STATUS_MC_BUSY : Fref := ⟨0x20100000, 0, 0, 29, 29⟩
def CAL_STATUS_SWP_PIER : Fref := ⟨0x20100000, 0, 0, 23, 20⟩
def CAL_STATUS_MC_PIER : Fref := ⟨0x20100000, 0, 0, 19, 16⟩
def CAL_STATUS_LT_CHAN : Fref := ⟨0x20100000, 0, 0, 3, 0⟩
def CAL_FLAGS_WRITE_REFUSED : Fref := ⟨0x20100004, 0, 0, 4, 4⟩
def CAL_FLAGS_MODE_END : Fref := ⟨0x20100004, 0, 0, 3, 3⟩
def CAL_FLAGS_LT_RANGE : Fref := ⟨0x20100004, 0, 0, 2, 2⟩
def CAL_FLAGS_SWP_FAIL : Fref := ⟨0x20100004, 0, 0, 1, 1⟩
def CAL_FLAGS_NO_GAP : Fref := ⟨0x20100004, 0, 0, 0, 0⟩
def CAL_FAULT_LAST_VALID : Fref := ⟨0x20100008, 0, 0, 31, 31⟩
def CAL_FAULT_LAST_UNIT : Fref := ⟨0x20100008, 0, 0, 19, 16⟩
def CAL_FAULT_LAST_CODE : Fref := ⟨0x20100008, 0, 0, 9, 0⟩
def CAL_GAP_WAIT : Fref := ⟨0x2010000C, 0, 0, 31, 16⟩
def CAL_GAP_GAP_MIN : Fref := ⟨0x2010000C, 0, 0, 15, 0⟩
def CAL_MC_START : Fref := ⟨0x20100010, 0, 0, 31, 31⟩
def CAL_MC_PIER : Fref := ⟨0x20100010, 0, 0, 19, 16⟩
def CAL_MC_RESULTS : Fref := ⟨0x20100010, 0, 0, 9, 0⟩
def CAL_MC_STAT_PIECES : Fref := ⟨0x20100014, 0, 0, 31, 16⟩
def CAL_SWP_CTRL_START : Fref := ⟨0x20100020, 0, 0, 31, 31⟩
def CAL_SWP_CTRL_REPEAT : Fref := ⟨0x20100020, 0, 0, 27, 24⟩
def CAL_SWP_CTRL_INPUT : Fref := ⟨0x20100020, 0, 0, 20, 20⟩
def CAL_SWP_CTRL_PIER : Fref := ⟨0x20100020, 0, 0, 19, 16⟩
def CAL_SWP_CTRL_WINDOW : Fref := ⟨0x20100020, 0, 0, 5, 0⟩
def CAL_SWP_CFG_GAP : Fref := ⟨0x20100024, 0, 0, 31, 16⟩
def CAL_SWP_CFG_POWER : Fref := ⟨0x20100024, 0, 0, 15, 0⟩
def CAL_SWP_RES_VALID : Fref := ⟨0x20100028, 0, 0, 31, 31⟩
def CAL_SWP_RES_STATUS : Fref := ⟨0x20100028, 0, 0, 30, 28⟩
def CAL_SWP_RES_ONSET : Fref := ⟨0x20100028, 0, 0, 15, 0⟩
def CAL_SWP_LEVEL_LEVEL_MIN : Fref := ⟨0x2010002C, 0, 0, 31, 16⟩
def CAL_SWP_LEVEL_LEVEL : Fref := ⟨0x2010002C, 0, 0, 15, 0⟩
def CAL_LT_CTRL_START : Fref := ⟨0x20100030, 0, 0, 31, 31⟩
def CAL_LT_CTRL_CHANNEL : Fref := ⟨0x20100030, 0, 0, 3, 0⟩
def CAL_LT_RES_VALID : Fref := ⟨0x20100034, 0, 0, 31, 31⟩
def CAL_LT_RES_RANGE : Fref := ⟨0x20100034, 0, 0, 30, 30⟩
def CAL_LT_RES_TRIM : Fref := ⟨0x20100034, 0, 0, 5, 0⟩
def NET_STATUS_LINK : Fref := ⟨0x20110000, 0, 0, 1, 0⟩
def NET_FLAGS_RX_NOBUF : Fref := ⟨0x20110004, 0, 0, 3, 3⟩
def NET_FLAGS_TXTS_OVF : Fref := ⟨0x20110004, 0, 0, 2, 2⟩
def NET_FLAGS_LINK_LOST : Fref := ⟨0x20110004, 0, 0, 1, 1⟩
def NET_FLAGS_MDIO_ERR : Fref := ⟨0x20110004, 0, 0, 0, 0⟩
def NET_FAULT_LAST_VALID : Fref := ⟨0x20110008, 0, 0, 31, 31⟩
def NET_FAULT_LAST_PORT : Fref := ⟨0x20110008, 0, 0, 16, 16⟩
def NET_FAULT_LAST_CODE : Fref := ⟨0x20110008, 0, 0, 9, 0⟩
def NET_MDIO_GO : Fref := ⟨0x2011000C, 0, 0, 31, 31⟩
def NET_MDIO_BUSY : Fref := ⟨0x2011000C, 0, 0, 30, 30⟩
def NET_MDIO_OP : Fref := ⟨0x2011000C, 0, 0, 29, 28⟩
def NET_MDIO_PHY : Fref := ⟨0x2011000C, 0, 0, 25, 21⟩
def NET_MDIO_REG : Fref := ⟨0x2011000C, 0, 0, 20, 16⟩
def NET_MDIO_DATA : Fref := ⟨0x2011000C, 0, 0, 15, 0⟩
def NET_PTP_PORT : Fref := ⟨0x20110010, 0, 0, 2, 2⟩
def NET_PTP_STATE : Fref := ⟨0x20110010, 0, 0, 1, 0⟩
def NET_CTRL_EN : Fref := ⟨0x20110100, 128, 0, 31, 31⟩
def NET_MAC_LO_MAC_LO : Fref := ⟨0x20110104, 128, 0, 31, 0⟩
def NET_MAC_HI_MAC_HI : Fref := ⟨0x20110108, 128, 0, 15, 0⟩
def NET_LAT_EGRESS : Fref := ⟨0x2011010C, 128, 0, 31, 16⟩
def NET_LAT_INGRESS : Fref := ⟨0x2011010C, 128, 0, 15, 0⟩
def NET_TXR_BASE_TXR_BASE : Fref := ⟨0x20110110, 128, 0, 31, 0⟩
def NET_TXR_SIZE_COUNT : Fref := ⟨0x20110114, 128, 0, 7, 0⟩
def NET_TXR_POS_POS : Fref := ⟨0x20110118, 128, 0, 6, 0⟩
def NET_TX_KICK_KICK : Fref := ⟨0x2011011C, 128, 0, 0, 0⟩
def NET_RXR_BASE_RXR_BASE : Fref := ⟨0x20110120, 128, 0, 31, 0⟩
def NET_RXR_SIZE_COUNT : Fref := ⟨0x20110124, 128, 0, 7, 0⟩
def NET_RXR_POS_POS : Fref := ⟨0x20110128, 128, 0, 6, 0⟩
def NET_TXTS_INFO_VALID : Fref := ⟨0x20110130, 128, 0, 31, 31⟩
def NET_TXTS_INFO_NOTPTP : Fref := ⟨0x20110130, 128, 0, 30, 30⟩
def NET_TXTS_INFO_MSGTYPE : Fref := ⟨0x20110130, 128, 0, 27, 24⟩
def NET_TXTS_INFO_SEQID : Fref := ⟨0x20110130, 128, 0, 15, 0⟩
def NET_TXTS_LO_T_LO : Fref := ⟨0x20110134, 128, 0, 31, 0⟩
def NET_TXTS_HI_T_HI : Fref := ⟨0x20110138, 128, 0, 31, 0⟩
def NET_TXTS_POP_POP : Fref := ⟨0x2011013C, 128, 0, 31, 31⟩
def NET_TXTS_POP_FILL : Fref := ⟨0x2011013C, 128, 0, 3, 0⟩
def NET_CNT_A_RX_FRAMES : Fref := ⟨0x20110140, 128, 0, 31, 16⟩
def NET_CNT_A_RX_NOBUF : Fref := ⟨0x20110140, 128, 0, 15, 0⟩
def NET_CNT_B_FCS_ERR : Fref := ⟨0x20110144, 128, 0, 31, 16⟩
def NET_CNT_B_TX_FRAMES : Fref := ⟨0x20110144, 128, 0, 15, 0⟩
def NET_CNT_C_TXTS_OVF : Fref := ⟨0x20110148, 128, 0, 31, 16⟩
def NET_CNT_C_PTP_REJ : Fref := ⟨0x20110148, 128, 0, 15, 0⟩
def PCI_STATUS_LINK_UP : Fref := ⟨0x20120000, 0, 0, 31, 31⟩
def PCI_STATUS_SPEED : Fref := ⟨0x20120000, 0, 0, 30, 28⟩
def PCI_STATUS_WIDTH : Fref := ⟨0x20120000, 0, 0, 27, 24⟩
def PCI_STATUS_D3HOT : Fref := ⟨0x20120000, 0, 0, 3, 3⟩
def PCI_STATUS_MSIX_EN : Fref := ⟨0x20120000, 0, 0, 2, 2⟩
def PCI_STATUS_FN_MASK : Fref := ⟨0x20120000, 0, 0, 1, 1⟩
def PCI_STATUS_BME : Fref := ⟨0x20120000, 0, 0, 0, 0⟩
def PCI_FLAGS_POISON : Fref := ⟨0x20120004, 0, 0, 2, 2⟩
def PCI_FLAGS_DENIED : Fref := ⟨0x20120004, 0, 0, 1, 1⟩
def PCI_FLAGS_RESET : Fref := ⟨0x20120004, 0, 0, 0, 0⟩
def PCI_FAULT_LAST_VALID : Fref := ⟨0x20120008, 0, 0, 31, 31⟩
def PCI_FAULT_LAST_CODE : Fref := ⟨0x20120008, 0, 0, 9, 0⟩
def PCI_ID_DEVICE : Fref := ⟨0x2012000C, 0, 0, 31, 16⟩
def PCI_ID_REVISION : Fref := ⟨0x2012000C, 0, 0, 7, 0⟩
def PCI_DENY_READS : Fref := ⟨0x20120010, 0, 0, 31, 16⟩
def PCI_DENY_WRITES : Fref := ⟨0x20120010, 0, 0, 15, 0⟩
def PCI_DENY_ADDR_LO_ADDR_LO : Fref := ⟨0x20120014, 0, 0, 31, 0⟩
def PCI_DENY_ADDR_HI_ADDR_HI : Fref := ⟨0x20120018, 0, 0, 7, 0⟩
def PCI_WIN_BASE_LO_BASE_LO : Fref := ⟨0x20120100, 16, 0, 31, 12⟩
def PCI_WIN_BASE_HI_BASE_HI : Fref := ⟨0x20120104, 16, 0, 7, 0⟩
def PCI_WIN_SIZE_LOG2 : Fref := ⟨0x20120108, 16, 0, 5, 0⟩
def PCI_WIN_CTRL_EN : Fref := ⟨0x2012010C, 16, 0, 31, 31⟩
def PCI_WIN_CTRL_WRITE : Fref := ⟨0x2012010C, 16, 0, 30, 30⟩
def PCI_WIN_CTRL_USE : Fref := ⟨0x2012010C, 16, 0, 1, 0⟩
def SEC_STATUS_KEY_READY : Fref := ⟨0x20130000, 0, 0, 31, 31⟩
def SEC_STATUS_MEAS_DONE : Fref := ⟨0x20130000, 0, 0, 30, 30⟩
def SEC_STATUS_DEBUG_SEEN : Fref := ⟨0x20130000, 0, 0, 29, 29⟩
def SEC_STATUS_JOB_OK : Fref := ⟨0x20130000, 0, 0, 28, 28⟩
def SEC_STATUS_JOB_SIGNED : Fref := ⟨0x20130000, 0, 0, 27, 27⟩
def SEC_STATUS_MODE_ALLOW : Fref := ⟨0x20130000, 0, 0, 9, 9⟩
def SEC_STATUS_LASERS : Fref := ⟨0x20130000, 0, 0, 8, 8⟩
def SEC_STATUS_MODE : Fref := ⟨0x20130000, 0, 0, 7, 4⟩
def SEC_STATUS_DEBUG : Fref := ⟨0x20130000, 0, 0, 3, 2⟩
def SEC_STATUS_LIFECYCLE : Fref := ⟨0x20130000, 0, 0, 1, 0⟩
def SEC_MODE_RET : Fref := ⟨0x20130004, 0, 0, 23, 20⟩
def SEC_MODE_LASERS : Fref := ⟨0x20130004, 0, 0, 8, 8⟩
def SEC_MODE_MODE : Fref := ⟨0x20130004, 0, 0, 3, 0⟩
def SEC_DEBUG_CLOSE : Fref := ⟨0x20130008, 0, 0, 31, 31⟩
def SEC_DEBUG_HALTED : Fref := ⟨0x20130008, 0, 0, 30, 30⟩
def SEC_DEBUG_LEVEL : Fref := ⟨0x20130008, 0, 0, 1, 0⟩
def SEC_FLAGS_WRITE_REFUSED : Fref := ⟨0x2013000C, 0, 0, 2, 2⟩
def SEC_FLAGS_TOKEN_REFUSED : Fref := ⟨0x2013000C, 0, 0, 1, 1⟩
def SEC_FLAGS_MODE_REFUSED : Fref := ⟨0x2013000C, 0, 0, 0, 0⟩
def SEC_FAULT_LAST_VALID : Fref := ⟨0x20130010, 0, 0, 31, 31⟩
def SEC_FAULT_LAST_CODE : Fref := ⟨0x20130010, 0, 0, 9, 0⟩
def SEC_ARB_COUNT : Fref := ⟨0x20130014, 0, 0, 5, 0⟩
def SEC_ARB_RAISE_GO : Fref := ⟨0x20130018, 0, 0, 31, 31⟩
def SEC_ARB_RAISE_TARGET : Fref := ⟨0x20130018, 0, 0, 5, 0⟩
def SEC_SLOT_CONFIRMED : Fref := ⟨0x2013001C, 0, 0, 1, 1⟩
def SEC_SLOT_SLOT : Fref := ⟨0x2013001C, 0, 0, 0, 0⟩
def SEC_TOKEN_ADDR_ADDR : Fref := ⟨0x20130060, 0, 0, 31, 0⟩
def SEC_TOKEN_CTRL_START : Fref := ⟨0x20130064, 0, 0, 31, 31⟩
def SEC_TOKEN_CTRL_BUSY : Fref := ⟨0x20130064, 0, 0, 30, 30⟩
def SEC_TOKEN_CTRL_RESULT : Fref := ⟨0x20130064, 0, 0, 29, 28⟩
def SEC_TOKEN_CTRL_LEN : Fref := ⟨0x20130064, 0, 0, 9, 0⟩
def SEC_CHAL_CTRL_NEW : Fref := ⟨0x20130068, 0, 0, 31, 31⟩
def SEC_CHAL_CTRL_VALID : Fref := ⟨0x20130068, 0, 0, 30, 30⟩
def SEC_CHAL_CTRL_LEVEL : Fref := ⟨0x20130068, 0, 0, 1, 0⟩
def SEC_JOB_ADDR_LO_ADDR_LO : Fref := ⟨0x20130080, 0, 0, 31, 0⟩
def SEC_JOB_ADDR_HI_ADDR_HI : Fref := ⟨0x20130084, 0, 0, 7, 0⟩
def SEC_JOB_LEN_LEN : Fref := ⟨0x20130088, 0, 0, 31, 0⟩
def SEC_JOB_CTRL_START : Fref := ⟨0x2013008C, 0, 0, 31, 31⟩
def SEC_JOB_CTRL_CLEAR : Fref := ⟨0x2013008C, 0, 0, 30, 30⟩
def SEC_JOB_CTRL_BUSY : Fref := ⟨0x2013008C, 0, 0, 29, 29⟩
def SEC_LC_CTRL_GO : Fref := ⟨0x20130090, 0, 0, 31, 31⟩
def SEC_LC_CTRL_BUSY : Fref := ⟨0x20130090, 0, 0, 30, 30⟩
def SEC_LC_CTRL_TARGET : Fref := ⟨0x20130090, 0, 0, 1, 0⟩
def SEC_LC_ADDR_LC_ADDR : Fref := ⟨0x20130094, 0, 0, 31, 0⟩
def SEC_ATT_CTRL_START : Fref := ⟨0x201300A0, 0, 0, 31, 31⟩
def SEC_ATT_CTRL_BUSY : Fref := ⟨0x201300A0, 0, 0, 30, 30⟩
def SEC_ATT_CTRL_DONE : Fref := ⟨0x201300A0, 0, 0, 29, 29⟩
def SEC_ATT_CTRL_ERR : Fref := ⟨0x201300A0, 0, 0, 28, 28⟩
def SEC_ATT_ADDR_ATT_ADDR : Fref := ⟨0x201300A4, 0, 0, 31, 0⟩
def SEC_UID_BYTES : Fref := ⟨0x20130020, 4, 0, 31, 0⟩
def SEC_CHAL_BYTES : Fref := ⟨0x20130040, 4, 0, 31, 0⟩
def SEC_MEAS_FW_BYTES : Fref := ⟨0x20130100, 4, 0, 31, 0⟩
def SEC_MEAS_JOB_BYTES : Fref := ⟨0x20130140, 4, 0, 31, 0⟩
def SEC_IDPUB_BYTES : Fref := ⟨0x20130180, 4, 0, 31, 0⟩
def VLT_STATUS_LINK_OK : Fref := ⟨0x20150000, 0, 0, 31, 31⟩
def VLT_STATUS_TRIP : Fref := ⟨0x20150000, 0, 0, 30, 30⟩
def VLT_STATUS_LOST : Fref := ⟨0x20150000, 0, 0, 29, 29⟩
def VLT_STATUS_TAMPERED : Fref := ⟨0x20150000, 0, 0, 28, 28⟩
def VLT_STATUS_VBAT_LOW : Fref := ⟨0x20150000, 0, 0, 27, 27⟩
def VLT_STATUS_PSU_EN : Fref := ⟨0x20150000, 0, 0, 26, 26⟩
def VLT_STATUS_TLOG_FILL : Fref := ⟨0x20150000, 0, 0, 20, 16⟩
def VLT_STATUS_TLOG_OVF : Fref := ⟨0x20150000, 0, 0, 15, 0⟩
def VLT_OPSEC_OPSEC : Fref := ⟨0x20150004, 0, 0, 31, 0⟩
def VLT_PCYCLE_PCYCLE : Fref := ⟨0x20150008, 0, 0, 23, 0⟩
def VLT_RTC_SEC_SEC : Fref := ⟨0x2015000C, 0, 0, 31, 0⟩
def VLT_RTC_SUB_SUB : Fref := ⟨0x20150010, 0, 0, 14, 0⟩
def VLT_RTC_SET_SET : Fref := ⟨0x20150014, 0, 0, 31, 0⟩
def VLT_ALARM_ALARM : Fref := ⟨0x20150018, 0, 0, 31, 0⟩
def VLT_WAKE_ALARM_EN : Fref := ⟨0x2015001C, 0, 0, 31, 31⟩
def VLT_WAKE_WAKE_EN : Fref := ⟨0x2015001C, 0, 0, 30, 30⟩
def VLT_WAKE_SLEEP : Fref := ⟨0x2015001C, 0, 0, 29, 29⟩
def VLT_WAKE_CAUSE : Fref := ⟨0x2015001C, 0, 0, 2, 0⟩
def VLT_TAMP_EN_EN : Fref := ⟨0x20150020, 0, 0, 5, 0⟩
def VLT_CLEAR_LOST : Fref := ⟨0x20150024, 0, 0, 2, 2⟩
def VLT_CLEAR_TLOG : Fref := ⟨0x20150024, 0, 0, 1, 1⟩
def VLT_CLEAR_TRIP : Fref := ⟨0x20150024, 0, 0, 0, 0⟩
def VLT_FLAGS_LINK_ERR : Fref := ⟨0x20150028, 0, 0, 1, 1⟩
def VLT_FLAGS_WRITE_REFUSED : Fref := ⟨0x20150028, 0, 0, 0, 0⟩
def VLT_FAULT_LAST_VALID : Fref := ⟨0x2015002C, 0, 0, 31, 31⟩
def VLT_FAULT_LAST_CODE : Fref := ⟨0x2015002C, 0, 0, 9, 0⟩
def VLT_TLOG_SEC_SEC : Fref := ⟨0x20150040, 8, 0, 31, 0⟩
def VLT_TLOG_INFO_SOURCE : Fref := ⟨0x20150044, 8, 0, 31, 28⟩
def VLT_TLOG_INFO_COUNT : Fref := ⟨0x20150044, 8, 0, 27, 16⟩
def VLT_TLOG_INFO_DETAIL : Fref := ⟨0x20150044, 8, 0, 15, 0⟩
def FLU_STATUS_READY : Fref := ⟨0x20140000, 0, 0, 31, 31⟩
def FLU_STATUS_SEALED_FULL : Fref := ⟨0x20140000, 0, 0, 30, 30⟩
def FLU_STATUS_RESERVE : Fref := ⟨0x20140000, 0, 0, 29, 29⟩
def FLU_STATUS_PF : Fref := ⟨0x20140000, 0, 0, 28, 28⟩
def FLU_STATUS_PF_DONE : Fref := ⟨0x20140000, 0, 0, 27, 27⟩
def FLU_STATUS_ERASING : Fref := ⟨0x20140000, 0, 0, 26, 26⟩
def FLU_STATUS_BACKLOG : Fref := ⟨0x20140000, 0, 0, 25, 16⟩
def FLU_STATUS_RING : Fref := ⟨0x20140000, 0, 0, 11, 0⟩
def FLU_FLAGS_WRITE_REFUSED : Fref := ⟨0x20140004, 0, 0, 7, 7⟩
def FLU_FLAGS_PROTECTED : Fref := ⟨0x20140004, 0, 0, 6, 6⟩
def FLU_FLAGS_FLASH_ERR : Fref := ⟨0x20140004, 0, 0, 5, 5⟩
def FLU_FLAGS_TORN : Fref := ⟨0x20140004, 0, 0, 4, 4⟩
def FLU_FLAGS_SRAM_UE : Fref := ⟨0x20140004, 0, 0, 3, 3⟩
def FLU_FLAGS_DROP : Fref := ⟨0x20140004, 0, 0, 2, 2⟩
def FLU_FLAGS_RESERVE_IN : Fref := ⟨0x20140004, 0, 0, 1, 1⟩
def FLU_FLAGS_PFW : Fref := ⟨0x20140004, 0, 0, 0, 0⟩
def FLU_FAULT_LAST_VALID : Fref := ⟨0x20140008, 0, 0, 31, 31⟩
def FLU_FAULT_LAST_CODE : Fref := ⟨0x20140008, 0, 0, 9, 0⟩
def FLU_CTRL_FLUSH : Fref := ⟨0x2014000C, 0, 0, 0, 0⟩
def FLU_SEQ_NEXT_LO_NEXT_LO : Fref := ⟨0x20140010, 0, 0, 31, 0⟩
def FLU_SEQ_NEXT_HI_NEXT_HI : Fref := ⟨0x20140014, 0, 0, 15, 0⟩
def FLU_OLDEST_LO_OLD_LO : Fref := ⟨0x20140018, 0, 0, 31, 0⟩
def FLU_OLDEST_HI_OLD_HI : Fref := ⟨0x2014001C, 0, 0, 15, 0⟩
def FLU_LIVE_LIVE : Fref := ⟨0x20140020, 0, 0, 20, 0⟩
def FLU_RESV_RESV : Fref := ⟨0x20140024, 0, 0, 15, 0⟩
def FLU_DROP_DROP : Fref := ⟨0x20140028, 0, 0, 31, 0⟩
def FLU_DISP_A_DISP_A : Fref := ⟨0x2014002C, 0, 0, 31, 0⟩
def FLU_DISP_B_DISP_B : Fref := ⟨0x20140030, 0, 0, 31, 0⟩
def FLU_SCAN_TORN : Fref := ⟨0x20140034, 0, 0, 31, 16⟩
def FLU_SCAN_REERASED : Fref := ⟨0x20140034, 0, 0, 15, 0⟩
def FLU_SUBMIT_GO : Fref := ⟨0x20140180, 0, 0, 31, 31⟩
def FLU_SUBMIT_BUSY : Fref := ⟨0x20140180, 0, 0, 30, 30⟩
def FLU_SUBMIT_NOSPACE : Fref := ⟨0x20140180, 0, 0, 29, 29⟩
def FLU_SUBMIT_PARTS : Fref := ⟨0x20140180, 0, 0, 2, 0⟩
def FLU_SUBMIT_SEQ_LO_SEQ_LO : Fref := ⟨0x20140184, 0, 0, 31, 0⟩
def FLU_SUBMIT_SEQ_HI_SEQ_HI : Fref := ⟨0x20140188, 0, 0, 15, 0⟩
def FLU_RD_FIRST_LO_FIRST_LO : Fref := ⟨0x20140190, 0, 0, 31, 0⟩
def FLU_RD_FIRST_HI_FIRST_HI : Fref := ⟨0x20140194, 0, 0, 15, 0⟩
def FLU_RD_ADDR_ADDR : Fref := ⟨0x20140198, 0, 0, 31, 0⟩
def FLU_RD_CTRL_START : Fref := ⟨0x2014019C, 0, 0, 31, 31⟩
def FLU_RD_CTRL_BUSY : Fref := ⟨0x2014019C, 0, 0, 30, 30⟩
def FLU_RD_CTRL_MORE : Fref := ⟨0x2014019C, 0, 0, 29, 29⟩
def FLU_RD_CTRL_RETURNED : Fref := ⟨0x2014019C, 0, 0, 12, 8⟩
def FLU_RD_CTRL_COUNT : Fref := ⟨0x2014019C, 0, 0, 4, 0⟩
def FLU_XSPI_CFG_PROTO : Fref := ⟨0x20140200, 0, 0, 17, 16⟩
def FLU_XSPI_CFG_DIV : Fref := ⟨0x20140200, 0, 0, 11, 8⟩
def FLU_XSPI_CFG_SIZE : Fref := ⟨0x20140200, 0, 0, 4, 0⟩
def FLU_XSPI_CMD_GO : Fref := ⟨0x20140204, 0, 0, 31, 31⟩
def FLU_XSPI_CMD_BUSY : Fref := ⟨0x20140204, 0, 0, 30, 30⟩
def FLU_XSPI_CMD_ERR : Fref := ⟨0x20140204, 0, 0, 29, 29⟩
def FLU_XSPI_CMD_OP : Fref := ⟨0x20140204, 0, 0, 2, 0⟩
def FLU_XSPI_FADDR_FADDR : Fref := ⟨0x20140208, 0, 0, 27, 0⟩
def FLU_XSPI_SADDR_SADDR : Fref := ⟨0x2014020C, 0, 0, 31, 0⟩
def FLU_REC_HEAD_SEV : Fref := ⟨0x20140100, 16, 0, 18, 16⟩
def FLU_REC_HEAD_CODE : Fref := ⟨0x20140100, 16, 0, 15, 0⟩
def FLU_REC_PAY_BYTES : Fref := ⟨0x20140104, 16, 4, 31, 0⟩
def FLU_RD_BEFORE_LO_SEQ : Fref := ⟨0x201401A0, 0, 0, 31, 0⟩
def FLU_RD_BEFORE_HI_SEQ : Fref := ⟨0x201401A4, 0, 0, 15, 0⟩
def FLU_RD_RET_LO_SEQ : Fref := ⟨0x201401A8, 0, 0, 31, 0⟩
def FLU_RD_RET_HI_SEQ : Fref := ⟨0x201401AC, 0, 0, 15, 0⟩
def FLU_RD_AFTER_LO_SEQ : Fref := ⟨0x201401B0, 0, 0, 31, 0⟩
def FLU_RD_AFTER_HI_SEQ : Fref := ⟨0x201401B4, 0, 0, 15, 0⟩

end Sys2Proof.Machine
end

