-- ==== Sys2Proof/Machine/State.lean ====
section
/-! DEFINITION. The state of the AP16 as plain data: the register file (values in force and pending), the memories,
and, block by block, the state that no register shows. -/

namespace Sys2Proof.Machine

/-- Why the machine stops with a fault. Raised by no command today: every condition the spec names is an effect on the
state (a fault record, an error count, a flag). The one constructor is kept for a closed type; stopping is safe. -/
inductive Fault where
  /-- The factory test mode of TEST_EN (R748), which spec/ says is not described; raised by no command (safe). -/
  | testMode
  deriving DecidableEq, Repr

/-- Why a command is refused by the model. -/
inductive Refusal where
  /-- A command that has no meaning yet, by its mnemonic; raised by `exec`'s own arms only (safe). -/
  | notModelled (mnemonic : String)
  deriving DecidableEq, Repr

/-- A record of the Flue (R700). `hasSeq` is false only while the boot scan runs (R701). -/
structure Rec where
  seq     : Nat := 0
  hasSeq  : Bool := true
  opsec   : Nat := 0
  pcycle  : Nat := 0
  sev     : Nat := 4
  code    : Nat := 0
  part    : Nat := 0
  last    : Bool := true
  lost    : Bool := false
  /-- The record goes to the reserve (R720). -/
  resv    : Bool := false
  payload : List Byte := []
  deriving DecidableEq, Repr

/-- State of the FLU block (R700–R728) that its registers do not hold. -/
structure FluSt where
  /-- Records in the ring that are not yet committed, oldest first (R709). -/
  ring : List Rec := []
  /-- Live records committed in the main region and in the reserve, with their flash addresses (R705). -/
  live : List (Nat × Rec) := []
  resv : List (Nat × Rec) := []
  /-- The next SEQ (R701). -/
  seqNext : Nat := 0
  /-- Records dropped since fault 001h was last recorded (R712). -/
  dropSince : Nat := 0
  /-- Flash slots of displaced or compacted records still to be voided (R711, R719). -/
  voids : List Nat := []
  /-- Write points in the main region and in the reserve (R710). -/
  wp : Nat := 0x1000000
  wpR : Nat := 0x3004000
  /-- A flush is wanted or in progress; the page program in progress: its address and records (R709, R710). -/
  flushing : Bool := false
  page : Option (Nat × List Rec) := none
  /-- The block whose erase is in progress, whether it is suspended, and an erase aborted by PFW (R711, R714). -/
  erasing : Option Nat := none
  suspended : Bool := false
  aborted : Option Nat := none
  /-- Blocks skipped until the next boot (fault 004h). -/
  bad : List Nat := []
  /-- A group submitted during the boot scan waits for READY (R716). -/
  submit : Option (List Rec) := none
  /-- The xSPI operation of firmware in progress: OP, flash address, SRAM address (R707). -/
  xspi : Option (Nat × Nat × Nat) := none
  /-- The highest valid SEQ the boot scan found in flash (R692, R718). -/
  scanHi : Option Nat := none
  deriving DecidableEq, Repr

/-- An event waiting for firmware to write it to the event ring (R107). -/
structure Ev where
  kind : Nat
  code : Nat
  tag  : Nat
  arg  : Nat
  tick : Nat
  deriving DecidableEq, Repr

/-- A reply of a mailbox command (R110). -/
structure Reply where
  status   : Nat := 0
  fault    : Nat := 0
  more     : Bool := false
  deferred : Bool := false
  payload  : List Word := []
  deriving DecidableEq, Repr

/-- A long action (R117): its tag, opcode, what it works on, and its final status once it has ended. -/
structure Action where
  tag      : Nat
  op       : Nat
  arg      : Nat := 0
  arg2     : Nat := 0
  finished : Bool := false
  posted   : Bool := false
  status   : Nat := 0
  deriving DecidableEq, Repr

/-- What the KEY block captures at φ380 (R69): the pending words, the slots whose pending IMAGE Nagus has written since
the capture before (R394), the armed exposure sets (R434) and the bank swaps that wait for group 2 (R222). -/
structure Capt where
  pend   : List (Nat × Word) := []
  images : Nat := 0
  arms   : Nat := 0
  swaps  : Nat := 0
  deriving DecidableEq, Repr

/-- State of the KEY block (R56–R96) that its registers do not hold. -/
structure KeySt where
  /-- Tick edges since tick 0 (R77). -/
  tick : Nat := 0
  /-- The free-running counter (R78). -/
  frc : Nat := 0
  /-- Its value at the latest tick edge (R56). -/
  frcEdge : Nat := 0
  /-- Its value where the time PLL lost lock (R79). -/
  frcUnlock : Nat := 0
  /-- Network time's base in 64.32 fixed point, base FRC, 32.32 increment and 64-bit offset (R80). -/
  baseNt : Nat := 0
  baseFrc : Nat := 0
  inc : Nat := 0x100000000
  ofs : Nat := 0
  /-- The held halves of an increment or offset pair (R81, R82). -/
  fracHeld : Nat := 0
  ofsLoHeld : Nat := 0
  /-- Groups that commit at the next edge and at the edge after it (R68). -/
  next : Nat := 0
  next2 : Nat := 0
  /-- The same for requests that include group 0, which R58 may refuse as a whole. -/
  nextK : Nat := 0
  nextK2 : Nat := 0
  /-- What φ380 captured for the latest edge (R69). -/
  capt : Capt := {}
  /-- Tick of each pier's latest overrun, plus one; 0 for none (R65). -/
  ovrTick : Tab Nat := []
  /-- Consecutive ticks with |e| ≤ 2.5 ns (R87). -/
  lockRun : Nat := 0
  /-- RT cycles by which the next tick differs from nominal (R86). -/
  slew : Int := 0
  /-- Time stamp of the latest TICK_IN edge in 1/16 ns, plus one; 0 for none (R88, R761). -/
  tickIn : Nat := 0
  /-- Time, in 1/16 ns, from which the absence of a TICK_IN edge counts: the latest edge, or the start of WIRE mode (R90). -/
  wireFrom : Nat := 0
  /-- The latest interval between TICK_IN edges differs by more than two RT cycles from the nominal period (R90). -/
  wireBad : Bool := false
  /-- Whether TICK_IN is declared failed; ticks in a row with a bad interval, and good intervals in a row (R90). -/
  tickInFailed : Bool := false
  badRun : Nat := 0
  goodRun : Nat := 0
  /-- TICK_OUT went high at the latest tick edge and has not been switched off since (R91). -/
  tickOut : Bool := false
  /-- RT cycles from the edge of tick 0 to the latest tick edge, modulo 80 (R269, R302). -/
  cyc : Nat := 0
  /-- Comparators passed by a forward jump that fire at the next tick edge (R95). -/
  ttJump : Nat := 0
  deriving DecidableEq, Repr

/-- State of the MBX block and of Nagus firmware (R98–R151) that its registers do not hold. -/
structure MbxSt where
  /-- BAR0 0000h–3FFFh: mailbox m at m × 800h (R101). -/
  mem : Memory := []
  /-- BAR0 5000h–5FFFh: the event ring. -/
  ring : Memory := []
  /-- Mailboxes rung and not yet taken, oldest first (R115). -/
  order : List Nat := []
  /-- The mailbox whose request firmware has taken and not yet completed (R115); firmware has begun to carry it out; its
  reply is written (R114). -/
  taken : Option Nat := none
  begun : Bool := false
  replied : Bool := false
  /-- A reply held until the φ380 capture of group 0 (R58). -/
  waitKey : Option (Nat × Reply) := none
  /-- Events firmware has to write, oldest first; events lost while the ring was full (R107, R108). -/
  evq : List Ev := []
  evLost : Nat := 0
  /-- Long actions, unfinished and finished (R117). -/
  actions : List Action := []
  /-- Staged commit groups (R121). -/
  staged : Nat := 0
  /-- The latest fault code recorded (R105 s1). -/
  lastFault : Nat := 0
  /-- The watchdog runs since a kick that is not yet 10 ms old (R99). -/
  wdogKicks : Nat := 0
  /-- What the next device reset will report: bit 0 lockstep, bit 1 watchdog (MBX_RESET_CAUSE). -/
  cause : Nat := 0
  /-- A SYS RESET reply has been written (R129). -/
  resetPend : Bool := false
  /-- The boot ROM serves mailbox 0 (R147). -/
  recovery : Bool := false
  /-- Messages sent per MSI-X vector and the pending bits of masked vectors (R104, R648). -/
  vecSent : Tab Nat := []
  vecPend : Nat := 0
  /-- The MSI-X table: 32 entries of 16 bytes. -/
  msix : Memory := []
  deriving DecidableEq, Repr

/-- What the stroke engine hands for one pier and one tick (R166). -/
structure Hand where
  x       : Int := 0
  y       : Int := 0
  z       : Int := 0
  vel     : Nat := 0
  gate    : Bool := false
  planned : Nat := 0
  opn     : Bool := false
  seq     : Nat := 0
  typ     : Nat := 0
  sid     : Nat := 0
  partner : Nat := 0
  fade    : Nat := 0
  hold    : Bool := false
  /-- Lit-tick index of a lit tick, from 1 (R238). -/
  lit     : Nat := 0
  /-- The image number of a LOAD_LOOP taken in the tick that handed this (R185). -/
  image   : Option Nat := none
  deriving DecidableEq, Repr

/-- What a motion is: a stroke taken from the queue, the stop of R196, or the move of R197. -/
inductive MKind where
  | stroke | stop | resume
  deriving DecidableEq, Repr

/-- How the span coordinator weighs a released stitch: none, paired, alone, dark (R234–R238). -/
inductive Role where
  | none | paired | solo | dark
  deriving DecidableEq, Repr

/-- A motion in execution: its plan, the ticks handed so far, its lit ticks and its descriptor's fields. -/
structure Motion where
  plan    : Plan
  i       : Nat := 0
  kind    : MKind := .stroke
  /-- First lit tick and number of lit ticks L (R172). -/
  lit0    : Nat := 1
  litN    : Nat := 0
  /-- Start and end of the lit segment, bed nm. -/
  xs      : Int := 0
  ys      : Int := 0
  xe      : Int := 0
  ye      : Int := 0
  prof    : Option (List Nat) := none
  speed   : Nat := 0
  power   : Nat := 0
  opn     : Bool := false
  seq     : Nat := 0
  typ     : Nat := 0
  sid     : Nat := 0
  partner : Nat := 0
  fade    : Nat := 0
  role    : Role := .none
  /-- Released in the present tick: the first position is computed in the next one (R234). -/
  fresh   : Bool := false
  deriving DecidableEq, Repr

/-- An open run of unexposed lit ticks (R252). -/
structure Run where
  seq   : Nat
  partner : Nat
  cause : Nat
  mixed : Bool := false
  split : Bool := false
  fade  : Bool := false
  fq    : Nat := 0
  ff    : Nat := 0
  xs    : Int
  ys    : Int
  xe    : Int
  ye    : Int
  tick  : Nat
  count : Nat
  deriving DecidableEq, Repr

/-- State of one pier in the stroke engine and the span coordinator that no register shows. -/
structure PierSt where
  /-- Descriptors in the FIFO, oldest first, eight words each (R158). -/
  fifo : List (List Word) := []
  /-- Reads outstanding: first index, count and the system address read (R158). -/
  reads : List (Nat × Nat × Nat) := []
  /-- The ring fill has reached LWM since vector 9 + p was last raised (R159). -/
  lwm : Bool := false
  /-- A descriptor was taken, or a wait entered, in the present tick (R164). -/
  took : Bool := false
  mot : Option Motion := none
  /-- A stitch waiting for release (R182). -/
  stitch : Option Motion := none
  /-- Position handed last. -/
  x : Int := 0
  y : Int := 0
  z : Int := 0
  /-- Values handed for the next tick, and those in force. -/
  hand : Hand := {}
  force : Hand := {}
  /-- Positions in force in the latest ticks, newest first: (tick, X, Y) (R289). -/
  hist : List (Nat × Int × Int) := []
  /-- The latest lit tick in force: SEQ, lit index, X, Y (R196, R316). -/
  lastLit : Option (Nat × Nat × Int × Int) := none
  /-- Strokes that have ended, or that a STOP has abandoned, with lit ticks still in the lag line (R316). -/
  past : List Motion := []
  /-- A stop to begin in this tick: 0 none, 1 STOP, 2 fault, 3 entry to FAULT (R196). -/
  stop : Nat := 0
  stopTick : Nat := 0
  /-- State before HALT, and whether a STOP (not HOLD) caused it (R195). -/
  from_ : Nat := 3
  byStop : Bool := false
  /-- RESUME waits for the stop to end (R197). -/
  resume : Bool := false
  /-- Rest point of the abandoned stroke (R197). -/
  back : Option (Int × Int × Int) := none
  /-- Target of a WAIT_TICK or of a completed barrier (R179, R180). -/
  waitTo : Option Nat := none
  /-- The pier waits at a barrier (R180). -/
  atBar : Bool := false
  /-- The layer's message and the number and extended SEQs of its descriptors (R190). -/
  sha : Sha := {}
  first : Nat := 0
  /-- The underflow episode goes on (R198). -/
  under : Bool := false
  /-- Image number of a LOAD_LOOP taken in this tick (R185). -/
  image : Option Nat := none
  /-- The open run of the patch-record writer; count 0 where its length has closed it and the next unexposed tick continues
  it (R252). -/
  run : Option Run := none
  deriving DecidableEq, Repr

/-- A barrier in progress (R181). -/
structure Barrier where
  id    : Nat
  mask  : Nat
  first : Nat
  came  : Nat
  ticks : Nat := 0
  timed : Bool := false
  deriving DecidableEq, Repr

/-- State of the SCN block that its registers do not hold. -/
structure ScnSt where
  piers : Tab PierSt := []
  bars : List Barrier := []
  /-- Layer starts received and not yet evaluated (R184): the ticks they came in, oldest first. -/
  go : List Nat := []
  /-- A LAYER_END has been accepted since SCN_LAYER was last written (R184). -/
  ended : Bool := false
  /-- The profile table, 16 × 256 × 128 bytes (R177). -/
  prof : Memory := []
  deriving DecidableEq, Repr

/-- State of the COR block that its registers do not hold. -/
structure CorSt where
  /-- Correction banks by offset b × 10_0000h + p × 1_0000h + byte (R209). -/
  banks : Memory := []
  /-- Piers whose LAYER_END was accepted in this tick (R221). -/
  ends : Nat := 0
  /-- The bank and pier of the CRC under way, and whether their slot was written during it (R225). -/
  crcBank  : Nat := 0
  crcPier  : Nat := 0
  crcDirty : Bool := false
  /-- Tick in which each pier's swap request came into force (R221). -/
  swapTick : Tab Nat := []
  /-- CLAMP bits for the next tick (R207). -/
  clamp : Nat := 0
  deriving DecidableEq, Repr

/-- An entry of the stitch table that is not FREE (R230). -/
structure Stitch where
  /-- 1 WAIT, 2 PAIRED, 3 SOLO, 4 SOLO_DONE, 5 LATE_RUN. -/
  state   : Nat
  /-- Side of the first registrant: true IN. -/
  inside  : Bool
  pier    : Nat
  partner : Nat
  tick    : Nat
  left    : Nat
  /-- Geometry (R233): position, end point, SPEED, FADE, SKY, SCN_LIM_AM. -/
  geo     : List Int
  /-- The partner registered and was stopped (R242). -/
  joined  : Bool := false
  /-- The pier that runs alone in SOLO and SOLO_DONE. -/
  solo    : Nat := 0
  /-- The first side of a LATE_RUN has finished, and the second. -/
  doneA   : Bool := false
  doneB   : Bool := false
  deriving DecidableEq, Repr

/-- State of the SPN block that its registers do not hold. -/
structure SpnSt where
  table : Tab Stitch := []
  /-- Patch records staged, oldest first (R260). -/
  staged : List (List Byte) := []
  /-- Records written since vector 25 was last raised (R259). -/
  unsig : Nat := 0
  /-- Gate, weight for the next tick, per pier (R228). -/
  gate : Nat := 0
  weight : Tab Nat := []
  /-- Piers that slip in this tick (R62, R243). -/
  slip : Nat := 0
  /-- The gate decisions that belong to the present tick (R290). -/
  force : Nat := 0
  deriving DecidableEq, Repr

/-- State of one pier link that its registers do not hold. -/
structure LinkSt where
  /-- Training ticks since training tick 0 (R295). -/
  train : Nat := 0
  /-- Training starts at the next tick edge (R295). -/
  start : Bool := false
  /-- The training in progress, or the latest one, has written a pending TAP (R299, R615). -/
  swept : Bool := false
  /-- The latest uplink frame received whole since the previous check: its bytes and code groups in error (R286). -/
  frame : Option (List Byte × Nat) := none
  /-- The check of the present tick or exchange has been made (R286). -/
  checked : Bool := false
  /-- First failed tick of the present run (R287), and that of the run that raised fault 012h, plus one (R289). -/
  run0 : Nat := 0
  failFrom : Nat := 0
  /-- Runs of frames with FAULT, WARN, EDGE_LOST (R292), bits 2, 1, 0. -/
  runs : Nat := 0
  /-- The latest good identity reply checked in ALIGN (R297). -/
  ident : List Byte := []
  /-- Symbol lock of the uplink receiver; its running disparity, none where either is accepted; groups in error in a row; a K28.5
  received in the present tick; ticks in a row without one (R268, R293). -/
  locked : Bool := false
  urd : Option Bool := none
  errRun : Nat := 0
  comma : Bool := false
  quiet : Nat := 0
  /-- A K28.5 received since training tick 0; the taps tested so far in SWEEP (R295, R296). -/
  k28 : Bool := false
  taps : List Bool := []
  /-- The latest EDGE byte and downlink frame, SOF left out (R273–R275, R302). -/
  edge : Nat := 0
  down : List Byte := []
  /-- The code groups of the downlink in the latest tick, none while it is held low in OFF, and its running disparity, positive as
  true; what is left to send of a legacy frame (R268, R294, R302). -/
  line : List (BitVec 10) := []
  rd : Bool := false
  queue : List (Bool × Nat) := []
  /-- Link state and FAULT at φ240 of the present tick, where a check after φ240 has been made (R274, R276). -/
  pre : Option (Nat × Bool) := none
  /-- The tick in which the legacy frame that awaits its check was sent (R289, R304). -/
  sentTick : Nat := 0
  /-- Legacy mode: a frame awaits its exchange check; exchanges and consecutive good ones in VERIFY (R304). -/
  outst : Bool := false
  exch : Nat := 0
  good : Nat := 0
  deriving DecidableEq, Repr

/-- An entry of a lag line: what belongs to one tick on the laser side (R314). -/
structure Lag where
  hand : Hand := {}
  g : Bool := false
  w : Nat := 0
  deriving DecidableEq, Repr

/-- State of the LSR block that its registers do not hold. -/
structure LsrSt where
  /-- Lag lines by pier, oldest entry first (R314). -/
  line : Tab (List Lag) := []
  /-- What leaves the line for the next tick, and what belongs to the present one, by pier. -/
  out : Tab Lag := []
  cur : Tab Lag := []
  /-- What belonged to the tick before, and POWER computed for the present tick and the one before (R366). -/
  prev : Tab Lag := []
  sentCur : Tab Nat := []
  sentPrev : Tab Nat := []
  /-- Ticks that follow the test pulses of the last four ticks, by pier (R400). -/
  testTick : Tab (List Nat) := []
  /-- READY and ALARM as they govern the next edge and the edge after it (R327), as LSR_IN_A. -/
  gov : Nat := 0
  gov2 : Nat := 0
  /-- Falls of READY whose first governed tick begins at the next edge, and at the one after it (R328). -/
  fell : Nat := 0
  fell2 : Nat := 0
  /-- The pad path of the permit holds the gates off until an edge with the permit present (R331). -/
  permOff : Bool := true
  /-- An F0 or F1 fault was latched at the latest edge (R315). -/
  forced : Bool := false
  /-- LEMA accepted high since the pad went on; interval faults already recorded (R330). -/
  seen : Nat := 0
  missed : Nat := 0
  uncmd : Nat := 0
  /-- Runs of limited ticks (R318). -/
  limRun : Nat := 0
  /-- LINK_EN as it acts since the latest edge (R322). -/
  linkOn : Nat := 0
  /-- Level changes in the fine delay line by pier, oldest first, each with the taps left to run (R312, R313). -/
  flight : Tab (List (Bool × Nat)) := []
  /-- The delayed level of G at the end of the line, and the terms of R311 that act from the latest edge (R778). -/
  level : Nat := 0
  terms : Nat := 0
  /-- RT cycle of the present tick up to which the delay lines have run. -/
  cycle : Nat := 0
  /-- A fall of READY is recorded in the present run of ticks with READY = 0 (R328). -/
  lostRun : Nat := 0
  /-- POWER launched for the next tick (R318), by pier. -/
  sent : Tab Nat := []
  /-- Stage of a test pulse by pier: 1 fired in this tick, 2 word launched in this tick, 3 pad on (R337). -/
  test : Tab Nat := []
  deriving DecidableEq, Repr

/-- State of one melt-pool input (R344–R353). -/
structure AfeIn where
  /-- Consecutive results of 8000h, and consecutive other results while declared open (R348). -/
  low : Nat := 0
  high : Nat := 0
  /-- Runs of overrange results and of parity failures (R347, R349). -/
  ovr : Bool := false
  par : Bool := false
  /-- The next φ0 result carries SETTLING (R345, R352). -/
  settle : Bool := false
  /-- Latest φ0 and φ200 sample words (R345). -/
  s0 : Nat := 0
  s200 : Nat := 0
  /-- Sum of an offset measurement (R352). -/
  sum : Int := 0
  deriving DecidableEq, Repr

/-- State of the AFE block that its registers do not hold. -/
structure AfeSt where
  ins : Tab AfeIn := []
  /-- Consecutive samples with no result passing parity, and with every result passing (R350). -/
  bad : Nat := 0
  good : Nat := 0
  /-- HEARTH_OK has been 1 since device reset (R350). -/
  armed : Bool := false
  /-- The offset measurement (R352): its pier, whether it starts at the next edge, ticks left, and its end not yet
  written. -/
  calPier : Nat := 0
  calWait : Bool := false
  calLeft : Nat := 0
  calDue : Bool := false
  /-- Exposure-synchronised sums by pier: sum, count, settings ID at the previous firing (R354). -/
  xsum : Tab (Int × Nat × Nat) := []
  /-- Consecutive results at 7F_FFFFh, and runs of saturated results, by auxiliary input (R359). -/
  burn : Tab Nat := []
  auxOvr : Nat := 0
  /-- The latest start of the auxiliary inputs: its time in ns and the filter outputs it latched (R356). -/
  auxAt : Option Nat := none
  auxOut : List Nat := []
  /-- The latest tick that brought a timer start, plus one (R356). -/
  auxTick : Nat := 0
  /-- Tick at which an auxiliary input has settled (R357). -/
  auxSettle : Tab Nat := []
  deriving DecidableEq, Repr

/-- A block-floating value: m × 2^(e − 49) (R378). -/
structure BF where
  m : Int := 0
  e : Nat := 0
  deriving DecidableEq, Repr

/-- The state of a stage: its exponent and the mantissas of I, s1 or yp, and of s2 (R379, R384). -/
structure StageSt where
  e : Nat := 0
  a : Int := 0
  b : Int := 0
  deriving DecidableEq, Repr

/-- State of one loop slot, fast or slow, that no register shows (R370–R377, R396–R402). -/
structure Slot where
  y : Tab BF := []
  st : Tab StageSt := []
  /-- PLAUS: model state and residual of the latest checked sample (R396). -/
  x : BF := {}
  r : BF := {}
  /-- The latest run was live; a PRELOAD and a CLOSED run have happened since the start (R371, R372). -/
  live : Bool := false
  primed : Bool := false
  closed : Bool := false
  /-- Since the slot was re-armed: a stage saturated, the PLAUS stage tripped, and which of the two opened the slot (R382, R398). -/
  sat : Bool := false
  trip : Bool := false
  satFirst : Bool := false
  /-- The word of the latest CLOSED run. -/
  last : Nat := 0
  /-- Consecutive measured ticks with G = 1; frame last used; runs since the last usable descriptor (R375, R376). -/
  litRun : Nat := 0
  frame : Option Nat := none
  since : Nat := 0
  /-- The image the latest LOOP PROG_LOAD put in force, and one it has loaded that no commit has put in force yet (R393). -/
  prog : Nat := 63
  loaded : Option Nat := none
  /-- The image number of a LOAD_LOOP that an overrun has kept from its run (R372, R394). -/
  await : Option Nat := none
  /-- Slow slots: duty of the latest run; SEQ at the latest run and runs without change, by auxiliary input (R402). -/
  duty : Nat := 0
  seqs : Tab (Nat × Nat) := []
  deriving DecidableEq, Repr

/-- State of the LOP block that its registers do not hold. -/
structure LopSt where
  /-- Slots by code: 0–15 fast, 16–23 slow. -/
  slots : Tab Slot := []
  /-- Program images, image i at i × 768 (R389), and the COUNT of each marked image. -/
  imgs : Memory := []
  counts : Tab Nat := []
  /-- The check in progress: image, COUNT, KIND (R389). -/
  check : Option (Nat × Nat × Nat) := none
  /-- Slots to re-arm at the next commit of group 7 (R399). -/
  clear : Nat := 0
  /-- Slots whose pending IMAGE Nagus has written since the last capture (R394). -/
  nagus : Nat := 0
  /-- Slow slots with a start for this tick, and for the next (R401). -/
  start : Nat := 0
  start2 : Nat := 0
  /-- RT cycles for which SLPk is high in the PWM period in progress (R403). -/
  high : Tab Nat := []
  deriving DecidableEq, Repr

/-- A descriptor as latched for a camera context (R431): its eight words, AGE, and the tick of the latch. -/
structure CamLatch where
  words : List Word
  age : Nat
  tick : Nat
  deriving DecidableEq, Repr

/-- An exposure set: EXPOSURE in ns, GAIN, SETTINGS_ID (R434). -/
structure ExpSet where
  exp  : Nat := 0x4E20
  gain : Nat := 0x1000
  id   : Nat := 0
  deriving DecidableEq, Repr

/-- Where the piers were in a tick: X, Y, extended SEQ and gate request handed for it, by pier (R444). -/
abbrev Where := List (Int × Int × Nat × Bool)

/-- A trigger event (R433): the set its firing took, the firing tick, where the piers were. -/
structure CamEv where
  set  : ExpSet
  tick : Nat
  loc  : Where
  deriving DecidableEq, Repr

/-- A frame in the pipeline (R413–R424). -/
structure CamFrame where
  c : Nat
  /-- Order of frame starts over all contexts. -/
  n : Nat
  /-- Extended frame number (R414). -/
  num : Nat
  /-- The record the frame is processed with (R415). -/
  cfg : List Word
  set : ExpSet
  /-- Reference tick and where the piers were in it (R433, R444). -/
  ref : Nat
  loc : Where
  untrig : Bool
  crc : Bool := false
  skip : Bool
  /-- The history is not valid because a copy was loaded or a frame dropped (R427). -/
  fresh : Bool
  rows : List (List Nat) := []
  emb : List Byte := []
  /-- Bytes held in the port FIFO; lines admitted, of a large frame (R419, R423). -/
  held : Nat := 0
  adm : Nat := 0
  /-- The frame is dropped: its later packets are discarded (R423). -/
  drop : Bool := false
  /-- Tick and pipeline cycle order of the receipt of the frame end. -/
  endTick : Nat := 0
  stamp : Nat := 0
  deriving DecidableEq, Repr

/-- A complete descriptor that has not been latched (R420, R431): its frame's context and order, its words, the tick
AGE counts from; `late` until the tick edge it came too late for. -/
structure CamDone where
  c : Nat
  n : Nat
  words : List Word
  tick : Nat
  late : Bool
  deriving DecidableEq, Repr

/-- State of one camera context that no register shows. -/
structure CamCtx where
  /-- The working copy of the record (R415); empty: the reset values. -/
  work : List Word := []
  /-- F and w of the latest frame start (R414). -/
  num : Nat := 0xFFFFFFFF
  w : Option Nat := none
  /-- The open frame (R413). -/
  opn : Option CamFrame := none
  /-- Trigger events, oldest first (R433). -/
  evs : List CamEv := []
  /-- The set in force (R434) and, with EXP_MODE 1, the set frames carry and the sets that wait for a frame with the
  number of frame starts left (R436). -/
  set : ExpSet := {}
  carry : ExpSet := {}
  wait : List (Nat × ExpSet) := []
  /-- An exposure write queued and one started on the control interface: the set and its count (R436). -/
  queued : Option (ExpSet × Nat) := none
  started : Option (ExpSet × Nat) := none
  /-- The next frame takes no history (R427). -/
  fresh : Bool := false
  /-- F of the latest frame that went through stage 4 (R427). -/
  hist : Option Nat := none
  /-- A frame has been completed (STATS_READ's NOT_FOUND). -/
  seen : Bool := false
  /-- Buffer headers to be written, oldest first: address and bytes (R442). -/
  headers : List (Nat × List Byte) := []
  deriving DecidableEq, Repr

/-- State of the CAM block that its registers do not hold. -/
structure CamSt where
  /-- Descriptors latched at tick edges, by context (R431). -/
  latch : Tab CamLatch := []
  ctx : Tab CamCtx := []
  /-- Frame starts so far; the latest frame-end order number. -/
  n : Nat := 0
  stamp : Nat := 0
  /-- Eligible small frames, large frames whose end has come, the small frame in the pipeline, the context of the
  latest line admitted (R418, R419). -/
  elig : List CamFrame := []
  large : List CamFrame := []
  cur : Option CamFrame := none
  lastLarge : Nat := 0
  /-- Complete descriptors not yet latched. -/
  done : List CamDone := []
  /-- Contexts armed at or after φ380 of the present tick (R434). -/
  late : Nat := 0
  /-- History pixels by unit × 4,096 + pixel (R426), and the defect table (R428). -/
  hist : Tab Nat := []
  defs : Tab Word := []
  /-- Log records staged (R444). -/
  staged : List (List Byte) := []
  /-- Width in RT cycles of the pulse in progress, by trigger output (R432). -/
  width : Tab Nat := []
  /-- Bytes of the exposure write in progress, by port (R438). -/
  cci : Tab (List Byte) := []
  deriving DecidableEq, Repr

/-- A planned profile of an axis: phases of constant jerk in microsteps and seconds, its duration, the position in
2^-32 microstep where it starts and, when it ends at rest, where it ends, the update it is at, and the time at which
its last ramp toward rest begins. -/
structure AxPlan where
  phases : List Phase
  dur  : Fx
  p0   : Int
  pend : Option Int
  t    : Nat := 0
  dec  : Option Fx
  deriving DecidableEq, Repr

/-- An AXS_CMD operation that waits for the next update, with the values it takes. -/
structure AxOp where
  op  : Nat
  tgt : Int := 0
  spd : Nat := 0
  acc : Nat := 0
  jrk : Nat := 0
  deriving DecidableEq, Repr

/-- State of one axis that no register shows (R450–R486). -/
structure Axis where
  /-- Commanded position at the latest update and at the next one, in 2^-32 microstep. -/
  p : Int := 0
  nxt : Int := 0
  plan : Option AxPlan := none
  /-- Velocity and acceleration at the latest update; ACC and JRK in force (R455, R456). -/
  v : Fx := 0
  a : Fx := 0
  acc : Nat := 1
  jrk : Nat := 0
  /-- Velocity-mode target of the move in progress; the move has not finished its long action. -/
  vt : Int := 0
  /-- Operations that wait for the next update, and a MOVE deferred until the axis is at rest (R451, R455). -/
  ops : List AxOp := []
  defer : Option AxOp := none
  /-- Commanded position extended to 64 bits by firmware (R473). -/
  ext : Int := 0
  /-- Fine position, fine steps still owed with their sign, and T (R460). -/
  f : Nat := 0
  owed : Int := 0
  tc : Nat := 0
  /-- Deviation in 2^-16 microstep (R474). -/
  d : Int := 0
  /-- Quadrature lines, RT cycles since the latest change of H, and whether H has changed (R464, R472). -/
  ab : Nat := 0
  since : Nat := 0
  moved : Bool := false
  /-- SSI: previous value since the axis was enabled, discarded frames in a row, updates since the latest read, read
  in progress (R469–R471). -/
  ssi : Option Nat := none
  ssiBad : Nat := 0
  ssiCnt : Nat := 0
  ssiBusy : Bool := false
  /-- Latched commanded and encoder position of an unqualified change, by switch 0 HOME, 1 LIMP, 2 LIMN (R476). -/
  sw : Tab (Nat × Nat) := []
  /-- Homing: 0 none, 1 off the switch, 2 seeking the home edge, 3 waiting for the index, 4 to rest after the edge,
  5 backoff, 6 stall homing, 7 its backoff; where it started; positions latched at the reference (R479–R482). -/
  hom : Nat := 0
  hom0 : Int := 0
  edge : Option (Nat × Nat) := none
  /-- What follows at rest: 0 IDLE, 1 fault 002h, 2 fault 003h, 3 fault 004h, 4 fault 009h, 5 homing aborted. -/
  after : Nat := 0
  /-- A limit has become qualified active since the latest update: 1 positive, 2 negative. -/
  lim : Nat := 0
  /-- Updates since the commanded velocity became 0 (R463). -/
  still : Nat := 0
  /-- The comparator's s0 (R483). -/
  s0 : Int := 0
  /-- RT cycles for which a phase output is high in the period in progress, and its sign, A and B (R462). -/
  high : Tab Nat := []
  sgn : Nat := 0
  deriving DecidableEq, Repr

/-- A DMA transfer (R520–R527): its copy of SRC, DST, LEN and CTRL and how far it has come. -/
structure DmaX where
  id    : Nat
  src   : Nat
  dst   : Nat
  len   : Nat
  burst : Nat
  half  : Bool
  full  : Bool
  sfix  : Bool
  dfix  : Bool
  /-- Bytes whose read, and whose write, has been issued; bytes done; bytes read and not yet written. -/
  rd    : Nat := 0
  wr    : Nat := 0
  done  : Nat := 0
  buf   : List Byte := []
  deriving DecidableEq, Repr

/-- A DMA channel: active and queued transfer, STOP in progress (R528). -/
structure DmaCh where
  act  : Option DmaX := none
  next : Option DmaX := none
  stop : Bool := false
  deriving DecidableEq, Repr

/-- An access of the DMA engine that awaits its response (R525). -/
structure DmaAcc where
  ch    : Nat
  id    : Nat
  write : Bool
  addr  : Nat
  n     : Nat
  data  : List Byte := []
  deriving DecidableEq, Repr

/-- State of the DMA block that its registers do not hold. -/
structure DmaSt where
  chs : Tab DmaCh := []
  /-- Accesses in flight, oldest first. -/
  out : List DmaAcc := []
  /-- Transfers started so far, and the channel served last in each class (R525). -/
  ids : Nat := 0
  rr  : Nat := 3
  rr2 : Nat := 31
  deriving DecidableEq, Repr

/-- State of one compositor layer that no register shows (R549–R553). -/
structure DspLayer where
  /-- A record has taken a buffer; a record held for its fence, and whether LATE has counted it. -/
  taken : Bool := false
  held  : Option (List Word) := none
  late  : Bool := false
  /-- CRC register over the bytes fetched in the present frame, the next source line to fetch, lines fetched, and a
  fetch error; a byte that a failed burst gave is none. -/
  crc   : Nat := 0xFFFFFFFF
  next  : Nat := 0
  rows  : Tab (List (Option Byte)) := []
  err   : Bool := false
  /-- CRC of the frame before, last frame that fetched the buffer, frame named by a retirement at the latest vsync. -/
  prev  : Option Nat := none
  last  : Nat := 0xFFFFFFFF
  ret   : Nat := 0xFFFFFFFF
  deriving DecidableEq, Repr

/-- State of the DSP block that its registers do not hold. -/
structure DspSt where
  /-- In-force palette, coefficient and writeback words, by address of the pending register (R540). -/
  iff : Tab Word := []
  /-- The snapshot that waits, by address, and the units it names. -/
  snap : Tab Word := []
  mask : Nat := 0
  /-- Scan-out runs; DPHPD is lost; a retrain is due at the next vsync; the next frame is blank (R542–R544). -/
  run : Bool := false
  hpdLost : Bool := false
  retrain : Bool := false
  blankNext : Bool := false
  /-- A frame is in progress, KEY_TICK of its vsync, lines composed and sent, smallest lead. -/
  live : Bool := false
  tick : Nat := 0
  comp : Nat := 0
  beam : Nat := 0
  lead : Nat := 0xFFFF
  /-- Of the present frame: lines with an underrun, a parity substitution, a fetch error, pixels written, pixels
  lost, a change. -/
  und : Nat := 0
  par : Bool := false
  ferr : Bool := false
  pix : Bool := false
  lost : Bool := false
  changed : Bool := false
  /-- Unchanged frames in a row (R558). -/
  same : Nat := 0
  /-- The frame store: pixel (x, y) at (y × H_ACTIVE + x) × 3, red first. -/
  fs : Memory := []
  /-- The line sent last, three bytes a pixel. -/
  sent : List Byte := []
  /-- Headers to be written, oldest first (R563). -/
  hdrs : List (List Byte) := []
  layers : Tab DspLayer := []
  deriving DecidableEq, Repr

/-- State of one lighting channel that no register shows (R570–R583). -/
structure LitCh where
  /-- Inside an on-interval, one that does not end (DUTY 4,095), and switching periods started in it. -/
  inOn : Bool := false
  cont : Bool := false
  n : Nat := 0
  /-- LDGk is high; the period in progress is checked (R578); TRIM as it applies to the period (R576). -/
  ldg : Bool := false
  chk : Bool := false
  trim : Int := 0
  /-- Consecutive checked periods toward OPEN and toward SHORT (R579). -/
  openC : Nat := 0
  shortC : Nat := 0
  /-- DUTY, DIM_PERIOD and PHASE as they act since the latest dimming period began (R576). -/
  duty : Nat := 0
  per : Nat := 20000
  phase : Nat := 0
  /-- A strobe: 0 none, 1 pending, 2 on (R577). -/
  strobe : Nat := 0
  deriving DecidableEq, Repr

/-- State of the THM block that its registers do not hold (R590–R604). -/
structure ThmSt where
  /-- Updates in a row at which each sensor differed from its neighbours' median by more than DELTA (R593). -/
  runs : Tab Nat := []
  /-- Milliseconds since RED last changed while it falls, and milliseconds of the present second with RED above 0. -/
  relax : Nat := 0
  ms : Nat := 0
  /-- The latest device reset followed a thermal shutdown (R604). -/
  after : Bool := false
  /-- The F1 condition of R595 holds. -/
  low : Bool := false
  deriving DecidableEq, Repr

/-- A gate sweep in progress (R620, R621): what it was started with, the tick of its latest pulse request, the fine delay
of that pulse, the samples taken after it, and the search. -/
structure Sweep where
  pier  : Nat
  input : Nat
  win   : Nat
  rep   : Nat
  tick  : Nat
  f     : Nat := 0
  smp   : List Int := []
  /-- The first pulse has been weighed; h, s1, lo and hi; pulses weighed at f and those that reached h. -/
  lev   : Bool := false
  h     : Int := 0
  s1    : Nat := 0
  lo    : Nat := 0
  hi    : Nat := 999
  n     : Nat := 0
  hits  : Nat := 0
  deriving DecidableEq, Repr

/-- State of the CAL block and of the trim set (R609–R630) that no register shows. -/
structure CalSt where
  swp : Option Sweep := none
  /-- A piece of a gap-mode measurement: first tick of the short and the tick whose edge reconnects; it is on. -/
  piece : Option (Nat × Nat) := none
  pieceOn : Bool := false
  /-- TRIM of the present step of the threshold procedure. -/
  lt : Int := 0
  /-- SET_ID of the set in force, and of a TRIM_WRITE with the trim words it wrote (R624). -/
  setId : Nat := 0xFFFF
  idNext : Option (Nat × List Nat) := none
  /-- ONSET of the trim set in force, by pier (R622). -/
  onset : Tab Nat := []
  /-- A CAL STORE in progress: the block of the copy, its bytes, the programming step (R626). -/
  store : Option (Nat × List Byte × Bool) := none
  deriving DecidableEq, Repr

/-- An entry of a transmit timestamp queue (R636). -/
structure TxTs where
  notPtp : Bool
  typ : Nat
  seq : Nat
  t   : Nat
  deriving DecidableEq, Repr

/-- State of one Ethernet port that no register shows (R634–R637). -/
structure PortSt where
  queue : List TxTs := []
  /-- The overflow episode goes on (R637); the transmit ring has stopped (R634). -/
  ovf  : Bool := false
  stop : Bool := false
  deriving DecidableEq, Repr

/-- State of the NET block and of the firmware servo (R638–R642) that no register shows: the ports, the data set of the
time transmitter in use (its identity last), and the offsets collected in QUALIFY. -/
structure NetSt where
  ports : Tab PortSt := []
  tx    : Option (List Nat) := none
  offs  : List Int := []
  deriving DecidableEq, Repr

/-- Configuration space of the PCI Express function as far as no register shows it (R645, R646). -/
structure PciSt where
  bar0 : Nat := 0
  bar2 : Nat := 0
  deriving DecidableEq, Repr

/-- A SEC FW_WRITE in progress (R143, R707): the flash address and the system address of the next page, the pages left,
and whether the page's block has been erased. -/
structure FwWr where
  dst    : Nat
  src    : Nat
  left   : Nat
  erased : Bool := false
  deriving DecidableEq, Repr

/-- What firmware knows from the boot (R147, R663, R769, R770). -/
structure FwSt where
  /-- Bit p: pier p has a legacy head. -/
  legacy : Nat := 0
  /-- FW_VERSION and ROLLBACK of the running image. -/
  version : Nat := 0
  rollback : Nat := 0
  write : Option FwWr := none
  deriving DecidableEq, Repr

/-- The vault die's one-time-programmable store (R653), but for ID_PRIV, which is named by the number of the key pair it
belongs to, and the identity public key. -/
structure Otp where
  uid     : List Byte := List.replicate 16 0
  fwHash  : List Byte := List.replicate 48 0
  vndDbg  : List Byte := List.replicate 48 0
  mac0    : List Byte := List.replicate 6 0
  key     : Option Nat := none
  idPub   : List Byte := List.replicate 96 0
  intDbg  : List Byte := List.replicate 48 0
  prov    : List Byte := List.replicate 48 0
  jobHash : List Byte := List.replicate 48 0
  ownDbg  : List Byte := List.replicate 48 0
  ownHash : List Byte := List.replicate 48 0
  /-- Lifecycle fuses and anti-rollback fuses burnt. -/
  life    : Nat := 0
  arb     : Nat := 0
  deriving DecidableEq, Repr

/-- The instructions the JTAG port can be in (R679). -/
inductive JtagReg where
  | bypass | idcode | sample | extest | memory | trace | control
  deriving DecidableEq, Repr

/-- State of the SEC block that its registers do not hold (R657, R667, R669, R680, R684). -/
structure SecSt where
  /-- The candidate key pair in volatile vault memory. -/
  cand : Option Nat := none
  /-- LOST as it stood at this boot (R666). -/
  lost : Bool := false
  /-- Bytes 0 to 231 of the report being signed, and where it goes. -/
  att : Option (List Byte × Nat) := none
  /-- The manifest check in progress: address and length. -/
  job : Option (Nat × Nat) := none
  /-- The level the challenge was drawn for (R680). -/
  chal : Nat := 0
  /-- A debug halt waits for the gates to be off. -/
  haltPend : Bool := false
  /-- The JTAG instruction in force (R679). -/
  jtag : JtagReg := .idcode
  /-- Levels in the boundary cells that drive pads while EXTEST is in force (R336, R679). -/
  pads : List (Ball × Bool) := []
  deriving DecidableEq, Repr

/-- State of the vault die and of the supplies that no register shows (R678, R688–R695, R752–R755). -/
structure VltSt where
  /-- Key pairs generated and challenges drawn so far (R657, R680). -/
  keys : Nat := 0
  draws : Nat := 0
  /-- SLEEP was written; PSU_EN drops 10 ms later. -/
  sleep : Bool := false
  /-- LID_OUT at the latest sample (R694). -/
  lid : Bool := false
  /-- The tamper switches were low at the latest sample. -/
  aLow : Bool := false
  bLow : Bool := false
  /-- The main supplies are present; power-on reset is in progress. -/
  main : Bool := true
  por : Bool := false
  /-- Rails above their thresholds: VDD_CORE, VDD_RT, VDDQ, VDDIO18, VDDIO33, VAA. -/
  rails : Nat := 0x3F
  deriving DecidableEq, Repr

/-- State of the job (R130, R668–R670). -/
structure JobSt where
  /-- 0 none, 1 open, 2 running, 3 stopping, 4 ended. -/
  st : Nat := 0
  id : Nat := 0
  layers : Nat := 0
  piers : Nat := 0
  /-- JOB STOP's p0 while stopping; the job was ended by JOB STOP with p0 = 1. -/
  stopNow : Bool := false
  ended1 : Bool := false
  /-- An INCOMPLETE digest was taken; F1 faults during the job (R704). -/
  incomplete : Bool := false
  f1 : Nat := 0
  /-- The job is marked debug-present (R685). -/
  dbg : Bool := false
  deriving DecidableEq, Repr

/-- State of the DMC block that its registers do not hold. -/
structure DmcSt where
  /-- Beats (address / 8) whose stored code is in error: 1 a single bit, else the syndrome of an uncorrectable error
  (R513–R515). -/
  ecc : Tab Nat := []
  /-- Fault 003h has been recorded, and an uncorrectable error captured, since DMC_ECC_CLEAR was last written (R517). -/
  ceSeen : Bool := false
  ueHeld : Bool := false
  /-- Row-activation tables by bank: 32 places, each free or a row and its count (R504). -/
  rows : Tab (List (Option (Nat × Nat))) := []
  /-- Evictions in the present 1 ms period by requester, and throttled requesters: 2 until the end of the next
  period, 1 until the end of this one (R508). -/
  evict : Tab Nat := []
  thr : Tab Nat := []
  /-- Refreshes owed by rank, channel × 2 + rank (R503), and ranks in power-down (R519). -/
  owed : Tab Nat := []
  down : Nat := 0
  /-- Replay by channel: the attempt (0 none) and commands left in which an alert begins the next one (R510). -/
  replay : Tab (Nat × Nat) := []
  /-- The scrubber has recorded fault 005h in this pass (R516). -/
  scrubUe : Bool := false
  /-- Requests that wait at the ports, oldest first, each with whether it has been accepted (R40, R518, R519). -/
  queue : List (DReq × Bool) := []
  /-- Deficit counters of the shared ports, in 1/60 of a burst × 139 (R51, R518). -/
  deficit : Tab Int := []
  /-- DRAM clocks left until a throttled requester's next activation, by requester × 2 + channel (R508). -/
  gap : Tab Nat := []
  /-- ALERT_n is low on a channel (R510). -/
  alert : Nat := 0
  deriving DecidableEq, Repr

/-- The state of the whole AP16. -/
structure State where
  /-- Values in force of every register of the 22 windows; an unlisted register holds its reset value. -/
  regs : Tab Word := []
  /-- Pending values of registers with RWS fields; unlisted: the values in force. -/
  pend : Tab Word := []
  /-- Full 64-bit values behind _LO and _HI pairs whose _HI is latched by a read of _LO, by address of the _LO. -/
  wide : Tab Nat := []
  key : KeySt := {}
  mbx : MbxSt := {}
  scn : ScnSt := {}
  cor : CorSt := {}
  spn : SpnSt := {}
  dmc : DmcSt := {}
  dma : DmaSt := {}
  dsp : DspSt := {}
  /-- Pier links, by pier. -/
  plk : Tab LinkSt := []
  lsr : LsrSt := {}
  afe : AfeSt := {}
  lop : LopSt := {}
  cam : CamSt := {}
  /-- Axes, by axis. -/
  axs : Tab Axis := []
  /-- Lighting channels, by channel. -/
  lit : Tab LitCh := []
  thm : ThmSt := {}
  cal : CalSt := {}
  fw : FwSt := {}
  otp : Otp := {}
  sec : SecSt := {}
  vlt : VltSt := {}
  net : NetSt := {}
  pci : PciSt := {}
  /-- F1 faults (SOURCE × 1024 + code, unit) whose causes RESUME looks at (R740). -/
  causes : List (Nat × Nat) := []
  job : JobSt := {}
  flu : FluSt := {}
  /-- The xSPI NOR flash; an unlisted byte reads FFh, erased (R716). -/
  flash : Memory := []
  /-- DRAM by system address; an unlisted byte reads 00h (zero fill of R500). -/
  dram : Memory := []
  /-- Nagus SRAM by Nagus address; an unlisted byte reads 00h. -/
  sram : Memory := []
  /-- The fault network has told the axes to stop (R100, R486); the next update acts on it. -/
  axesHalt : Bool := false
  /-- The fields the model adds: the number of free values drawn (log entry 4). -/
  free : Nat := 0
  /-- Commands that wait, first in, first out. -/
  pending : List Instr := []
  deriving DecidableEq, Repr

/-- The AP16 right after the first reset of its life: the backup cell was inserted and the main supplies rose (R691, R692), power-on
reset has ended and the RT PLL has locked, so tick 0 begins (R57, R754). Registers, memories and queues hold their reset
values; the vault's are those of a vault power-on reset (LOST, TAMP_EN 3Fh, CAUSE 3) after one rise of the supplies (PCYCLE 1). -/
def State.reset : State :=
  { regs := [(0x20150000, 0x24000000#32), (0x20150008, 1#32), (0x2015001C, 3#32), (0x20150020, 0x3F#32)], sec := { lost := true } }

end Sys2Proof.Machine
end

