-- ==== Sys2Proof/Machine/Ops.lean ====
section
/-! DEFINITION. The named operations over registers, counters and pending values, and the record of a fault with its
class actions (R16). -/

namespace Sys2Proof.Machine

/-- The outcome type of every command. -/
abbrev Out := Host.Outcome State Fault Refusal

/-! Registers in force. -/

/-- The state a command leads to; `s` itself where the command stops. -/
def after (c : State → Out) (s : State) : State := match c s with
  | .next t => t
  | _ => s

/-- The description of the register at Nagus address `a`, if the map lists one (R42). -/
def regDesc (a : Nat) : Option RegDesc :=
  if a < 0x20000000 then none else (regWindow (a / 0x10000 % 0x1000)).find? (fun r => r.has a)

/-- The reset value of the register at `a`; the sine table holds a sine, the scaler tables a cubic (R461, R547). -/
def resetWord (a : Nat) : Word :=
  if 0x200D2000 ≤ a ∧ a < 0x200D2400 then word (cubicWord (a - 0x200D2000)) else
  if 0x200A1000 ≤ a ∧ a < 0x200A2000 then word (sineEntry ((a - 0x200A1000) / 4)) else
  match regDesc a with
  | some r => r.rst
  | none => 0

/-- Bits [hi:lo] of a word. -/
def wfield (w : Word) (hi lo : Nat) : Nat := (w.toNat >>> lo) % 2 ^ (hi + 1 - lo)

/-- A word with bits [hi:lo] replaced by `v`, modulo the field's width. -/
def wset (w : Word) (hi lo v : Nat) : Word :=
  let m := word ((2 ^ (hi + 1 - lo) - 1) <<< lo)
  (w &&& ~~~ m) ||| (word (v <<< lo) &&& m)

/-- The value in force of the register at `a`. -/
def State.rd (s : State) (a : Nat) : Word := match Tab.find s.regs a with
  | some v => v
  | none => resetWord a

/-- The state with `v` in force in the register at `a`. -/
def State.wr (s : State) (a : Nat) (v : Word) : State := { s with regs := Tab.put s.regs a v }

/-- A field in force, of element (`i`, `j`) of an array of registers. -/
def State.get (s : State) (f : Fref) (i : Nat := 0) (j : Nat := 0) : Nat :=
  wfield (s.rd (f.addr i j)) f.hi f.lo

/-- Set a field in force. -/
def State.put (s : State) (f : Fref) (v : Nat) (i : Nat := 0) (j : Nat := 0) : State :=
  s.wr (f.addr i j) (wset (s.rd (f.addr i j)) f.hi f.lo v)

/-- The width of a field. -/
def Fref.width (f : Fref) : Nat := f.hi + 1 - f.lo

/-- A number of `w` bits read as two's complement. -/
def toSigned (w n : Nat) : Int := if 2 ^ w ≤ 2 * (n % 2 ^ w) then (n % 2 ^ w : Nat) - (2 ^ w : Nat) else (n % 2 ^ w : Nat)

/-- The two's complement of an integer in `w` bits. -/
def ofSigned (w : Nat) (x : Int) : Nat := (x % (2 ^ w : Nat)).toNat

/-- An integer saturated to `w` bits of two's complement. -/
def satSigned (w : Nat) (x : Int) : Int :=
  if x < -(2 ^ (w - 1) : Nat) then -(2 ^ (w - 1) : Nat) else if (2 ^ (w - 1) : Nat) ≤ x then (2 ^ (w - 1) : Nat) - 1 else x

/-- A signed field in force. -/
def State.getS (s : State) (f : Fref) (i : Nat := 0) (j : Nat := 0) : Int := toSigned f.width (s.get f i j)

/-- Set a signed field. -/
def State.putS (s : State) (f : Fref) (v : Int) (i : Nat := 0) (j : Nat := 0) : State :=
  s.put f (ofSigned f.width v) i j

/-- Bit `b` of a field in force. -/
def State.bit (s : State) (f : Fref) (b : Nat) (i : Nat := 0) : Bool := (s.get f i).testBit b

/-- A number with bit `b` set to `v`. -/
def setBit (n b : Nat) (v : Bool) : Nat :=
  if v then n ||| 2 ^ b else if n.testBit b then n - 2 ^ b else n

/-- Set bit `b` of a field. -/
def State.putBit (s : State) (f : Fref) (b : Nat) (v : Bool) (i : Nat := 0) : State :=
  s.put f (setBit (s.get f i) b v) i

/-- A field holding a flag is 1. -/
def State.on (s : State) (f : Fref) (i : Nat := 0) (j : Nat := 0) : Bool := s.get f i j == 1

/-- Raise a flag. -/
def State.set1 (s : State) (f : Fref) (i : Nat := 0) (j : Nat := 0) : State := s.put f 1 i j

/-- Add `n` to a saturating counter (R729). -/
def State.incSat (s : State) (f : Fref) (i : Nat := 0) (n : Nat := 1) : State :=
  s.put f (min (s.get f i + n) (2 ^ f.width - 1)) i

/-- Add `n` to a wrapping counter (R729). -/
def State.incWrap (s : State) (f : Fref) (i : Nat := 0) (n : Nat := 1) : State :=
  s.put f ((s.get f i + n) % 2 ^ f.width) i

/-- A 64-bit value held in a _LO and a _HI register. -/
def State.get64 (s : State) (lo hi : Fref) (i : Nat := 0) : Nat := s.get lo i + 2 ^ 32 * s.get hi i

/-- Set a value held in a _LO and a _HI register. -/
def State.put64 (s : State) (lo hi : Fref) (v : Nat) (i : Nat := 0) : State :=
  (s.put lo (v % 2 ^ 32) i).put hi (v / 2 ^ 32) i

/-! Pending values (RWS, R9). -/

/-- The pending value of the register at `a`: the value last written, else the value in force. -/
def State.rdP (s : State) (a : Nat) : Word := match Tab.find s.pend a with
  | some v => v
  | none => s.rd a

/-- A pending field. -/
def State.getP (s : State) (f : Fref) (i : Nat := 0) (j : Nat := 0) : Nat :=
  wfield (s.rdP (f.addr i j)) f.hi f.lo

/-- The commit group of the RWS field [hi:lo] at `a` (99 where it is none). -/
def groupOf (a hi lo : Nat) : Nat := match regDesc a with
  | some r => match r.flds.find? (fun f => f.hi == hi && f.lo == lo) with
    | some f => f.grp
    | none => 99
  | none => 99

/-- Write a pending field; its group becomes dirty (KEY_COMMIT_STATUS.DIRTY). -/
def State.putP (s : State) (f : Fref) (v : Nat) (i : Nat := 0) (j : Nat := 0) : State :=
  let a := f.addr i j
  let g := groupOf a f.hi f.lo
  let s := { s with pend := Tab.put s.pend a (wset (s.rdP a) f.hi f.lo v) }
  if g < 10 then s.putBit KEY_COMMIT_STATUS_DIRTY g true else s

/-- Write a signed pending field. -/
def State.putPS (s : State) (f : Fref) (v : Int) (i : Nat := 0) (j : Nat := 0) : State :=
  s.putP f (ofSigned f.width v) i j

/-- A word with the RWS fields of the groups in `mask` taken from `src`, the others from `dst` (R69). -/
def commitFields (mask : Nat) (fs : List Fld) (src dst : Word) : Word :=
  fs.foldl (fun w f => if f.acc = .rws ∧ mask.testBit f.grp then wset w f.hi f.lo (wfield src f.hi f.lo) else w) dst

/-- Bring captured pending words into force for the groups in `mask` (R69, R70). -/
def State.transfer (s : State) (mask : Nat) (capt : List (Nat × Word)) : State :=
  capt.foldl (fun s c => match regDesc c.1 with
    | some r =>
      let w := commitFields mask r.flds c.2 (s.rd c.1)
      if w = s.rd c.1 then s else s.wr c.1 w
    | none => s) s

/-- Request an immediate commit of the groups in `mask` at the next edge (R58, R68). -/
def State.requestCommit (s : State) (mask : Nat) : State :=
  let s := if mask.testBit 0 then { s with key := { s.key with nextK := s.key.nextK ||| mask } }
    else { s with key := { s.key with next := s.key.next ||| mask } }
  s.put KEY_COMMIT_STATUS_ARMED (s.get KEY_COMMIT_STATUS_ARMED ||| mask)

/-- Rewrite the pending values of the groups in `mask` from the values in force (SYS DISCARD, R129). -/
def State.discard (s : State) (mask : Nat) : State :=
  { s with pend := s.pend.map (fun c => match regDesc c.1 with
    | some r => (c.1, commitFields mask r.flds (s.rd c.1) c.2)
    | none => c) }

/-! Modes, events and vectors. -/

/-- The mode in force (R128). -/
def State.mode (s : State) : Nat := s.get SEC_STATUS_MODE

/-- The lifecycle state (R128). -/
def State.lifecycle (s : State) : Nat := s.get SEC_STATUS_LIFECYCLE

/-- The debug level (R128). -/
def State.debug (s : State) : Nat := s.get SEC_STATUS_DEBUG

/-- Nagus is halted by R98, R99 or the debug port. -/
def State.halted (s : State) : Bool := s.on MBX_READY_HALTED || s.on SEC_DEBUG_HALTED

/-- Have firmware write an event (R107). -/
def State.event (s : State) (kind code tag arg : Nat) : State :=
  { s with mbx := { s.mbx with evq := s.mbx.evq ++ [⟨kind, code, tag, arg, s.key.tick⟩] } }

/-- The cells of the combination table (R686). -/
inductive Cell where
  | a | aStar | c | o | r | s | n
  deriving DecidableEq, Repr

/-- The lifecycle × debug × mode table (R687). -/
def comboCell (lc lvl mode : Nat) : Cell :=
  if mode = 4 ∧ lc ≠ 1 ∧ lc ≠ 2 then .n
  else if lvl = 0 then .a
  else if mode ≤ 1 then .c
  else if lc = 3 then .c
  else if lc = 2 ∧ lvl = 2 then (match mode with
    | 3 => .r
    | 4 => .r
    | 6 => .s
    | _ => .o)
  else if mode = 4 then .aStar
  else if lvl = 2 ∧ mode = 7 then .o
  else .a

/-- The least debug level at which a JTAG instruction acts (R679). -/
def JtagReg.level (j : JtagReg) : Nat := match j with
  | .bypass | .idcode | .sample => 0
  | .memory | .trace => 1
  | .extest | .control => 2

/-- Set the debug level in force (R682); an instruction the level does not allow turns into BYPASS (R679). -/
def State.setDebug (s : State) (l : Nat) : State :=
  let s := (s.put SEC_STATUS_DEBUG l).put SEC_DEBUG_LEVEL l
  if s.sec.jtag.level ≤ l then s else { s with sec := { s.sec with jtag := .bypass, pads := [] } }

/-- The debug level after entry to a mode (R682, R686). -/
def State.loweredDebug (s : State) (m : Nat) : Nat := match comboCell s.lifecycle s.debug m with
  | .c => 0
  | .o => min s.debug 1
  | _ => s.debug

/-- Enter a mode: the level is lowered as the combination table states, a challenge expires (R680, R682), and an event of
KIND 0002h is written (R674). -/
def State.enterMode (s : State) (m : Nat) : State :=
  if s.mode = m then s else
  ((((s.setDebug (s.loweredDebug m)).put SEC_CHAL_CTRL_VALID 0).put SEC_STATUS_MODE m).put SEC_MODE_MODE m).event 2 0 0 m

/-- Raise MSI-X vector `v`: a message, or a pending bit where the entry or the function is masked or the function may not
send (R104, R649). -/
def State.raise (s : State) (v : Nat) : State :=
  if s.on PCI_STATUS_MSIX_EN then
    if s.on PCI_STATUS_D3HOT || !s.on PCI_STATUS_BME || s.on PCI_STATUS_FN_MASK || (Memory.read 0 s.mbx.msix (16 * v + 12)).toNat.testBit 0 then
      { s with mbx := { s.mbx with vecPend := setBit s.mbx.vecPend v true } }
    else { s with mbx := { s.mbx with vecSent := Tab.put s.mbx.vecSent v (Tab.get 0 s.mbx.vecSent v + 1) } }
  else s

/-- A fresh free value (log entry 4). -/
def State.fresh (s : State) : Nat × State := (Config.freeNat s.free, { s with free := s.free + 1 })

/-- Free bytes for a memory whose contents the spec leaves open (log entry 4). -/
def freeBytes (n : Nat) (s : State) : List Byte × State :=
  ((List.range n).map (fun i => byte (Config.freeNat (s.free + i))), { s with free := s.free + n })

/-! Flue records (R700–R721). -/

/-- Records the main region holds (R705). -/
def fluCap : Nat := 1048576

/-- Records the main region can hold beside four erased blocks: fewer when blocks are skipped (R734). -/
def State.fluRoom (s : State) : Nat := min fluCap ((8192 - s.flu.bad.length) * 128)

/-- Slots the ring holds (R712). -/
def fluRingCap : Nat := 2048

/-- Records the reserve holds (R720). -/
def fluResvCap : Nat := 32768

/-- Records placed or waiting for the main region. -/
def State.fluMain (s : State) : Nat := s.flu.live.length + (s.flu.ring.filter (fun r => !r.resv)).length

/-- Records placed or waiting for the reserve. -/
def State.fluResv (s : State) : Nat := s.flu.resv.length + (s.flu.ring.filter (fun r => r.resv)).length

/-- Whether a record of severity `s` may displace one of severity `v` (R719). -/
def mayDisplace (s v : Nat) : Bool := 4 ≤ v || (s ≤ 3 && (v == 2 || v == 3))

/-- The live record a record of severity `sev` displaces: highest severity number, then lowest SEQ (R719). -/
def fluVictim (live : List (Nat × Rec)) (sev : Nat) : Option Rec :=
  live.foldl (fun b c => if mayDisplace sev c.2.sev then match b with
    | some r => if r.sev < c.2.sev ∨ (r.sev = c.2.sev ∧ c.2.seq < r.seq) then some c.2 else b
    | none => some c.2 else b) none

/-- Two records of one group: consecutive parts with the same SEV and CODE (R702). -/
def sameGroup (a b : Rec) : Bool := a.sev == b.sev && a.code == b.code && a.seq - a.part == b.seq - b.part && a.part ≤ a.seq && b.part ≤ b.seq

/-- Pages that `n` records fill from write point `wp` on (R710). -/
def pagesFrom (wp n : Nat) : Nat := if n = 0 then 0 else (wp / 32 % 8 + n + 7) / 8

/-- Bring RING, BACKLOG, LIVE and RESV up to date (R728). -/
def State.fluShow (s : State) : State :=
  let r := (s.flu.ring.filter (fun r => r.resv)).length
  let m := s.flu.ring.length - r
  let s := (s.put FLU_STATUS_RING s.flu.ring.length).put FLU_STATUS_BACKLOG (min 1023 (pagesFrom s.flu.wp m + pagesFrom s.flu.wpR r))
  (s.put FLU_LIVE_LIVE s.flu.live.length).put FLU_RESV_RESV s.flu.resv.length

/-- Displace the group of `v` (R719): it stops being live, its slots are to be voided, the counters count it. -/
def State.displace (s : State) (v : Rec) : State :=
  let out := s.flu.live.filter (fun c => sameGroup c.2 v)
  let s := State.fluShow { s with flu := { s.flu with live := s.flu.live.filter (fun c => !sameGroup c.2 v), voids := s.flu.voids ++ out.map Prod.fst } }
  if 4 ≤ v.sev then s.incSat FLU_DISP_A_DISP_A 0 out.length else s.incSat FLU_DISP_B_DISP_B 0 out.length

/-- Make room for `n` records of severity `sev` in the main region, if displacement can (R719). -/
def State.makeRoom (n sev : Nat) : Nat → State → Option State
  | 0, s => if s.fluMain + n ≤ s.fluRoom then some s else none
  | k + 1, s => if s.fluMain + n ≤ s.fluRoom then some s else
    match fluVictim s.flu.live sev with
    | some v => State.makeRoom n sev k (s.displace v)
    | none => none

/-- Append a group to the ring with its SEQs (R701) and the operating seconds and power cycles (R700). -/
def State.ringAppend (s : State) (g : List Rec) (resv : Bool) : State :=
  let rdy := s.on FLU_STATUS_READY
  let g' := g.zipIdx.map (fun (r, i) => { r with
    seq := if rdy then s.flu.seqNext + i else 0, hasSeq := rdy, part := i, last := i + 1 == g.length, resv := resv,
    opsec := s.get VLT_OPSEC_OPSEC, pcycle := s.get VLT_PCYCLE_PCYCLE })
  let urgent := g.any (fun r => r.sev ≤ 3)
  let n := if rdy then s.flu.seqNext + g.length else s.flu.seqNext
  let fl := s.flu.flushing || urgent || decide (128 ≤ s.flu.ring.length + g.length)
  State.fluShow { s with flu := { s.flu with ring := s.flu.ring ++ g', seqNext := n, flushing := fl } }

/-- Drop a group (R712). -/
def State.ringDrop (s : State) (n : Nat) : State :=
  let s := { s with flu := { s.flu with dropSince := s.flu.dropSince + n } }
  (s.set1 FLU_FLAGS_DROP).incSat FLU_DROP_DROP 0 n

/-- The payload of a fault record (R703). -/
def faultPayload (unit b1 tick x : Nat) : List Byte := [byte unit, byte b1] ++ leBytes 6 tick ++ leBytes 4 x

/-- The payload of a fault record detected now, a content that no rule names being a free value (R703, log entry 54). -/
def State.faultBytes (s : State) (unit : Nat) (b1 x : Option Nat) : List Byte :=
  faultPayload unit (b1.getD (Config.freeNat s.free)) s.key.tick (x.getD (Config.freeNat (s.free + 1)))

/-- Enter HOLD at an F1 fault in IDLE, PREP, BUILD or SERVICE, storing the mode it left (R674, R774). -/
def State.f1Mode (s : State) : State :=
  if s.mode = 2 ∨ s.mode = 3 ∨ s.mode = 4 ∨ s.mode = 6 then (s.put SEC_MODE_RET s.mode).enterMode 5 else s

/-- The address of a block's FAULT_LAST register, where it has one. -/
def faultLastAddr (src : Nat) : Option Nat := match src with
  | 2 => some 0x2002002C | 3 => some 0x20030010 | 4 => some 0x20040014 | 5 => some 0x20050008
  | 6 => some 0x20060010 | 7 => some 0x20070008 | 8 => some 0x20080010 | 9 => some 0x20090008
  | 10 => some 0x200A0004 | 11 => some 0x200B0010 | 12 => some 0x200C001C | 13 => some 0x200D000C
  | 14 => some 0x200E0014 | 15 => some 0x200F0008 | 16 => some 0x20100008 | 17 => some 0x20110008
  | 18 => some 0x20120008 | 19 => some 0x20130010 | 20 => some 0x20140008 | 21 => some 0x2015002C
  | _ => none

/-- The pier an event names for fault `code` of block `src` with unit `unit`, FFFFh where the unit is no pier (R107): the
KEY block's overruns 001h and 002h name piers (R64, R65), its other faults do not. -/
def faultPier (src code unit : Nat) : Nat :=
  if unit < 16 ∧ ((src = 0 ∧ code < 3) ∨ (2 ≤ src ∧ src ≤ 6) ∨ src = 8) then unit else 0xFFFF

/-- What a fault of block `src` leaves besides its record, its event and its class actions: FAULT_LAST, the latest fault code of s1
(R105), its cause (R740) and the job's count of F1 faults (R704). -/
def State.faultNote (s : State) (src code cls unit : Nat) : State :=
  let s := match faultLastAddr src with
    | some a => s.wr a (word (2 ^ 31 + (if unit < 32 then unit * 65536 else 0) + code))
    | none => s
  let s := { s with mbx := { s.mbx with lastFault := src * 1024 + code } }
  let s := if cls = 1 ∧ !s.causes.contains (src * 1024 + code, unit) then { s with causes := s.causes ++ [(src * 1024 + code, unit)] } else s
  if cls = 1 ∧ s.job.st ≠ 0 then { s with job := { s.job with f1 := min (s.job.f1 + 1) 0xFFFFFFFF } } else s

/-- Take the last slot of the reserve for fault 006h and become sealed-full (R721, R736). -/
def State.seal (s : State) : State :=
  let r : Rec := { sev := 1, code := 0x14 * 1024 + 6, payload := s.faultBytes 255 none none }
  (((({ s with free := s.free + 2 }.ringAppend [r] true).set1 FLU_STATUS_SEALED_FULL).faultNote 20 6 1 255).event 1 (0x14 * 1024 + 6) 0 0xFFFF).f1Mode

/-- Seal the Flue when the reserve has one free slot, or when fewer than 2,050 SEQs remain (R721, R736). -/
def State.sealCheck (s : State) : State :=
  if s.on FLU_STATUS_SEALED_FULL then s
  else if s.fluResv + 1 ≥ fluResvCap ∨ 2 ^ 48 < s.flu.seqNext + 2050 then s.seal else s

/-- A group of severity 0 or 1 that cannot displace goes to the reserve; the first one records fault 005h, which
also goes there (R719, R720). -/
def State.toReserve (s : State) (g : List Rec) : State :=
  let s := s.ringAppend g true
  let s := if s.on FLU_STATUS_RESERVE then s else
    let r : Rec := { sev := 2, code := 0x14 * 1024 + 5, payload := s.faultBytes 255 none none }
    ((((({ s with free := s.free + 2 }.set1 FLU_STATUS_RESERVE).set1 FLU_FLAGS_RESERVE_IN).ringAppend [r] true).faultNote 20 5 2 255).event 1 (0x14 * 1024 + 5) 0
      0xFFFF)
  s.sealCheck

/-- A group enters the Flue ring whole or not at all (R701, R702, R712, R719–R721). -/
def State.enterRecs (s : State) (g : List Rec) : State :=
  match g with
  | [] => s
  | r :: _ =>
    if s.on FLU_STATUS_SEALED_FULL || decide (fluRingCap < s.flu.ring.length + g.length) then s.ringDrop g.length
    else match State.makeRoom g.length r.sev 64 s with
      | some s' => (s'.ringAppend g false).sealCheck
      | none => if r.sev ≤ 1 then s.toReserve g else s.ringDrop g.length

/-- Records as the groups they entered in (R702). -/
def groups : List Rec → List (List Rec)
  | [] => []
  | r :: rs => match groups rs with
    | g :: gs => if r.last then [r] :: g :: gs else (r :: g) :: gs
    | [] => [[r]]

/-- The order in which groups of one cycle enter: SOURCE, then unit, then CODE (R701). -/
def entryKey (g : List Rec) : Nat := match g with
  | [] => 0
  | r :: _ => (r.code / 1024 * 256 + (r.payload.headD 0).toNat) * 1024 + r.code % 1024

/-- A group put into its place, after those of the same key. -/
def entryInsert (g : List Rec) : List (List Rec) → List (List Rec)
  | [] => [g]
  | h :: hs => if entryKey g < entryKey h then g :: h :: hs else h :: entryInsert g hs

/-- The records that entered the ring since `s`, at one phase of a tick, in the order of R701: they carry the same SEQs, in
that order (log entry 58). -/
def State.inOrder (s t : State) : State :=
  let n := s.flu.seqNext
  if t.flu.seqNext = n then t else
  let new := t.flu.ring.filter (fun r => r.hasSeq && decide (n ≤ r.seq))
  let sorted := ((groups new).foldl (fun l g => entryInsert g l) []).flatten
  let ring := t.flu.ring.filter (fun r => !(r.hasSeq && decide (n ≤ r.seq))) ++ List.zipWith (fun r o => { r with seq := o.seq }) sorted new
  { t with flu := { t.flu with ring := ring } }

/-! Faults. -/

/-- Force every gate pad off at once (F0, R16). -/
def State.gatesOff (s : State) : State := s.put LSR_IN_B_GATE_PAD 0

/-- The mode and laser actions of a fault class at detection (R16, R674). The gates of an F1 fault go off at the next
tick edge because MODE_ALLOW is 0 in HOLD (R677); the strokes and axes stop through the flags set here. -/
def State.classAction (s : State) (cls : Nat) : State :=
  if cls = 0 then ({ s.gatesOff with axesHalt := true, lop := { s.lop with high := [] } }).enterMode 7
  else if cls = 1 then s.f1Mode else s

/-- Record a fault `code` of block `src` and class `cls` with a payload of the block's own (R16–R21). -/
def State.faultWith (s : State) (src code cls unit : Nat) (payload : List Byte) : State :=
  let s := s.faultNote src code cls unit
  let s := s.enterRecs [{ sev := cls, code := src * 1024 + code, payload := payload }]
  (s.event 1 (src * 1024 + code) 0 (faultPier src code unit)).classAction cls

/-- Record a fault with the payload of R703, naming `unit` (255: none). Byte 1 and bytes 8–11 are the block's own: where
no rule names their content (`none`) they are free values (log entry 54). -/
def State.fault (s : State) (src code cls : Nat) (unit : Nat := 255) (b1 : Option Nat := none) (x : Option Nat := none) : State :=
  { s with free := s.free + 2 }.faultWith src code cls unit (s.faultBytes unit b1 x)

/-- A fault's cause has ended (R740). -/
def State.dropCause (s : State) (code : Nat) (unit : Nat := 255) : State :=
  { s with causes := s.causes.filter (fun c => c != (code, unit)) }

/-- An F0 or F1 fault is latched (R774). -/
def State.forced (s : State) : Bool := s.mode == 5 || s.mode == 7

/-- A reserved value was written: the write is ignored and 3FFh recorded (R11), naming `unit` (255: none). -/
def State.reservedFault (s : State) (src : Nat) (unit : Nat := 255) : State := s.fault src 0x3FF 3 unit

/-- A flag raised and a fault recorded only for the first event after the flag was clear ("once"). -/
def State.faultOnce (s : State) (flag : Fref) (i : Nat) (src code cls : Nat) (unit : Nat := 255) (b1 : Option Nat := none) (x : Option Nat := none) : State :=
  if s.on flag i then s else (s.set1 flag i).fault src code cls unit b1 x

/-- Fold a step over the numbers below `n`. -/
def forN {α : Type} (n : Nat) (f : Nat → α → α) (a : α) : α := (List.range n).foldl (fun a i => f i a) a

end Sys2Proof.Machine
end

