-- ==== Sys2Proof/Machine/Line.lean ====
section
/-! DEFINITION. The line coding of the pier links (R268–R273, R296, R302): 8b/10b code groups, running disparity, the symbols of
a tick and the receiver. A code group is a word of ten bits a b c d e i f g h j, bit a the most significant and first on the line. -/

namespace Sys2Proof.Machine

/-- A symbol: a data byte, or a special code group of R270 by its byte value. -/
structure Sym where
  k : Bool
  b : Nat
  deriving DecidableEq, Repr

/-- K28.5, K28.1 and K27.7: idle and comma, edge marker, start of frame (R270). -/
def symComma : Sym := ⟨true, 0xBC⟩
def symEdge : Sym := ⟨true, 0x3C⟩
def symSof : Sym := ⟨true, 0xFB⟩

/-- A data symbol. -/
def symData (b : Nat) : Sym := ⟨false, b % 256⟩

/-- The training set TS (R271): K28.5, D21.5, D10.2, D21.5. -/
def trainingSet (i : Nat) : Sym := match i % 4 with
  | 0 => symComma
  | 2 => symData 0x4A
  | _ => symData 0xB5

/-- The 5b/6b code at negative running disparity, abcdei, by EDCBA (R268). -/
def code6 : List Nat :=
  [0b100111, 0b011101, 0b101101, 0b110001, 0b110101, 0b101001, 0b011001, 0b111000,
   0b111001, 0b100101, 0b010101, 0b110100, 0b001101, 0b101100, 0b011100, 0b010111,
   0b011011, 0b100011, 0b010011, 0b110010, 0b001011, 0b101010, 0b011010, 0b111010,
   0b110011, 0b100110, 0b010110, 0b110110, 0b001110, 0b101110, 0b011110, 0b101011]

/-- The 3b/4b code at negative running disparity, fghj, by HGF; 7 in its primary form (R268). -/
def code4 : List Nat := [0b1011, 0b1001, 0b0101, 0b1100, 0b1101, 0b1010, 0b0110, 0b1110]

/-- Ones among the `n` low bits of a number. -/
def onesOf : Nat → Nat → Nat
  | 0, _ => 0
  | n + 1, v => v % 2 + onesOf n (v / 2)

/-- Running disparity after a sub-block of `n` bits, positive as true; `up` and `down` are the balanced sub-blocks that set it. -/
def rdSub (n up down : Nat) (rd : Bool) (v : Nat) : Bool :=
  if n < 2 * onesOf n v ∨ v = up then true else if 2 * onesOf n v < n ∨ v = down then false else rd

/-- Running disparity after a code group. -/
def rdAfter (g : BitVec 10) (rd : Bool) : Bool :=
  rdSub 4 0b0011 0b1100 (rdSub 6 0b000111 0b111000 rd (g.toNat / 16)) (g.toNat % 16)

/-- The six bits for EDCBA = `x`. -/
def sub6 (x : Nat) (rd : Bool) : Nat :=
  let v := code6.getD x 0
  if rd && (onesOf 6 v != 3 || x == 7) then 63 - v else v

/-- The four bits for HGF = `y` after a sub-block for `x`; the alternate form of 7 where the primary would make a run of five. -/
def sub4 (x y : Nat) (rd : Bool) : Nat :=
  let alt := y == 7 && (if rd then [11, 13, 14].contains x else [17, 18, 20].contains x)
  let v := if alt then 0b0111 else code4.getD y 0
  if rd && (onesOf 4 v != 2 || y == 3) then 15 - v else v

/-- The code group of a symbol at a running disparity (R268, R270). -/
def encode10 (c : Sym) (rd : Bool) : BitVec 10 :=
  if c.k then
    let g : BitVec 10 := if c = symEdge then 0b0011111001 else if c = symSof then 0b1101101000 else 0b0011111010
    if rd then ~~~g else g
  else
    let x := c.b % 32
    let a := sub6 x rd
    let mid := rdSub 6 0b000111 0b111000 rd a
    BitVec.ofNat 10 (a * 16 + sub4 x (c.b / 32) mid)

/-- The symbol of a code group at a running disparity; none for a code or disparity error, any other special code group
included (R268, R270). -/
def decode10 (g : BitVec 10) (rd : Bool) : Option Sym :=
  match [symComma, symEdge, symSof].find? (fun c => encode10 c rd == g) with
  | some c => some c
  | none =>
    match (List.range 32).find? (fun x => sub6 x rd == g.toNat / 16) with
    | none => none
    | some x =>
      let mid := rdSub 6 0b000111 0b111000 rd (g.toNat / 16)
      ((List.range 8).find? (fun y => sub4 x y mid == g.toNat % 16)).map (fun y => symData (y * 32 + x))

/-- The symbols of a run of code groups, with the running disparity at its end. -/
def encodeRun (rd : Bool) (cs : List Sym) : List (BitVec 10) × Bool :=
  cs.foldl (fun (a : List (BitVec 10) × Bool) c => (a.1 ++ [encode10 c a.2], rdAfter (encode10 c a.2) a.2)) ([], rd)

/-- The bits of a code group in the order of the line: bit a first (R268). -/
def groupBits (g : BitVec 10) : List Bool := (List.range 10).map (fun i => g.getLsbD (9 - i))

/-- The symbols the downlink sends in a tick in normal mode (R269, R271–R274): the edge sequence at the first boundary, the frame,
if there is one, from the last boundary at or before φ240, TS or K28.5 between; `d` RT cycles from the edge to the first boundary,
`len` RT cycles in the tick. -/
def tickSymbols (d len edge : Nat) (frame : Option (List Byte)) (ts : Bool) : List Sym :=
  let f := (240 - d) / 8
  (List.range ((len + 7 - d) / 8)).map (fun i =>
    if i = 0 then symEdge else if i = 1 then symData edge else
    match frame with
    | some b => if i = f then symSof else if f < i ∧ i ≤ f + b.length then symData (b.getD (i - f - 1) 0).toNat else symComma
    | none => if ts then trainingSet (i - 2) else symComma)

/-- The symbols of a tick in legacy mode (R302): `d` RT cycles to the first boundary, one every 80 cycles; what is left of a frame
goes first, a new one from the first boundary at or after φ240; the rest of the frame stays. -/
def legacySymbols (d len : Nat) (rest new : List Sym) (ts : Bool) : List Sym × List Sym :=
  let a := (List.range ((len + 79 - d) / 80)).foldl (fun (a : List Sym × List Sym × Bool) i =>
    let (q, added) := if !a.2.2 && decide (240 ≤ d + 80 * i) then (a.2.1 ++ new, true) else (a.2.1, a.2.2)
    match q with
    | c :: t => (a.1 ++ [c], t, added)
    | [] => (a.1 ++ [if ts then trainingSet i else symComma], [], added)) ([], rest, false)
  (a.1, if a.2.2 then a.2.1 else a.2.1 ++ new)

/-- Code groups in a row that match TS after alignment on a K28.5: the longest run (R296). -/
def tsRun (cs : List (Option Sym)) : Nat :=
  (cs.foldl (fun (a : Option Nat × Nat × Nat) c =>
    let next : Option Nat × Nat := match a.1, c with
      | some k, some c => if c = trainingSet k then (some (k + 1), a.2.1 + 1) else if c = symComma then (some 1, 1) else (none, 0)
      | none, some c => if c = symComma then (some 1, 1) else (none, 0)
      | _, none => (none, 0)
    (next.1, next.2, max a.2.2 next.2)) (none, 0, 0)).2.2

/-- A code group at the uplink receiver (R268, R293): without symbol lock it aligns on the next K28.5, of either disparity; four
groups in error in a row lose it. The answer: the symbol, and whether the group was in error. -/
def LinkSt.rxGroup (l : LinkSt) (g : BitVec 10) : LinkSt × Option Sym × Bool :=
  let comma := g == encode10 symComma false || g == encode10 symComma true
  if !l.locked then
    if comma then ({ l with locked := true, urd := some (rdAfter g false), errRun := 0, comma := true }, some symComma, false) else (l, none, false)
  else
    let rd := l.urd.getD (decode10 g false).isNone
    match decode10 g rd with
    | some c => ({ l with urd := some (rdAfter g rd), errRun := 0, comma := l.comma || c == symComma }, some c, false)
    | none => ({ l with urd := some (rdAfter g rd), errRun := l.errRun + 1, locked := decide (l.errRun + 1 < 4) }, none, true)

/-- What a run of code groups does at the receiver: its symbols, groups in error, and whether lock was lost. -/
structure RxRun where
  l    : LinkSt
  syms : List (Option Sym) := []
  errs : Nat := 0
  lost : Bool := false
  deriving DecidableEq, Repr

/-- A run of code groups at the receiver. -/
def LinkSt.rxRun (l : LinkSt) (gs : List (BitVec 10)) : RxRun :=
  gs.foldl (fun r g =>
    let (l, c, e) := r.l.rxGroup g
    { l := l, syms := r.syms ++ [c], errs := r.errs + (if e then 1 else 0), lost := r.lost || (r.l.locked && !l.locked) }) { l := l }

end Sys2Proof.Machine
end

