-- ==== Sys2Proof/Machine/Key.lean ====
section
/-! DEFINITION. The KEY block: commits, counters, network time and the tick wire (spec/02_keystone_tick.md). -/

namespace Sys2Proof.Machine

/-- RT cycles of a tick of period code `c` (R56). -/
def periodCycles (c : Nat) : Nat := match c with
  | 0 => 400 | 1 => 800 | 2 => 1600 | 3 => 2000 | _ => 4000

/-- Nanoseconds of a tick of the period in force (R56). -/
def State.periodNs (s : State) : Nat := periodCycles (s.get KEY_CTRL_PERIOD) * 5 / 2

/-- RT cycles of the present tick (R86). -/
def State.tickLen (s : State) : Nat := ((periodCycles (s.get KEY_CTRL_PERIOD) : Int) + s.key.slew).toNat

/-- Keep a 64-bit value behind a latched pair: the _LO register shows it at once, the _HI when _LO is read. -/
def State.setWide (s : State) (lo : Nat) (v : Nat) : State :=
  { (s.wr lo (word v)) with wide := Tab.put s.wide lo v }

/-- Let `adv` time-clock cycles pass (R78). -/
def State.advance (s : State) (adv : Nat) : State :=
  { s with key := { s.key with frc := (s.key.frc + adv) % 2 ^ 64 } }

/-- The FRC as it reads: in steps of 5 while the time PLL is unlocked (R79). -/
def State.frcNow (s : State) : Nat :=
  if s.on KEY_STATUS_TIME_PLL_LOCK then s.key.frc
  else s.key.frcUnlock + (s.key.frc - s.key.frcUnlock) / 5 * 5

/-- Network time in 64.32 fixed point at FRC value `f` (R80). -/
def State.ntFixed (s : State) (f : Nat) : Nat :=
  (s.key.baseNt + (f + 2 ^ 64 - s.key.baseFrc) % 2 ^ 64 * s.key.inc + s.key.ofs * 2 ^ 32) % 2 ^ 96

/-- Network time in nanoseconds now (R80). -/
def State.nt (s : State) : Nat := s.ntFixed s.frcNow / 2 ^ 32

/-- The level of TICK_OUT at RT cycle `c` of the present tick: high for 40 RT cycles from the edge (R91). -/
def State.tickOutLevel (s : State) (c : Nat) : Bool := s.key.tickOut && decide (c < 40)

/-- TICK_OUT_EN is written: with 0 the pin is driven low at once (R91). -/
def State.tickOutEn (s : State) (en : Bool) : State :=
  let s := s.put KEY_CTRL_TICK_OUT_EN (if en then 1 else 0)
  if en then s else { s with key := { s.key with tickOut := false } }

/-- Groups with an immediate or a scheduled commit outstanding (KEY_COMMIT_STATUS.ARMED). -/
def State.armedMask (s : State) : Nat :=
  forN 8 (fun k m => if s.on KEY_SCHED_CTRL_ARM k then m ||| s.get KEY_SCHED_CTRL_MASK k else m) (s.key.next ||| s.key.next2 ||| s.key.nextK ||| s.key.nextK2)

/-- Bring KEY_COMMIT_STATUS.ARMED up to date. -/
def State.showArmed (s : State) : State := s.put KEY_COMMIT_STATUS_ARMED s.armedMask

/-- KEY_COMMIT_WRITE (R68). -/
def execKeyCommitWrite (groups phase : Nat) (s : State) : Out :=
  let g := groups % 1024
  .next (if g = 0 then s
    else if phase < 380 then s.requestCommit g
    else if g.testBit 0 then ({ s with key := { s.key with nextK2 := s.key.nextK2 ||| g } }).showArmed
    else ({ s with key := { s.key with next2 := s.key.next2 ||| g } }).showArmed)

/-- The target tick of scheduled slot `k` (R73). -/
def State.schedTarget (s : State) (k : Nat) : Nat := s.get64 KEY_SCHED_TICK_LO_TICK_LO KEY_SCHED_TICK_HI_TICK_HI k

/-- Arm scheduled slot `k` for `mask` at phase `phase` of the present tick (R73, R74); KEY fault 007h when late. -/
def State.schedArm (s : State) (k mask phase : Nat) : State :=
  let s := s.put KEY_SCHED_CTRL_MASK mask k
  let t := s.schedTarget k
  if t ≤ s.key.tick ∨ (t = s.key.tick + 1 ∧ 380 ≤ phase) then
    (((s.put KEY_SCHED_CTRL_ARM 0 k).set1 KEY_SCHED_CTRL_LATE k).set1 KEY_COMMIT_ERR_SCHED_LATE).fault 0 7 3
  else (s.set1 KEY_SCHED_CTRL_ARM k).showArmed

/-- SCHED_ARM (R73–R75): ignored while armed; MASK = 0 is a reserved value. -/
def execSchedArm (k : Fin 8) (mask phase : Nat) (s : State) : Out :=
  .next (if s.on KEY_SCHED_CTRL_ARM k.val then s
    else if mask % 1024 = 0 then s.reservedFault 0
    else s.schedArm k.val (mask % 1024) phase)

/-- SCHED_DISARM (R75): a CTRL write with ARM = 0. -/
def execSchedDisarm (k : Fin 8) (mask : Nat) (s : State) : Out :=
  .next (((s.put KEY_SCHED_CTRL_ARM 0 k.val).put KEY_SCHED_CTRL_MASK mask k.val).showArmed)

/-- INC_FRAC_WRITE (R81): hold the fraction. -/
def execIncFracWrite (v : Word) (s : State) : Out :=
  .next { s with key := { s.key with fracHeld := v.toNat } }

/-- Apply a new increment if it lies from 0.75 to 1.25 (R80, R81). -/
def State.applyInc (s : State) (inc : Nat) : State :=
  if 0xC0000000 ≤ inc ∧ inc ≤ 0x140000000 then
    let f := s.frcNow
    let b := (s.ntFixed f + 2 ^ 96 - s.key.ofs * 2 ^ 32 % 2 ^ 96) % 2 ^ 96
    let s := { s with key := { s.key with baseNt := b, baseFrc := f, inc := inc } }
    (s.put KEY_INC_NOW_FRAC_FRAC (inc % 2 ^ 32)).put KEY_INC_NOW_INT_INT (inc / 2 ^ 32)
  else (s.set1 KEY_TIME_STATUS_INC_RANGE).fault 0 0xB 3

/-- INC_INT_WRITE (R81): combine the held fraction and apply or refuse the pair. -/
def execIncIntWrite (v : Word) (adv : Nat) (s : State) : Out :=
  let s := s.advance adv
  .next (s.applyInc (v.toNat * 2 ^ 32 + s.key.fracHeld))

/-- OFS_LO_WRITE (R82): hold the low half. -/
def execOfsLoWrite (v : Word) (s : State) : Out :=
  .next { s with key := { s.key with ofsLoHeld := v.toNat } }

/-- The change from the offset in force to `new`: the difference of two signed numbers (R82). -/
def State.ofsDelta (s : State) (new : Nat) : Int := toSigned 64 new - toSigned 64 s.key.ofs

/-- Whether an offset change is refused: beyond KEY_JUMP_LIMIT without JUMP_ARM (R82). -/
def State.ofsRefused (s : State) (new : Nat) : Bool :=
  decide (s.get KEY_JUMP_LIMIT_LIMIT < (s.ofsDelta new).natAbs) && !s.on KEY_TIME_CTRL_JUMP_ARM

/-- Bring an accepted offset into force (R82, R83). -/
def State.acceptOfs (s : State) (new : Nat) : State :=
  let beyond := decide (s.get KEY_JUMP_LIMIT_LIMIT < (s.ofsDelta new).natAbs)
  let s := { s with key := { s.key with ofs := new } }
  let s := (s.setWide 0x20000458 new).put KEY_TIME_CTRL_JUMP_ARM 0
  if beyond then s.set1 KEY_TIME_STATUS_JUMPED else s

/-- Refuse an offset change (R82, R83): the offset in force is kept, fault 005h is recorded. -/
def State.refuseOfs (s : State) : State :=
  ((s.put KEY_TIME_CTRL_JUMP_ARM 0).set1 KEY_TIME_STATUS_JUMP_REFUSED).fault 0 5 3

/-- Capture tick, FRC and network time of one RT edge (R84). -/
def State.snap (s : State) : State :=
  let put2 (s : State) (i v : Nat) := (s.put KEY_SNAP_CAP_VAL (v % 2 ^ 32) i).put KEY_SNAP_CAP_VAL (v / 2 ^ 32) (i + 1)
  put2 (put2 (put2 s 0 s.key.tick) 2 s.frcNow) 4 s.nt

/-- SNAP_CAPTURE (R84). -/
def execSnapCapture (adv : Nat) (s : State) : Out := .next (s.advance adv).snap

/-- OVR_CLEAR (R64): zero every overrun count and KEY_OVR_LAST.VALID; the record of R65 stays. -/
def execOvrClear (s : State) : Out :=
  .next ((forN 16 (fun p s => (s.wr (KEY_OVR_A_SCN.addr p) 0).wr (KEY_OVR_B_AFE.addr p) 0) s).put KEY_OVR_LAST_VALID 0)

/-- The overrun counter of block `src`, and its SOURCE (R64). -/
def ovrField (src : Nat) : Fref := match src with
  | 2 => KEY_OVR_A_SCN
  | 3 => KEY_OVR_A_COR
  | 4 => KEY_OVR_A_SPN
  | 7 => KEY_OVR_B_AFE
  | _ => KEY_OVR_A_LOP

/-- A tick overrun of block `src` on pier `p` in the present tick (R64–R66). -/
def State.overrun (s : State) (src p : Nat) : State :=
  let n := s.key.tick
  let s := s.incSat (ovrField src) p
  let s := ((s.set1 KEY_OVR_LAST_VALID).put KEY_OVR_LAST_BLOCK src).put KEY_OVR_LAST_PIER p
  let s := s.setWide 0x20000288 n
  let s := s.fault 0 1 2 p (some src)
  let last := Tab.get 0 s.key.ovrTick p
  if last = n + 1 then s else
  let s := { s with key := { s.key with ovrTick := Tab.put s.key.ovrTick p (n + 1) } }
  if last ≠ 0 ∧ n + 1 - last ≤ 999 then s.fault 0 2 1 p else s

/-- The lowest SEQ among the live records, or the next SEQ (R723). -/
def State.fluOldest (s : State) : Nat :=
  ((s.flu.live.map Prod.snd ++ s.flu.resv.map Prod.snd ++ s.flu.ring.filter (fun r => r.hasSeq)).foldl
    (fun m r => match m with
      | some x => some (min x r.seq)
      | none => some r.seq) none).getD s.flu.seqNext

/-- Whether a read of the register at `a` latches a _HI register. -/
def isLatching (a : Nat) : Bool :=
  [0x20000008, 0x20000018, 0x20000288, 0x20000400, 0x20000408, 0x20000458, 0x20020010, 0x20140010, 0x20140018].contains a ||
  (0x20070404 ≤ a && a < 0x20070504 && a % 16 == 4) ||
    [0x200A01A4, 0x200A02A4, 0x200A03A4, 0x200A04A4, 0x200A05A4, 0x200A06A4].contains a

/-- The 64-bit value behind a latching register. -/
def State.wideValue (s : State) (a : Nat) : Nat :=
  if a = 0x20000008 then s.key.tick
  else if a = 0x20000400 then s.frcNow
  else if a = 0x20000408 then s.nt
  else if a = 0x20000458 then s.key.ofs
  else if a = 0x20140010 then s.flu.seqNext
  else if a = 0x20140018 then s.fluOldest
  else Tab.get 0 s.wide a

/-- LATCHING_READ (R84): the low half reads the present value and latches the high half. -/
def execLatchingRead (a adv : Nat) (s : State) : Out :=
  let s := s.advance adv
  .next (if isLatching a then
    let v := s.wideValue a
    (s.wr a (word (v % 2 ^ 32))).wr (a + 4) (word (v / 2 ^ 32))
  else s)

/-- TICK_IN_EDGE (R88, R90): a rising edge at time `t16`, in 1/16 ns of the FRC; the interval since the edge before is good
or bad, and sixteen good ones in a row end a failure. -/
def execTickInEdge (t16 : Nat) (s : State) : Out :=
  let iv : Int := (t16 : Int) - ((s.key.tickIn - 1 : Nat) : Int)
  let bad := s.key.tickIn ≠ 0 && decide (80 < (iv - (16 * s.periodNs : Nat)).natAbs)
  let g := if s.key.tickIn = 0 ∨ bad then 0 else s.key.goodRun + 1
  let fails := s.key.tickInFailed && decide (g < 16)
  let s := { s with key := { s.key with tickIn := t16 + 1, wireFrom := t16, wireBad := bad, goodRun := g, tickInFailed := fails } }
  .next (s.put KEY_STATUS_TICK_IN_OK (if s.get KEY_CTRL_DISC_MODE = 2 ∧ !fails then 1 else 0))

/-- TICK_IN has failed: no edge within two tick periods, or eight ticks in a row with a bad interval (R90). -/
def State.wireLost (s : State) : Bool :=
  decide (s.key.wireFrom + 32 * s.periodNs ≤ 16 * s.frcNow) || decide (8 ≤ s.key.badRun)

/-- TICK_IN_FAIL (R90): in WIRE mode, TICK_IN is declared failed; fault 006h, class F2. -/
def execTickInFail (s : State) : Out :=
  .next (if s.get KEY_CTRL_DISC_MODE = 2 ∧ !s.key.tickInFailed ∧ s.wireLost then
    let s := { s with key := { s.key with tickInFailed := true, badRun := 0, goodRun := 0, slew := 0 } }
    (s.put KEY_STATUS_TICK_IN_OK 0).fault 0 6 2
  else s)

/-- DISC_LOCK_GAINED (R87): LOCKED is set after 1,000 consecutive ticks within 2.5 ns. -/
def execDiscLockGained (s : State) : Out :=
  .next (if s.get KEY_CTRL_DISC_MODE ≠ 0 ∧ 1000 ≤ s.key.lockRun then s.set1 KEY_STATUS_LOCKED else s)

/-- TIME_PLL_UNLOCK (R79): the FRC goes on in steps of 5; fault 004h, class F2, once. -/
def execTimePllUnlock (s : State) : Out :=
  .next (if s.on KEY_STATUS_TIME_PLL_LOCK then
    (({ s with key := { s.key with frcUnlock := s.key.frc } }).put KEY_STATUS_TIME_PLL_LOCK 0).fault 0 4 2
  else s)

/-- TIME_PLL_RELOCK (R79): the FRC counts every time-clock cycle again. -/
def execTimePllRelock (s : State) : Out :=
  .next (({ s with key := { s.key with frc := s.frcNow } }).set1 KEY_STATUS_TIME_PLL_LOCK)

/-- RT_PLL_UNLOCK (R32): KEY fault 003h, class F0. -/
def execRtPllUnlock (s : State) : Out := .next ((s.put KEY_STATUS_RT_PLL_LOCK 0).fault 0 3 0)

end Sys2Proof.Machine
end

