-- ==== Sys2Proof/Machine/Operands.lean ====
section
/-! DEFINITION. The operands of mailbox commands: the request in a mailbox, its payload words, the command set of
interface version 4.2 with its lengths, modes and flags, and the reply (R109–R145). -/

namespace Sys2Proof.Machine

/-- A request (R109): its mailbox, header and payload words. -/
structure Req where
  m     : Nat
  op    : Nat
  tag   : Nat
  len   : Nat
  flags : Nat
  p     : List Word
  deriving DecidableEq, Repr

/-- Payload word `i`; words beyond the payload read 0. -/
def Req.w (q : Req) (i : Nat) : Nat := (q.p.getD i 0).toNat

/-- The request asks to stage without committing (R121). -/
def Req.defer (q : Req) : Bool := q.flags.testBit 1

/-- A 64-bit payload quantity, low word first (R127). -/
def Req.w64 (q : Req) (i : Nat) : Nat := q.w i + 2 ^ 32 * q.w (i + 1)

/-- A 40-bit or wider DRAM address in two payload words. -/
def Req.addr (q : Req) (i : Nat) : Nat := q.w64 i

/-- Payload word `i` as a signed number. -/
def Req.sw (q : Req) (i : Nat) : Int := toSigned 32 (q.w i)

/-- A little-endian field of the mailbox memory. -/
def State.mbxNat (s : State) (a n : Nat) : Nat := leNat (Memory.readBytes 0 s.mbx.mem a n)

/-- The request in mailbox `m` (R109). -/
def State.request (s : State) (m : Nat) : Req :=
  let a := m * 0x800
  let len := s.mbxNat (a + 4) 2
  { m := m, op := s.mbxNat a 2, tag := s.mbxNat (a + 2) 2, len := len, flags := s.mbxNat (a + 6) 2,
    p := bytesWords (Memory.readBytes 0 s.mbx.mem (a + 8) (min len 1016)) (min len 1016 / 4) }

/-- How long a command's payload is, in words (R111). -/
inductive LenSpec where
  | words (n : Nat)
  | between (lo hi : Nat)
  | program
  deriving DecidableEq, Repr

/-- A row of the command tables: LENGTH, the modes that accept it (bit per mode code), whether DEFER is allowed
(it can write RWS fields, R121, R126), whether it is a long action (L). -/
structure CmdInfo where
  len   : LenSpec
  modes : Nat
  defer : Bool := false
  long  : Bool := false
  deriving DecidableEq, Repr

/-- Modes I P B H V F (R127). -/
def mAll : Nat := 0xFC
/-- I P B H V. -/
def mIPBHV : Nat := 0x7C
/-- I P H V. -/
def mIPHV : Nat := 0x6C
/-- I P V. -/
def mIPV : Nat := 0x4C
/-- I P. -/
def mIP : Nat := 0x0C
/-- I V. -/
def mIV : Nat := 0x44

/-- The command set (R129–R144); an opcode with no row is BAD_OPCODE (R145). -/
def cmdInfo (op : Nat) : Option CmdInfo := match op with
  | 0x0000 => some ⟨.words 0, mAll, false, false⟩
  | 0x0001 => some ⟨.words 0, mAll, false, false⟩
  | 0x0002 => some ⟨.words 1, mIPBHV, false, false⟩
  | 0x0003 => some ⟨.words 0, 0x20, false, false⟩
  | 0x0004 => some ⟨.words 3, mIPBHV, false, false⟩
  | 0x0005 => some ⟨.words 1, mIPBHV, false, false⟩
  | 0x0006 => some ⟨.words 1, 0xC4, false, false⟩
  | 0x0007 => some ⟨.words 1, mAll, false, false⟩
  | 0x0008 => some ⟨.words 1, mAll, false, false⟩
  | 0x0009 => some ⟨.words 4, mIPBHV, false, false⟩
  | 0x000A => some ⟨.words 1, mIPHV, false, false⟩
  | 0x0400 => some ⟨.words 4, mIP, false, false⟩
  | 0x0401 => some ⟨.words 1, 0x08, false, false⟩
  | 0x0402 => some ⟨.words 0, mAll, false, false⟩
  | 0x0403 => some ⟨.words 1, 0x30, false, true⟩
  | 0x0404 => some ⟨.words 0, 0x8C, false, false⟩
  | 0x0800 => some ⟨.words 5, mIP, false, false⟩
  | 0x0801 => some ⟨.words 1, mAll, false, false⟩
  | 0x0802 => some ⟨.words 4, mIPHV, false, false⟩
  | 0x0803 => some ⟨.words 2, mAll, false, false⟩
  | 0x0804 => some ⟨.words 5, mIPBHV, true, false⟩
  | 0x0805 => some ⟨.words 1, mIPV, true, false⟩
  | 0x0806 => some ⟨.words 1, mAll, false, false⟩
  | 0x0C00 => some ⟨.words 3, mIPBHV, false, false⟩
  | 0x0C01 => some ⟨.words 5, mIPV, true, false⟩
  | 0x0C02 => some ⟨.words 2, mIPBHV, false, false⟩
  | 0x0C03 => some ⟨.words 1, mAll, false, false⟩
  | 0x0C04 => some ⟨.words 3, mIPBHV, true, false⟩
  | 0x1000 => some ⟨.words 64, mIPHV, true, false⟩
  | 0x1001 => some ⟨.words 2, mIPBHV, true, false⟩
  | 0x1002 => some ⟨.words 4, mIP, false, false⟩
  | 0x1003 => some ⟨.words 1, mIPV, true, false⟩
  | 0x1004 => some ⟨.words 0, mAll, false, false⟩
  | 0x1005 => some ⟨.words 1, mIPBHV, true, false⟩
  | 0x1400 => some ⟨.words 4, mIPV, true, false⟩
  | 0x1401 => some ⟨.words 2, mIPBHV, true, false⟩
  | 0x1402 => some ⟨.words 2, mIPHV, true, false⟩
  | 0x1403 => some ⟨.words 0, mAll, false, false⟩
  | 0x1404 => some ⟨.words 4, mIPHV, true, false⟩
  | 0x1800 => some ⟨.program, mIPBHV, true, false⟩
  | 0x1801 => some ⟨.words 5, mIPBHV, true, false⟩
  | 0x1802 => some ⟨.words 2, mIPBHV, true, false⟩
  | 0x1803 => some ⟨.words 1, mAll, false, false⟩
  | 0x1804 => some ⟨.words 3, mIPBHV, true, false⟩
  | 0x1805 => some ⟨.words 4, mIPHV, true, false⟩
  | 0x1C00 => some ⟨.words 3, mIPV, false, false⟩
  | 0x1C01 => some ⟨.words 17, mIPBHV, false, false⟩
  | 0x1C02 => some ⟨.words 4, mIPBHV, true, false⟩
  | 0x1C03 => some ⟨.words 1, mAll, false, false⟩
  | 0x2000 => some ⟨.words 25, mIPV, false, false⟩
  | 0x2001 => some ⟨.words 6, 0x58, false, true⟩
  | 0x2002 => some ⟨.words 2, 0x48, false, true⟩
  | 0x2003 => some ⟨.words 1, mAll, false, false⟩
  | 0x2004 => some ⟨.words 1, mAll, false, false⟩
  | 0x2400 => some ⟨.words 8, mAll, false, false⟩
  | 0x2401 => some ⟨.words 13, mAll, false, false⟩
  | 0x2402 => some ⟨.words 4, mAll, false, false⟩
  | 0x2403 => some ⟨.words 3, mIV, false, true⟩
  | 0x2800 => some ⟨.words 5, mAll, true, false⟩
  | 0x2801 => some ⟨.words 2, mIPV, false, false⟩
  | 0x2802 => some ⟨.words 0, mAll, false, false⟩
  | 0x2803 => some ⟨.words 4, mAll, true, false⟩
  | 0x2804 => some ⟨.words 33, mAll, false, false⟩
  | 0x2805 => some ⟨.words 4, mAll, true, false⟩
  | 0x2806 => some ⟨.words 7, mAll, true, false⟩
  | 0x2C00 => some ⟨.words 0, mAll, false, false⟩
  | 0x2C01 => some ⟨.words 0, mAll, false, false⟩
  | 0x3000 => some ⟨.words 2, mAll, true, true⟩
  | 0x3001 => some ⟨.words 1, mAll, false, false⟩
  | 0x3002 => some ⟨.words 44, mIPHV, true, false⟩
  | 0x3003 => some ⟨.words 0, mIV, false, true⟩
  | 0x3400 => some ⟨.words 0, mAll, false, false⟩
  | 0x3401 => some ⟨.words 2, mAll, false, false⟩
  | 0x3402 => some ⟨.words 3, mAll, false, false⟩
  | 0x3403 => some ⟨.words 6, mIPV, true, false⟩
  | 0x3404 => some ⟨.words 5, mAll, false, false⟩
  | 0x3800 => some ⟨.words 12, mAll, false, false⟩
  | 0x3801 => some ⟨.words 1, mAll, false, false⟩
  | 0x3802 => some ⟨.between 1 128, mAll, false, false⟩
  | 0x3803 => some ⟨.words 5, mIV, false, true⟩
  | 0x3804 => some ⟨.words 1, mIV, false, false⟩
  | 0x3805 => some ⟨.words 0, mIV, false, false⟩
  | 0x3806 => some ⟨.words 21, 0x04, false, false⟩
  | 0x3807 => some ⟨.words 33, 0x04, false, false⟩
  | 0x3808 => some ⟨.words 49, mIV, false, false⟩
  | 0x3C00 => some ⟨.words 3, mAll, false, false⟩
  | 0x3C01 => some ⟨.words 0, mAll, false, false⟩
  | 0x3C02 => some ⟨.words 5, mAll, false, false⟩
  | _ => none

/-- Whether LENGTH is what the command requires (R111): a program load has 8 + 16 n bytes (R135). -/
def lenOk (i : CmdInfo) (q : Req) : Bool := match i.len with
  | .words n => q.len == 4 * n
  | .between lo hi => q.len % 4 == 0 && 4 * lo ≤ q.len && q.len ≤ 4 * hi
  | .program => 8 ≤ q.len && q.len == 8 + 16 * q.w 1

/-- DEFER = 1 is allowed (R121, R126); CAL RUN of procedure 2 writes no trim (R615). -/
def deferOk (i : CmdInfo) (q : Req) : Bool := i.defer && !(q.op == 0x3000 && q.w 0 == 2)

/-- The modes that accept a request (R127); those of CAL RUN go by its procedure (R612). -/
def reqModes (i : CmdInfo) (q : Req) : Nat :=
  if q.op = 0x3000 then (match q.w 0 with
    | 0 => mIPHV
    | 1 => mIPBHV
    | 2 => 0x40
    | 3 => mIPHV
    | _ => i.modes)
  else i.modes

/-- Status codes (R125). -/
def stOk : Nat := 0
def stBadOpcode : Nat := 1
def stBadLength : Nat := 2
def stBadFlags : Nat := 3
def stBadParam : Nat := 4
def stBadState : Nat := 5
def stBusy : Nat := 6
def stTagInUse : Nat := 7
def stAborted : Nat := 8
def stStaged : Nat := 9
def stDenied : Nat := 10
def stTimeout : Nat := 11
def stHwFault : Nat := 12
def stNoSpace : Nat := 13
def stNotFound : Nat := 14
def stNagusDown : Nat := 15
def stCommitRefused : Nat := 16
def stNotReady : Nat := 17

/-- A reply with status OK and a payload. -/
def okReply (p : List Nat := []) : Reply := { payload := p.map word }

/-- A reply that reports a failure. -/
def failReply (st : Nat) (fault : Nat := 0) : Reply := { status := st, fault := fault }

/-- The index that stands for payload byte `b`, for a field that does not begin its word (R125). -/
def atByte (b : Nat) : Nat := 256 + b

/-- BAD_PARAM: p0 is the byte offset of the first bad field (R125): payload word `i` below 256, else a byte (`atByte`). -/
def badParam (i : Nat) : Reply := { status := stBadParam, payload := [word (if i < 256 then 4 * i else i - 256)] }

/-- Write a reply into mailbox `m` with the request's OPCODE and TAG (R110). -/
def State.writeReply (s : State) (m : Nat) (r : Reply) : State :=
  let q := s.request m
  let bytes := leBytes 2 q.op ++ leBytes 2 (s.get MBX_STATE_TAG m) ++ leBytes 2 (4 * r.payload.length) ++
    leBytes 2 ((if r.more then 1 else 0) + (if r.deferred then 2 else 0)) ++ leBytes 2 r.status ++ leBytes 2 r.fault ++
    wordsBytes r.payload
  { s with mbx := { s.mbx with mem := Memory.writeBytes 0 s.mbx.mem (m * 0x800 + 0x400) bytes } }

/-- End the carrying out of the request of mailbox `m`: the reply is written and MBX_COMPLETE can follow (R114). -/
def State.finish (s : State) (m : Nat) (r : Reply) : State :=
  { (s.writeReply m r) with mbx := { (s.writeReply m r).mbx with begun := true, replied := true } }

/-- Firmware can begin to carry out the request it has taken: it has not begun, and Nagus runs (R98, R115). -/
def State.mayBegin (s : State) : Bool := !s.mbx.begun && !s.halted

/-- Carry out the taken request if it is the command `op`; a body that answers no reply replies later. With no such
request taken, or once it has begun, the command has no occasion and changes nothing (log entry 2); nor while Nagus is halted
(R98). -/
def runCmd (op : Nat) (s : State) (body : Req → State → State × Option Reply) : Out :=
  match s.mbx.taken with
  | none => .next s
  | some m =>
    let q := s.request m
    if q.op = op ∧ s.mayBegin then
      match body q s with
      | (s', some r) => .next (s'.finish m r)
      | (s', none) => .next { s' with mbx := { s'.mbx with begun := true } }
    else .next s

/-- The first payload field whose value is out of range, of (word index or `atByte`, in range) pairs. -/
def firstBad : List (Nat × Bool) → Option Nat
  | [] => none
  | (i, ok) :: t => if ok then firstBad t else some i

/-- A command that only reads and replies, after its payload check. -/
def reader (bad : List (Nat × Bool)) (s : State) (r : State → Reply) : State × Option Reply :=
  match firstBad bad with
  | some i => (s, some (badParam i))
  | none => (s, some (r s))

/-- The command would commit a staged group (R122). -/
def stagedHit (q : Req) (s : State) (g : Nat) : Bool := !q.defer && (s.mbx.staged &&& g) != 0

/-- Stage or commit the groups `g` a command has written (R121, R123). -/
def finishWrite (q : Req) (g : Nat) (s : State) (p : List Nat := []) : State × Option Reply :=
  if q.defer then
    ({ s with mbx := { s.mbx with staged := s.mbx.staged ||| g } }, some { okReply p with deferred := true })
  else (s.requestCommit g, some (okReply p))

/-- A command that writes RWS fields of groups `g`: payload check, STAGED check, write, then stage or commit. -/
def writer (q : Req) (g : Nat) (bad : List (Nat × Bool)) (s : State) (write : State → State) : State × Option Reply :=
  match firstBad bad with
  | some i => (s, some (badParam i))
  | none => if stagedHit q s g then (s, some (failReply stStaged)) else finishWrite q g (write s)

/-- Long actions that have not ended (R117). -/
def State.unfinished (s : State) : List Action := s.mbx.actions.filter (fun a => !a.finished)

/-- Start a long action (R117): an earlier one with the same tag whose event has been written is forgotten. -/
def State.startAction (s : State) (q : Req) (arg : Nat := 0) (arg2 : Nat := 0) : State :=
  { s with mbx := { s.mbx with actions := s.mbx.actions.filter (fun a => !(a.posted && a.tag == q.tag)) ++
    [{ tag := q.tag, op := q.op, arg := arg, arg2 := arg2 }] } }

/-- No long-action place is free (R117). -/
def State.noPlace (s : State) : Bool := 16 ≤ s.unfinished.length

/-- End the unfinished long actions that `sel` selects with a status (R117). -/
def State.endActions (s : State) (sel : Action → Bool) (st : Nat) : State :=
  { s with mbx := { s.mbx with actions := s.mbx.actions.map (fun a => if !a.finished && sel a then { a with finished := true, status := st } else a) } }

/-- A DRAM range names no byte below 00_1000_0000h and none at or above the fitted size (R103). -/
def State.rangeAllowed (s : State) (base len : Nat) : Bool :=
  0x10000000 ≤ base && base + len ≤ s.get DMC_STATUS_SIZE * 2 ^ 30

/-- The bits of the mask over sixteen piers. -/
def piersOf (mask : Nat) : List Nat := (List.range 16).filter mask.testBit

/-- Apply `f` for each pier of a mask. -/
def forPiers (mask : Nat) (f : Nat → State → State) (s : State) : State := (piersOf mask).foldl (fun s p => f p s) s

end Sys2Proof.Machine
end

