-- ==== Sys2Proof/Machine/Flags.lean ====
section
/-! DEFINITION. Flags, error counts and captures shared by blocks: host errors (R151), Viaduct errors (R41), first
error captures and the summary words (R105). -/

namespace Sys2Proof.Machine

/-- Count a host protocol error in a field of MBX_HOST_ERR; fault 005h at the first since the latest clear (R151). -/
def State.hostErr (s : State) (f : Fref) : State :=
  let first := s.rd 0x20010030 = 0
  let s := s.incSat f
  if first then s.fault 1 5 3 else s

/-- The Viaduct errors of R41. -/
inductive ViaErr where
  | align | decode | perm | target
  deriving DecidableEq, Repr

/-- The count field and KIND code of a Viaduct error. -/
def ViaErr.field : ViaErr → Fref × Nat
  | .align => (MBX_VIA_ERR_COUNT_ALIGN, 1)
  | .decode => (MBX_VIA_ERR_COUNT_DECODE, 2)
  | .perm => (MBX_VIA_ERR_COUNT_PERM, 3)
  | .target => (MBX_VIA_ERR_COUNT_TARGET, 4)

/-- Count a Viaduct error and capture the first (R41, R54); MBX fault 007h once per capture when Nagus asks. -/
def State.viaErr (s : State) (e : ViaErr) (req : Nat) (isWrite : Bool) (addr : Nat) : State :=
  let s := s.incSat e.field.1
  if s.on MBX_VIA_ERR_FIRST_VALID then s else
  let s := (((s.set1 MBX_VIA_ERR_FIRST_VALID).put MBX_VIA_ERR_FIRST_KIND e.field.2).put MBX_VIA_ERR_FIRST_REQ req).put
    MBX_VIA_ERR_FIRST_WRITE (if isWrite then 1 else 0)
  let s := (s.put MBX_VIA_ERR_FIRST_ADDR_HI (addr / 2 ^ 32)).put MBX_VIA_ERR_ADDR_ADDR_LO (addr % 2 ^ 32)
  if req = 0 then s.fault 1 7 3 else s

/-- The latched fault class of s1 (R105, R774): 0 in SAFE, 1 in HOLD, 7 for none. -/
def State.latched (s : State) : Nat := if s.mode = 7 then 0 else if s.mode = 5 then 1 else 7

/-- The summary words s0–s7 (R105). -/
def State.summary (s : State) : List Nat :=
  let newest := if s.flu.seqNext = 0 then 0 else s.flu.seqNext - 1
  [ (if s.on MBX_READY_FW_READY then 2 ^ 31 else 0) + (if s.on MBX_READY_HALTED then 2 ^ 30 else 0) + (if s.mbx.recovery then 2 ^ 29 else 0) +
      s.debug * 2 ^ 22 + s.lifecycle * 2 ^ 20 + s.mode * 2 ^ 16 + 0x0402,
    s.mbx.lastFault * 2 ^ 16 + s.latched,
    s.key.tick % 2 ^ 32, s.key.tick / 2 ^ 32 % 2 ^ 32,
    s.get SCN_LAYER_LAYER,
    newest % 2 ^ 32, newest / 2 ^ 32 % 2 ^ 16,
    0 ]

/-- Rewrite every summary word. -/
def State.putSummary (s : State) : State :=
  s.summary.zipIdx.foldl (fun s (v, i) => s.put MBX_SUMMARY_WORD v i) s

/-- Write one entry to the event ring, advance EVT_WR and raise vector 8 (R107). -/
def State.writeEvent (s : State) (e : Ev) : State :=
  let i := s.get MBX_EVT_WR_WR
  let b := leBytes 2 e.kind ++ leBytes 2 e.code ++ leBytes 2 e.tag ++ leBytes 2 e.arg ++ leBytes 8 e.tick
  let s := { s with mbx := { s.mbx with ring := Memory.writeBytes 0 s.mbx.ring (16 * (i % 256)) b } }
  (s.incWrap MBX_EVT_WR_WR).raise 8

/-- Unread entries of the event ring (R106). -/
def State.evtFill (s : State) : Nat := (s.get MBX_EVT_WR_WR + 2 ^ 32 - s.get MBX_EVT_RD_RD) % 2 ^ 32

/-- When space has returned, write the events-lost entry (R108). -/
def State.postLost (s : State) : State :=
  if s.mbx.evLost = 0 ∨ 256 ≤ s.evtFill then s else
  let s' := s.writeEvent ⟨5, 0, 0, min s.mbx.evLost 0xFFFF, s.key.tick⟩
  { s' with mbx := { s'.mbx with evLost := 0 } }

/-- Every field of a value written at `a` has a value its table lists (R11); a reserved word is zero. -/
def fieldsOk (a : Nat) (w : Word) : Bool := match regDesc a with
  | none => w == 0
  | some r => r.flds.all (fun f => f.ok == [] || f.ok.any (fun p => p.1 ≤ wfield w f.hi f.lo && wfield w f.hi f.lo ≤ p.2))

/-- The bits of the register at `a` that belong to a field. -/
def fieldMask (a : Nat) : Word := match regDesc a with
  | none => 0
  | some r => r.flds.foldl (fun m f => m ||| word ((2 ^ (f.hi + 1 - f.lo) - 1) * 2 ^ f.lo)) 0

/-- A word of a record that a command writes is good: every field has a listed value, every bit of no field is 0 (R127). -/
def recordOk (a : Nat) (w : Word) : Bool := fieldsOk a w && (w &&& ~~~fieldMask a) == 0

end Sys2Proof.Machine
end

