-- ==== Sys2Proof/Machine/Bus.lean ====
section
/-! DEFINITION. Accesses to DRAM by system address: decode and target errors (R41, R499, R512), ECC and poison
(R513–R515). -/

namespace Sys2Proof.Machine

/-- The answer of a bus target. -/
inductive BusRes where
  | ok | align | decode | perm | target
  deriving DecidableEq, Repr

/-- The channel of a system address (R497). -/
def dramChannel (a : Nat) : Nat := a / 256 % 2

/-- The rank of a system address under the fitted number of ranks (R497). -/
def State.dramRank (s : State) (a : Nat) : Nat := if s.on DMC_CFG_RANKS then a / 2 ^ 18 % 2 else 0

/-- Whether DRAM serves the range: trained, inside the fitted size (R46, R499). -/
def State.dramFitted (s : State) (a n : Nat) : Bool :=
  s.on DMC_STATUS_READY && decide (a + n ≤ s.get DMC_STATUS_SIZE * 2 ^ 30)

/-- Whether a channel of the range is out of service (R512). -/
def State.dramDead (s : State) (a n : Nat) : Bool :=
  (List.range ((a + n - 1) / 256 - a / 256 + 1)).any (fun k => s.on DMC_PAR_FATAL (dramChannel (a + 256 * k)))

/-- The beats of a range. -/
def beatsOf (a n : Nat) : List Nat := if n = 0 then [] else (List.range ((a + n - 1) / 8 - a / 8 + 1)).map (fun k => a / 8 + k)

/-- Record an uncorrectable beat found by requester `req` (R514). -/
def State.ueFound (s : State) (beat req syn : Nat) : State :=
  let a := beat * 8
  let c := dramChannel a
  let r := s.dramRank a
  let n := s.get DMC_ECC_CNT_UE c r
  let s := s.put DMC_ECC_CNT_UE (min (n + 1) 0xFFFF) c r
  let s := ((((s.set1 DMC_ECC_LAST_VALID).set1 DMC_ECC_LAST_UE).put DMC_ECC_LAST_SCRUB 0).put DMC_ECC_LAST_CH c).put DMC_ECC_LAST_RANK r
  let s := ((s.put DMC_ECC_LAST_BEAT (beat % 8)).put DMC_ECC_LAST_REQ req).put DMC_ECC_LAST_SYNDROME syn
  let s := ((s.put DMC_ECC_ADDR_LO_ADDR_LO (a % 2 ^ 32)).put DMC_ECC_ADDR_HI_ADDR_HI (a / 2 ^ 32)).set1 DMC_FLAGS_UE
  let s := { s with dmc := { s.dmc with ueHeld := true } }
  (s.faultWith 11 4 2 255 ([255#8, byte req] ++ leBytes 6 a ++ leBytes 4 syn)).put DMC_FAULT_LAST_CH c

/-- Count a corrected bit, and reach the threshold once (R513, R517). -/
def State.ceFound (s : State) (beat : Nat) (scrub : Bool) (req : Nat) : State :=
  let a := beat * 8
  let c := dramChannel a
  let r := s.dramRank a
  let n := min (s.get DMC_ECC_CNT_CE c r + 1) 0xFFFF
  let s := s.put DMC_ECC_CNT_CE n c r
  let s := if s.dmc.ueHeld then s else
    let s := ((((s.set1 DMC_ECC_LAST_VALID).put DMC_ECC_LAST_UE 0).put DMC_ECC_LAST_SCRUB (if scrub then 1 else 0)).put DMC_ECC_LAST_CH c).put DMC_ECC_LAST_RANK r
    let s := (s.put DMC_ECC_LAST_BEAT (beat % 8)).put DMC_ECC_LAST_REQ req
    (s.put DMC_ECC_ADDR_LO_ADDR_LO (a % 2 ^ 32)).put DMC_ECC_ADDR_HI_ADDR_HI (a / 2 ^ 32)
  let s := { s with dmc := { s.dmc with ecc := Tab.del s.dmc.ecc beat } }
  if s.get DMC_ECC_THRESH_CE_THRESH ≤ n && !s.dmc.ceSeen then
    ((({ s with dmc := { s.dmc with ceSeen := true } }).set1 DMC_FLAGS_CE_THRESH).fault 11 3 3).put DMC_FAULT_LAST_CH c
  else s

/-- What ECC does to one beat that is read (R513, R514). -/
def State.readBeat (s : State) (req beat : Nat) : State := match Tab.find s.dmc.ecc beat with
  | none => s
  | some 1 => s.ceFound beat false req
  | some v => s.ueFound beat req v

/-- Count a faulty access, where it crosses the Viaduct: port P0 (requesters 02h and 03h) does not (R41). -/
def State.busErr (s : State) (e : ViaErr) (req : Nat) (isWrite : Bool) (a : Nat) : State :=
  if req = 2 ∨ req = 3 then s else s.viaErr e req isWrite a

/-- The DRAM port of a requester (R38, R50). -/
def portOf (req : Nat) : Nat := match req with
  | 1 => 3 | 2 => 0 | 3 => 0 | 4 => 1 | 5 => 2 | 0 => 5 | 6 => 5 | 7 => 5 | _ => 4

/-- The 64-byte bursts of an access. -/
def burstsOf (a n : Nat) : Nat := if n = 0 then 0 else (a + n - 1) / 64 - a / 64 + 1

/-- The ranks an access goes to leave power-down (R519). -/
def State.dramWake (s : State) (a n : Nat) : State :=
  let k (j : Nat) : Nat := dramChannel (a + 256 * j) * 2 + s.dramRank (a + 256 * j)
  { s with dmc := { s.dmc with down := (List.range ((a + n - 1) / 256 - a / 256 + 1)).foldl (fun m j => setBit m (k j) false) s.dmc.down } }

/-- Count the 64-byte bursts of an access for its port (R519), and wake its ranks. -/
def State.portCount (s : State) (req a n : Nat) : State :=
  if n = 0 then s else (s.dramWake a n).incWrap DMC_PORT_BYTES_BURSTS (portOf req) (burstsOf a n)

/-- Read `n` bytes of DRAM at system address `a` for requester `req` (R41, R499, R512–R514). -/
def State.dramRead (s : State) (req a n : Nat) : BusRes × List Byte × State :=
  if !s.dramFitted a n then (.decode, List.replicate n 0#8, s.busErr .decode req false a)
  else if s.dramDead a n then (.target, List.replicate n 0#8, s.busErr .target req false a)
  else
    let bs := beatsOf a n
    let poison := bs.any (fun b => match Tab.find s.dmc.ecc b with
      | some v => v != 1
      | none => false)
    let data := Memory.readBytes 0 s.dram a n
    let s := bs.foldl (fun s b => s.readBeat req b) (s.portCount req a n)
    if poison then (.target, data, s.busErr .target req false a) else (.ok, data, s)

/-- What a write of bytes [a, a + n) does to the code of one beat of its bursts (R515): a beat written whole gets a fresh code; another
one of a burst written in part is corrected, or kept poisoned. -/
def State.writeBeat (s : State) (req a n beat : Nat) : State := match Tab.find s.dmc.ecc beat with
  | none => s
  | some v =>
    if a ≤ beat * 8 ∧ beat * 8 + 8 ≤ a + n then { s with dmc := { s.dmc with ecc := Tab.del s.dmc.ecc beat } }
    else if v = 1 then s.ceFound beat false req
    else { s with dmc := { s.dmc with ecc := Tab.put s.dmc.ecc beat 3 } }

/-- Write bytes to DRAM at system address `a` (R40, R41, R515). -/
def State.dramWrite (s : State) (req a : Nat) (bs : List Byte) : BusRes × State :=
  let n := bs.length
  if !s.dramFitted a n then (.decode, s.busErr .decode req true a)
  else if s.dramDead a n then (.target, s.busErr .target req true a)
  else
    let s := (beatsOf (a / 64 * 64) (64 * burstsOf a n)).foldl (fun s b => s.writeBeat req a n b) (s.portCount req a n)
    (.ok, { s with dram := Memory.writeBytes 0 s.dram a bs })

/-! Reads by firmware, through an aperture (R45, R54). -/

/-- The Nagus address at which firmware reaches system address `a`: in an enabled aperture over it; where none is, which one
firmware opens is free (log entry 61). -/
def State.nagusAddr (s : State) (a : Nat) : Nat × State :=
  match (List.range 16).find? (fun k => s.on MBX_VIA_APERTURE_EN k && s.get MBX_VIA_APERTURE_BASE k == a / 0x10000000) with
  | some k => (0x40000000 + k * 0x10000000 + a % 0x10000000, s)
  | none => (0x40000000 + s.fresh.1 % 16 * 0x10000000 + a % 0x10000000, s.fresh.2)

/-- A Viaduct error captured since `before`, by an access of Nagus, shows the Nagus address `a` (R54). -/
def State.captureAt (s before : State) (a : Nat) : State :=
  if before.on MBX_VIA_ERR_FIRST_VALID || !s.on MBX_VIA_ERR_FIRST_VALID then s
  else (s.put MBX_VIA_ERR_FIRST_ADDR_HI (a / 2 ^ 32)).put MBX_VIA_ERR_ADDR_ADDR_LO (a % 2 ^ 32)

/-- Firmware reads `n` bytes of DRAM at system address `a`. -/
def State.fwRead (s : State) (a n : Nat) : BusRes × List Byte × State :=
  let (r, bs, t) := s.dramRead 0 a n
  if r = .ok then (r, bs, t) else (r, bs, (t.nagusAddr a).2.captureAt s (t.nagusAddr a).1)

end Sys2Proof.Machine
end

