-- ==== Sys2Proof/Machine/Spn.lean ====
section
/-! DEFINITION. Span coordination: the stitch table, weights, the proximity guard, patch records and the patch ring
(spec/06_span_coordination.md). -/

namespace Sys2Proof.Machine

/-- State of pier `p`. -/
def State.pier (s : State) (p : Nat) : PierSt := Tab.get {} s.scn.piers p

/-- Replace the state of pier `p`. -/
def State.setPier (s : State) (p : Nat) (q : PierSt) : State := { s with scn := { s.scn with piers := Tab.put s.scn.piers p q } }

/-- SCN_STATE_p.STATE (R194). -/
def State.pierState (s : State) (p : Nat) : Nat := s.get SCN_STATE_STATE p

/-- Pier states (R194). -/
def psOff : Nat := 0
def psIdle : Nat := 1
def psLayerWait : Nat := 2
def psRun : Nat := 3
def psSync : Nat := 4
def psHalt : Nat := 5
def psDone : Nat := 6
def psFault : Nat := 7

/-- Set a pier's state. -/
def State.setPierState (s : State) (p st : Nat) : State := s.put SCN_STATE_STATE st p

/-! Patch records. -/

/-- The 32 bytes of a patch record (R254). -/
def patchBytes (seq pier partner cause : Nat) (split mixed fade : Bool) (xs ys xe ye : Int) (tick count fq ff : Nat) : List Byte :=
  let fl := cause * 16 + (if split then 8 else 0) + (if mixed then 4 else 0) + (if fade then 2 else 0) + (if cause ≤ 4 then 1 else 0)
  leBytes 6 seq ++ [byte (pier + 16 * partner), byte fl] ++ leBytes 4 (ofSigned 32 xs) ++ leBytes 4 (ofSigned 32 ys) ++
    leBytes 4 (ofSigned 32 xe) ++ leBytes 4 (ofSigned 32 ye) ++ leBytes 4 tick ++ leBytes 2 count ++ [byte fq, byte ff]

/-- Lose a patch record (R260). -/
def State.loseRecord (s : State) (p : Nat) : State := (s.incSat SPN_PATCH_LOST_LOST).faultOnce SPN_FLAGS_PATCH_LOST 0 4 7 2 p

/-- Generate a record for pier `p`: it is staged, or lost (R260). -/
def State.stageRecord (s : State) (p : Nat) (b : List Byte) : State :=
  let s := s.incSat SPN_CNT_A_RECORDS p
  if !s.on SPN_PATCH_CTRL_EN || decide (1024 ≤ s.spn.staged.length) then s.loseRecord p
  else
    let s := { s with spn := { s.spn with staged := s.spn.staged ++ [b] } }
    s.put SPN_PATCH_STAGE_STAGED s.spn.staged.length

/-- The partner a record names: the pier itself for a stroke that is no stitch (R254). -/
def Motion.recPartner (m : Motion) (p : Nat) : Nat := if m.typ = 7 ∨ m.typ = 8 then m.partner else p

/-- Close the open run of pier `p` (R252). -/
def State.closeRun (s : State) (p : Nat) : State := match (s.pier p).run with
  | none => s
  | some r =>
    let s := s.setPier p { s.pier p with run := none }
    if r.count = 0 then s else s.stageRecord p (patchBytes r.seq p r.partner r.cause r.split r.mixed r.fade r.xs r.ys r.xe r.ye r.tick r.count r.fq r.ff)

/-! The stitch table. -/

/-- Show the selected entry in SPN_STITCH_INFO and SPN_STITCH_TICK, and the count of entries (R230). -/
def State.showStitch (s : State) : State :=
  let s := s.put SPN_STATUS_OUTSTANDING s.spn.table.length
  let w := match Tab.find s.spn.table (s.get SPN_STITCH_SEL_ID) with
    | none => (0, 0)
    | some e => (e.state * 2 ^ 29 + (if e.inside then 2 ^ 28 else 0) + e.pier * 2 ^ 24 + e.partner * 2 ^ 20 +
        (if e.state = 1 then e.left else 0), e.tick % 2 ^ 32)
  (s.wr 0x20040404 (word w.1)).wr 0x20040408 (word w.2)

/-- Replace a stitch entry. -/
def State.setStitch (s : State) (id : Nat) (e : Stitch) : State :=
  ({ s with spn := { s.spn with table := Tab.put s.spn.table id e } }).showStitch

/-- Free a stitch entry. -/
def State.freeStitch (s : State) (id : Nat) : State :=
  ({ s with spn := { s.spn with table := Tab.del s.spn.table id } }).showStitch

/-- Pier `p` waits in SYNC with stitch `id` registered (R182, R234). -/
def State.awaits (s : State) (p id : Nat) : Bool := s.pierState p == psSync && match (s.pier p).stitch with
  | some m => m.sid == id
  | none => false

/-- Release pier `p`'s waiting stitch in a role: it runs from the next tick (R234). -/
def State.releaseStitch (s : State) (p : Nat) (role : Role) : State := match (s.pier p).stitch with
  | none => s
  | some m =>
    let q := s.pier p
    let s := s.setPier p { q with stitch := none, mot := some { m with role := role, fresh := true }, from_ := if q.from_ = psSync then psRun else q.from_ }
    let s := s.putBit SPN_STATUS_STITCHING p true
    if s.pierState p = psSync then s.setPierState p psRun else s

/-- The record of a stitch exposed alone or run dark, from its release tick (R253). -/
def State.stitchRecord (s : State) (p cause : Nat) (m : Motion) : State :=
  s.stageRecord p (patchBytes m.seq p m.partner cause false false false m.xs m.ys m.xe m.ye (s.key.tick + 1 + m.lit0) (min m.litN 65535) 0 0)

/-- FADE exceeds L: FADE_CLIP and fault 006h on the in side (R239). -/
def State.checkFade (s : State) (inSide : Nat) (m : Motion) : State :=
  if m.litN < m.fade then (s.set1 SPN_FLAGS_FADE_CLIP).fault 4 6 3 inSide else s

/-- A WAIT entry reaches STITCH_WAIT: its pier runs alone (R235). -/
def State.soloRelease (s : State) (id : Nat) (e : Stitch) : State :=
  let s := s.setStitch id { e with state := 3, solo := e.pier, left := 0 }
  let s := match (s.pier e.pier).stitch with
    | some m => s.stitchRecord e.pier 5 m
    | none => s
  let s := (s.incSat SPN_CNT_B_SOLO e.pier).releaseStitch e.pier .solo
  (s.set1 SPN_FLAGS_SOLO).fault 4 3 2 e.pier

/-- Whether the STITCH_WAIT count runs: not in HOLD, nor in SAFE after an F0 fault (R235, R242). -/
def State.stitchClock (s : State) : Bool := s.mode != 5 && s.mode != 7

/-- Both sides of a matched stitch are released together when both wait in SYNC (R234): at the match, or, where a side was in
HALT, in whose states the gate request is off (R194), when it is back in SYNC (log entry 62). -/
def State.releasePair (s : State) (a b id : Nat) : State :=
  if s.awaits a id && s.awaits b id then (s.releaseStitch a .paired).releaseStitch b .paired else s

/-- One tick of a stitch entry (R235, R242): a WAIT entry counts STITCH_WAIT while its pier is in SYNC. -/
def State.tickStitch (s : State) (id : Nat) (e : Stitch) : State :=
  if e.state = 2 then s.releasePair e.pier e.partner id
  else if s.stitchClock && e.state == 1 && decide (e.tick < s.key.tick) && s.awaits e.pier id then
    if e.left ≤ 1 then s.soloRelease id e else s.setStitch id { e with left := e.left - 1 }
  else s

/-- One tick of the STITCH_WAIT counts (R235). -/
def State.tickStitches (s : State) : State := s.spn.table.foldl (fun s c => s.tickStitch c.1 c.2) s

/-- Register pier `c`'s stitch `m` on side `inside` with its geometry (R232–R234, R236). The flag tells whether the
registration is accepted. -/
def State.registerStitch (s : State) (c : Nat) (m : Motion) (inside : Bool) (geo : List Int) : Bool × State :=
  let reject (code : Nat) : Bool × State := (false, s.fault 4 code 1 c)
  let wait (s : State) : State := (s.setPier c { s.pier c with stitch := some m }).setPierState c psSync
  match Tab.find s.spn.table m.sid with
  | none =>
    let e : Stitch := { state := 1, inside := inside, pier := c, partner := m.partner, tick := s.key.tick, left := s.get SPN_STITCH_WAIT_WAIT, geo := geo }
    (true, (wait s).setStitch m.sid e)
  | some e =>
    if e.state = 2 ∨ e.state = 5 then reject 1
    else if e.pier ≠ m.partner ∨ e.partner ≠ c ∨ e.inside = inside then reject 1
    else if e.geo ≠ geo then reject 2
    else if e.state = 1 then
      let s := ((wait s).setStitch m.sid { e with state := 2 }).checkFade (if inside then c else e.pier) m
      (true, s.releasePair e.pier c m.sid)
    else
      let s := (wait s).setStitch m.sid { e with state := 5, doneA := e.state = 4 }
      let s := ((s.stitchRecord c 6 m).incSat SPN_CNT_B_DARK c).releaseStitch c .dark
      (true, s.fault 4 4 3 c)

/-- A side of a released stitch has finished or abandoned its stroke (R230). -/
def State.endStitch (s : State) (p : Nat) (m : Motion) : State :=
  if m.role = .none then s else
  let s := s.putBit SPN_STATUS_STITCHING p false
  match Tab.find s.spn.table m.sid with
  | none => s
  | some e =>
    let e := if p = e.pier then { e with doneA := true } else { e with doneB := true }
    if e.state = 2 ∨ e.state = 5 then
      if e.doneA && e.doneB then s.freeStitch m.sid else s.setStitch m.sid e
    else if e.state = 3 then
      if e.joined then s.freeStitch m.sid else s.setStitch m.sid { e with state := 4 }
    else s

/-- At an accepted layer start every SOLO_DONE entry becomes FREE (R237). -/
def State.freeOrphans (s : State) : State :=
  s.spn.table.foldl (fun s c => if c.2.state = 4 then ((s.freeStitch c.1).set1 SPN_FLAGS_ORPHAN).fault 4 5 2 c.2.solo else s) s

/-- STITCH_SOLO_RELEASE (R235): the waiting side of entry `id` reaches STITCH_WAIT in this tick. -/
def execStitchSoloRelease (id : Fin 1024) (s : State) : Out :=
  .next (match Tab.find s.spn.table id.val with
    | none => s
    | some e => if e.state = 1 ∧ e.tick < s.key.tick ∧ e.left ≤ 1 ∧ s.stitchClock ∧ s.awaits e.pier id.val then s.soloRelease id.val e else s)

/-! The gate decision. -/

/-- The first fade tick a and the fade length f of a paired stitch with L lit ticks (R238). -/
def fadeSpan (fade L : Nat) : Nat × Nat :=
  let f := min fade L
  ((L - f) / 2 + 1, f)

/-- The weight of the in side at lit tick l (R238, R239). -/
def weightIn (fade L l : Nat) : Nat :=
  let (a, f) := fadeSpan fade L
  if l < a then 0 else if a + f ≤ l then 0x8000 else 16384 * (2 * (l - a + 1) - 1) / f

/-- The weight W of a motion at lit tick l, 0 for a tick that is not lit (R228, R235, R236, R238). -/
def Motion.weight (m : Motion) (l : Nat) : Nat := match m.role with
  | .none => 0x8000
  | .solo => 0x8000
  | .dark => 0
  | .paired => if l = 0 then 0 else if m.typ = 8 then weightIn m.fade m.litN l else 0x8000 - weightIn m.fade m.litN l

/-- Whether lit tick l lies in the fade, and its q (R238, R254). -/
def Motion.fadeQ (m : Motion) (l : Nat) : Option Nat :=
  if m.role = .paired ∧ l ≠ 0 then
    let (a, f) := fadeSpan m.fade m.litN
    if a ≤ l ∧ l < a + f then some (l - a + 1) else none
  else none

/-- The weight of pier `p` for the next tick, from the values handed (R228). -/
def State.weightOf (s : State) (p : Nat) : Nat := match (s.pier p).mot with
  | some m => if m.kind = .stroke ∧ !m.fresh then m.weight (s.pier p).hand.lit else 0x8000
  | none => 0x8000

/-- Byte 16 i + j of the distance matrix in force (R246). -/
def State.matrixByte (s : State) (i j : Nat) : Nat :=
  let n := 16 * i + j
  wfield (s.rd (0x20040200 + 4 * (n / 4))) (8 * (n % 4) + 7) (8 * (n % 4))

/-- Pier `p` is active for the next tick (R245). -/
def State.active (s : State) (p : Nat) : Bool :=
  let h := (s.pier p).hand
  h.gate && !h.hold && !s.cor.clamp.testBit p && decide (0 < s.weightOf p) && !s.spn.slip.testBit p

/-- Two piers are the sides of one PAIRED stitch in execution (R249). -/
def State.pairedSides (s : State) (i j : Nat) : Bool := match (s.pier i).mot, (s.pier j).mot with
  | some a, some b => a.role = .paired && b.role = .paired && a.sid == b.sid && a.partner == j && b.partner == i
  | _, _ => false

/-- The unordered pairs of sixteen piers, i < j. -/
def pierPairs : List (Nat × Nat) := (List.range 16).flatMap (fun i => ((List.range 16).filter (fun j => decide (i < j))).map (fun j => (i, j)))

/-- The upwind and downwind pier of a violating pair, if the pair violates (R246, R247). -/
def State.violates (s : State) (i j : Nat) : Option (Nat × Nat) :=
  let a := (s.pier i).hand
  let b := (s.pier j).hand
  let dx := b.x - a.x
  let dy := b.y - a.y
  let m : Int := s.matrixByte i j * 250000
  if s.active i && s.active j && !s.pairedSides i j && decide (dx * dx + dy * dy < m * m) then
    let g := dx * s.getS SPN_GAS_GX + dy * s.getS SPN_GAS_GY
    some (if g < 0 then (j, i) else (i, j))
  else none

/-- The violating pairs of the next tick (R248). -/
def State.violations (s : State) : List (Nat × Nat) :=
  if s.on SPN_CTRL_GUARD_EN then pierPairs.filterMap (fun c => s.violates c.1 c.2) else []

/-- Note the latest violating pair and count blanked ticks (R247). -/
def State.noteGuard (s : State) (v : List (Nat × Nat)) : State :=
  let s := match v.getLast? with
    | some (u, d) => ((s.set1 SPN_GUARD_LAST_VALID).put SPN_GUARD_LAST_UPWIND u).put SPN_GUARD_LAST_DOWNWIND d
    | none => s
  forN 16 (fun p s => if v.any (fun c => c.2 == p) then s.incSat SPN_CNT_A_BLANKED p else s) s

/-- Extend, close or open pier `p`'s run with the next tick (R252, R253). `cause` is 0 for a tick with no gap. A run closes when
its length reaches 65,535 ticks; the next unexposed tick continues it with SPLIT. -/
def State.runTick (s : State) (p cause : Nat) : State :=
  let q := s.pier p
  let h := q.hand
  match q.mot with
  | none => s.closeRun p
  | some m =>
    let fq := m.fadeQ h.lit
    let openRun (within : Bool) : Run :=
      { seq := m.seq, partner := m.recPartner p, cause := cause, fade := fq.isSome, fq := fq.getD 0, ff := if fq.isSome then (fadeSpan m.fade m.litN).2 else 0,
        xs := if within then q.force.x else m.xs, ys := if within then q.force.y else m.ys, xe := h.x, ye := h.y, tick := s.key.tick + 1, count := 1 }
    let s := match q.run with
      | some r => if r.seq ≠ m.seq ∨ (h.lit ≠ 0 ∧ !h.hold ∧ (cause = 0 ∨ (r.fade ≠ fq.isSome ∧ r.count ≠ 0))) then s.closeRun p else s
      | none => s
    let s := if cause = 0 then s else
      match (s.pier p).run with
      | some r =>
        if r.count = 0 then s.setPier p { s.pier p with run := some { openRun true with split := true } }
        else s.setPier p { s.pier p with run := some { r with mixed := r.mixed || decide (cause ≠ r.cause), xe := h.x, ye := h.y, count := r.count + 1 } }
      | none => s.setPier p { s.pier p with run := some (openRun (h.lit ≠ 1)) }
    let s := match (s.pier p).run with
      | some r => if r.count = 65535 then (s.closeRun p).setPier p { (s.closeRun p).pier p with run := some { r with count := 0 } } else s
      | none => s
    if m.i ≥ m.plan.k ∧ !h.hold then s.closeRun p else s

/-- The gate decision of the tick for every pier (R228, R245–R252); `late` are the piers whose decision is late. -/
def State.decideGates (s : State) (late : List Nat) : State :=
  let act := (List.range 16).filter s.active
  let v := s.violations
  let blank := v.map Prod.snd
  let ws := (List.range 16).map (fun p => (p, s.weightOf p))
  let g := act.foldl (fun g p => if blank.contains p || late.contains p then g else g + 2 ^ p) 0
  let cause (s : State) (p : Nat) : Nat :=
    let h := (s.pier p).hand
    if h.gate && !h.hold && decide (0 < s.weightOf p) && !s.spn.slip.testBit p then
      if late.contains p then 3 else if s.cor.clamp.testBit p then 2 else if blank.contains p then 1 else 0
    else 0
  let s := s.noteGuard v
  let s := forN 16 (fun p s => s.runTick p (cause s p)) s
  { s with spn := { s.spn with gate := g, weight := ws } }

/-! The patch ring. -/

/-- Raise vector 25 (R259). -/
def State.patchIrq (s : State) : State := { (s.raise 25) with spn := { (s.raise 25).spn with unsig := 0 } }

/-- The pier of a patch record. -/
def recPier (b : List Byte) : Nat := (b.getD 6 0).toNat % 16

/-- The staged records are lost: the writer is off (R260, R261). -/
def State.loseStaged (s : State) : State :=
  let s := s.spn.staged.foldl (fun s b => s.loseRecord (recPier b)) s
  ({ s with spn := { s.spn with staged := [] } }).put SPN_PATCH_STAGE_STAGED 0

/-- Firmware clears SPN_PATCH_CTRL.EN: the records staged are lost (R260). -/
def State.patchOff (s : State) : State := (s.put SPN_PATCH_CTRL_EN 0).loseStaged

/-- An uncorrectable error in staged record `n`: fault 009h on its pier; the record is lost (R48, R260, R262). -/
def State.stageError (s : State) (n : Nat) : State := match s.spn.staged[n]? with
  | none => s
  | some b =>
    let s := { s with spn := { s.spn with staged := s.spn.staged.eraseIdx n } }
    ((s.put SPN_PATCH_STAGE_STAGED s.spn.staged.length).fault 4 9 1 (recPier b)).loseRecord (recPier b)

/-- PATCH_RECORD_WRITE (R255, R259–R261): the oldest staged record goes to the ring in DRAM; with EN = 0 it is lost with all
the others. -/
def execPatchRecordWrite (s : State) : Out :=
  .next (match s.spn.staged with
    | [] => s
    | b :: rest =>
      if !s.on SPN_PATCH_CTRL_EN then s.loseStaged else
      let s := { s with spn := { s.spn with staged := rest } }
      let s := s.put SPN_PATCH_STAGE_STAGED rest.length
      let n := 2 ^ (12 + s.get SPN_PATCH_SIZE_SIZE) / 32
      let base := s.get SPN_PATCH_BASE_LO_BASE_LO * 4096 + s.get SPN_PATCH_BASE_HI_BASE_HI * 2 ^ 32
      match s.dramWrite 3 (base + 32 * (s.get SPN_PATCH_WR_WR % n)) b with
      | (.ok, s) =>
        let s := s.incWrap SPN_PATCH_WR_WR
        let s := { s with spn := { s.spn with unsig := s.spn.unsig + 1 } }
        if s.get SPN_PATCH_THRESH_THRESH ≤ s.spn.unsig then s.patchIrq else s
      | (_, s) =>
        let s := ((s.put SPN_PATCH_CTRL_EN 0).set1 SPN_FLAGS_RING_ERR).fault 4 8 2 (recPier b)
        (s.loseRecord (recPier b)).loseStaged)

/-- PATCH_IRQ_TIMEOUT (R259): 100 µs after the first unsignalled record. -/
def execPatchIrqTimeout (s : State) : Out := .next (if s.spn.unsig = 0 then s else s.patchIrq)

/-- Set SPN_PATCH_CTRL.EN; from 0 it zeroes SPN_PATCH_WR (R255). -/
def State.patchOn (s : State) : State := if s.on SPN_PATCH_CTRL_EN then s else (s.put SPN_PATCH_WR_WR 0).set1 SPN_PATCH_CTRL_EN

/-- PATCH_EN_WRITE (R255). -/
def execPatchEnWrite (s : State) : Out := .next s.patchOn

end Sys2Proof.Machine
end

