-- ==== Sys2Proof/Machine/Cor.lean ====
section
/-! DEFINITION. Field correction: conversion of bed positions to scanner codes, the correction banks and their swaps
(spec/05_field_correction.md). -/

namespace Sys2Proof.Machine

/-- The bytes of one grid (R209). -/
def gridBytes : Nat := 50700

/-- The offset of pier `p`'s slot of bank `b` in the correction banks (R43). -/
def slotBase (b p : Nat) : Nat := b * 0x100000 + p * 0x10000

/-- Clamp a coordinate into a field side and find its cell and fraction (R205). -/
def cellOf (x mn : Int) (pitch : Nat) : Nat × Nat :=
  let xc := min (max x mn) (mn + 64 * pitch)
  let u := (xc - mn).toNat * 65536 / pitch
  if u = 64 * 65536 then (63, 65536) else (u / 65536, u % 65536)

/-- Word `k` of grid point (i, j) in a slot, signed (R208, R209). -/
def State.gridWord (s : State) (b p i j k : Nat) : Int :=
  toSigned 32 (leNat (Memory.readBytes 0 s.cor.banks (slotBase b p + 12 * (65 * j + i) + 4 * k) 4))

/-- The interpolated and rounded word of axis `k` (R210). -/
def State.gridAt (s : State) (b p i j fx fy k : Nat) : Int :=
  let a := s.gridWord b p i j k * (65536 - fx : Nat) + s.gridWord b p (i + 1) j k * fx
  let c := s.gridWord b p i (j + 1) k * (65536 - fx : Nat) + s.gridWord b p (i + 1) (j + 1) k * fx
  (a * (65536 - fy : Nat) + c * fy + 2 ^ 31) / 2 ^ 32

/-- The code of an interpolated word, and whether it saturates (R210, R212). -/
def codeOf (v : Int) : Nat × Bool :=
  let c := 0x800000 + (v + 128) / 256
  if c < 0 then (0, true) else if 0xFFFFFF < c then (0xFFFFFF, true) else (c.toNat, false)

/-- X or Y lies outside the field of pier `p` (R203, R206). -/
def State.outside (s : State) (p : Nat) (x y : Int) : Bool :=
  let xm := s.getS COR_XMIN_XMIN p
  let ym := s.getS COR_YMIN_YMIN p
  decide (x < xm) || decide (xm + 64 * s.get COR_PITCH_X_PITCH p < x) ||
    decide (y < ym) || decide (ym + 64 * s.get COR_PITCH_Y_PITCH p < y)

/-- The three codes of a position and whether any saturates (R202, R210–R212). -/
def State.convert (s : State) (p : Nat) (x y z : Int) : Nat × Nat × Nat × Bool :=
  let b := s.get COR_BANK_ACTIVE p
  let (i, fx) := cellOf x (s.getS COR_XMIN_XMIN p) (s.get COR_PITCH_X_PITCH p)
  let (j, fy) := cellOf y (s.getS COR_YMIN_YMIN p) (s.get COR_PITCH_Y_PITCH p)
  let cx := codeOf (s.gridAt b p i j fx fy 0)
  let cy := codeOf (s.gridAt b p i j fx fy 1)
  let cz := codeOf (s.gridAt b p i j fx fy 2 + z * s.getS COR_ZGAIN_ZGAIN p / 65536)
  (cx.1, cy.1, cz.1, cx.2 || cy.2 || cz.2)

/-- Repeat the codes of the previous tick with HOLD (R213, R215). -/
def State.holdCodes (s : State) (p : Nat) : State :=
  ((s.set1 COR_CODE_X_HOLD p).set1 COR_CODE_Y_HOLD p).set1 COR_CODE_Z_HOLD p

/-- Set pier `p`'s CLAMP bit (R207). -/
def State.setClamp (s : State) (p : Nat) (v : Bool) : State := { s with cor := { s.cor with clamp := setBit s.cor.clamp p v } }

/-- What a clamped tick counts and records (R206). -/
def State.clampEffect (s : State) (p : Nat) (gate : Bool) : State :=
  if gate then
    ((s.incSat COR_CLAMP_CNT_LIT p).set1 COR_FLAGS_CLAMP_LIT p).fault 3 1 (if s.on COR_PCTRL_CLAMP_F1 p then 1 else 2) p
  else s.incSat COR_CLAMP_CNT_DARK p

/-- A tick with GATE_REQ = 1 and no grid in the active slot (R218). -/
def State.noGrid (s : State) (p : Nat) (gate : Bool) : State :=
  if gate && !s.on COR_BANK_ACTIVE_LOADED p then (s.set1 COR_FLAGS_NO_GRID p).fault 3 6 1 p else s

/-- The conversion of one tick for pier `p` (R202–R218); `ue` tells of an uncorrectable error in a point read, `back` that the
pier's values were handed and slip at φ200, its point already read (R62, R215, R243). -/
def State.corTick (s : State) (p : Nat) (ue back : Bool) : State :=
  let h := (s.pier p).hand
  if h.hold then
    let s := (s.holdCodes p).setClamp p false
    if back && ue then s.fault 3 3 1 p else s
  else if ue then (((s.holdCodes p).setClamp p false).fault 3 3 1 p).noGrid p h.gate
  else
    let out := s.outside p h.x h.y
    let s := s.setClamp p out
    let s := if out then s.clampEffect p h.gate else s
    let s := s.noGrid p h.gate
    let (cx, cy, cz, sat) := s.convert p h.x h.y h.z
    let s := ((s.wr (COR_CODE_X_CODE.addr p) (word (cx + if out then 2 ^ 31 else 0))).wr (COR_CODE_Y_CODE.addr p) (word cy)).wr (COR_CODE_Z_CODE.addr p) (word cz)
    if sat then (s.set1 COR_FLAGS_CODE_SAT p).fault 3 2 2 p else s

/-- A bank swap for pier `p` (R223). -/
def State.swapBank (s : State) (p : Nat) : State :=
  let b := 1 - s.get COR_BANK_ACTIVE p
  let s := ((s.put COR_BANK_ACTIVE b p).set1 COR_BANK_ACTIVE_LOADED p).put COR_BANK_READY 0 p
  (s.put COR_BANK_SWAP_PEND 0 p).putBit COR_STATUS_ACTIVE p (b == 1)

/-- The inactive bank of pier `p`. -/
def State.inactiveBank (s : State) (p : Nat) : Nat := 1 - s.get COR_BANK_ACTIVE p

/-- A write to the inactive slot clears READY and cancels a pending swap (R219). -/
def State.slotWritten (s : State) (p : Nat) : State :=
  let s := s.put COR_BANK_READY 0 p
  if s.get COR_BANK_SWAP_PEND p ≠ 0 then
    ((s.put COR_BANK_SWAP_PEND 0 p).set1 COR_FLAGS_SWAP_CANCELLED p).fault 3 5 2 p
  else s

/-- Write bytes at offset `off` of the correction banks (R43, R44, R217, R219, R225). -/
def State.bankWrite (s : State) (off : Nat) (bs : List Byte) : BusRes × State :=
  let b := off / 0x100000
  let p := off % 0x100000 / 0x10000
  if gridBytes < off % 0x10000 + bs.length ∨ 2 ≤ b then (.decode, s)
  else if b = s.get COR_BANK_ACTIVE p then (.perm, s)
  else if !s.on COR_STATUS_INIT_DONE then (.ok, s)
  else
    let s := { s with cor := { s.cor with banks := Memory.writeBytes 0 s.cor.banks off bs } }
    let hit := s.on COR_CRC_CTRL_BUSY && s.cor.crcBank == b && s.cor.crcPier == p
    let s := if hit then { s with cor := { s.cor with crcDirty := true } } else s
    (.ok, s.slotWritten p)

/-- Read bytes at offset `off` of the correction banks (R43, R217). -/
def State.bankRead (s : State) (off n : Nat) : BusRes × List Byte :=
  if gridBytes < off % 0x10000 + n ∨ 0x200000 ≤ off then (.decode, List.replicate n 0#8)
  else if !s.on COR_STATUS_INIT_DONE then (.ok, List.replicate n 0#8)
  else (.ok, Memory.readBytes 0 s.cor.banks off n)

/-- BANK_READY_MARK (R220). -/
def execBankReadyMark (p : Fin 16) (s : State) : Out := .next (s.set1 COR_BANK_READY p)

/-- Request a swap, or refuse it (R220). -/
def State.requestSwap (s : State) (p v : Nat) : State :=
  if s.on COR_BANK_READY p && s.get COR_BANK_SWAP_PEND p == 0 then
    ({ s with cor := { s.cor with swapTick := Tab.put s.cor.swapTick p s.key.tick } }).put COR_BANK_SWAP_PEND v p
  else (s.set1 COR_FLAGS_SWAP_REFUSED p).fault 3 4 3 p

/-- BANK_SWAP_REQUEST (R220): `layer` selects SWAP = 1, else SWAP = 2; `ready` is the READY bit of the same write,
which applies first. -/
def execBankSwapRequest (p : Fin 16) (layer ready : Bool) (s : State) : Out :=
  .next ((if ready then s.set1 COR_BANK_READY p else s).requestSwap p (if layer then 1 else 2))

/-- BANK_SWAP_CANCEL (R220). -/
def execBankSwapCancel (p : Fin 16) (s : State) : Out := .next (s.put COR_BANK_SWAP_PEND 0 p)

/-- GRID_SLOT_WRITE (R219): requester `req` writes bytes at offset `off` of the correction banks. -/
def execGridSlotWrite (req off : Nat) (bs : List Byte) (s : State) : Out :=
  .next (if req ≠ 0 ∧ (req < 0x20 ∨ 0x23 < req) then s.viaErr .perm req true (0xFF30000000 + off) else
    match s.bankWrite off bs with
    | (.decode, s) => s.viaErr .decode req true (if req = 0 then 0x30000000 + off else 0xFF30000000 + off)
    | (.perm, s) => s.viaErr .perm req true (if req = 0 then 0x30000000 + off else 0xFF30000000 + off)
    | (_, s) => s)

/-- GRID_CRC_START (R225): ignored while BUSY. -/
def execGridCrcStart (bank : Fin 2) (p : Fin 16) (s : State) : Out :=
  .next (if s.on COR_CRC_CTRL_BUSY then s else
    let s := (s.put COR_CRC_CTRL_BANK bank).put COR_CRC_CTRL_PIER p
    ({ s with cor := { s.cor with crcBank := bank, crcPier := p, crcDirty := false } }).set1 COR_CRC_CTRL_BUSY)

/-- The CRC-32 of a slot (R225). -/
def State.slotCrc (s : State) (b p : Nat) : Nat := crc32 (Memory.readBytes 0 s.cor.banks (slotBase b p) gridBytes)

/-- The CRC under way, if any, ends (R225): the result is free when the slot was written during the computation. -/
def State.crcEnd (s : State) : State :=
  if s.on COR_CRC_CTRL_BUSY then
    let (v, s) := if s.cor.crcDirty then s.fresh else (s.slotCrc s.cor.crcBank s.cor.crcPier, s)
    ((s.wr 0x2003000C (word v)).put COR_CRC_CTRL_BUSY 0).set1 COR_CRC_CTRL_DONE
  else s

/-- GRID_CRC_DONE (R225). -/
def execGridCrcDone (s : State) : Out := .next s.crcEnd

/-- BANK_INIT_DONE (R217): every point of both banks is zero. -/
def execBankInitDone (s : State) : Out :=
  .next (if s.on COR_STATUS_INIT_DONE then s else
    ({ s with cor := { s.cor with banks := [] } }).set1 COR_STATUS_INIT_DONE)

/-! Mailbox commands of group 03h (R132). -/

/-- The pitch of a field side, if the side is in order and R203 allows it. -/
def pitchOf (mn mx : Int) : Option Nat :=
  let w := mx - mn
  if 0 < w ∧ w % 64 = 0 ∧ 640000 ≤ w ∧ w ≤ 64 * 16777215 then some (w / 64).toNat else none

/-- COR FIELD_SET (R132, R203). -/
def execCorFieldSet (s : State) : Out := runCmd 0x0C01 s (fun q s =>
  let px := pitchOf (q.sw 1) (q.sw 3)
  let py := pitchOf (q.sw 2) (q.sw 4)
  writer q 4 [(0, decide (q.w 0 < 16)), (3, px.isSome), (4, py.isSome)] s (fun s =>
    (((s.putP COR_XMIN_XMIN (q.w 1) (q.w 0)).putP COR_YMIN_YMIN (q.w 2) (q.w 0)).putP COR_PITCH_X_PITCH (px.getD 0) (q.w 0)).putP COR_PITCH_Y_PITCH (py.getD 0) (q.w 0)))

/-- COR SWAP (R132): NOT_FOUND if an inactive slot of the mask is not ready. Where a swap is already pending the block refuses the
request (R220) and the reply is OK (log entry 60). -/
def execCorSwap (s : State) : Out := runCmd 0x0C02 s (fun q s =>
  match firstBad [(0, decide (q.w 0 < 65536)), (1, decide (q.w 1 ≤ 1))] with
  | some i => (s, some (badParam i))
  | none =>
    if (piersOf (q.w 0)).any (fun p => !s.on COR_BANK_READY p) then (s, some (failReply stNotFound))
    else (forPiers (q.w 0) (fun p s => s.requestSwap p (q.w 1 + 1)) s, some okReply))

/-- COR STATUS (R132). -/
def execCorStatus (s : State) : Out := runCmd 0x0C03 s (fun q s =>
  reader [(0, decide (q.w 0 < 16))] s (fun s =>
    let p := q.w 0
    let a := s.get COR_BANK_ACTIVE p
    let loaded := (if s.on COR_BANK_ACTIVE_LOADED p then 2 ^ a else 0) + (if s.on COR_BANK_READY p then 2 ^ (1 - a) else 0)
    okReply [a, (s.rd (COR_CLAMP_CNT_LIT.addr p)).toNat, loaded, s.get COR_ZGAIN_ZGAIN p, s.get COR_PCTRL_CLAMP_F1 p]))

/-- COR PARAM_SET (R132). -/
def execCorParamSet (s : State) : Out := runCmd 0x0C04 s (fun q s =>
  writer q 4 [(0, decide (0 < q.w 0 ∧ q.w 0 < 65536)), (2, decide (q.w 2 ≤ 1))] s (fun s =>
    forPiers (q.w 0) (fun p s => (s.putP COR_ZGAIN_ZGAIN (q.w 1) p).putP COR_PCTRL_CLAMP_F1 (q.w 2) p) s))

/-! Mailbox commands of group 04h (R133). -/

/-- Byte `n` of a payload. -/
def Req.byteAt (q : Req) (n : Nat) : Nat := wfield (word (q.w (n / 4))) (8 * (n % 4) + 7) (8 * (n % 4))

/-- The distance matrix of a payload is symmetric with a zero diagonal; else the first bad byte (R133). -/
def matrixBad (q : Req) : List (Nat × Bool) :=
  (List.range 256).map (fun n => (atByte n, if n / 16 = n % 16 then q.byteAt n == 0 else q.byteAt n == q.byteAt (16 * (n % 16) + n / 16)))

/-- SPAN MATRIX_SET (R133). -/
def execSpanMatrixSet (s : State) : Out := runCmd 0x1000 s (fun q s =>
  writer q 8 (matrixBad q) s (fun s => forN 64 (fun k s =>
    (((s.putP SPN_MATRIX_E0 (q.byteAt (4 * k)) k).putP SPN_MATRIX_E1 (q.byteAt (4 * k + 1)) k).putP SPN_MATRIX_E2 (q.byteAt (4 * k + 2)) k).putP SPN_MATRIX_E3 (q.byteAt (4 * k + 3)) k) s))

/-- SPAN GAS_SET (R133, R263). -/
def execSpanGasSet (s : State) : Out := runCmd 0x1001 s (fun q s =>
  let ok (x : Int) : Bool := decide (-32768 ≤ x ∧ x ≤ 32767)
  writer q 8 [(0, ok (q.sw 0)), (1, ok (q.sw 1)), (0, !(q.w 0 == 0 && q.w 1 == 0))] s (fun s =>
    (s.putPS SPN_GAS_GX (q.sw 0)).putPS SPN_GAS_GY (q.sw 1)))

/-- SPAN STITCH_SET (R133). -/
def execSpanStitchSet (s : State) : Out := runCmd 0x1003 s (fun q s =>
  writer q 8 [(0, decide (0 < q.w 0 ∧ q.w 0 < 65536))] s (fun s => s.putP SPN_STITCH_WAIT_WAIT (q.w 0)))

/-- SPAN STATUS (R133, R263). -/
def execSpanStatus (s : State) : Out := runCmd 0x1004 s (fun _ s =>
  reader [] s (fun s => okReply [s.get SPN_STATUS_OUTSTANDING, s.get SPN_PATCH_WR_WR, s.get SPN_PATCH_LOST_LOST,
    s.get SPN_CTRL_GUARD_EN, s.get SPN_STITCH_WAIT_WAIT]))

/-- SPAN GUARD_SET (R133). -/
def execSpanGuardSet (s : State) : Out := runCmd 0x1005 s (fun q s =>
  writer q 8 [(0, decide (q.w 0 ≤ 1))] s (fun s => s.putP SPN_CTRL_GUARD_EN (q.w 0)))

end Sys2Proof.Machine
end

