-- ==== Sys2Proof/Machine/Scn.lean ====
section
/-! DEFINITION. The stroke engine: rings, FIFOs, descriptors, strokes, waits, layers, digests and pier commands
(spec/04_stroke_engine.md). -/

namespace Sys2Proof.Machine

/-! Rings and FIFOs. -/

/-- Descriptor slots of pier `p`'s ring (R152). -/
def State.ringSlots (s : State) (p : Nat) : Nat := 2 ^ (12 + s.get SCN_RING_SIZE_SIZE p) / 32

/-- The ring base (R152). -/
def State.ringBase (s : State) (p : Nat) : Nat := s.get SCN_RING_BASE_LO_BASE_LO p * 4096 + s.get SCN_RING_BASE_HI_BASE_HI p * 2 ^ 32

/-- Descriptors written and not yet fetched (R153). -/
def State.ringFill (s : State) (p : Nat) : Nat := (s.get SCN_RING_WR_WR p + 2 ^ 32 - s.get SCN_RING_RD_RD p) % 2 ^ 32

/-- The low-water mark: vector 9 + p when the fill falls below it (R159). -/
def State.lowWater (s : State) (p : Nat) : State :=
  let q := s.pier p
  if s.get SCN_RING_LWM_LWM p ≤ s.ringFill p then s.setPier p { q with lwm := true }
  else if q.lwm then (s.setPier p { q with lwm := false }).raise (9 + p) else s

/-- SCN_RING_LWM_p has been written: whether the fill has reached LWM is known anew; no fall, so no vector (R159). -/
def State.lwmSet (s : State) (p : Nat) : State :=
  s.setPier p { s.pier p with lwm := decide (s.get SCN_RING_LWM_LWM p ≤ s.ringFill p) }

/-- Show the FIFO fill and the reads outstanding in SCN_FIFO_p. -/
def State.showFifo (s : State) (p : Nat) : State :=
  (s.put SCN_FIFO_FILL (32 * (s.pier p).fifo.length) p).put SCN_FIFO_OUTST (s.pier p).reads.length p

/-- RING_INDEX_WRITE (R154): a host write of a new WR. -/
def execRingIndexWrite (p : Fin 16) (v : Word) (s : State) : Out :=
  let d := (v.toNat + 2 ^ 32 - s.get SCN_RING_WR_WR p) % 2 ^ 32
  .next (if d = 0 then s
    else if d ≤ s.ringSlots p - s.ringFill p then (s.put SCN_RING_WR_WR v.toNat p).lowWater p
    else (s.set1 SCN_FLAGS_IDX_REFUSED p).fault 2 0xC 3 p)

/-- The fetch side runs in IDLE, LAYER_WAIT, RUN, SYNC and HALT (R158). -/
def State.fetchRuns (s : State) (p : Nat) : Bool := decide (1 ≤ s.pierState p ∧ s.pierState p ≤ 5)

/-- FETCH_ISSUE (R158): a read from RD of up to eight descriptors. -/
def execFetchIssue (p : Fin 16) (s : State) : Out :=
  let q := s.pier p
  let out := q.reads.foldl (fun n r => n + r.2.1) 0
  let start := (s.get SCN_RING_RD_RD p + out) % 2 ^ 32
  let n := min (s.ringFill p - out) (min (8 - start % 8) (512 - q.fifo.length - out))
  .next (if s.fetchRuns p && decide (q.reads.length < 4) && decide (0 < n) then
    (s.setPier p { q with reads := q.reads ++ [(start, n, s.ringBase p + 32 * (start % s.ringSlots p))] }).showFifo p
  else s)

/-- Cut a byte string into descriptors of eight words. -/
def descsOf : Nat → List Byte → List (List Word)
  | 0, _ => []
  | n + 1, bs => bytesWords (bs.take 32) 8 :: descsOf n (bs.drop 32)

/-- A pier enters FAULT with a fault of class F1; a stroke in execution stops first (R163, R166, R196). -/
def State.enterFault (s : State) (p code : Nat) : State :=
  let q := s.pier p
  let moving : Bool := match q.mot with
    | some m => decide (m.i < m.plan.k)
    | none => false
  let s := s.setPier p { q with stop := if moving then 3 else 0, stopTick := s.key.tick }
  (s.setPierState p psFault).fault 2 code 1 p

/-- FETCH_COMPLETE (R158–R160): the oldest read's data enters the FIFO, from the address of its issue. Where the fetch side does
not run, no read outstanding enters the FIFO any more: RD stays before them, and they are read again. -/
def execFetchComplete (p : Fin 16) (s : State) : Out :=
  .next (match (s.pier p).reads with
    | [] => s
    | (start, n, a) :: rest =>
      if !s.fetchRuns p then (s.setPier p { s.pier p with reads := [] }).showFifo p else
      let s := s.setPier p { s.pier p with reads := rest }
      match s.dramRead 2 a (32 * n) with
      | (.ok, bs, s) =>
        let q := s.pier p
        let s := (s.setPier p { q with fifo := q.fifo ++ descsOf n bs }).put SCN_RING_RD_RD ((start + n) % 2 ^ 32) p
        (s.lowWater p).showFifo p
      | (_, _, s) => (s.showFifo p).enterFault p 6)

/-! The stroke descriptor (R161, R162). -/

/-- Word `i` of a descriptor. -/
def dw (d : List Word) (i : Nat) : Nat := (d.getD i 0).toNat

/-- Word `i`, signed. -/
def ds (d : List Word) (i : Nat) : Int := toSigned 32 (dw d i)

/-- TYPE. -/
def dType (d : List Word) : Nat := dw d 0 / 2 ^ 28
/-- Flag bits of w0. -/
def dSky (d : List Word) : Bool := (dw d 0).testBit 27
def dProf (d : List Word) : Bool := (dw d 0).testBit 26
def dOpen (d : List Word) : Bool := (dw d 0).testBit 25
def dRecord (d : List Word) : Bool := (dw d 0).testBit 24
/-- PROFILE. -/
def dProfile (d : List Word) : Nat := dw d 0 / 4096 % 256
/-- POWER. -/
def dPower (d : List Word) : Nat := dw d 6 / 65536
/-- AUX. -/
def dAux (d : List Word) : Nat := dw d 6 % 65536
/-- PARAM. -/
def dParam (d : List Word) : Nat := dw d 7

/-- A JUMP's, MARK's, ARC's or STITCH's SPEED is in range (R162). -/
def speedOk (d : List Word) (hi : Nat) : Bool := decide (1 ≤ dw d 5 ∧ dw d 5 ≤ hi)

/-- w2 to w4 are 0. -/
def posZero (d : List Word) : Bool := dw d 2 == 0 && dw d 3 == 0 && dw d 4 == 0

/-- The flags a type allows: bits SKY, PROF, OPEN, RECORD (R162). -/
def flagsAllowed (t : Nat) : Nat := match t with
  | 2 | 7 | 8 => 0xE
  | 3 => 0x6
  | 4 => 0x2
  | 11 => 0x1
  | _ => 0

/-- The descriptor obeys R162. -/
def descFieldsOk (d : List Word) : Bool :=
  let t := dType d
  let still := posZero d && dw d 5 == 0 && dPower d == 0 && dAux d == 0
  (dw d 0 % 4096 == 0) && (dw d 0 / 2 ^ 20 % 16 == 0) && ((dw d 0 / 2 ^ 24 % 16) &&& (15 - flagsAllowed t)) == 0 &&
  (dProf d || dProfile d == 0) &&
  match t with
  | 0 | 15 => still && dParam d == 0
  | 1 => speedOk d 20000000 && dPower d == 0 && dAux d == 0 && dParam d == 0
  | 2 => speedOk d 5000000 && dPower d != 0 && dAux d == 0 && dParam d == 0
  | 3 => speedOk d 5000000 && dPower d != 0 && dAux d == 0 && dParam d != 0 && decide ((ds d 7).natAbs ≤ 0x1000000)
  | 4 => posZero d && dw d 5 == 0 && dPower d != 0 && dAux d == 0
  | 5 | 11 => still
  | 6 => still && dParam d % 65536 != 0
  | 7 | 8 => speedOk d 5000000 && dPower d != 0 && decide (dAux d < 2 ^ 14) && decide (dParam d < 256)
  | 9 => still && decide (dParam d < 2 ^ 20)
  | 10 => still && decide (dParam d < 64)
  | _ => false

/-! Planning a stroke. -/

/-- A plan that holds a point for `k` ticks. -/
def restPlan (x y z : Int) (k : Nat) : Plan :=
  { phases := [], t0 := 0, t := 0, k := k, len := 0, path := .line (fxInt x) (fxInt y) (fxInt z) 0 0 0, rx := x, ry := y, rz := z }

/-- The entries of profile `n` of pier `p` (R177). -/
def State.profile (s : State) (p n : Nat) : List Nat :=
  (List.range 64).map (fun e => leNat (Memory.readBytes 0 s.scn.prof ((p * 256 + n) * 128 + 2 * e) 2))

/-- A motion from a plan and a descriptor, with its lit segment. -/
def mkMotion (pl : Plan) (d : List Word) (lit0 litN : Nat) (xs ys xe ye : Int) (prof : Option (List Nat)) : Motion :=
  { plan := pl, lit0 := lit0, litN := litN, xs := xs, ys := ys, xe := xe, ye := ye, prof := prof, speed := dw d 5, power := dPower d,
    opn := dOpen d, typ := dType d, sid := dAux d % 1024, partner := dAux d / 1024 % 16, fade := dParam d % 256 }

/-- Plan the lit motion of a MARK or a stitch from (x, y, z) (R170–R172). -/
def State.markMotion (s : State) (p : Nat) (d : List Word) (x y z : Int) (prof : Option (List Nat)) : Motion :=
  let per := s.periodNs
  let a := s.get SCN_LIM_AM_A p
  let (ex, ey, ez) := (ds d 2, ds d 3, ds d 4)
  if dSky d then
    let pl := planSky x y z ex ey ez (dw d 5) a per
    let run := skyRun (dw d 5) a
    let l := markLen x y z ex ey ez
    if fxLt l run then mkMotion pl d 1 0 ex ey ex ey prof
    else
      let f := lastBelow pl per run 34 0 pl.k
      let e := lastBelow pl per l 34 0 pl.k
      mkMotion pl d (f + 1) (e - f) (fxRound (fxInt x + fxDiv (fxMul (fxInt (ex - x)) run) l)) (fxRound (fxInt y + fxDiv (fxMul (fxInt (ey - y)) run) l)) ex ey prof
  else
    let pl := planMark x y z ex ey ez (dw d 5) a per
    mkMotion pl d 1 pl.k x y ex ey prof

/-- The skywriting lit segment of a MARK or stitch is empty (R172). -/
def State.skyShort (s : State) (p : Nat) (d : List Word) (x y z : Int) : Bool :=
  dSky d && fxLt (markLen x y z (ds d 2) (ds d 3) (ds d 4)) (skyRun (dw d 5) (s.get SCN_LIM_AM_A p))

/-- The motion a descriptor of a stroke type gives from the pier's position, or none where R163 rejects it. -/
def State.strokeOf (s : State) (p : Nat) (d : List Word) : Option Motion :=
  let q := s.pier p
  let per := s.periodNs
  let (x, y, z) := (q.x, q.y, q.z)
  let prof := if dProf d then some (s.profile p (dProfile d)) else none
  let still := mkMotion (restPlan x y z 1) d 1 0 x y x y none
  let same := ds d 2 = x ∧ ds d 3 = y ∧ ds d 4 = z
  let tickOk (m : Motion) : Option Motion := if m.plan.k ≤ 0xFFFFFFFF ∧ m.plan.inRange per then some m else none
  match dType d with
  | 1 =>
    if same then some still else
    let pl := planJump x y z (ds d 2) (ds d 3) (ds d 4) (dw d 5) (s.get SCN_LIM_V_V p) (s.get SCN_LIM_A_A p) (s.get SCN_LIM_J_J p) per
    if pl.inRange per then some (mkMotion pl d 1 0 x y x y none) else none
  | 2 => if same then some still else tickOk (s.markMotion p d x y z prof)
  | 3 =>
    let (dx, dy) := (x - ds d 2, y - ds d 3)
    if dx * dx + dy * dy = 0 ∨ 10 ^ 18 < dx * dx + dy * dy then none else
    let pl := planArc x y z (ds d 2) (ds d 3) (ds d 4) (ds d 7) (dw d 5) (s.get SCN_LIM_AM_A p) per
    tickOk (mkMotion pl d 1 pl.k x y pl.rx pl.ry prof)
  | 4 => if dParam d = 0 then some still else some (mkMotion (restPlan x y z (dParam d)) d 1 (dParam d) x y x y prof)
  | 7 | 8 => if same then none else tickOk (s.markMotion p d x y z prof)
  | _ => some still

/-- The 48-bit expected extended SEQ (R188). -/
def State.expected (s : State) (p : Nat) : Nat := s.get SCN_EPOCH_EPOCH p * 2 ^ 32 + s.get SCN_SEQ_NEXT_SEQ_NEXT p

/-- Consume the front descriptor (R188–R190). -/
def State.consume (s : State) (p : Nat) (d : List Word) : State :=
  let q := s.pier p
  let x := s.expected p
  let n := s.get SCN_COUNT_COUNT p
  let s := s.setPier p { q with fifo := q.fifo.drop 1, took := true, under := false, sha := q.sha.add (wordsBytes d), first := if n = 0 then x else q.first }
  let y := (x + 1) % 2 ^ 48
  let s := (s.put SCN_EPOCH_EPOCH (y / 2 ^ 32) p).put SCN_SEQ_NEXT_SEQ_NEXT (y % 2 ^ 32) p
  let s := ((s.put SCN_SEQ_LAST_SEQ_LAST (x % 2 ^ 32) p).put SCN_SEQ_LAST_EPOCH_EPOCH (x / 2 ^ 32) p).set1 SCN_SEQ_LAST_EPOCH_VALID p
  ((s.put SCN_COUNT_COUNT ((n + 1) % 2 ^ 32) p).put SCN_STATE_TYPE (dType d) p).showFifo p

/-- The extended SEQ last consumed. -/
def State.lastSeq (s : State) (p : Nat) : Nat := s.get SCN_SEQ_LAST_EPOCH_EPOCH p * 2 ^ 32 + s.get SCN_SEQ_LAST_SEQ_LAST p

/-- Start a fresh layer message (R190, R195). -/
def State.freshMessage (s : State) (p : Nat) : State := (s.setPier p { s.pier p with sha := {}, first := 0 }).put SCN_COUNT_COUNT 0 p

/-- Close the layer digest (R191–R193): the set is placed at once, within the four ticks R191 allows. -/
def State.closeDigest (s : State) (p : Nat) (incomplete : Bool) : State :=
  let n := s.get SCN_COUNT_COUNT p
  if n = 0 then s else
  let ws := bytesWords (s.pier p).sha.digest 12
  let s := ws.zipIdx.foldl (fun s (w, i) => s.put SCN_DIGEST_WORD w.toNat p i) s
  let f := (s.pier p).first
  let l := s.lastSeq p
  let s := (((s.put SCN_DIGEST_SEQ_WORD (f % 2 ^ 32) p 0).put SCN_DIGEST_SEQ_WORD (f / 2 ^ 32) p 1).put SCN_DIGEST_SEQ_WORD (l % 2 ^ 32) p 2).put SCN_DIGEST_SEQ_WORD (l / 2 ^ 32) p 3
  let s := (s.put SCN_DIG_LAYER_LAYER (s.get SCN_LAYER_LAYER) p).put SCN_DIG_COUNT_COUNT n p
  let s := ((s.put SCN_DIG_STATUS_INCOMPLETE (if incomplete then 1 else 0) p).put SCN_DIG_STATUS_TAKEN 0 p).set1 SCN_DIG_STATUS_VALID p
  (s.putBit SCN_STATUS_DIGEST_PEND p true).freshMessage p

/-! Taking a descriptor. -/

/-- Reject the front descriptor (R163). -/
def State.reject (s : State) (p code : Nat) : State := (s.setPier p { s.pier p with took := true }).enterFault p code

/-- No stroke is in execution and the pier is due to take a descriptor (R164). -/
def PierSt.due (q : PierSt) : Bool := !q.took && match q.mot with
  | some m => m.plan.k ≤ m.i && !m.fresh
  | none => true

/-- The stroke that has ended leaves execution; with C > 0 it is kept while lit ticks of it are in the lag line (R316). -/
def State.retire (s : State) (p : Nat) : State := match (s.pier p).mot with
  | some m => if m.kind = .stroke ∧ 0 < m.litN ∧ 0 < s.get LSR_DELAY_COARSE p then s.setPier p { s.pier p with past := (s.pier p).past ++ [m] } else s
  | none => s

/-- Put a pier's stroke into execution (R164). -/
def State.runStroke (s : State) (p : Nat) (m : Motion) : State :=
  s.setPier p { s.pier p with mot := some { m with seq := s.lastSeq p } }

/-- Pier `c` arrives at a barrier (R180, R181). -/
def State.arrive (s : State) (c id mask : Nat) : State :=
  let clash := s.scn.bars.any (fun b => (b.id != id || b.mask != mask) && (b.mask &&& mask) != 0)
  let s := if clash then s.fault 2 9 1 c else s
  let s := (s.setPier c { s.pier c with atBar := true, mot := none }).setPierState c psSync
  let (b, others) := match s.scn.bars.find? (fun b => b.id == id && b.mask == mask) with
    | some b => ({ b with came := b.came ||| 2 ^ c }, s.scn.bars.filter (fun a => a != b))
    | none => (⟨id, mask, c, 2 ^ c, 0, false⟩, s.scn.bars)
  if b.came &&& mask = mask then
    let s := { s with scn := { s.scn with bars := others } }
    forPiers mask (fun p s => s.setPier p { s.pier p with atBar := false, waitTo := some (s.key.tick + 1) }) s
  else { s with scn := { s.scn with bars := others ++ [b] } }

/-- A LAYER_END is accepted (R183, R221): LAYER_WAIT, LAYER_DONE, the digest; the layer-complete event of the job. -/
def State.layerEnd (s : State) (p : Nat) : State :=
  let s := s.setPier p { s.pier p with mot := none }
  let s := ((s.setPierState p psLayerWait).putBit SCN_STATUS_LAYER_DONE p true).closeDigest p false
  let s := { s with scn := { s.scn with ended := true }, cor := { s.cor with ends := s.cor.ends ||| 2 ^ p } }
  let done := s.get SCN_STATUS_LAYER_DONE
  if (s.job.st = 2 ∨ s.job.st = 3) ∧ s.job.piers.testBit p ∧ (done &&& s.job.piers) = s.job.piers then
    s.event 4 0 0 (s.get SCN_LAYER_LAYER % 65536)
  else s

/-- A MARKER is taken (R186). -/
def State.marker (s : State) (p : Nat) (d : List Word) : State :=
  let x := s.lastSeq p
  let s := ((s.put SCN_MARK_PARAM_PARAM (dParam d) p).put SCN_MARK_SEQ_SEQ (x % 2 ^ 32) p).put SCN_MARK_EPOCH_EPOCH (x / 2 ^ 32) p
  let s := s.set1 SCN_MARK_EPOCH_VALID p
  if dRecord d then s.enterRecs [{ sev := 6, code := 0x900, payload := [byte p] ++ leBytes 6 x ++ leBytes 4 (dParam d) ++ [0#8] }] else s

/-- A LOAD_LOOP is taken (R185, R394): the image travels with the tick's values; the pending IMAGE takes it too,
unless Nagus has written it since the last capture. -/
def State.loadLoop (s : State) (p img : Nat) : State :=
  let s := s.setPier p { s.pier p with image := some img }
  if s.lop.nagus.testBit p then s else s.putP LOP_FCTRL_IMAGE img p

/-- Carry out a consumed descriptor of type `t` whose motion is `m`. -/
def State.carryOut (s : State) (p : Nat) (d : List Word) (m : Motion) : State :=
  match dType d with
  | 5 =>
    let w := (s.get64 SCN_LAYER_TICK_LO_TICK_LO SCN_LAYER_TICK_HI_TICK_HI + dParam d) % 2 ^ 64
    let s := (s.setPier p { s.pier p with mot := none, waitTo := some (max (s.key.tick + 1) w) }).setPierState p psSync
    if w ≤ s.key.tick then (s.set1 SCN_FLAGS_WAIT_LATE p).fault 2 0xE 3 p else s
  | 6 => s.arrive p (dParam d / 65536) (dParam d % 65536)
  | 9 => s.layerEnd p
  | 10 => (s.loadLoop p (dParam d)).runStroke p m
  | 11 => (s.marker p d).runStroke p m
  | 15 =>
    let s := if s.get SCN_COUNT_COUNT p ≤ 1 then s.freshMessage p else s.closeDigest p true
    ((s.setPier p { s.pier p with fifo := [], mot := none }).setPierState p psDone).showFifo p
  | _ => s.runStroke p m

/-- The checks of R163 that need no plan: SEQ, fields, partner, barrier mask, layer (R163, R183, R188). -/
def State.descFault (s : State) (p : Nat) (d : List Word) : Option Nat :=
  let mask := dParam d % 65536
  if dw d 1 ≠ s.get SCN_SEQ_NEXT_SEQ_NEXT p then some 2
  else if !descFieldsOk d then some 1
  else if (dType d = 7 ∨ dType d = 8) ∧ dAux d / 1024 % 16 = p then some 1
  else if dType d = 6 ∧ (!mask.testBit p ∨ (mask &&& s.get SCN_CTRL_PIER_EN) ≠ mask) then some 1
  else if dType d = 9 ∧ dParam d % 2 ^ 20 ≠ s.get SCN_LAYER_LAYER then some 3
  else none

/-- Take and validate the front descriptor of pier `p` (R163, R164, R178, R182, R232). -/
def State.takeDesc (s : State) (p : Nat) : State :=
  match (s.pier p).fifo with
  | [] => s
  | d :: _ =>
    match s.descFault p d with
    | some c => s.reject p c
    | none =>
      match s.strokeOf p d with
      | none => s.reject p 1
      | some m =>
        let q := s.pier p
        if dType d = 7 ∨ dType d = 8 then
          let geo := [q.x, q.y, q.z, ds d 2, ds d 3, ds d 4, dw d 5, dParam d % 256, if dSky d then 1 else 0, s.get SCN_LIM_AM_A p]
          let short := s.skyShort p d q.x q.y q.z
          let s' := (s.retire p).setPier p { (s.retire p).pier p with mot := none }
          match s'.registerStitch p { m with seq := s.expected p } (dType d = 8) geo with
          | (false, s) => s.reject p 1
          | (true, s) =>
            let s := s.consume p d
            if short then (s.set1 SCN_FLAGS_SKY_SHORT p).fault 2 0xD 3 p else s
        else
          let short := dType d = 2 && !(ds d 2 == q.x && ds d 3 == q.y && ds d 4 == q.z) && s.skyShort p d q.x q.y q.z
          let s := ((s.retire p).consume p d).carryOut p d m
          if short then (s.set1 SCN_FLAGS_SKY_SHORT p).fault 2 0xD 3 p else s

/-- A DESC_ command: pier `p`, due in RUN, takes its front descriptor if that is of type `t` (R164). -/
def descCmd (t p : Nat) (s : State) : State :=
  let q := s.pier p
  if s.pierState p = psRun ∧ q.due then match q.fifo with
    | d :: _ => if dType d = t then s.takeDesc p else s
    | [] => s
  else s

/-- DESC_NOP (R165). -/
def execDescNop (p : Fin 16) (s : State) : Out := .next (descCmd 0 p s)
/-- DESC_JUMP (R169). -/
def execDescJump (p : Fin 16) (s : State) : Out := .next (descCmd 1 p s)
/-- DESC_MARK (R170–R172). -/
def execDescMark (p : Fin 16) (s : State) : Out := .next (descCmd 2 p s)
/-- DESC_ARC (R173). -/
def execDescArc (p : Fin 16) (s : State) : Out := .next (descCmd 3 p s)
/-- DESC_DWELL (R175). -/
def execDescDwell (p : Fin 16) (s : State) : Out := .next (descCmd 4 p s)
/-- DESC_WAIT_TICK (R179). -/
def execDescWaitTick (p : Fin 16) (s : State) : Out := .next (descCmd 5 p s)
/-- DESC_BARRIER (R180). -/
def execDescBarrier (p : Fin 16) (s : State) : Out := .next (descCmd 6 p s)
/-- DESC_STITCH_OUT (R182). -/
def execDescStitchOut (p : Fin 16) (s : State) : Out := .next (descCmd 7 p s)
/-- DESC_STITCH_IN (R182). -/
def execDescStitchIn (p : Fin 16) (s : State) : Out := .next (descCmd 8 p s)
/-- DESC_LAYER_END (R183). -/
def execDescLayerEnd (p : Fin 16) (s : State) : Out := .next (descCmd 9 p s)
/-- DESC_LOAD_LOOP (R185). -/
def execDescLoadLoop (p : Fin 16) (s : State) : Out := .next (descCmd 10 p s)
/-- DESC_MARKER (R186). -/
def execDescMarker (p : Fin 16) (s : State) : Out := .next (descCmd 11 p s)
/-- DESC_END (R187). -/
def execDescEnd (p : Fin 16) (s : State) : Out := .next (descCmd 15 p s)

/-! Waits, barriers, layers. -/

/-- A wait target is reached: the pier leaves SYNC (R179, R180). -/
def State.waitExpire (s : State) (p : Nat) : State :=
  let q := s.pier p
  match q.waitTo with
  | some w => if s.pierState p = psSync ∧ w ≤ s.key.tick then (s.setPier p { q with waitTo := none, took := false }).setPierState p psRun else s
  | none => s

/-- WAIT_TICK_EXPIRE (R179, R180). -/
def execWaitTickExpire (p : Fin 16) (s : State) : Out := .next (s.waitExpire p)

/-- Fault 00Ah of a barrier whose time is up, once (R181). -/
def State.barrierOut (s : State) (b : Barrier) : State :=
  if s.get SCN_BARRIER_WAIT_WAIT ≤ b.ticks ∧ !b.timed then
    ({ s with scn := { s.scn with bars := s.scn.bars.map (fun a => if a = b then { a with timed := true } else a) } }).fault 2 0xA 1 b.first
  else s

/-- BARRIER_TIMEOUT (R181). -/
def execBarrierTimeout (id : BitVec 16) (mask : BitVec 16) (s : State) : Out :=
  .next (match s.scn.bars.find? (fun b => b.id == id.toNat && b.mask == mask.toNat) with
    | some b => s.barrierOut b
    | none => s)

/-- One tick of the barrier timers, which stop in HOLD (R181). -/
def State.tickBarriers (s : State) : State :=
  let s := s.scn.bars.foldl (fun s b => s.barrierOut b) s
  if s.mode = 5 then s else
  { s with scn := { s.scn with bars := s.scn.bars.map (fun b => { b with ticks := b.ticks + 1 }) } }

/-- A layer start is received in the present tick (R184); several in one tick are one start. -/
def State.layerGo (s : State) : State :=
  if s.scn.go.contains s.key.tick then s else { s with scn := { s.scn with go := s.scn.go ++ [s.key.tick] } }

/-- LAYER_GO_WRITE (R184). -/
def execLayerGoWrite (s : State) : Out := .next s.layerGo

/-- Whether a layer start is accepted (R184). -/
def State.layerReady (s : State) : Bool :=
  let en := piersOf (s.get SCN_CTRL_PIER_EN)
  en.all (fun p => s.pierState p == psLayerWait || s.pierState p == psDone) && en.any (fun p => s.pierState p == psLayerWait) &&
    s.get SCN_STATUS_DIGEST_PEND == 0

/-- Accept or refuse one layer start (R184, R237). -/
def State.layerEval (s : State) : State :=
  if s.layerReady then
    let s := (s.setWide 0x20020010 s.key.tick).put SCN_LAYER_TICK_HI_TICK_HI (s.key.tick / 2 ^ 32)
    let s := s.put SCN_STATUS_LAYER_DONE 0
    let s := (if s.scn.ended then s.incSat SCN_LAYER_LAYER else s).freeOrphans
    forN 16 (fun p s => if s.pierState p = psLayerWait then (s.setPier p { s.pier p with took := false }).setPierState p psRun else s) s
  else (s.set1 SCN_ERR_LAYER_EARLY).fault 2 0xB 2

/-- Evaluate the layer starts received in earlier ticks (R184). -/
def State.layerStart (s : State) : State :=
  let due := s.scn.go.filter (fun t => decide (t < s.key.tick))
  let s := { s with scn := { s.scn with go := s.scn.go.filter (fun t => decide (s.key.tick ≤ t)) } }
  due.foldl (fun s _ => s.layerEval) s

/-- LAYER_START (R184). -/
def execLayerStart (s : State) : Out := .next s.layerStart

/-- DIGEST_TAKE (R191, R704, R712): the FLU takes a digest set when six ring slots are free. -/
def execDigestTake (p : Fin 16) (s : State) : Out :=
  .next (if s.on SCN_DIG_STATUS_VALID p && !s.on SCN_DIG_STATUS_TAKEN p && !s.on FLU_STATUS_SEALED_FULL &&
      decide (s.flu.ring.length + 6 ≤ fluRingCap) then
    let inc := s.on SCN_DIG_STATUS_INCOMPLETE p
    let dw := (List.range 12).flatMap (fun i => leBytes 4 (s.get SCN_DIGEST_WORD p i))
    let sq (i : Nat) := leBytes 4 (s.get SCN_DIGEST_SEQ_WORD p i) ++ leBytes 2 (s.get SCN_DIGEST_SEQ_WORD p (i + 1))
    let p0 := [byte p] ++ leBytes 3 (s.get SCN_DIG_LAYER_LAYER p + if inc then 2 ^ 23 else 0) ++ leBytes 4 (s.get SCN_DIG_COUNT_COUNT p) ++ leBytes 4 0
    let parts := [p0, sq 0 ++ sq 2, dw.take 12, (dw.drop 12).take 12, (dw.drop 24).take 12, dw.drop 36]
    let s := s.enterRecs (parts.map (fun b => { sev := 4, code := 0x901, payload := b }))
    let s := if inc then { s with job := { s.job with incomplete := true } } else s
    (s.set1 SCN_DIG_STATUS_TAKEN p).putBit SCN_STATUS_DIGEST_PEND p false
  else s)

/-! Pier commands (R195). -/

/-- Set WRITE_REFUSED in SCN_ERR. -/
def State.scnRefuse (s : State) : State := s.set1 SCN_ERR_WRITE_REFUSED

/-- A write of SCN_LAYER: accepted with no enabled pier in RUN, SYNC or HALT (R184, R201). -/
def State.layerSet (s : State) (n : Nat) : State :=
  if (piersOf (s.get SCN_CTRL_PIER_EN)).any (fun p => decide (3 ≤ s.pierState p ∧ s.pierState p ≤ 5)) then s.scnRefuse
  else let s := s.put SCN_LAYER_LAYER n; { s with scn := { s.scn with ended := false } }

/-- SCN_CMD START (R195). -/
def execScnCmdStart (mask : BitVec 16) (s : State) : Out :=
  .next (forPiers mask.toNat (fun p s =>
    if s.pierState p = psIdle then (s.freshMessage p).setPierState p psLayerWait else s.scnRefuse) s)

/-- A pier leaves the barrier it waits at. -/
def State.leaveBarrier (s : State) (p : Nat) : State :=
  let bars := (s.scn.bars.map (fun b => { b with came := setBit b.came p false })).filter (fun b => b.came != 0)
  ({ s with scn := { s.scn with bars := bars } }).setPier p { s.pier p with atBar := false, waitTo := none }

/-- A stopped or reset pier gives up a stitch that waits (R242). Where its partner has registered and neither has been
released, the partner waits on as the only one registered (log entry 62). -/
def State.dropStitch (s : State) (p : Nat) : State := match (s.pier p).stitch with
  | some m =>
    let s := s.setPier p { s.pier p with stitch := none }
    match Tab.find s.spn.table m.sid with
    | some e => if e.state = 2 then
        s.setStitch m.sid { e with state := 1, inside := if e.pier = p then !e.inside else e.inside, pier := m.partner, partner := p }
      else s.freeStitch m.sid
    | none => s
  | none => s

/-- Stop pier `p` for good (R193, R196, R242, R777). -/
def State.stopPier (s : State) (p : Nat) : State :=
  if s.pierState p = psLayerWait ∨ s.pierState p = psRun ∨ s.pierState p = psSync then
    let from_ := s.pierState p
    let s := ((s.closeDigest p true).leaveBarrier p).dropStitch p
    (s.setPier p { s.pier p with stop := 1, stopTick := s.key.tick, from_ := from_, byStop := true, resume := false, back := none }).setPierState p psHalt
  else s.scnRefuse

/-- SCN_CMD STOP (R195, R196, R777): acts in the next tick. -/
def execScnCmdStop (mask : BitVec 16) (s : State) : Out := .next (forPiers mask.toNat (fun p s => s.stopPier p) s)

/-- Leave HALT at rest: the state held before, and the move to the abandoned stroke's rest point (R197). -/
def State.resumeNow (s : State) (p : Nat) : State :=
  let q := s.pier p
  let s := s.setPierState p q.from_
  match q.back with
  | some (x, y, z) =>
    let pl := planJump q.x q.y q.z x y z 20000000 (s.get SCN_LIM_V_V p) (s.get SCN_LIM_A_A p) (s.get SCN_LIM_J_J p) s.periodNs
    let pl := if (q.x, q.y, q.z) = (x, y, z) then restPlan x y z 0 else pl
    let m := { mkMotion pl [] 1 0 x y x y none with kind := .resume, seq := s.lastSeq p, typ := s.get SCN_STATE_TYPE p }
    s.setPier p { q with mot := some m, back := none, resume := false, stop := 0 }
  | none => s.setPier p { q with resume := false, stop := 0 }

/-- The pier's motion has ended. -/
def PierSt.atRest (q : PierSt) : Bool := match q.mot with
  | some m => m.plan.k ≤ m.i
  | none => true

/-- Resume pier `p`, at once or when its stop has ended (R195, R197). -/
def State.resumePier (s : State) (p : Nat) : State :=
  let q := s.pier p
  if s.pierState p = psHalt ∧ !q.byStop then
    if q.atRest ∧ q.stop = 0 then s.resumeNow p else s.setPier p { q with resume := true }
  else s.scnRefuse

/-- SCN_CMD RESUME (R195, R197). -/
def execScnCmdResume (mask : BitVec 16) (s : State) : Out := .next (forPiers mask.toNat (fun p s => s.resumePier p) s)

/-- PROF_DATA_ACCESS (R177): a write of `v`, or a read (none), of the selected entry; ENTRY advances modulo 64. -/
def execProfDataAccess (v : Option (BitVec 16)) (s : State) : Out :=
  let a := (s.get SCN_PROF_SEL_PIER * 256 + s.get SCN_PROF_SEL_PROFILE) * 128 + 2 * s.get SCN_PROF_SEL_ENTRY
  let s := match v with
    | some w => { s with scn := { s.scn with prof := Memory.writeBytes 0 s.scn.prof a (leBytes 2 w.toNat) } }
    | none => s
  let s := s.put SCN_PROF_DATA_VALUE (leNat (Memory.readBytes 0 s.scn.prof a 2))
  .next (s.incWrap SCN_PROF_SEL_ENTRY)

/-! The tick. -/

/-- The planned power of a lit tick at speed `v` (R176). -/
def Motion.planned (m : Motion) (v : Fx) : Nat := match m.prof with
  | none => m.power
  | some e =>
    let j := if m.typ = 4 then 63 else min 63 (fxFloor (fxDiv (64 * v) (fxSpeed m.speed))).toNat
    min 0xFFFF (m.power * e.getD j 0 / 0x8000)

/-- Advance a motion by one tick: its new state and the values handed (R166, R168, R172, R176). -/
def Motion.advance (m : Motion) (per : Nat) (image : Option Nat) : Motion × Hand :=
  let i := m.i + 1
  let (x, y, z) := m.plan.pos i per
  let (_, v, _) := m.plan.at_ i per
  let lit := if m.kind = .stroke ∧ m.lit0 ≤ i ∧ i < m.lit0 + m.litN then i - m.lit0 + 1 else 0
  let st := m.typ = 7 ∨ m.typ = 8
  ({ m with i := i },
   { x := x, y := y, z := z, vel := (fxTrunc (v * 1000000)).natAbs % 2 ^ 25, gate := lit ≠ 0, planned := if lit = 0 then 0 else m.planned v,
     opn := m.kind = .stroke && m.opn, seq := m.seq, typ := m.typ, sid := if st then m.sid else 0, partner := if st then m.partner else 0,
     fade := if st then m.fade else 0, lit := lit, image := image })

/-- The stroke whose OPEN and STITCH fields are handed at rest: the one in execution, else the stitch that waits for its
release (R166). -/
def PierSt.tagged (q : PierSt) : Option Motion := match q.mot with
  | some m => if m.kind = .stroke then some m else q.stitch
  | none => q.stitch

/-- The values of a pier that holds its position (R165, R166). -/
def State.restHand (s : State) (p : Nat) : Hand :=
  let q := s.pier p
  let h : Hand := { x := q.x, y := q.y, z := q.z, seq := s.lastSeq p, typ := s.get SCN_STATE_TYPE p, image := q.image }
  match q.tagged with
  | some m => if m.typ = 7 ∨ m.typ = 8 then { h with opn := m.opn, sid := m.sid, partner := m.partner, fade := m.fade } else { h with opn := m.opn }
  | none => h

/-- What pier `p` hands for the next tick, with its new motion (R166). -/
def State.handOf (s : State) (p : Nat) : Option Motion × Hand :=
  let q := s.pier p
  match q.mot with
  | some m =>
    if m.fresh then (some { m with fresh := false }, s.restHand p)
    else if m.i < m.plan.k then
      let (m', h) := m.advance s.periodNs q.image
      (some m', h)
    else (some m, s.restHand p)
  | none => (none, s.restHand p)

/-- Start and stored kind of the remainder of an abandoned stroke: the last lit tick in force, or the position before
the first failed tick of the pier link `fail` (R196, R289, R316). None where nothing is left unexposed. -/
def remainder (m : Motion) (last : Option (Nat × Nat × Int × Int)) (fail : Option (Int × Int)) : Option (Int × Int) :=
  match fail with
  | some c => some c
  | none => match last with
    | some (sq, l, x, y) => if sq ≠ m.seq then some (m.xs, m.ys) else if l < m.litN then some (x, y) else none
    | none => some (m.xs, m.ys)

/-- The last lit tick of motion `m` in force: its index and position, where the latest lit tick in force is one of its own. -/
def Motion.litOf (m : Motion) (last : Option (Nat × Nat × Int × Int)) : Option (Nat × Int × Int) := match last with
  | some (sq, l, x, y) => if sq = m.seq then some (l, x, y) else none
  | none => none

/-- The later, in lit-tick order, of two last lit ticks (R242). -/
def laterLit (a b : Option (Nat × Int × Int)) : Option (Nat × Int × Int) :=
  match a, b with
  | some (l, x, y), some (k, u, v) => if l < k then some (k, u, v) else some (l, x, y)
  | some c, none => some c
  | none, d => d

/-- A lit tick that has left the lag line with G = 1: SEQ, lit index, X, Y. -/
def Lag.lit (e : Lag) : Nat × Nat × Int × Int := (e.hand.seq, e.hand.lit, e.hand.x, e.hand.y)

/-- The last lit tick in force as a stop sees it. A STOP forces no gate off: the ticks in the lag line reach the gate, so the
newest of them with G = 1 counts (R316, R777; log entry 18). -/
def State.lastInForce (s : State) (p : Nat) (byCmd : Bool) : Option (Nat × Nat × Int × Int) :=
  let line := if byCmd then (Tab.get [] s.lsr.line p).filter (fun e => e.g) else []
  (line.getLast?.map Lag.lit).or (s.pier p).lastLit

/-- The position from which a failed pier link leaves a stroke unexposed: the earlier of the two sides' failures, by its tick
(R289). -/
def linkStart (a b : Option (Nat × Int × Int)) : Option (Int × Int) := match a, b with
  | some (t, x), some (u, y) => some (if u < t then y else x)
  | some (_, x), none => some x
  | none, some (_, y) => some y
  | none, none => none

/-- The record of an abandoned stroke that is no paired stitch (R196, R253). -/
def State.abandonRecord (s : State) (p : Nat) (m : Motion) (last : Option (Nat × Nat × Int × Int)) (tick : Nat) (fail : Option (Int × Int)) : State :=
  if m.litN = 0 ∨ m.role = .dark then s else
  match remainder m last fail with
  | none => s
  | some (x, y) => s.stageRecord p (patchBytes m.seq p (m.recPartner p) 4 false false false x y m.xe m.ye tick 0 0 0)

/-- Both sides of a paired stitch abandon: one record, PIER the in side; `last` is the later of their last lit ticks (R242). -/
def State.abandonPair (s : State) (p d : Nat) (m n : Motion) (last : Option (Nat × Int × Int)) (tick : Nat) (fail : Option (Int × Int)) : State :=
  let (ip, im, op) := if m.typ = 8 then (p, m, d) else (d, n, p)
  let rec_ (x y : Int) : State := s.stageRecord ip (patchBytes im.seq ip op 4 false false false x y im.xe im.ye tick 0 0 0)
  let s := if im.litN = 0 then s else match fail with
    | some (x, y) => rec_ x y
    | none => match last with
      | some (l, x, y) => if l < im.litN then rec_ x y else s
      | none => rec_ im.xs im.ys
  s.freeStitch im.sid

/-- The former strokes of pier `p`, and its stroke in execution where that has ended, whose lit ticks in the lag line are
discarded when the gates are forced off: a record for each, from its last lit tick in force (R315, R316). -/
def State.cutPast (s : State) (p : Nat) (lost : List Lag) : State :=
  let q := s.pier p
  let ended := match q.mot with
    | some m => if m.kind = .stroke ∧ m.plan.k ≤ m.i ∧ !m.fresh then [m] else []
    | none => []
  let s := s.setPier p { q with past := [] }
  (q.past ++ ended).foldl (fun s m => if lost.any (fun e => e.hand.seq == m.seq) then s.abandonRecord p m q.lastLit (s.key.tick + 1) none else s) s

/-- Keep the former strokes with lit ticks still in the lag line (R316). -/
def State.keepPast (s : State) (p : Nat) (line : List Lag) : State :=
  let q := s.pier p
  s.setPier p { q with past := q.past.filter (fun m => line.any (fun e => e.hand.seq == m.seq)) }

/-- A STOP of one side of a paired stitch: the other side goes on alone (R242, R253). -/
def State.partnerSolo (s : State) (d : Nat) (n : Motion) : State :=
  let q := s.pier d
  let i := n.i + (if n.fresh then 0 else 1)
  let l := max 1 (i + 1 - n.lit0)
  let s := s.setPier d { q with mot := some { n with role := .solo } }
  let s := match Tab.find s.spn.table n.sid with
    | some e => s.setStitch n.sid { e with state := 3, joined := true, solo := d }
    | none => s
  if n.litN < l then s else
  let st : Int × Int := if l = 1 then (n.xs, n.ys) else (q.x, q.y)
  let tick := s.key.tick + 1 + (n.lit0 - i)
  s.stageRecord d (patchBytes n.seq d n.partner 5 false false false st.1 st.2 n.xe n.ye tick (min (n.litN + 1 - l) 65535) 0 0)

/-- Abandon the motion `m` of pier `p` in a stop (R196, R242): its record, or that of the paired stitch. A stroke that has ended
has nothing left for a STOP to abandon; where the gates are forced off, its last lit tick may not be in force yet, which with
C > 0 `State.cutPast` has recorded. -/
def State.abandonStroke (s : State) (p : Nat) (m : Motion) (byCmd : Bool) (fail : Nat → Option (Nat × Int × Int)) (tick : Nat) : State :=
  if m.i < m.plan.k ∨ m.fresh then
    match m.role, (s.pier m.partner).mot with
    | .paired, some n =>
      let both := !byCmd || ((s.pier m.partner).stop = 1 && decide ((s.pier m.partner).stopTick < s.key.tick))
      let s := s.putBit SPN_STATUS_STITCHING p false
      if both then
        let last := laterLit (m.litOf (s.lastInForce p byCmd)) (n.litOf (s.lastInForce m.partner byCmd))
        let s := (s.abandonPair p m.partner m n last tick (linkStart (fail p) (fail m.partner))).setPier m.partner { s.pier m.partner with mot := some { n with role := .dark } }
        s.putBit SPN_STATUS_STITCHING m.partner false
      else s.partnerSolo m.partner n
    | .paired, none => s.abandonRecord p m (s.lastInForce p byCmd) tick (linkStart (fail p) none)
    | _, _ => (s.abandonRecord p m (s.lastInForce p byCmd) tick (linkStart (fail p) none)).endStitch p m
  else if byCmd || decide (0 < s.get LSR_DELAY_COARSE p) then s
  else s.abandonRecord p m (s.pier p).lastLit tick none

/-- The lit ticks of a stroke that a STOP abandons and that are still in the lag line go on to the gate; were they discarded
later, they would be a former stroke's, up to the newest of them (R316). -/
def State.stopPast (s : State) (p : Nat) (m : Motion) : State := match s.lastInForce p true with
  | some (sq, _, x, y) => if sq = m.seq ∧ 0 < s.get LSR_DELAY_COARSE p then s.setPier p { s.pier p with past := (s.pier p).past ++ [{ m with xe := x, ye := y }] } else s
  | none => s

/-- Begin pier `p`'s stop in this tick (R196, R777). `fail p` is the first failed link tick of pier `p` and the position before
it; `tick` is the record's TICK. -/
def State.beginStop (s : State) (p : Nat) (fail : Nat → Option (Nat × Int × Int)) (tick : Nat) : State :=
  let q := s.pier p
  let byCmd := q.stop = 1
  let s := (s.setPier p { q with stop := 0 }).closeRun p
  match q.mot with
  | none => s
  | some m =>
    let moving := m.i < m.plan.k
    let s := if m.kind ≠ .stroke then s else (if byCmd then s.stopPast p m else s).abandonStroke p m byCmd fail tick
    let back := if m.kind ≠ .stop ∧ moving then some (m.plan.rx, m.plan.ry, m.plan.rz) else q.back
    let stopM : Option Motion := if m.kind = .stop then some m
      else if moving ∧ 0 < m.i then
        some { m with plan := planStop m.plan m.i (s.get SCN_LIM_A_A p) (s.get SCN_LIM_J_J p) s.periodNs, i := 0, kind := .stop, lit0 := 1, litN := 0, role := .none, fresh := false }
      else none
    s.setPier p { s.pier p with mot := stopM, back := if byCmd then none else back }

/-- Reset pier `p` (R193, R195); a stop that has not begun yet begins with it, so that the stroke it abandons is recorded
(R196). -/
def State.resetPier (s : State) (p : Nat) : State :=
  let st := s.pierState p
  if st = psIdle ∨ (st = psHalt ∧ (s.pier p).byStop) ∨ st = psDone ∨ st = psFault then
    let s := if (s.pier p).stop ≠ 0 then s.beginStop p (fun _ => none) (s.key.tick + 1) else s
    let s := ((s.closeDigest p true).leaveBarrier p).dropStitch p
    let q := s.pier p
    let s := s.setPier p { q with fifo := [], reads := [], mot := none, stop := 0, resume := false, back := none, byStop := false, under := false, lastLit := none }
    let s := ((s.put SCN_RING_WR_WR 0 p).put SCN_RING_RD_RD 0 p).lowWater p
    let s := (s.put SCN_SEQ_LAST_EPOCH_VALID 0 p).put SCN_MARK_EPOCH_VALID 0 p
    ((s.freshMessage p).setPierState p psIdle).showFifo p
  else s.scnRefuse

/-- SCN_CMD RESET (R195). -/
def execScnCmdReset (mask : BitVec 16) (s : State) : Out := .next (forPiers mask.toNat (fun p s => s.resetPier p) s)

/-- Start one episode of underflow (R198). -/
def State.underflow (s : State) (p : Nat) : State :=
  let q := s.pier p
  if q.under then s else
  let s := s.setPier p { q with under := true }
  if s.ringFill p = 0 then
    (s.put SCN_UNDER_STARVED (min (s.get SCN_UNDER_STARVED p + 1) 0xFFFF) p).fault 2 8 3 p
  else (s.put SCN_UNDER_LATE (min (s.get SCN_UNDER_LATE p + 1) 0xFFFF) p).fault 2 7 2 p

/-- A stitch stroke that has ended is in no released stitch any more (R228, R230); of one that ran dark nothing was to be lit, of
the out side of a paired one nothing after its last lit tick (R238). -/
def Motion.settle (m : Motion) : Motion :=
  if m.kind = .stroke ∧ m.role ≠ .none ∧ m.plan.k ≤ m.i ∧ !m.fresh then
    let (a, f) := fadeSpan m.fade m.litN
    { m with role := .none, litN := match m.role with
      | .dark => 0
      | .paired => if m.typ = 7 then a + f - 1 else m.litN
      | _ => m.litN }
  else m

/-- The work of φ0 for pier `p` that no command of this tick has done: a stop, an expired wait, a take (R164, R198). An episode of
underflow ends where the pier is not in RUN. -/
def State.phi0 (s : State) (p : Nat) (fail : Nat → Option (Nat × Int × Int)) : State :=
  let q := s.pier p
  let s := s.setPier p { q with mot := q.mot.map Motion.settle, under := q.under && s.pierState p == psRun }
  let s := if (s.pier p).stop ≠ 0 ∧ (s.pier p).stopTick < s.key.tick then s.beginStop p fail (s.key.tick + if (s.pier p).stop = 1 then 1 else 0) else s
  let s := s.waitExpire p
  if s.pierState p = psRun ∧ (s.pier p).due then
    if (s.pier p).fifo.isEmpty then s.underflow p else s.takeDesc p
  else s

/-- Show the values handed in the pier's registers (R166). -/
def State.showHand (s : State) (p : Nat) : State :=
  let h := (s.pier p).hand
  let s := ((s.putS SCN_POS_X_POS h.x p).putS SCN_POS_Y_POS h.y p).putS SCN_POS_Z_POS h.z p
  ((s.put SCN_PWR_GATE_REQ (if h.gate then 1 else 0) p).put SCN_PWR_PLANNED h.planned p).put SCN_VEL_VEL h.vel p

/-- Hand pier `p`'s values (R166), or repeat them where its result is late (R62, R63). -/
def State.handPier (s : State) (p : Nat) (late : Bool) : State :=
  let q := s.pier p
  if late then s.setPier p { q with hand := { q.hand with hold := true, gate := false, image := q.image } }
  else
    let (m, h) := s.handOf p
    s.setPier p { q with mot := m, hand := h, x := h.x, y := h.y, z := h.z }

/-- Take back the advance of a pier that slips: the position of this tick is repeated with HOLD (R62, R63, R243). -/
def State.slipPier (s : State) (before : PierSt) (p : Nat) : State :=
  let q := s.pier p
  s.setPier p { q with mot := before.mot, x := before.x, y := before.y, z := before.z, hand := { before.hand with hold := true, gate := false, image := q.hand.image } }

/-- A stitch stroke that has handed its last position ends (R230). -/
def State.finishStroke (s : State) (p : Nat) (before : PierSt) : State :=
  match (s.pier p).mot with
  | some m => if m.kind = .stroke ∧ m.role ≠ .none ∧ m.i = m.plan.k ∧ !m.fresh ∧ before.mot ≠ (s.pier p).mot then s.endStitch p m else s
  | none => s

/-- The positions in force that are kept: enough ticks for three exchanges of a legacy link to fail (R289, R304). -/
def histTicks : Nat := 64

/-- At the tick edge: the values handed come into force; piers that fault or mode force dark begin to stop; a stop
that has ended leads to IDLE or to the move of R197 (R36, R195–R197). -/
def State.scnEdge (s : State) (p : Nat) (forced : Bool) (lastLit : Option (Nat × Nat × Int × Int)) : State :=
  let q := s.pier p
  let n := s.key.tick
  let h := q.hand
  let last := if forced then q.lastLit else lastLit.or q.lastLit
  let s := s.setPier p { q with force := h, took := false, image := none, lastLit := last, hist := ((n + 1, h.x, h.y) :: q.hist).take histTicks }
  let q := s.pier p
  let st := s.pierState p
  if forced ∧ (st = psLayerWait ∨ st = psRun ∨ st = psSync) then
    (s.setPier p { q with stop := 2, stopTick := n, from_ := st, byStop := false, resume := false }).setPierState p psHalt
  else if st = psHalt ∧ q.stop = 0 ∧ q.atRest then
    if q.byStop then (s.setPier p { q with byStop := false, mot := none }).setPierState p psIdle
    else if q.resume then s.resumeNow p else s
  else s

/-! Mailbox commands of group 02h (R131). -/

/-- SCN RING_STATUS. -/
def execScnRingStatus (s : State) : Out := runCmd 0x0801 s (fun q s =>
  reader [(0, decide (q.w 0 < 16))] s (fun s =>
    let p := q.w 0
    okReply [s.get SCN_RING_RD_RD p, s.get SCN_RING_WR_WR p, s.get SCN_SEQ_LAST_SEQ_LAST p, s.get SCN_SEQ_LAST_EPOCH_EPOCH p, s.get SCN_FIFO_FILL p]))

/-- SCN PROFILE_LOAD: HW_FAULT with the fault of a Viaduct access error of Nagus where the profile cannot be read (R41, R125). -/
def execScnProfileLoad (s : State) : Out := runCmd 0x0802 s (fun q s =>
  if !s.rangeAllowed (q.addr 2) 128 then (s, some (failReply stDenied)) else
  match firstBad [(0, decide (0 < q.w 0 ∧ q.w 0 < 65536)), (1, decide (q.w 1 < 256))] with
  | some i => (s, some (badParam i))
  | none =>
    match s.fwRead (q.addr 2) 128 with
    | (.ok, bs, s) =>
      (forPiers (q.w 0) (fun p s => { s with scn := { s.scn with prof := Memory.writeBytes 0 s.scn.prof ((p * 256 + q.w 1) * 128) bs } }) s, some okReply)
    | (_, _, s) => (s, some (failReply stHwFault 0x0407)))

/-- All live records of the Flue, committed or waiting. -/
def State.fluAll (s : State) : List Rec := s.flu.live.map Prod.snd ++ s.flu.resv.map Prod.snd ++ s.flu.ring

/-- The layer-digest record of pier `p` and layer `l`: the latest live one (R704). -/
def State.findDigest (s : State) (p l : Nat) : Option Rec :=
  s.fluAll.foldl (fun b r => if r.code = 0x901 ∧ r.part = 0 ∧ r.hasSeq ∧ leNat (r.payload.take 1) = p ∧ leNat ((r.payload.drop 1).take 3) % 2 ^ 20 = l then
      match b with
      | some o => if o.seq < r.seq then some r else b
      | none => some r
    else b) none

/-- SCN DIGEST: the digest and its Flue sequence, from the digest record. -/
def execScnDigest (s : State) : Out := runCmd 0x0803 s (fun q s =>
  match firstBad [(0, decide (q.w 0 < 16)), (1, decide (q.w 1 < 2 ^ 20))] with
  | some i => (s, some (badParam i))
  | none => match s.findDigest (q.w 0) (q.w 1) with
    | none => (s, some (failReply stNotFound))
    | some r =>
      let part (k : Nat) : List Byte := match s.fluAll.find? (fun t => t.seq == r.seq + k && t.code == 0x901) with
        | some t => t.payload
        | none => []
      let ws := bytesWords (part 2 ++ part 3 ++ part 4 ++ part 5) 12
      (s, some (okReply (ws.map (·.toNat) ++ [r.seq % 2 ^ 32, r.seq / 2 ^ 32]))))

/-- SCN LIMITS_SET. -/
def execScnLimitsSet (s : State) : Out := runCmd 0x0804 s (fun q s =>
  let ok (i hi : Nat) : Nat × Bool := (i, decide (1 ≤ q.w i ∧ q.w i ≤ hi))
  writer q 2 [(0, decide (0 < q.w 0 ∧ q.w 0 < 65536)), ok 1 20000000, ok 2 1000000, ok 3 4000000000, ok 4 1000000] s (fun s =>
    forPiers (q.w 0) (fun p s => (((s.putP SCN_LIM_V_V (q.w 1) p).putP SCN_LIM_A_A (q.w 2) p).putP SCN_LIM_J_J (q.w 3) p).putP SCN_LIM_AM_A (q.w 4) p) s))

/-- SCN BARRIER_SET. -/
def execScnBarrierSet (s : State) : Out := runCmd 0x0805 s (fun q s =>
  writer q 2 [(0, q.w 0 != 0)] s (fun s => s.putP SCN_BARRIER_WAIT_WAIT (q.w 0)))

/-- SCN LIMITS_READ. -/
def execScnLimitsRead (s : State) : Out := runCmd 0x0806 s (fun q s =>
  reader [(0, decide (q.w 0 < 16))] s (fun s =>
    let p := q.w 0
    okReply [s.get SCN_LIM_V_V p, s.get SCN_LIM_A_A p, s.get SCN_LIM_J_J p, s.get SCN_LIM_AM_A p, s.get SCN_BARRIER_WAIT_WAIT]))

end Sys2Proof.Machine
end

