-- ==== Sys2Proof/Machine/Plk.lean ====
section
/-! DEFINITION. The pier links: frames, checks, training and legacy mode (spec/07_pier_link.md). -/

namespace Sys2Proof.Machine

/-- State of pier `p`'s link. -/
def State.link (s : State) (p : Nat) : LinkSt := Tab.get {} s.plk p

/-- Replace the state of pier `p`'s link. -/
def State.setLink (s : State) (p : Nat) (l : LinkSt) : State := { s with plk := Tab.put s.plk p l }

/-- PLK_STATE_p.STATE (R294). -/
def State.linkState (s : State) (p : Nat) : Nat := s.get PLK_STATE_STATE p

/-- Link states (R294). -/
def lsOff : Nat := 0
def lsWake : Nat := 1
def lsSweep : Nat := 2
def lsAlign : Nat := 3
def lsVerify : Nat := 4
def lsUp : Nat := 5
def lsFailed : Nat := 6

/-- Set a link's state, with the summary bits of PLK_STATUS. -/
def State.setLinkState (s : State) (p st : Nat) : State :=
  ((s.put PLK_STATE_STATE st p).putBit PLK_STATUS_TRAINING p (1 ≤ st && st ≤ 4)).putBit PLK_STATUS_UP p (st == 5)

/-- The link serves a legacy head (R302). -/
def State.legacy (s : State) (p : Nat) : Bool := s.get PLK_CTRL_MODE p == 2

/-- The link is UP and the latest good uplink frame reports READY = 1 and FAULT = 0 (R291). -/
def State.linkGood (s : State) (p : Nat) : Bool :=
  s.linkState p == lsUp && s.get PLK_UL_STATUS_STATUS p / 2 ^ 14 == 2

/-- Hand LINK_OK (R291). -/
def State.handLinkOk (s : State) (p : Nat) : State := s.put PLK_STATE_LINK_OK (if s.linkGood p then 1 else 0) p

/-- A legacy link reports no head data: PLK_HEAD_p reads 0, VALID is 0 in PLK_ACT_X_p to PLK_ACT_Z_p (R304). -/
def State.noHead (s : State) (p : Nat) : State :=
  let s := s.wr (PLK_HEAD_VERSION.addr p) 0
  ((s.put PLK_ACT_X_VALID 0 p).put PLK_ACT_Y_VALID 0 p).put PLK_ACT_Z_VALID 0 p

/-- Enter training at training tick 0 (R295, R300). -/
def State.beginTraining (s : State) (p reason : Nat) : State :=
  let l := s.link p
  let s := s.setLink p { l with
    train := 0, start := false, swept := false, frame := none, ident := [], outst := false, exch := 0, good := 0, k28 := false, taps := [], queue := [] }
  let s := if s.legacy p then s.noHead p else s
  let s := (s.setLinkState p lsWake).put PLK_STATE_TRAIN_TICK 0 p
  let s := (s.put PLK_STATE_CONSEC 0 p).put PLK_STATE_LINK_OK 0 p
  if reason = 0 then s else s.put PLK_STATE_REASON reason p

/-- A training failure (R298). -/
def State.failTraining (s : State) (p reason : Nat) : State :=
  let s := ((s.setLinkState p lsFailed).put PLK_STATE_REASON reason p).incSat PLK_CNT_B_FAILED p
  if reason = 6 then s.fault 5 3 1 p else s.fault 5 2 2 p

/-- The link comes UP: causes that persist until then end (R288, R740). -/
def State.linkUp (s : State) (p : Nat) : State :=
  (((s.setLinkState p lsUp).put PLK_STATE_REASON 0 p).dropCause 0x1412 p).dropCause 0x1403 p

/-- An uplink frame of `n` data bytes is good: no code error, and its CRC-16 holds (R277, R286). -/
def frameGood (n : Nat) (f : List Byte × Nat) : Bool :=
  f.2 == 0 && f.1.length == n && crc16 (f.1.take (n - 2)) == beNat (f.1.drop (n - 2))

/-- One STATUS bit of a run: flag and fault at the first frame of the run (R292). -/
def State.headRun (s : State) (p : Nat) (bit : Bool) (r : Nat) (flag : Fref) (code cls : Nat) : State :=
  let l := s.link p
  let s := s.setLink p { l with runs := setBit l.runs r bit }
  if bit && !l.runs.testBit r then (s.set1 flag p).fault 5 code cls p else s

/-- The STATUS word of a good uplink frame takes effect (R290, R292). -/
def State.headStatus (s : State) (p st : Nat) : State :=
  let s := s.put PLK_UL_STATUS_STATUS st p
  let s := if st.testBit 11 && s.spn.force.testBit p then s.incSat PLK_CNT_B_HELD_LIT p else s
  let s := s.headRun p (st.testBit 14) 2 PLK_FLAGS_HEAD_FAULT 5 1
  let s := if st.testBit 14 then s else s.dropCause 0x1405 p
  (s.headRun p (st.testBit 13) 1 PLK_FLAGS_HEAD_WARN 6 3).headRun p (st.testBit 10) 0 PLK_FLAGS_EDGE_LOST 7 2

/-- The measured codes of a good frame that carries no identity (R278). -/
def State.headCodes (s : State) (p : Nat) (b : List Byte) : State :=
  let code (k : Nat) : Word := word (2 ^ 31 + beNat ((b.drop k).take 3))
  ((s.wr (PLK_ACT_X_CODE.addr p) (code 0)).wr (PLK_ACT_Y_CODE.addr p) (code 3)).wr (PLK_ACT_Z_CODE.addr p) (code 6)

/-- Account a failed tick or exchange: counts, flags and faults (R287, R288). An exchange counts as the tick whose codes its
frame carried (log entry 64). -/
def State.failedTick (s : State) (p : Nat) (dl : Bool) : State :=
  let c := s.get PLK_STATE_CONSEC p
  let s := if dl then (s.incSat PLK_CNT_A_DL_BAD p).set1 PLK_FLAGS_DL_BAD p else (s.incSat PLK_CNT_A_UL_BAD p).set1 PLK_FLAGS_UL_BAD p
  let first := if s.legacy p then (s.link p).sentTick + 1 else s.key.tick
  let s := if c = 0 then (s.setLink p { s.link p with run0 := first }).fault 5 (if dl then 0x10 else 0x11) 3 p else s
  let s := s.put PLK_STATE_CONSEC (min 3 (c + 1)) p
  if s.linkState p = lsUp ∧ 2 ≤ c then
    let l := s.link p
    ((s.setLink p { l with failFrom := l.run0 + 1 }).setLinkState p lsFailed).fault 5 0x12 1 p
  else s

/-- Mark the tick or exchange good or failed by its frame of `n` data bytes, STATUS at byte `k` (R286, R287). The flag
tells whether it is good. -/
def State.judge (s : State) (p n k : Nat) : Bool × State :=
  let f := (s.link p).frame
  let s := s.setLink p { s.link p with frame := none, checked := n == 13 || (s.link p).checked }
  match f with
  | none => (false, s.failedTick p false)
  | some f =>
    if !frameGood n f then (false, s.failedTick p false) else
    let st := beNat ((f.1.drop k).take 2)
    let s := s.headStatus p st
    let s := if n = 13 && !st.testBit 9 then s.headCodes p f.1 else s
    if st.testBit 12 then (false, s.failedTick p true) else (true, s.put PLK_STATE_CONSEC 0 p)

/-- The check of an identity reply in training ticks 52 to 55 (R297). -/
def State.checkIdent (s : State) (p : Nat) : State :=
  let f := (s.link p).frame
  let s := s.setLink p { s.link p with frame := none, checked := true }
  match f with
  | none => s.failTraining p 4
  | some f =>
    let st := beNat ((f.1.drop 9).take 2)
    if !frameGood 13 f || !st.testBit 9 then s.failTraining p 4 else
    let s := s.headStatus p st
    if f.1.getD 0 0 ≠ 1#8 then s.failTraining p 5
    else if (f.1.getD 1 0).toNat ≠ p then s.failTraining p 6
    else s.setLink p { s.link p with ident := f.1 }

/-- Consume the frame of a tick in which nothing is judged: the check of every tick closes it (R286). -/
def State.closeTick (s : State) (p : Nat) : State := s.setLink p { s.link p with frame := none, checked := true }

/-- The check of the present tick for pier `p` (R286, R295, R297). LINK_OK is handed at φ240, before a check at a later
deadline and after one at an earlier (R291). -/
def State.checkTick (s : State) (p : Nat) : State :=
  let l := s.link p
  let st := s.linkState p
  let early := s.get PLK_CTRL_UL_DEADLINE p ≤ 240
  let s := if early then s else s.handLinkOk p
  let s :=
    if l.checked ∨ s.legacy p then s
    else if st = lsAlign ∧ 52 ≤ l.train ∧ l.train ≤ 55 then s.checkIdent p
    else if st = lsVerify then
      match s.judge p 13 9 with
      | (true, s) => s
      | (false, s) => s.failTraining p 7
    else if st = lsUp ∨ st = lsFailed then (s.judge p 13 9).2
    else s.closeTick p
  if early then s.handLinkOk p else s

/-- Keep what the frame of φ240 shows where a later check is made first (R274, R276). -/
def State.keepPre (s : State) (p : Nat) : State :=
  if 240 < s.get PLK_CTRL_UL_DEADLINE p then s.setLink p { s.link p with pre := some (s.linkState p, s.forced) } else s

/-- UL_DEADLINE_CHECK (R286). A tick is checked once. -/
def execUlDeadlineCheck (p : Fin 16) (s : State) : Out :=
  .next (if (s.link p).checked then s else (s.keepPre p).checkTick p)

/-- Symbol lock is lost; in UP LOCK_LOST is set and fault 001h recorded (R293). -/
def State.lockLost (s : State) (p : Nat) : State :=
  if s.linkState p = lsUp then (s.set1 PLK_FLAGS_LOCK_LOST p).fault 5 1 2 p else s

/-- Code groups at pier `p`'s uplink receiver (R293): its symbols and whether lock was held throughout. -/
def State.rx (s : State) (p : Nat) (gs : List (BitVec 10)) : (List (Option Sym) × Bool) × State :=
  let l := s.link p
  let r := l.rxRun gs
  let s := (s.incSat PLK_CNT_B_SYM_ERR p r.errs).setLink p r.l
  ((r.syms, l.locked && !r.lost), if r.lost then s.lockLost p else s)

/-- An uplink frame from its code groups: the data bytes, and the groups that are not what the frame has there (R278, R286). -/
def frameOf (cs : List (Option Sym)) : List Byte × Nat :=
  let data (c : Option Sym) : Option Nat := match c with
    | some c => if c.k then none else some c.b
    | none => none
  ((cs.drop 1).map (fun c => byte ((data c).getD 0)),
   (if cs.headD none = some symSof then 0 else 1) + ((cs.drop 1).filter (fun c => (data c).isNone)).length)

/-- A frame on the uplink; `take` tells whether it is in time. -/
def State.rxFrame (s : State) (p : Nat) (gs : List (BitVec 10)) (take : Bool) : State :=
  if s.linkState p = lsOff then s else
  let ((cs, held), s) := s.rx p gs
  if take && held then s.setLink p { s.link p with frame := some (frameOf cs) } else s

/-- Code groups that come to pier `p`'s receiver outside a frame; a K28.5 among them is one of the training (R271, R272, R293, R295). -/
def State.heard (s : State) (p : Nat) (gs : List (BitVec 10)) : State :=
  if s.linkState p = lsOff then s else
  let s := (s.rx p gs).2
  s.setLink p { s.link p with k28 := (s.link p).k28 || (s.link p).comma }

/-- UPLINK_FRAME (R278, R286, R293): `before`: the groups outside frames since the command before; `gs`: SOF and thirteen data bytes
as code groups; a frame that completes after the check is discarded. -/
def execUplinkFrame (p : Fin 16) (before gs : List (BitVec 10)) (s : State) : Out :=
  .next ((s.heard p before).rxFrame p gs (!(s.link p).checked))

/-- LEGACY_UPLINK_FRAME (R303): SOF and four data bytes, after the groups `before`. -/
def execLegacyUplinkFrame (p : Fin 16) (before gs : List (BitVec 10)) (s : State) : Out :=
  .next ((s.heard p before).rxFrame p gs (s.legacy p && (s.link p).outst))

/-- Check the exchange under way (R304). -/
def State.checkExchange (s : State) (p : Nat) : State :=
  let l := s.link p
  if !s.legacy p || !l.outst then s else
  let s := s.setLink p { l with outst := false }
  let verify := s.linkState p = lsVerify
  let (ok, s) := s.judge p 4 0
  if !verify then s else
  let l := s.link p
  let g := if ok then l.good + 1 else 0
  let s := s.setLink p { l with good := g, exch := l.exch + 1 }
  if 8 ≤ g then s.linkUp p else if 32 ≤ l.exch + 1 then s.failTraining p 7 else s

/-- LEGACY_EXCHANGE_CHECK (R304). -/
def execLegacyExchangeCheck (p : Fin 16) (s : State) : Out := .next (s.checkExchange p)

/-- No K28.5 for two tick periods loses symbol lock (R293). -/
def State.quietLoss (s : State) (p : Nat) : State :=
  let l := s.link p
  if l.locked && decide (2 ≤ l.quiet) then (s.setLink p { l with locked := false }).lockLost p else s

/-- SYMBOL_LOCK_LOST (R293): code groups received outside a frame; lock is lost where four in a row are in error, or no K28.5 has
come for two tick periods. -/
def execSymbolLockLost (p : Fin 16) (gs : List (BitVec 10)) (s : State) : Out :=
  .next (if s.linkState p = lsOff then s else (s.rx p gs).2.quietLoss p)

/-- SYMBOL_LOCK_REGAIN (R293): the next K28.5. -/
def execSymbolLockRegain (p : Fin 16) (s : State) : Out :=
  .next (if s.linkState p = lsOff ∨ (s.link p).locked then s
    else s.setLink p { s.link p with locked := true, urd := none, errRun := 0, quiet := 0, comma := true })

/-- A write of PLK_TRAIN_p with START = 1 and the given SWEEP (R295). -/
def State.trainStart (s : State) (p : Nat) (sweep : Bool) : State :=
  let s := s.put PLK_TRAIN_SWEEP (if sweep then 1 else 0) p
  let st := s.linkState p
  if (st = lsOff ∨ st = lsUp ∨ st = lsFailed) ∧ s.get PLK_CTRL_MODE p ≠ 0 then
    s.setLink p { s.link p with start := true }
  else s.set1 PLK_ERR_WRITE_REFUSED

/-- TRAIN_START (R295). -/
def execTrainStart (p : Fin 16) (sweep : Bool) (s : State) : Out := .next (s.trainStart p sweep)

/-- The lengths of the cyclic runs of passing taps that start at each tap (R296). -/
def tapRun (taps : List Bool) (t : Nat) : Nat :=
  ((List.range 32).foldl (fun (acc : Nat × Bool) i => if acc.2 && taps.getD ((t + i) % 32) false then (acc.1 + 1, true) else (acc.1, false)) (0, true)).1

/-- EYE and the first tap of the longest cyclic run; the lowest first tap among equals (R296). -/
def eyeOf (taps : List Bool) : Nat × Nat :=
  (List.range 32).foldl (fun b t => if b.1 < tapRun taps t then (tapRun taps t, t) else b) (0, 0)

/-- The end of SWEEP with SWEEP = 1 (R296, R299). -/
def State.sweepResult (s : State) (p : Nat) (taps : List Bool) : State :=
  let (eye, f) := eyeOf taps
  let s := s.put PLK_TRAIN_EYE eye p
  if eye < 8 then s.failTraining p 2 else
  let best := (f + (eye - 1) / 2) % 32
  let s := s.setLink p { s.link p with swept := true }
  (((s.put PLK_TRAIN_BEST best p).put PLK_TAP_TAP_USE best p).putP PLK_TAP_TAP best p).setLinkState p lsAlign

/-- A passing ALIGN loads the identity reply (R278, R297). -/
def State.loadHead (s : State) (p : Nat) : State :=
  let b := (s.link p).ident
  let w := (b.getD 0 0).toNat * 2 ^ 24 + (b.getD 2 0).toNat * 2 ^ 16 + beNat ((b.drop 3).take 2)
  (s.wr (PLK_HEAD_VERSION.addr p) (word w)).wr (PLK_HEAD_SN_SERIAL.addr p) (word (beNat ((b.drop 5).take 4)))

/-- Past a training boundary: the next state or the end of training (R295–R297, R304). -/
def State.advanceTraining (s : State) (p : Nat) : State :=
  let l := s.link p
  let st := s.linkState p
  if s.legacy p then
    if st = lsWake ∧ 16 ≤ l.train then (s.setLink p { l with k28 := false }).setLinkState p lsAlign
    else if st = lsAlign ∧ l.k28 ∧ l.locked then s.setLinkState p lsVerify
    else s
  else if st = lsWake ∧ 16 ≤ l.train then
    if l.k28 then s.setLinkState p lsSweep else s.failTraining p 1
  else if st = lsSweep ∧ !s.on PLK_TRAIN_SWEEP p ∧ l.taps.any not then s.failTraining p 3
  else if st = lsSweep ∧ 48 ≤ l.train then
    if s.on PLK_TRAIN_SWEEP p then s.sweepResult p l.taps else s.setLinkState p lsAlign
  else if st = lsAlign ∧ 56 ≤ l.train then (s.loadHead p).setLinkState p lsVerify
  else if st = lsVerify ∧ 64 ≤ l.train then s.linkUp p
  else s

/-- TRAIN_ADVANCE (R295): a training tick count that has passed a boundary of the sequence takes the link on, between the groups
`before` and `after` of the uplink. -/
def execTrainAdvance (p : Fin 16) (before after : List (BitVec 10)) (s : State) : Out :=
  .next (((s.heard p before).advanceTraining p).heard p after)

/-- PLK_MODE_WRITE (R11, R301): a write of PLK_CTRL_p.MODE. -/
def execPlkModeWrite (p : Fin 16) (v : Fin 4) (s : State) : Out :=
  .next (if v.val = 0 then
      (((s.setLink p {}).put PLK_CTRL_MODE 0 p).setLinkState p lsOff).put PLK_STATE_LINK_OK 0 p
    else if v.val = 3 then (s.set1 PLK_ERR_WRITE_REFUSED).reservedFault 5 p.val
    else if s.linkState p = lsOff then (if v.val = 2 then s.noHead p else s).put PLK_CTRL_MODE v.val p
    else s.set1 PLK_ERR_WRITE_REFUSED)

/-! The tick. -/

/-- The CRC-16 of a frame, high byte first (R277). -/
def withCrc (b : List Byte) : List Byte := b ++ beBytes 2 (crc16 b)

/-- The FLAGS byte of a downlink frame (R275, R276). -/
def State.downFlags (s : State) (p : Nat) (train fault : Bool) : Nat :=
  (if s.on COR_CODE_X_HOLD p || s.spn.slip.testBit p then 0x80 else 0) + (if s.spn.gate.testBit p then 0x40 else 0) +
    (if fault then 0x20 else 0) + (if train then 0x10 else 0)

/-- The SETPOINT frame of this tick, with its FLAGS (R275, R276). -/
def State.setpoint (s : State) (p flags : Nat) : List Byte :=
  withCrc (beBytes 2 (0x1000 + p * 256 + (s.key.tick + 1) % 256) ++ beBytes 3 (s.get COR_CODE_X_CODE p) ++ beBytes 3 (s.get COR_CODE_Y_CODE p) ++
    beBytes 3 (s.get COR_CODE_Z_CODE p) ++ [byte flags])

/-- The IDENT frame of this tick (R275, R276). -/
def State.identFrame (s : State) (p : Nat) : List Byte :=
  withCrc (beBytes 2 (0x2000 + p * 256 + (s.key.tick + 1) % 256) ++ [1#8, byte (s.get KEY_CTRL_PERIOD)] ++ List.replicate 7 0#8 ++ [0x10#8])

/-- The legacy frame of this tick, with its FLAGS (R302). -/
def State.legacyFrame (s : State) (p flags : Nat) : List Byte :=
  let c16 (c : Nat) : Nat := min 0xFFFF ((c + 0x80) / 256)
  withCrc (beBytes 2 (c16 (s.get COR_CODE_X_CODE p)) ++ beBytes 2 (c16 (s.get COR_CODE_Y_CODE p)) ++ [byte flags])

/-- M = ⌈10 µs / P⌉ (R302). -/
def State.legacyM (s : State) : Nat := (10000 + s.periodNs - 1) / s.periodNs

/-- The downlink frame of this tick in link state `st`, none where none is sent (R274, R294, R302). -/
def State.downFrame (s : State) (p st : Nat) (fault : Bool) : Option (List Byte) :=
  let flags := s.downFlags p (st == lsVerify) fault
  if s.legacy p then
    if (st = lsVerify ∨ st = lsUp ∨ st = lsFailed) ∧ (s.key.tick + 1) % s.legacyM = 0 then some (s.legacyFrame p flags) else none
  else if st = lsAlign then some (s.identFrame p)
  else if st = lsVerify ∨ st = lsUp ∨ st = lsFailed then some (s.setpoint p flags)
  else none

/-- The code groups of the downlink in this tick, with frame `f` (R268–R274, R294, R302). -/
def State.sendLine (s : State) (p st : Nat) (f : Option (List Byte)) : State :=
  let l := s.link p
  let ts := st == lsWake || st == lsSweep
  let (cs, rest) := if s.legacy p then
      let new : List Sym := match f with
        | some b => symSof :: b.map (fun b => symData b.toNat)
        | none => []
      legacySymbols ((80 - s.key.cyc % 80) % 80) s.tickLen (l.queue.map (fun c => ⟨c.1, c.2⟩)) new ts
    else (tickSymbols (l.edge % 8) s.tickLen l.edge f ts, [])
  let (gs, rd) := encodeRun l.rd cs
  s.setLink p { l with line := gs, rd := rd, queue := rest.map (fun c => (c.k, c.b)) }

/-- Send pier `p`'s downlink of this tick in link state `st` (R274, R302). -/
def State.sendFrame (s : State) (p st : Nat) (fault : Bool) : State :=
  let f := s.downFrame p st fault
  let s := match f with
    | none => s
    | some b => if s.legacy p then
        let s := s.checkExchange p
        s.setLink p { s.link p with down := b, outst := true, frame := none, sentTick := s.key.tick }
      else s.setLink p { s.link p with down := b }
  s.sendLine p st f

/-- A lit tick requested while LINK_OK is 0 (R291). -/
def State.litWithoutLink (s : State) (p : Nat) : State :=
  if (s.pier p).hand.gate && !(s.pier p).hand.hold && !s.on PLK_STATE_LINK_OK p then s.fault 5 4 1 p else s

/-- The work of the pier link in a tick: the check if it has not been made, LINK_OK, fault 004h and the downlink (R274, R286,
R291). A frame whose content is taken at φ240 goes before a later check; `was` tells whether an F0 or F1 fault was latched before the
work of the tick. -/
def State.plkTick (s : State) (p : Nat) (was : Bool) : State :=
  if s.linkState p = lsOff ∧ (s.link p).pre = none then s.litWithoutLink p else
  let done := (s.link p).checked
  let early := s.get PLK_CTRL_UL_DEADLINE p ≤ 240
  let s := if done then s else if early then s.checkTick p else s.handLinkOk p
  let s := s.litWithoutLink p
  let s := match (s.link p).pre with
    | some (st, f) => s.sendFrame p st (f || (s.forced && !was))
    | none => s.sendFrame p (s.linkState p) s.forced
  if done ∨ early then s else s.checkTick p

/-- The uplink of the tick that ends, outside frames: the receiver, the tap of a tick of SWEEP, a K28.5 for WAKE, the ticks without
one (R271, R272, R293, R295, R296). -/
def State.plkRx (s : State) (p : Nat) (up : Option (List (BitVec 10))) : State :=
  let st := s.linkState p
  if st = lsOff then s else
  let (pass, s) := match up with
    | some gs => let (r, s) := s.rx p gs; (decide (24 ≤ tsRun r.1), s)
    | none =>
      let l := s.link p
      (true, s.setLink p { l with comma := true, locked := true, urd := if l.locked then l.urd else none, errRun := 0 })
  let l := s.link p
  (s.setLink p { l with
    k28 := l.k28 || l.comma, quiet := if l.comma then 0 else l.quiet + 1, taps := if st = lsSweep then l.taps ++ [pass] else l.taps }).quietLoss p

/-- The EDGE byte of the edge of tick `n` at `cyc` RT cycles (R269, R273). -/
def edgeByte (n cyc : Nat) : Nat := n % 32 * 8 + (8 - cyc % 8) % 8

/-- The training ticks at a tick edge, before its commits (R295, R300). -/
def State.plkCount (s : State) (p : Nat) : State :=
  let l := s.link p
  let st := s.linkState p
  let training := 1 ≤ st ∧ st ≤ 4
  let s := s.setLink p { l with checked := false, pre := none, comma := false, train := if training then l.train + 1 else l.train }
  if training then (s.put PLK_STATE_TRAIN_TICK (min 63 (l.train + 1)) p).advanceTraining p else s

/-- The pier link at a tick edge, the tick counter already advanced: a requested start, the edge sequence (R273, R295). -/
def State.plkEdge (s : State) (p : Nat) : State :=
  let s := if (s.link p).start then s.beginTraining p 0 else s
  if s.linkState p = lsOff ∨ s.legacy p then s
  else s.setLink p { s.link p with edge := edgeByte s.key.tick s.key.cyc }

/-- A commit that changes PERIOD retrains every link in UP or in training (R300). -/
def State.retrain (s : State) : State :=
  forN 16 (fun p s => if 1 ≤ s.linkState p ∧ s.linkState p ≤ 5 then s.beginTraining p 8 else s) s

/-- The start position of an abandoned remainder after a link failure (R289). -/
def State.linkFail (s : State) (p : Nat) : Option (Nat × Int × Int) :=
  let f := (s.link p).failFrom
  if f = 0 then none else
  match (s.pier p).hist.find? (fun h => h.1 + 2 == f) with
  | some (_, x, y) => some (f, x, y)
  | none => none

end Sys2Proof.Machine
end

