-- ==== Sys2Proof/Machine/Lsr.lean ====
section
/-! DEFINITION. The laser channel interface: lag lines, gates, power words, status inputs, the emission permit and test
pulses (spec/08_laser_channels.md). -/

namespace Sys2Proof.Machine

/-- A field with one bit per pier is set for pier `p`. -/
def State.lsrBit (s : State) (f : Fref) (p : Nat) : Bool := s.bit f p

/-- Set the gate level at pier `p`'s pad (LSR_IN_B.GATE_PAD); a new interval begins at a change (R330). -/
def State.setPad (s : State) (p : Nat) (v : Bool) : State :=
  if s.bit LSR_IN_B_GATE_PAD p = v then s else
  let s := s.putBit LSR_IN_B_GATE_PAD p v
  if v then { s with lsr := { s.lsr with seen := setBit s.lsr.seen p (s.bit LSR_IN_B_EMA p), missed := setBit s.lsr.missed p false, uncmd := setBit s.lsr.uncmd p false } }
  else { s with lsr := { s.lsr with uncmd := setBit s.lsr.uncmd p false } }

/-- Force every gate pad off (R331, R334). -/
def State.padsOff (s : State) : State := forN 16 (fun p s => s.setPad p false) s

/-- The 3.3 V bank is powered; its balls are at high impedance otherwise (R752). -/
def State.bank33 (s : State) : Bool := s.vlt.main && s.vlt.rails.testBit 4

/-- The levels of LGp_P and LGp_M: off is LGp_P low, with LGp_M high at a differential gate (R311, R778); both are low during device
reset (R307), and they float while the bank is unpowered (R309). -/
def State.gatePins (s : State) (p : Nat) : Option (Bool × Bool) :=
  let on := s.bit LSR_IN_B_GATE_PAD p
  if !s.bank33 then none else if s.vlt.por then some (false, false) else some (on, s.on LSR_CTRL_DIFF p && !on)

/-- The pad follows the delayed level of G while the terms of R311 hold (R778). -/
def State.padFollow (s : State) (p : Nat) : State :=
  s.setPad p (s.lsr.level.testBit p && s.lsr.terms.testBit p && !s.lsr.permOff && !s.on LSR_PERMIT_DISCREP && s.mode != 7)

/-- Pier `p`'s fine delay line runs for `n` taps of 0.5 ns: the level changes that are due reach the pad, in order (R312, R313). -/
def State.fineRun (s : State) (p n : Nat) : State :=
  let l := (Tab.get [] s.lsr.flight p).map (fun c => (c.1, c.2 - n))
  (l.takeWhile (fun c => c.2 == 0)).foldl (fun s c => ({ s with lsr := { s.lsr with level := setBit s.lsr.level p c.1 } }).padFollow p)
    { s with lsr := { s.lsr with flight := Tab.put s.lsr.flight p (l.dropWhile (fun c => c.2 == 0)) } }

/-- The fine delay lines run up to RT cycle `c` of the tick; one RT cycle is five taps (R312). -/
def State.fineTo (s : State) (c : Nat) : State :=
  let n := 5 * (c - s.lsr.cycle)
  let s := forN 16 (fun p s => s.fineRun p n) s
  { s with lsr := { s.lsr with cycle := max c s.lsr.cycle } }

/-! The lag line. -/

/-- The entries of pier `p`'s lag line: as many as COARSE in force, dark ones where none is held (R315). -/
def State.lagLine (s : State) (p : Nat) : List Lag :=
  let l := Tab.get [] s.lsr.line p
  List.replicate (s.get LSR_DELAY_COARSE p - l.length) ({} : Lag) ++ l

/-- A dark entry: G, W, PLANNED and GATE_REQ are 0, every other value travels on (R315). -/
def Lag.dark (e : Lag) : Lag := { e with g := false, w := 0, hand := { e.hand with gate := false, planned := 0 } }

/-- Make every lag line dark (R315). -/
def State.darken (s : State) : State :=
  { s with lsr := { s.lsr with line := s.lsr.line.map (fun c => (c.1, c.2.map Lag.dark)) } }

/-- What leaves pier `p`'s lag line in this tick (R314). -/
def State.lagOut (s : State) (p : Nat) : Lag := Tab.get {} s.lsr.out p

/-- The tick of pier `p`'s lag line: the values handed for the next tick enter, the oldest leave (R314). -/
def State.lagTick (s : State) (p : Nat) : State :=
  let e : Lag := { hand := (s.pier p).hand, g := s.spn.gate.testBit p, w := Tab.get 0 s.spn.weight p }
  let l := s.lagLine p ++ [e]
  { s with lsr := { s.lsr with out := Tab.put s.lsr.out p (l.headD {}), line := Tab.put s.lsr.line p (l.drop 1) } }

/-- A commit changes C in force to its new value (R315): the line restarts; the answer holds the image numbers that
were in it, oldest first. -/
def State.lagRestart (s : State) (p : Nat) : List Nat × State :=
  let imgs := (Tab.get [] s.lsr.line p).filterMap (fun e => e.hand.image)
  (imgs, { s with lsr := { s.lsr with line := Tab.put s.lsr.line p (List.replicate (s.get LSR_DELAY_COARSE p) ({} : Lag)) } })

/-! The power word. -/

/-- The permit is present as accepted (R333). -/
def State.permit (s : State) : Bool := s.on LSR_PERMIT_PERMIT

/-- The level of the power link in RT cycle `c` of a tick with the word `w` (R320): strobe, sync, Manchester bits, else low. -/
def lpWave (w c : Nat) : Bool :=
  if c < 8 then true
  else if 280 ≤ c ∧ c < 344 then w.testBit (31 - (c - 280) / 2) == (c % 2 == 1)
  else decide (272 ≤ c ∧ c < 276)

/-- The level of pier `p`'s power link in RT cycle `c` of the tick whose word was launched; low with LINK_EN = 0 (R320, R322). -/
def State.lpLevel (s : State) (p c : Nat) : Bool := s.lsr.linkOn.testBit p && lpWave (s.get LSR_WORD_WORD p) c

/-- CRC-8 of the three bytes of a power word (R321). -/
def wordCrc (power cmd : Nat) : Nat := crc8 [byte (power / 256), byte power, byte cmd]

/-- A gate sweep runs on pier `p` (R620). -/
def State.sweepOn (s : State) (p : Nat) : Bool := match s.cal.swp with
  | some w => w.pier == p
  | none => false

/-- The fine delay of pier `p` in taps: FINE in force, or the sweep's own during one (R312, R620). -/
def State.fineDelay (s : State) (p : Nat) : Nat := match s.cal.swp with
  | some w => if w.pier = p then w.f else s.get LSR_DELAY_FINE p
  | none => s.get LSR_DELAY_FINE p

/-- The power word of this tick for pier `p`, from the loop engine's word (R318–R320, R337). -/
def State.powerTick (s : State) (p w : Nat) : State :=
  let e := s.lagOut p
  let full := w * e.w / 0x8000
  let lim := s.get LSR_LIMIT_LIMIT p
  let power := min full lim
  let limited := lim < full
  let s := if limited then
      let s := (s.incSat LSR_CNT_A_LIMITED p).set1 LSR_FLAGS_P_LIMITED p
      if s.lsr.limRun.testBit p then s else s.fault 6 8 3 p
    else s
  let test := Tab.get 0 s.lsr.test p = 2
  let s := { s with lsr := { s.lsr with limRun := setBit s.lsr.limRun p limited, sent := Tab.put s.lsr.sent p power } }
  let en := s.on LSR_CMD_ENABLE_REQ p && s.on LSR_PERMIT_MODE_ALLOW && s.on LSR_PERMIT_EMIT_EN && s.permit && !s.forced
  let sweep := s.sweepOn p && decide (2 ≤ Tab.get 0 s.lsr.test p)
  let out := if sweep then s.get CAL_SWP_CFG_POWER else if test then s.get LSR_TEST_PWR_POWER p else power
  let cmd := (if en then 0x80 else 0) + (if e.g || test || sweep then 0x40 else 0) + s.get LSR_CMD_USER p
  if s.lsr.linkOn.testBit p then s.put LSR_WORD_WORD (out * 65536 + cmd * 256 + wordCrc out cmd) p else s

/-! The gate. -/

/-- MODE_ALLOW as the mode gives it (R677). -/
def State.modeAllow (s : State) : Bool := s.mode == 4 || (s.mode == 6 && s.on SEC_MODE_LASERS)

/-- The terms of R311 other than G that hold for pier `p` at the edge. -/
def State.gateTerms (s : State) (p : Nat) : Bool :=
  s.on LSR_PERMIT_MODE_ALLOW && s.on LSR_PERMIT_EMIT_EN && s.on PLK_STATE_LINK_OK p && s.lsr.gov.testBit p &&
    !s.lsr.gov.testBit (16 + p) && !s.forced && !s.lsr.permOff && !s.on LSR_PERMIT_DISCREP

/-- At a tick edge, the faults of a gate level that leaves the lag line (R291, R328, R338), its level into the fine delay line, and
the pad (R311–R313, R337, R778). -/
def State.gateEdge (s : State) (p : Nat) : State :=
  let g := (s.lagOut p).g
  let ready := s.lsr.gov.testBit p
  let s := if g && !ready then s.fault 6 2 1 p else s
  let s := if s.lsr.fell.testBit p && !g && !s.lsr.lostRun.testBit p then s.fault 6 9 3 p else s
  let s := if g && !s.on LSR_PERMIT_EMIT_EN then s.fault 6 7 1 p else s
  let t := Tab.get 0 s.lsr.test p
  let flight := Tab.get [] s.lsr.flight p ++ [(g || decide (2 ≤ t), s.fineDelay p)]
  let s := { s with
    lsr := { s.lsr with
      test := Tab.put s.lsr.test p (if t = 0 then 0 else min 3 (t + 1))
      cur := Tab.put s.lsr.cur p (s.lagOut p)
      lostRun := setBit s.lsr.lostRun p (!ready && (s.lsr.lostRun.testBit p || s.lsr.fell.testBit p))
      terms := setBit s.lsr.terms p (s.gateTerms p)
      flight := Tab.put s.lsr.flight p flight } }
  (s.fineRun p 0).padFollow p

/-- The laser channel interface at a tick edge: MODE_ALLOW, EMIT_EN, the permit's pad path, dark lag lines, gates and
power links (R311, R315, R322, R327, R331, R677). -/
def State.lsrEdge (s : State) (eperm emitEn : Bool) : State :=
  let was := s.on LSR_PERMIT_MODE_ALLOW
  let s := (s.put LSR_PERMIT_MODE_ALLOW (if s.modeAllow then 1 else 0)).put LSR_PERMIT_EMIT_EN (if emitEn then 1 else 0)
  let forced := s.forced
  let prev := s.lsr.cur
  let s := if (forced && !s.lsr.forced) || (was && !s.modeAllow) then s.darken else s
  let link := forN 16 (fun p m => setBit m p (s.on LSR_CTRL_LINK_EN p)) 0
  let s := { s with lsr := { s.lsr with forced := forced, permOff := !eperm, linkOn := link, cycle := 0 } }
  let s := forN 16 (fun p s => s.gateEdge p) s
  { s with lsr := { s.lsr with gov := s.lsr.gov2, fell := s.lsr.fell2, fell2 := 0, prev := prev, sentPrev := s.lsr.sentCur, sentCur := s.lsr.sent } }

/-! Status inputs. -/

/-- A fall of READY (R328). -/
def State.readyFall (s : State) (p : Nat) (early : Bool) : State :=
  let s := (s.incSat LSR_CNT_B_NOT_READY p).set1 LSR_FLAGS_P_NOT_READY p
  if early then { s with lsr := { s.lsr with fell := setBit s.lsr.fell p true } }
  else { s with lsr := { s.lsr with fell2 := setBit s.lsr.fell2 p true } }

/-- A level of an LSR_IN_A bit is accepted: it governs the next edge, or the one after it from φ240 on (R327). -/
def State.govern (s : State) (b : Nat) (v early : Bool) : State :=
  { s with lsr := { s.lsr with gov2 := setBit s.lsr.gov2 b v, gov := if early then setBit s.lsr.gov b v else s.lsr.gov } }

/-- A permit channel is accepted as permitting or removed (R331, R333, R335). -/
def State.permitAccept (s : State) (ch : Fref) (v : Bool) : State :=
  let was := s.permit
  let s := s.put ch (if v then 1 else 0)
  let now := s.on LSR_PERMIT_CH_A && s.on LSR_PERMIT_CH_B
  let s := s.put LSR_PERMIT_PERMIT (if now then 1 else 0)
  let s := if now then s.dropCause 0x1805 else ({ s with lsr := { s.lsr with permOff := true } }).padsOff
  if was && !now then
    if s.on LSR_PERMIT_MODE_ALLOW then (s.set1 LSR_FLAGS_PERMIT_LOST).fault 6 5 1 else s.fault 6 5 3
  else s

/-- STATUS_INPUT_ACCEPT (R326–R329, R333, R335): the level of a ball that has held 100 ns. -/
def execStatusInputAccept (b : LsrBall) (level : Bool) (phase : Nat) (s : State) : Out :=
  let early := phase < 240
  let s := s.fineTo phase
  .next (match b with
    | .lrdy p =>
      if s.bit LSR_IN_A_READY p.val = level then s else
      let s := (s.putBit LSR_IN_A_READY p.val level).govern p.val level early
      if level then s else s.readyFall p.val early
    | .lalmN p =>
      if s.bit LSR_IN_A_ALARM p.val = !level then s else
      let s := (s.putBit LSR_IN_A_ALARM p.val (!level)).govern (16 + p.val) (!level) early
      if level then s.dropCause 0x1801 p.val
      else ((s.incSat LSR_CNT_A_ALARM p.val).set1 LSR_FLAGS_P_ALARM p.val).fault 6 1 (if s.on LSR_PERMIT_MODE_ALLOW then 1 else 3) p.val
    | .lema p =>
      let s := s.putBit LSR_IN_B_EMA p.val level
      if level && s.bit LSR_IN_B_GATE_PAD p.val then { s with lsr := { s.lsr with seen := setBit s.lsr.seen p.val true } } else s
    | .epermA => s.permitAccept LSR_PERMIT_CH_A level
    | .epermBN => s.permitAccept LSR_PERMIT_CH_B (!level))

/-- PERMIT_PAD_REMOVAL (R331). -/
def execPermitPadRemoval (s : State) : Out := .next ({ s with lsr := { s.lsr with permOff := true } }).padsOff

/-- PERMIT_DISCREPANCY (R334): the channels have differed for 10 ms. -/
def execPermitDiscrepancy (s : State) : Out :=
  .next (if s.get LSR_PERMIT_CH_A ≠ s.get LSR_PERMIT_CH_B ∧ !s.on LSR_PERMIT_DISCREP then
    (((s.set1 LSR_PERMIT_DISCREP).set1 LSR_FLAGS_DISCREP).padsOff).fault 6 6 1
  else s)

/-- DISCREP_CLEAR (R334): both channels have been removed together for 1 ms. -/
def execDiscrepClear (s : State) : Out :=
  .next (if !s.on LSR_PERMIT_CH_A && !s.on LSR_PERMIT_CH_B then (s.put LSR_PERMIT_DISCREP 0).dropCause 0x1806 else s)

/-- EMA_MISSING (R330): the pad has been on for `on100ns` units of 100 ns; recorded once per on-interval. -/
def execEmaMissing (p : Fin 16) (on100ns : Nat) (s : State) : Out :=
  .next (if s.on LSR_CTRL_EMA_CHECK p && s.bit LSR_IN_B_GATE_PAD p && decide (s.get LSR_EMA_WIN_ON_MAX p ≤ on100ns) &&
      !s.lsr.seen.testBit p && !s.lsr.missed.testBit p then
    let s := { s with lsr := { s.lsr with missed := setBit s.lsr.missed p true } }
    ((s.incSat LSR_CNT_B_EMA_MISS p).set1 LSR_FLAGS_P_EMA_MISSING p).fault 6 3 1 p
  else s)

/-- UNCMD_EMISSION (R330): the pad has been off for `off100ns` units of 100 ns and LEMAp is accepted high; recorded
once per off-interval. -/
def execUncmdEmission (p : Fin 16) (off100ns : Nat) (s : State) : Out :=
  .next (if s.on LSR_CTRL_EMA_CHECK p && !s.bit LSR_IN_B_GATE_PAD p && decide (s.get LSR_EMA_WIN_OFF_MAX p ≤ off100ns) &&
      s.bit LSR_IN_B_EMA p && !s.lsr.uncmd.testBit p && decide (2 ≤ s.mode) then
    let s := { s with lsr := { s.lsr with uncmd := setBit s.lsr.uncmd p true } }
    ((s.incSat LSR_CNT_B_UNCMD p).set1 LSR_FLAGS_P_UNCMD_EMIT p).fault 6 4 0 p
  else s)

/-! The test pulse. -/

/-- The conditions of R337. -/
def State.testOk (s : State) (p : Nat) : Bool :=
  s.mode == 6 && s.on LSR_PERMIT_MODE_ALLOW && decide (s.pierState p ≤ 1) && s.permit && s.bit LSR_IN_A_READY p &&
    s.on PLK_STATE_LINK_OK p && !s.bit LSR_IN_A_ALARM p && !s.on LSR_TEST_BUSY p

/-- Fire a test pulse, or refuse it (R337). -/
def State.testFire (s : State) (p : Nat) : State :=
  if s.testOk p then ({ s with lsr := { s.lsr with test := Tab.put s.lsr.test p 1, testTick := Tab.put s.lsr.testTick p ((s.key.tick + 1) :: (Tab.get [] s.lsr.testTick p).filter (fun t => decide (s.key.tick ≤ t + 3))) } }).set1 LSR_TEST_BUSY p
  else (s.set1 LSR_FLAGS_P_TEST_REFUSED p).fault 6 0xA 3 p

/-- TEST_FIRE (R337, R339): a write of LSR_TEST_p with FIRE = 1 and a WIDTH; a WIDTH below 10 is reserved (R11); while
BUSY the write changes nothing and both refusals are reported. -/
def execTestFire (p : Fin 16) (width : BitVec 16) (s : State) : Out :=
  .next (if s.on LSR_TEST_BUSY p then (s.set1 LSR_FLAGS_WRITE_REFUSED).testFire p
    else if width.toNat < 10 then s.reservedFault 6
    else (s.put LSR_TEST_WIDTH width.toNat p).testFire p)

/-- The end of a test pulse (R337). -/
def State.testEnd (s : State) (p : Nat) : State :=
  let s := s.fineRun p (s.fineDelay p)
  (({ s with lsr := { s.lsr with test := Tab.put s.lsr.test p 0, level := setBit s.lsr.level p false } }).setPad p false).put LSR_TEST_BUSY 0 p

/-- TEST_PULSE_END (R337): a pulse that is on at the pad ends. -/
def execTestPulseEnd (p : Fin 16) (s : State) : Out := .next (if Tab.get 0 s.lsr.test p = 3 then s.testEnd p else s)

/-! Mailbox commands of group 05h (R134). -/

/-- A non-zero mask over sixteen piers in payload word `i`. -/
def Req.maskOk (q : Req) (i : Nat) : Nat × Bool := (i, decide (0 < q.w i ∧ q.w i < 65536))

/-- LSR GATE_SET. -/
def execLsrGateSet (s : State) : Out := runCmd 0x1400 s (fun q s =>
  writer q 0x220 [(0, decide (q.w 0 < 16)), (1, decide (q.w 1 < 256)), (2, decide (q.w 2 < 2000)), (3, decide (q.w 3 < 2))] s (fun s =>
    ((s.putP LSR_DELAY_COARSE (q.w 1) (q.w 0)).putP LSR_DELAY_FINE (q.w 2) (q.w 0)).putP LSR_CTRL_DIFF (q.w 3) (q.w 0)))

/-- LSR POWER_LIMIT. -/
def execLsrPowerLimit (s : State) : Out := runCmd 0x1401 s (fun q s =>
  writer q 0x20 [q.maskOk 0, (1, decide (0 < q.w 1 ∧ q.w 1 < 65536))] s (fun s =>
    forPiers (q.w 0) (fun p s => s.putP LSR_LIMIT_LIMIT (q.w 1) p) s))

/-- LSR LASER_CMD (R319). -/
def execLsrLaserCmd (s : State) : Out := runCmd 0x1402 s (fun q s =>
  writer q 0x20 [(0, decide (q.w 0 < 16)), (1, decide (q.w 1 < 256) && !(q.w 1).testBit 6)] s (fun s =>
    (s.putP LSR_CMD_ENABLE_REQ (q.w 1 / 128) (q.w 0)).putP LSR_CMD_USER (q.w 1 % 64) (q.w 0)))

/-- LSR STATUS (R333). -/
def execLsrStatus (s : State) : Out := runCmd 0x1403 s (fun _ s =>
  reader [] s (fun s => okReply [s.get LSR_PERMIT_CH_B * 2 + s.get LSR_PERMIT_CH_A, s.get LSR_IN_A_READY, s.get LSR_IN_A_ALARM, s.get LSR_IN_B_EMA]))

/-- LSR EMA_SET. -/
def execLsrEmaSet (s : State) : Out := runCmd 0x1404 s (fun q s =>
  let r (i : Nat) : Nat × Bool := (i, decide (0 < q.w i ∧ q.w i < 65536))
  writer q 0x20 [q.maskOk 0, (1, decide (q.w 1 < 2)), r 2, r 3] s (fun s =>
    forPiers (q.w 0) (fun p s => ((s.putP LSR_CTRL_EMA_CHECK (q.w 1) p).putP LSR_EMA_WIN_ON_MAX (q.w 2) p).putP LSR_EMA_WIN_OFF_MAX (q.w 3) p) s))

end Sys2Proof.Machine
end

