-- ==== Sys2Proof/Machine/Afe.lean ====
section
/-! DEFINITION. The melt-pool analog front end: samples, parity, open inputs, offset measurement, exposure sums and
auxiliary inputs (spec/09_meltpool_frontend.md). -/

namespace Sys2Proof.Machine

/-- State of melt-pool input `i`. -/
def State.afeIn (s : State) (i : Nat) : AfeIn := Tab.get {} s.afe.ins i

/-- Replace the state of input `i`. -/
def State.setAfeIn (s : State) (i : Nat) (a : AfeIn) : State := { s with afe := { s.afe with ins := Tab.put s.afe.ins i a } }

/-- Bits of a sample word (R345). -/
def swUsable (w : Nat) : Bool := w / 2 ^ 20 == 8
def swBlocks (w : Nat) : Bool := w.testBit 20 || w.testBit 21
def swGain (w : Nat) : Nat := w / 2 ^ 16 % 8
def swValue (w : Nat) : Int := toSigned 16 (w % 2 ^ 16)

/-- The input is shorted for offset measurement (R352, R618). -/
def State.calInput (s : State) (i : Nat) : Bool :=
  (decide (0 < s.afe.calLeft) && s.afe.calPier == i / 2) || (s.cal.pieceOn && s.get CAL_STATUS_MC_PIER == i / 2)

/-- Declare input `i` open (R348). -/
def State.declareOpen (s : State) (i : Nat) : State :=
  if s.on AFE_IN_STAT_OPEN i then s else
  ((s.set1 AFE_IN_STAT_OPEN i).set1 AFE_FLAGS_OPEN).fault 7 2 2 i

/-- INPUT_OPEN_DECLARE (R348): 64 consecutive results have been 8000h; at the 64th of them the front end does this itself. -/
def execInputOpenDeclare (i : Fin 32) (s : State) : Out :=
  .next (if 64 ≤ (s.afeIn i.val).low then s.declareOpen i.val else s)

/-- The counts of a passing result of value `v`, and the declaration they lead to (R348). -/
def State.openCount (s : State) (i v : Nat) : State :=
  let a := s.afeIn i
  let low := if v = 0x8000 then a.low + 1 else 0
  let high := if s.on AFE_IN_STAT_OPEN i && v != 0x8000 then a.high + 1 else 0
  let s := s.setAfeIn i { a with low := min low 64, high := min high 64 }
  if 64 ≤ low then after (execInputOpenDeclare (Fin.ofNat 32 i)) s
  else if 64 ≤ high then (s.setAfeIn i { s.afeIn i with high := 0 }).put AFE_IN_STAT_OPEN 0 i
  else s

/-- The counts of overrange results (R347). -/
def State.ovrCount (s : State) (i : Nat) (ovr : Bool) : State :=
  let a := s.afeIn i
  let s := s.setAfeIn i { a with ovr := ovr }
  if ovr then
    let s := (s.incSat AFE_IN_STAT_OVR_CNT i).set1 AFE_FLAGS_OVR
    if a.ovr then s else s.fault 7 1 3 i
  else s

/-- A parity failure (R349). -/
def State.parityFail (s : State) (i : Nat) : State :=
  let a := s.afeIn i
  let s := ((s.setAfeIn i { a with par := true }).incSat AFE_IN_STAT_PARITY i).set1 AFE_FLAGS_PARITY
  if a.par then s else s.fault 7 3 3 i

/-- A sample joins the exposure-synchronised sum of its pier (R354). -/
def State.xsumAdd (s : State) (i : Nat) (v : Int) : State :=
  if i % 2 = 0 ∧ s.on AFE_XSYNC_EN (i / 2) then
    let (sum, n, id) := Tab.get (0, 0, 0) s.afe.xsum (i / 2)
    { s with afe := { s.afe with xsum := Tab.put s.afe.xsum (i / 2) (satSigned 32 (sum + v), min (n + 1) 0xFFFF, id) } }
  else s

/-- The result of input `i` as 16 bits: the trim in force acts before the converter, which saturates (R340, R351); a result that fails
its parity check is taken as received (R349). -/
def State.afeValue (s : State) (i : Nat) (v : Int) (ok : Bool) : Nat :=
  if ok then ofSigned 16 (satSigned 16 (v + 4 * s.getS AFE_OFS_TRIM i)) else ofSigned 16 v

/-- One result of input `i` (R344–R349, R352, R354): `v` is what the input converts to without trim, in LSB, or the value received where
the parity check fails; the φ200 sample or the φ0. -/
def State.afeResult (s : State) (i : Nat) (v : Int) (ok late : Bool) : State :=
  let v := s.afeValue i v ok
  let settle := !late && (s.afeIn i).settle
  let s := if late then s else s.setAfeIn i { s.afeIn i with settle := false }
  let cal := s.calInput i
  let s := if cal then s.setAfeIn i { s.afeIn i with sum := (s.afeIn i).sum + toSigned 16 v } else s
  let ovr := v = 0x7FFF ∨ v = 0x8000
  let s := if ok then ((s.setAfeIn i { s.afeIn i with par := false }).openCount i v).ovrCount i ovr
    else
      let s := s.parityFail i
      if late then s.ovrCount i ovr else s
  let s := if ok then s.xsumAdd i (toSigned 16 v) else s
  let w := (if ok then 2 ^ 23 else 0) + (if settle then 2 ^ 22 else 0) + (if cal then 2 ^ 21 else 0) +
    (if s.on AFE_IN_STAT_OPEN i then 2 ^ 20 else 0) + (if ovr then 2 ^ 19 else 0) + s.get AFE_IN_CTRL_GAIN i * 2 ^ 16 + v
  let a := s.afeIn i
  if late then (s.setAfeIn i { a with s200 := w }).put AFE_IN_DATA_S200 v i
  else (s.setAfeIn i { a with s0 := w }).put AFE_IN_DATA_S0 v i

/-- The hearth die is lost (R350). -/
def State.hearthLost (s : State) : State :=
  if s.afe.armed && s.on AFE_STATUS_HEARTH_OK then ((s.put AFE_STATUS_HEARTH_OK 0).set1 AFE_FLAGS_LINK_LOST).fault 7 7 1 else s

/-- HEARTH_OK becomes 1 (R350). -/
def State.hearthRestored (s : State) : State :=
  if s.on AFE_STATUS_HEARTH_OK then s
  else (({ s with afe := { s.afe with armed := true } }).set1 AFE_STATUS_HEARTH_OK).dropCause 0x1C07

/-- HEARTH_LINK_LOST (R350): no result has passed for four consecutive samples; at the fourth of them the front end does this
itself. -/
def execHearthLinkLost (s : State) : Out := .next (if 4 ≤ s.afe.bad then s.hearthLost else s)

/-- HEARTH_OK_RESTORE (R350): every result of 64 consecutive samples has passed; at the 64th of them the front end does this itself. -/
def execHearthOkRestore (s : State) : Out := .next (if 64 ≤ s.afe.good then s.hearthRestored else s)

/-- The runs of samples of R350. -/
def State.hearthCount (s : State) (any all : Bool) : State :=
  let bad := if any then 0 else s.afe.bad + 1
  let good := if all then s.afe.good + 1 else 0
  let s := { s with afe := { s.afe with bad := min bad 64, good := min good 64 } }
  if 4 ≤ bad then after execHearthLinkLost s else after execHearthOkRestore s

/-- The results of one sampling edge for all 32 inputs (R344–R350). -/
def State.afeSample (s : State) (rs : List AfeRes) (late : Bool) : State :=
  let res (i : Nat) : Int × Bool := match rs.find? (fun r => r.i == i) with
    | some r => if late then (r.v200, r.ok200) else (r.v0, r.ok0)
    | none => (0, true)
  let s := forN 32 (fun i s => s.afeResult i (res i).1 (res i).2 late) s
  s.hearthCount ((List.range 32).any (fun i => (res i).2)) ((List.range 32).all (fun i => (res i).2))

/-- The φ0 results of pier `p` are present (R349). -/
def State.afePresent (s : State) (p : Nat) : Bool :=
  (s.afeIn (2 * p)).s0.testBit 23 && (s.afeIn (2 * p + 1)).s0.testBit 23

/-- End the offset measurement (R352): MEAS, BUSY and DONE. -/
def State.calWrite (s : State) : State :=
  if !s.afe.calDue then s else
  let meas (s : State) (i : Nat) : State := s.putS AFE_OFS_MEAS (satSigned 16 ((s.afeIn i).sum / 32)) i
  let p := s.afe.calPier
  let s := meas (meas s (2 * p)) (2 * p + 1)
  ({ s with afe := { s.afe with calDue := false } }.put AFE_CAL_CTRL_BUSY 0).set1 AFE_CAL_CTRL_DONE

/-- The inputs of pier `p` are reconnected: their next φ0 result carries SETTLING (R352). -/
def State.calReconnect (s : State) (p : Nat) : State :=
  (s.setAfeIn (2 * p) { s.afeIn (2 * p) with settle := true }).setAfeIn (2 * p + 1) { s.afeIn (2 * p + 1) with settle := true }

/-- The offset measurement and the auxiliary settling times at a tick edge, the counter already advanced (R352,
R357). -/
def State.afeEdge (s : State) : State :=
  let c := s.afe
  let s := if c.calWait then
      let z (s : State) (i : Nat) : State := s.setAfeIn i { s.afeIn i with sum := 0 }
      z (z { s with afe := { s.afe with calWait := false, calLeft := 256 } } (2 * c.calPier)) (2 * c.calPier + 1)
    else if c.calLeft = 1 then ({ s with afe := { s.afe with calLeft := 0, calDue := true } }).calReconnect c.calPier
    else { s with afe := { s.afe with calLeft := c.calLeft - 1 } }
  forN 8 (fun k s => s.putBit AFE_STATUS_AUX_SETTLING k (decide (s.key.tick < Tab.get 0 s.afe.auxSettle k))) s

/-- A START of an offset measurement is refused, or the measurement ends early (R353); the fault names input `i` (R361; log
entry 65). -/
def State.calRefuse (s : State) (i : Nat) : State := (s.set1 AFE_FLAGS_CAL_REFUSED).fault 7 8 3 i

/-- Start an offset measurement on pier `p` (R352). -/
def State.calStart (s : State) (p : Nat) : State :=
  if s.on AFE_CAL_CTRL_BUSY then s.calRefuse (2 * p)
  else (({ s with afe := { s.afe with calPier := p, calWait := true } }).put AFE_CAL_CTRL_PIER p).set1 AFE_CAL_CTRL_BUSY

/-- OFFSET_MEAS_START (R352, R353). -/
def execOffsetMeasStart (p : Fin 16) (s : State) : Out := .next (s.calStart p.val)

/-- OFFSET_MEAS_DONE (R352): the 256 ticks have passed. -/
def execOffsetMeasDone (s : State) : Out := .next s.calWrite

/-- VAA_LOSS (R350, R752): the hearth die reports loss of VAA. -/
def execVaaLoss (s : State) : Out := .next ({ s with afe := { s.afe with good := 0 } }).hearthLost

/-! Exposure-synchronised sums (R354). -/

/-- Comparator `k` fires: the sums bound to it are latched and restarted; a read of AFE_XSUM_p brings the count and ID to AFE_XCNT_p. -/
def State.xsyncLatch (s : State) (k : Nat) : State :=
  forN 16 (fun p s =>
    if s.on AFE_XSYNC_EN p && s.get AFE_XSYNC_TT p == k then
      let (sum, n, id) := Tab.get (0, 0, 0) s.afe.xsum p
      let v := ofSigned 32 sum + 2 ^ 32 * (id * 65536 + n)
      let s := s.setWide (AFE_XSUM_SUM.addr p) v
      { s with afe := { s.afe with xsum := Tab.put s.afe.xsum p (0, 0, s.get AFE_XSYNC_SETTINGS_ID p) } }
    else s) s

/-! Auxiliary inputs. -/

/-- One latched auxiliary result (R355–R359). -/
def State.auxResult (s : State) (k v : Nat) : State :=
  let v := v % 2 ^ 24
  let top := v = 0x7FFFFF
  let sat := top ∨ v = 0x800000
  let run := if top ∧ s.on AFE_AUX_CFG_BURNOUT_EN k then min 3 (Tab.get 0 s.afe.burn k + 1) else 0
  let burnt := 3 ≤ run
  let ovr := sat ∧ !(decide burnt)
  let was := s.on AFE_AUX_STAT_BURNOUT k
  let wasOvr := s.afe.auxOvr.testBit k
  let s := { s with afe := { s.afe with burn := Tab.put s.afe.burn k run, auxOvr := setBit s.afe.auxOvr k ovr } }
  let s := (s.putS AFE_AUX_DATA_DATA (toSigned 24 v) k).incWrap AFE_AUX_STAT_SEQ k
  let s := s.put AFE_AUX_STAT_SETTLING (if s.bit AFE_STATUS_AUX_SETTLING k then 1 else 0) k
  let s := (s.put AFE_AUX_STAT_BURNOUT (if burnt then 1 else 0) k).put AFE_AUX_STAT_OVR (if ovr then 1 else 0) k
  let s := if burnt ∨ ovr then s.set1 AFE_FLAGS_AUX_FAULT else s
  let s := if burnt ∧ !was then s.fault 7 4 2 k else s
  if ovr ∧ !wasOvr then s.fault 7 5 3 k else s

/-- Latch all eight auxiliary results (R356); `res` holds the filter outputs. A start less than 1 ms after the previous one latches
the same outputs again. -/
def State.auxLatch (s : State) (res : List Nat) : State :=
  let again : Bool := match s.afe.auxAt with
    | some t => decide (s.key.frc < t + 1000000)
    | none => false
  let res := if again then s.afe.auxOut else res
  forN 8 (fun k s => s.auxResult k (res.getD k 0)) { s with afe := { s.afe with auxAt := some s.key.frc, auxOut := res } }

/-- AUX_TIMER_START (R356): the tick edge of a tick whose number is a multiple of 1,000 µs / P; the edge itself makes the start. -/
def execAuxTimerStart (res : List Nat) (s : State) : Out :=
  .next (if s.on AFE_AUX_CTRL_TIMER_EN ∧ s.key.tick % (1000000 / s.periodNs) = 0 ∧ s.afe.auxTick ≠ s.key.tick + 1 then
    State.auxLatch { s with afe := { s.afe with auxTick := s.key.tick + 1 } } res else s)

/-! Commits of groups 6 and 9. -/

/-- An offset measurement, contiguous or in gap mode, ends without a result (R353, R614, R619). -/
def State.calEnd (s : State) : State :=
  let p := s.afe.calPier
  let shorted := s.calInput (2 * p)
  let s := { s with afe := { s.afe with calWait := false, calLeft := 0, calDue := false }, cal := { s.cal with piece := none, pieceOn := false } }
  let s := if shorted then s.calReconnect p else s
  (s.put AFE_CAL_CTRL_BUSY 0).put CAL_STATUS_MC_BUSY 0

/-- What a commit changes in the front end (R345, R353, R354, R357), the register values before it in `o`. -/
def State.afeCommit (s o : State) : State :=
  let changed (f : Fref) (i : Nat) : Bool := s.get f i != o.get f i
  let s := forN 32 (fun i s => if changed AFE_IN_CTRL_GAIN i || changed AFE_OFS_TRIM i then s.setAfeIn i { s.afeIn i with settle := true } else s) s
  let hit (i : Nat) : Bool := changed AFE_IN_CTRL_GAIN i || changed AFE_OFS_TRIM i
  let p := s.afe.calPier
  let s := if (s.afe.calWait || decide (0 < s.afe.calLeft) || s.on CAL_STATUS_MC_BUSY) && (hit (2 * p) || hit (2 * p + 1)) then
      s.calEnd.calRefuse (if hit (2 * p) then 2 * p else 2 * p + 1)
    else s
  let s := forN 16 (fun p s => if changed AFE_XSYNC_EN p || changed AFE_XSYNC_TT p then
      { s with afe := { s.afe with xsum := Tab.put s.afe.xsum p (0, 0, s.get AFE_XSYNC_SETTINGS_ID p) } } else s) s
  let settle := s.key.tick + (3000000 + s.periodNs - 1) / s.periodNs
  forN 8 (fun k s => if changed AFE_AUX_CFG_GAIN k || changed AFE_AUX_CFG_BIAS k || changed AFE_AUX_CFG_BURNOUT_EN k then
      ({ s with afe := { s.afe with auxSettle := Tab.put s.afe.auxSettle k settle } }).putBit AFE_STATUS_AUX_SETTLING k true else s) s

end Sys2Proof.Machine
end

