-- ==== Sys2Proof/Machine/AxPlan.lean ====
section
/-! DEFINITION. Axis profiles (R452, R453, R455, R456): minimum-time paths under speed, acceleration and jerk limits,
in microsteps and seconds. A path pushes toward the speed limit as long as it must, then brings the axis to rest. -/

namespace Sys2Proof.Machine

/-- One update, 10 µs, in seconds (R451). -/
def axTick : Fx := fxRat 1 100000

/-- The phases (duration, jerk) that take acceleration `a` ≥ −limits to 0 while the speed changes by `dv` ≥ a|a|/2J
upward, in the direction of the change (R453). -/
def jerkChange (dv a acc jrk : Fx) : List (Fx × Fx) :=
  let half (x : Fx) : Fx := fxDiv (fxMul x x) (2 * jrk)
  if fxLt acc a then
    [(fxDiv (a - acc) jrk, -jrk), (fxDiv (dv - half a) acc, 0), (fxDiv acc jrk, -jrk)]
  else
    let sq := fxMul jrk dv + fxMul a a / 2
    if fxLe sq (fxMul acc acc) then
      let ap := fxSqrt sq
      [(fxDiv (ap - a) jrk, jrk), (fxDiv ap jrk, -jrk)]
    else
      [(fxDiv (acc - a) jrk, jrk), (fxDiv (dv - (2 * half acc - half a)) acc, 0), (fxDiv acc jrk, -jrk)]

/-- The phases that bring speed `v0` with acceleration `a0` to `v1` in minimum time (R453). -/
def velPhases (v0 a0 v1 : Fx) (acc jrk : Nat) : List Phase :=
  let acc := fxInt acc
  if jrk = 0 then
    let dv := v1 - v0
    if dv = 0 then [] else [⟨fxDiv (dv.natAbs : Int) acc, 0, v0, if dv < 0 then -acc else acc, 0⟩]
  else
    let j := fxInt jrk
    let nat := v0 + fxDiv (fxMul a0 (a0.natAbs : Int)) (2 * j)
    if nat = v1 then (if a0 = 0 then [] else chain 0 v0 a0 [(fxDiv (a0.natAbs : Int) j, if a0 < 0 then j else -j)])
    else if nat < v1 then chain 0 v0 a0 (jerkChange (v1 - v0) a0 acc j)
    else chain 0 v0 a0 ((jerkChange (v0 - v1) (-a0) acc j).map (fun p => (p.1, -p.2)))

/-- Total duration of a list of phases. -/
def phasesDur (ps : List Phase) : Fx := ps.foldl (fun a p => a + p.dur) 0

/-- Length, speed and acceleration at the end of phases that start at speed `v` and acceleration `a`. -/
def phasesEnd (v a : Fx) (ps : List Phase) : Fx × Fx × Fx := match ps.getLast? with
  | none => (0, v, a)
  | some p => (p.sAt p.dur, p.vAt p.dur, p.aAt p.dur)

/-- The first `t` of a list of phases. -/
def cutPhases : List Phase → Fx → List Phase
  | [], _ => []
  | p :: ps, t => if p.dur ≤ t then p :: cutPhases ps (t - p.dur) else if t ≤ 0 then [] else [{ p with dur := t }]

/-- Phases that start where others end: lengths are shifted by `s`. -/
def shiftPhases (s : Fx) (ps : List Phase) : List Phase := ps.map (fun p => { p with s0 := p.s0 + s })

/-- Phases followed by the shortest stop from where they end, and the total length. -/
def thenStop (v a : Fx) (ps : List Phase) (acc jrk : Nat) : List Phase × Fx :=
  let (s, v1, a1) := phasesEnd v a ps
  let q := velPhases v1 a1 0 acc jrk
  (ps ++ shiftPhases s q, s + (phasesEnd v1 a1 q).1)

/-- Bisection for the push time: the longest push whose stop does not pass `d`. -/
def pushTime (v a d : Fx) (full : List Phase) (acc jrk : Nat) : Nat → Fx → Fx → Fx
  | 0, lo, _ => lo
  | n + 1, lo, hi =>
    let mid := (lo + hi) / 2
    if (thenStop v a (cutPhases full mid) acc jrk).2 ≤ d then pushTime v a d full acc jrk n mid hi
    else pushTime v a d full acc jrk n lo mid

/-- The minimum-time path over a signed distance `d` ≥ the shortest stop (R452): its phases and where its last ramp
begins. -/
def pushPath (v a d spd : Fx) (acc jrk : Nat) : List Phase × Fx :=
  let full := velPhases v a spd acc jrk
  let (ps, len) := thenStop v a full acc jrk
  if len ≤ d then
    let (s, v1, _) := phasesEnd v a full
    let cruise : Phase := ⟨fxDiv (d - len) v1, s, v1, 0, 0⟩
    let q := velPhases v1 0 0 acc jrk
    (full ++ [cruise] ++ shiftPhases (s + d - len) q, phasesDur full + cruise.dur)
  else
    let t := pushTime v a d full acc jrk 1200 0 (phasesDur full)
    ((thenStop v a (cutPhases full t) acc jrk).1, if ps = [] then 0 else t)

/-- The same path with every direction reversed. -/
def mirror (ps : List Phase) : List Phase := ps.map (fun p => { p with s0 := -p.s0, v0 := -p.v0, a0 := -p.a0, j := -p.j })

/-- Microsteps of a position difference in 2^-32 microstep. -/
def axFx (d : Int) : Fx := d * (fxOne / 2 ^ 32 : Nat)

/-- A position in 2^-32 microstep from a length. -/
def fxAx (s : Fx) : Int := fxRound (s * (2 ^ 32 : Nat))

/-- The plan to rest at `pend` from position `p`, speed `v`, acceleration `a` (R452). -/
def planPos (p : Int) (v a : Fx) (pend : Int) (spd acc jrk : Nat) : AxPlan :=
  let a := if jrk = 0 then 0 else a
  let d := axFx (pend - p)
  let stop := (phasesEnd v a (velPhases v a 0 acc jrk)).1
  let (ps, dec) := if fxLe stop d then pushPath v a d (fxInt spd) acc jrk
    else let r := pushPath (-v) (-a) (-d) (fxInt spd) acc jrk; (mirror r.1, r.2)
  { phases := ps, dur := phasesDur ps, p0 := p, pend := some pend, dec := some dec }

/-- The plan to the velocity `vt`, which is then held (R453); at `vt` = 0 the axis comes to rest (R456). -/
def planVel (p : Int) (v a : Fx) (vt : Int) (acc jrk : Nat) : AxPlan :=
  let a := if jrk = 0 then 0 else a
  let ps := velPhases v a (fxInt vt) acc jrk
  let s := (phasesEnd v a ps).1
  if vt = 0 then { phases := ps, dur := phasesDur ps, p0 := p, pend := some (p + fxAx s), dec := some 0 }
  else { phases := ps ++ [⟨0, s, fxInt vt, 0, 0⟩], dur := phasesDur ps, p0 := p, pend := none, dec := none }

/-- Position, speed and acceleration of a plan at its update `t` (R452). -/
def AxPlan.at_ (q : AxPlan) (t : Nat) : Int × Fx × Fx :=
  let x := axTick * t
  match q.pend with
  | some e => if fxLe q.dur x then (e, 0, 0) else let (s, v, a) := sample q.phases x; (q.p0 + fxAx s, v, a)
  | none => let (s, v, a) := sample q.phases x; (q.p0 + fxAx s, v, a)

/-- The plan has come to rest at its update `t`. -/
def AxPlan.ended (q : AxPlan) : Bool := q.pend.isSome && fxLe q.dur (axTick * q.t)

/-- The plan is on its last ramp toward rest (R455). -/
def AxPlan.ramp (q : AxPlan) : Bool := match q.dec with
  | some t => fxLe t (axTick * q.t) && !q.ended
  | none => false

end Sys2Proof.Machine
end

