-- ==== Sys2Proof/Machine/Axs.lean ====
section
/-! DEFINITION. Axis motion and position feedback: updates, steps, encoders, switches, homing, position compare
(spec/12_axis_control.md). -/

namespace Sys2Proof.Machine

/-- State of axis `k`. -/
def State.axis (s : State) (k : Nat) : Axis := Tab.get {} s.axs k

/-- Replace the state of axis `k`. -/
def State.setAxis (s : State) (k : Nat) (x : Axis) : State := { s with axs := Tab.put s.axs k x }

/-- AXS_STAT_k.STATE (R485). -/
def State.axState (s : State) (k : Nat) : Nat := s.get AXS_STAT_STATE k

/-- Axis states (R485). -/
def axDisabled : Nat := 0
def axIdle : Nat := 1
def axMoving : Nat := 2
def axStopping : Nat := 3
def axHoming : Nat := 4
def axExternal : Nat := 5
def axFault : Nat := 6

/-- Set an axis's state. -/
def State.setAxState (s : State) (k st : Nat) : State := s.put AXS_STAT_STATE st k

/-- The conditions of R486 hold: SAFE, a halt of Nagus, or the thermal shutdown. -/
def State.axesBlocked (s : State) : Bool := s.mode == 7 || s.halted || s.axesHalt || s.get THM_STATUS_LEVEL == 3

/-- Show velocity, deviation and current level of axis `k` (R463, R474). -/
def State.axShow (s : State) (k : Nat) : State :=
  let x := s.axis k
  let st := s.axState k
  let hold := decide (s.get AXS_CFG5_HOLD_DELAY k * 100 ≤ x.still)
  let cur := if st = axDisabled then 0 else if x.hom = 6 then 3
    else if x.v = 0 ∧ (st = axFault ∨ s.axesBlocked ∨ hold) then 2 else 1
  let s := (s.putS AXS_VEL_VEL (fxTrunc x.v) k).putS AXS_DEV_DEV (satSigned 32 x.d) k
  (s.put AXS_STAT_CUR cur k).putBit AXS_STATUS_MOVING k (x.v != 0)

/-- Set or clear the reference of axis `k`. -/
def State.setRef (s : State) (k : Nat) (r : Bool) : State :=
  (s.put AXS_STAT_REFERENCED (if r then 1 else 0) k).putBit AXS_STATUS_REFERENCED k r

/-- The deviation becomes 0 (R474). -/
def State.zeroDev (s : State) (k : Nat) : State := (s.setAxis k { s.axis k with d := 0 }).put AXS_DEV_DEV 0 k

/-- End the long actions of axis `k` (R487). -/
def State.endAxis (s : State) (k st : Nat) : State :=
  s.endActions (fun a => (a.op == 0x2001 || a.op == 0x2002) && a.arg == k) st

/-! Position compare (R483, R484). -/

/-- The compared position of axis `k`. -/
def State.cmpPos (s : State) (k : Nat) : Nat := if s.on AXS_CMP_CTRL_CMP_SRC k then s.get AXS_ENC_H_ENC_H k else s.get AXS_POS_POS k

/-- Sign of the compared position minus C as a signed 32-bit difference. -/
def State.cmpSign (s : State) (k : Nat) : Int := (toSigned 32 (s.cmpPos k + 2 ^ 32 - s.get AXS_CMP_CMP k)).sign

/-- One evaluation of the comparator of axis `k`. -/
def State.compare (s : State) (k : Nat) : State :=
  if !s.on AXS_CMP_CTRL_ARMED k then s else
  let x := s.axis k
  let g := s.cmpSign k
  if x.s0 = 0 then s.setAxis k { x with s0 := g }
  else if g = 0 ∨ g = -x.s0 then
    let s := (s.put AXS_CMP_CTRL_ARMED 0 k).set1 AXS_CMP_CTRL_FIRED k
    (s.setWide (AXS_CMP_TICK_LO_TICK_LO.addr k) s.key.tick).put AXS_CMP_POS_CMP_POS (s.cmpPos k) k
  else s

/-- COMPARE_ARM (R483, R484): a write to AXS_CMP_k. -/
def execCompareArm (k : Fin 6) (v : Word) (s : State) : Out :=
  let k := k.val
  let s := (s.put AXS_CMP_CMP v.toNat k).set1 AXS_CMP_CTRL_ARMED k
  let g := s.cmpSign k
  let s := s.setAxis k { s.axis k with s0 := g }
  let motion := if s.on AXS_CMP_CTRL_CMP_SRC k then (s.getS AXS_SPEED_SPEED k).sign else (s.axis k).v.sign
  .next (if motion ≠ 0 ∧ g = motion then s.set1 AXS_CMP_CTRL_COMPARE_BEHIND k else s)

/-! Steps (R457–R460). -/

/-- Fine steps move f (R460). -/
def State.fineSteps (s : State) (k : Nat) (n : Int) : State :=
  let x := s.axis k
  let n := if s.on AXS_CFG0_DIR_INV k then -n else n
  s.setAxis k { x with f := (((x.f : Int) + n) % (2 ^ 32 : Nat)).toNat }

/-- One coarse step of axis `k` in direction `up`, `cyc` RT cycles after the one before (R457, R460, R474, R483). -/
def State.coarse (s : State) (k : Nat) (up : Bool) (cyc : Nat) : State :=
  let d : Int := if up then 1 else -1
  let s := s.put AXS_POS_POS ((s.get AXS_POS_POS k + (if up then 1 else 2 ^ 32 - 1)) % 2 ^ 32) k
  let s := s.fineSteps k (s.axis k).owed
  let x := s.axis k
  let tmax := s.get AXS_CFG21_INTERP_TMAX k * 400
  let x := { x with d := toSigned 48 (((x.d + 65536 * d) % (2 ^ 48 : Nat)).toNat), ext := x.ext + d, owed := 16 * d, tc := if tmax < cyc then tmax else max 16 cyc }
  let s := s.setAxis k x
  let s := if s.on AXS_CFG0_INTERP_EN k then s else
    let s := s.fineSteps k (16 * d)
    s.setAxis k { s.axis k with owed := 0 }
  let s := s.put AXS_DEV_DEV (ofSigned 32 (satSigned 32 x.d)) k
  if s.on AXS_CMP_CTRL_CMP_SRC k then s else s.compare k

/-- Coarse steps that the profile still owes in the present interval, signed (R457). -/
def State.stepsLeft (s : State) (k : Nat) : Int :=
  toSigned 32 ((((s.axis k).nxt / (2 ^ 32 : Nat)) - s.get AXS_POS_POS k) % (2 ^ 32 : Nat)).toNat

/-- Issue every coarse step still owed at the end of an interval. -/
def State.finishSteps (s : State) (k : Nat) : State :=
  let n := s.stepsLeft k
  (List.range n.natAbs).foldl (fun s _ => s.coarse k (decide (0 < n)) 4000) s

/-- AXIS_COARSE_STEP (R457): the next coarse step, `cyc` RT cycles after the one before. -/
def execAxisCoarseStep (k : Fin 6) (cyc : Nat) (s : State) : Out :=
  let n := s.stepsLeft k.val
  .next (if n = 0 then s else s.coarse k.val (decide (0 < n)) cyc)

/-- AXIS_FINE_STEP (R460): the next fine step of the latest coarse step. -/
def execAxisFineStep (k : Fin 6) (s : State) : Out :=
  let o := (s.axis k.val).owed
  .next (if o = 0 then s else
    let s := s.fineSteps k.val o.sign
    s.setAxis k.val { s.axis k.val with owed := o - o.sign })

/-- Count an external step that is discarded (R475, R477). -/
def State.stepDrop (s : State) (k : Nat) : State := s.incSat AXS_CNT_B_STEP_DROP k

/-- EXT_STEP_EDGE (R458, R475, R477, R486). -/
def execExtStepEdge (k : Fin 6) (dir : Bool) (cyc : Nat) (s : State) : Out :=
  let k := k.val
  let st := s.axState k
  .next (if !s.on AXS_CFG0_SRC k then s
    else if st = axFault then s.stepDrop k
    else if st ≠ axExternal ∨ s.axesBlocked = true then s
    else if s.on (if dir then AXS_STAT_LIMP_ACT else AXS_STAT_LIMN_ACT) k then ((s.stepDrop k).set1 AXS_FLAGS_LIMIT k).fault 10 0xA 2 k
    else
      let x := s.axis k
      let p := toSigned 64 ((x.p + (if dir then 2 ^ 32 else -(2 ^ 32))) % (2 ^ 64 : Nat)).toNat
      let s := s.setAxis k { x with p := p, nxt := p, still := 0 }
      (s.coarse k dir cyc).axShow k)

/-- AXIS_PWM_PERIOD_START (R461, R462): phase B when `b`. -/
def execAxisPwmPeriodStart (k : Fin 6) (b : Bool) (s : State) : Out :=
  let k := k.val
  let x := s.axis k
  let i := (x.f + (if b then 256 else 0)) % 1024
  let v := s.getS AXS_SINE_S i
  let cur := match s.get AXS_STAT_CUR k with
    | 1 => s.get AXS_CFG5_I_RUN k
    | 2 => s.get AXS_CFG5_I_HOLD k
    | 3 => s.get AXS_CFG5_I_HOME k
    | _ => 0
  let ph := if b then 1 else 0
  let on := s.axState k != axDisabled
  let high := if on then min v.natAbs 32767 * cur * s.get AXS_CFG6_PWM_PERIOD k / 2 ^ 23 else 0
  .next (s.setAxis k { x with high := Tab.put x.high ph high, sgn := setBit x.sgn ph (on && decide (v < 0)) })

/-! Faults of an axis. -/

/-- The axis stops where it stands and enters FAULT (R471, R475). -/
def State.axHalt (s : State) (k : Nat) : State :=
  let x := s.axis k
  let p := (x.p / (2 ^ 32 : Nat) + toSigned 32 ((s.get AXS_POS_POS k - x.p / (2 ^ 32 : Nat)) % (2 ^ 32 : Nat)).toNat) * (2 ^ 32 : Nat)
  let p := if p / (2 ^ 32 : Nat) = x.p / (2 ^ 32 : Nat) then x.p else p
  let s := s.setAxis k { x with p := p, nxt := p, plan := none, v := 0, a := 0, ops := [], defer := none, hom := 0, edge := none, after := 0 }
  ((s.setRef k false).setAxState k axFault).endAxis k stHwFault

/-- A stall (R475). -/
def State.stall (s : State) (k : Nat) : State := ((s.axHalt k).set1 AXS_FLAGS_STALL k).fault 10 1 1 k

/-- Drop the F1 causes of axis `k` as it leaves FAULT (R489). -/
def State.axLeave (s : State) (k : Nat) : State := ((s.dropCause 0x2801 k).dropCause 0x2802 k).dropCause 0x2808 k

/-! Encoders (R464–R472). -/

/-- H follows a count of `d` already added to AXS_ENC_k (R467): DIR, H, D, SPEED and the comparator. -/
def State.encCount (s : State) (k : Nat) (d : Int) : State :=
  if d = 0 then s else
  let dir := s.on AXS_STAT_DIR k
  let h := s.get AXS_ENC_H_ENC_H k
  let e := s.get AXS_ENC_ENC k
  let diff := toSigned 32 (e + 2 ^ 32 - h)
  let along := (0 < d) == dir
  if !along ∧ diff.natAbs < 2 then s else
  let s := if along then s else s.put AXS_STAT_DIR (if dir then 0 else 1) k
  if diff = 0 then s else
  let s := s.put AXS_ENC_H_ENC_H e k
  let x := s.axis k
  let dd := toSigned 48 ((x.d - diff * s.getS AXS_CFG7_ENC_SCALE k) % (2 ^ 48 : Nat)).toNat
  let sp : Int := if x.moved then (400000000 / x.since : Nat) else 0
  let s := s.putS AXS_SPEED_SPEED (if s.on AXS_STAT_DIR k then sp else -sp) k
  let s := (s.setAxis k { x with d := dd, since := 0, moved := true }).put AXS_DEV_DEV (ofSigned 32 (satSigned 32 dd)) k
  if s.on AXS_CMP_CTRL_CMP_SRC k then s.compare k else s

/-- Position of a quadrature state in the order 00, 01, 11, 10 (R464). -/
def quadPos (ab : Nat) : Nat := match ab with
  | 0 => 0 | 1 => 1 | 3 => 2 | _ => 3

/-- QUAD_TRANSITION (R464–R467): the lines become `ab`, `cyc` RT cycles after their previous transition. -/
def execQuadTransition (k : Fin 6) (ab : BitVec 2) (cyc : Nat) (s : State) : Out :=
  let k := k.val
  let x := s.axis k
  let st := (quadPos ab.toNat + 4 - quadPos x.ab) % 4
  let s := s.setAxis k { x with ab := ab.toNat, since := x.since + cyc }
  .next (if s.get AXS_CFG0_ENC k ≠ 1 ∨ st = 0 then s
    else if st = 2 then (s.incSat AXS_CNT_A_ILLEGAL k).faultOnce AXS_FLAGS_ILLEGAL k 10 5 3 k
    else
      let s := if cyc < (s.get AXS_CFG9_MIN_EDGE k + 1) * 4 then (s.incSat AXS_CNT_A_EDGE_FAST k).faultOnce AXS_FLAGS_EDGE_FAST k 10 6 3 k else s
      let d : Int := if (st == 1) != s.on AXS_CFG0_ENC_INV k then 1 else -1
      (s.put AXS_ENC_ENC ((s.get AXS_ENC_ENC k + d) % (2 ^ 32 : Nat)).toNat k).encCount k d)

/-- INDEX_PULSE (R468, R481). -/
def execIndexPulse (k : Fin 6) (rising : Bool) (s : State) : Out :=
  let k := k.val
  .next (if s.get AXS_CFG0_ENC k ≠ 1 ∨ rising ≠ s.on AXS_CFG0_Z_POL k then s
    else
      let s := (s.put AXS_ZLAT_ZLAT (s.get AXS_ENC_ENC k) k).set1 AXS_STAT_ZSEEN k
      let x := s.axis k
      if x.hom = 3 ∧ x.edge = none then s.setAxis k { x with edge := some (s.get AXS_POS_POS k, s.get AXS_ENC_ENC k) } else s)

/-- SSI_READ_START (R469): SSI_PERIOD updates have passed. -/
def execSsiReadStart (k : Fin 6) (s : State) : Out :=
  let x := s.axis k.val
  .next (if 2 ≤ s.get AXS_CFG0_ENC k.val ∧ s.axState k.val ≠ axDisabled ∧ x.ssiBusy = false ∧ s.get AXS_CFG10_SSI_PERIOD k.val ≤ x.ssiCnt then
    s.setAxis k.val { x with ssiBusy := true, ssiCnt := 0 } else s)

/-- The binary value of a Gray number of 32 bits (R470). -/
def ofGray (n : Nat) : Nat :=
  let f (n sh : Nat) : Nat := n ^^^ (n >>> sh)
  f (f (f (f (f n 16) 8) 4) 2) 1

/-- An SSI frame is discarded (R471). -/
def State.ssiDiscard (s : State) (k : Nat) : State :=
  let x := s.axis k
  let s := s.setAxis k { x with ssiBad := x.ssiBad + 1 }
  let s := (s.incSat AXS_CNT_B_SSI_ERR k).faultOnce AXS_FLAGS_SSI_ERR k 10 7 3 k
  if x.ssiBad + 1 = 3 then (s.axHalt k).fault 10 8 1 k else s

/-- SSI_FRAME_DONE (R469–R471): `idle`: data was high before the first falling edge; `cyc` RT cycles since the
previous frame. -/
def execSsiFrameDone (k : Fin 6) (idle : Bool) (bits : Word) (cyc : Nat) (s : State) : Out :=
  let k := k.val
  let x := s.axis k
  .next (if !x.ssiBusy then s else
    let s := s.setAxis k { x with ssiBusy := false, since := x.since + cyc }
    if !idle then s.ssiDiscard k else
    let n := s.get AXS_CFG10_SSI_BITS k
    let raw := bits.toNat % 2 ^ n
    let v := if s.get AXS_CFG0_ENC k = 3 then ofGray raw else raw
    match x.ssi with
    | none =>
      let s := s.setAxis k { s.axis k with ssi := some v, ssiBad := 0 }
      (s.put AXS_ENC_ENC v k).put AXS_ENC_H_ENC_H v k
    | some u =>
      let d := toSigned n (v + 2 ^ n - u)
      if s.get AXS_CFG12_SSI_MAX_DELTA k < d.natAbs then s.ssiDiscard k
      else
        let s := s.setAxis k { s.axis k with ssi := some v, ssiBad := 0 }
        let d := if s.on AXS_CFG0_ENC_INV k then -d else d
        (s.put AXS_ENC_ENC ((s.get AXS_ENC_ENC k + d) % (2 ^ 32 : Nat)).toNat k).encCount k d)

/-- SPEED_TIMEOUT (R472). -/
def execSpeedTimeout (k : Fin 6) (s : State) : Out := .next (s.put AXS_SPEED_SPEED 0 k.val)

/-! Switches (R476). -/

/-- The qualified-level field of switch `sw` and its polarity field. -/
def swField (sw : Nat) : Fref × Fref := match sw with
  | 0 => (AXS_STAT_HOME_ACT, AXS_CFG0_HOME_POL)
  | 1 => (AXS_STAT_LIMP_ACT, AXS_CFG0_LIMP_POL)
  | _ => (AXS_STAT_LIMN_ACT, AXS_CFG0_LIMN_POL)

/-- A switch of axis `k` is qualified at `level` (R476, R481); a limit counts during homing and, outside it, when the
commanded velocity points toward it (R477, R480). -/
def State.qualify (s : State) (k sw : Nat) (level : Bool) : State :=
  let (act, pol) := swField sw
  let now := level == s.on pol k
  let x := s.axis k
  let lat := Tab.find x.sw sw
  let s := s.setAxis k { x with sw := Tab.del x.sw sw }
  let st := s.axState k
  let toward := (sw = 1 ∧ 0 < x.v) ∨ (sw = 2 ∧ x.v < 0)
  if now = s.on act k then s else
  let s := s.put act (if now then 1 else 0) k
  let (p, e) := lat.getD (s.get AXS_POS_POS k, s.get AXS_ENC_ENC k)
  let s := s.put AXS_LATCH_LATCH p k
  let x := s.axis k
  if sw = 0 then
    if now ∧ x.hom = 2 then
      if s.on AXS_CFG0_USE_Z k then s.setAxis k { x with hom := 3, edge := none } else s.setAxis k { x with edge := some (p, e) }
    else s
  else if now ∧ ((st = axHoming ∧ x.after ≠ 5) ∨ ((st = axHoming ∨ st = axMoving ∨ st = axStopping) ∧ toward)) then s.setAxis k { x with lim := x.lim ||| sw }
  else s

/-- SWITCH_TRANSITION (R476): the first one of a change latches the positions; DEBOUNCE = 0 qualifies at once. -/
def execSwitchTransition (k : Fin 6) (sw : Fin 3) (level : Bool) (s : State) : Out :=
  let k := k.val
  let x := s.axis k
  let s := if (Tab.find x.sw sw.val).isSome then s
    else s.setAxis k { x with sw := Tab.put x.sw sw.val (s.get AXS_POS_POS k, s.get AXS_ENC_ENC k) }
  .next (if s.get AXS_CFG18_DEBOUNCE k = 0 then s.qualify k sw.val level else s)

/-- SWITCH_QUALIFIED (R476): the line has held `level` for DEBOUNCE µs. -/
def execSwitchQualified (k : Fin 6) (sw : Fin 3) (level : Bool) (s : State) : Out := .next (s.qualify k.val sw.val level)

/-! Motion. -/

/-- Begin to follow a plan. -/
def State.follow (s : State) (k : Nat) (q : AxPlan) (acc jrk : Nat) : State :=
  s.setAxis k { s.axis k with plan := some q, acc := acc, jrk := jrk }

/-- Bring axis `k` to rest at `acc` and `jrk`; `after` says what follows (R456, R477, R480). -/
def State.axStop (s : State) (k acc jrk after : Nat) : State :=
  let x := s.axis k
  let s := s.follow k (planVel x.p x.v x.a 0 acc jrk) acc jrk
  s.setAxis k { s.axis k with after := after, defer := none }

/-- The sign of a homing direction. -/
def State.homeSign (s : State) (k : Nat) : Int := if s.on AXS_CFG0_HOME_DIR k then 1 else -1

/-- Home at HOME_SPEED in the direction `d` (R479). -/
def State.homeRun (s : State) (k : Nat) (d : Int) : State :=
  let x := s.axis k
  let acc := s.get AXS_CFG14_HOME_ACC k
  s.follow k (planVel x.p x.v 0 (d * s.get AXS_CFG13_HOME_SPEED k) acc 0) acc 0

/-- The limit in direction `d` is active. -/
def State.limAt (s : State) (k : Nat) (d : Int) : Bool := if 0 < d then s.on AXS_STAT_LIMP_ACT k else d < 0 && s.on AXS_STAT_LIMN_ACT k

/-- Start a homing, `stall` or by the switch (R479–R482). -/
def State.homeStart (s : State) (k : Nat) (stall : Bool) : State :=
  let x := s.axis k
  if s.axState k ≠ axIdle then s
  else if stall ∧ (s.get AXS_CFG0_ENC k = 0 ∨ s.get AXS_CFG8_DEV_WIN k = 0 ∨ s.get AXS_CFG16_HOME_BACKOFF k = 0) then s
  else
    let s := ((s.setAxis k { x with hom0 := x.p, edge := none, after := 0, lim := 0 }).setAxState k axHoming).setRef k false
    if s.limAt k (s.homeSign k) then s.axStop k (s.get AXS_CFG4_DEC_LIMIT k) 0 2
    else if stall then (s.setAxis k { s.axis k with hom := 6 }).homeRun k (s.homeSign k)
    else if s.on AXS_STAT_HOME_ACT k then (s.setAxis k { s.axis k with hom := 1 }).homeRun k (-s.homeSign k)
    else (s.setAxis k { s.axis k with hom := 2 }).homeRun k (s.homeSign k)

/-- The commanded position becomes `pos` in its integer part (R481, R482). -/
def State.setPos (s : State) (k : Nat) (pos : Nat) (frac : Nat) : State :=
  let x := s.axis k
  let old := s.get AXS_POS_POS k
  let p := (toSigned 32 pos) * (2 ^ 32 : Nat) + frac
  (s.setAxis k { x with p := p, nxt := p, ext := x.ext + toSigned 32 (pos + 2 ^ 32 - old) }).put AXS_POS_POS pos k

/-- The backoff move, or the end of the homing (R481, R482). -/
def State.homeEnd (s : State) (k : Nat) : State :=
  let s := s.setAxis k { s.axis k with hom := 0, after := 0 }
  (s.setAxState k axIdle).endAxis k stOk

/-- Back off by HOME_BACKOFF against HOME_DIR (R481, R482). -/
def State.backoff (s : State) (k : Nat) : State :=
  let b := s.get AXS_CFG16_HOME_BACKOFF k
  if b = 0 then s.homeEnd k else
  let x := s.axis k
  let acc := s.get AXS_CFG14_HOME_ACC k
  let s := s.setAxis k { x with hom := if x.hom = 6 then 7 else 5 }
  s.follow k (planPos x.p x.v 0 (x.p - s.homeSign k * b * (2 ^ 32 : Nat)) (s.get AXS_CFG13_HOME_SPEED k) acc 0) acc 0

/-- Set the reference at rest after the home edge (R481). -/
def State.setReference (s : State) (k : Nat) : State :=
  let x := s.axis k
  let (l, e) := x.edge.getD (s.get AXS_POS_POS k, s.get AXS_ENC_ENC k)
  let pos := (s.get AXS_CFG15_HOME_OFS k + s.get AXS_POS_POS k + 2 ^ 32 - l) % 2 ^ 32
  let s := s.setPos k pos (x.p % (2 ^ 32 : Nat)).toNat
  let s := (s.put AXS_ENC_REF_ENC_REF e k).zeroDev k
  (s.setRef k true).backoff k

/-- Set the reference of a stall homing (R482). -/
def State.stallReference (s : State) (k : Nat) : State :=
  let s := s.setAxis k { s.axis k with plan := none, v := 0, a := 0 }
  let s := s.setPos k (s.get AXS_CFG15_HOME_OFS k) 0
  let s := (s.put AXS_ENC_REF_ENC_REF (s.get AXS_ENC_ENC k) k).zeroDev k
  (s.setRef k true).backoff k

/-- Perform a MOVE of position or velocity mode (R452–R454, R478). -/
def State.axMove (s : State) (k : Nat) (o : AxOp) : State :=
  let x := s.axis k
  let vmax : Int := s.get AXS_CFG1_V_MAX k
  let vt : Int := if o.tgt < -vmax then -vmax else min o.tgt vmax
  let d := toSigned 32 ((o.tgt - x.p / (2 ^ 32 : Nat)) % (2 ^ 32 : Nat)).toNat
  let pend := (x.p / (2 ^ 32 : Nat) + d) * (2 ^ 32 : Nat)
  let first := if x.v ≠ 0 then x.v.sign else if o.op = 1 then (pend - x.p).sign else vt.sign
  if s.limAt k first then s.endAxis k stHwFault else
  let s := (s.put AXS_STAT_VEL_MODE (if o.op = 2 then 1 else 0) k).setAxState k axMoving
  let s := s.setAxis k { x with vt := vt, after := 0, defer := none }
  if o.op = 1 then s.follow k (planPos x.p x.v x.a pend o.spd o.acc o.jrk) o.acc o.jrk
  else if s.on AXS_CFG0_SOFT_EN k ∧ vt ≠ 0 then
    let lim := if 0 < vt then s.getS AXS_CFG20_SOFT_MAX k else s.getS AXS_CFG19_SOFT_MIN k
    let e := (x.p / (2 ^ 32 : Nat) + (lim - toSigned 32 (s.get AXS_POS_POS k))) * (2 ^ 32 : Nat)
    let s := s.follow k (planPos x.p x.v x.a e vt.natAbs o.acc o.jrk) o.acc o.jrk
    s.setAxis k { s.axis k with after := 4 }
  else s.follow k (planVel x.p x.v x.a vt o.acc o.jrk) o.acc o.jrk

/-- The distance to stop at a new acceleration exceeds the distance left to the stop point (R455). -/
def Axis.defers (x : Axis) (acc : Nat) : Bool := match x.plan with
  | some q => match q.pend with
    | some e =>
      let stop := (phasesEnd x.v x.a (velPhases x.v (if x.jrk = 0 then 0 else x.a) 0 acc x.jrk)).1
      q.ramp && acc != x.acc && fxLt (axFx (e - x.p).natAbs) (stop.natAbs : Int)
    | none => false
  | none => false

/-- Replan the profile in progress at a new acceleration (R455). -/
def State.reAcc (s : State) (k acc : Nat) : State :=
  let x := s.axis k
  match x.plan with
  | none => s
  | some q =>
    if x.defers acc then s.set1 AXS_FLAGS_ACC_DEFERRED k
    else if s.axState k = axStopping then s.follow k (planVel x.p x.v x.a 0 acc x.jrk) acc x.jrk
    else match q.pend with
      | some e => s.follow k (planPos x.p x.v x.a e (if s.on AXS_STAT_VEL_MODE k then x.vt.natAbs else s.get AXS_SPD_SPD k) acc x.jrk) acc x.jrk
      | none => s.follow k (planVel x.p x.v x.a x.vt acc x.jrk) acc x.jrk

/-- An operation under the ceilings of the axis (R487, words 1–3 of its record). -/
def State.capOp (s : State) (k : Nat) (o : AxOp) : AxOp :=
  { o with spd := min o.spd (s.get AXS_CFG1_V_MAX k), acc := min o.acc (s.get AXS_CFG2_A_MAX k), jrk := min o.jrk (s.get AXS_CFG3_J_MAX k) }

/-- Act on one operation at an update (R451, R454–R456, R479, R485, R486). OP 7 stands for a write to AXS_ACC_k. -/
def State.axOp (s : State) (k : Nat) (o : AxOp) : State :=
  let st := s.axState k
  let o := s.capOp k o
  match o.op with
  | 3 =>
    let x := s.axis k
    if x.after = 1 ∨ x.after = 2 ∨ x.after = 3 ∨ x.after = 5 then s
    else if st = axHoming then
      let s := ((s.setAxis k { x with hom := 0, edge := none }).endAxis k stAborted).setRef k false
      s.axStop k x.acc x.jrk 5
    else if st = axMoving then ((s.endAxis k stAborted).axStop k x.acc x.jrk 0).setAxState k axStopping
    else s
  | 4 => if s.axesBlocked then s.endAxis k stAborted else s.homeStart k false
  | 5 => if s.axesBlocked then s.endAxis k stAborted else s.homeStart k true
  | 6 =>
    if st = axFault then
      let s := (s.setAxState k (if s.on AXS_CFG0_SRC k then axExternal else axIdle)).zeroDev k
      (s.setAxis k { s.axis k with lim := 0, ssiBad := 0 }).axLeave k
    else s
  | 7 => if (st = axMoving ∨ st = axStopping) ∧ (s.axis k).after ≠ 1 then s.reAcc k o.acc else s
  | _ =>
    if st = axHoming ∨ (s.axis k).after = 1 then s
    else if s.axesBlocked ∨ !(st = axIdle ∨ st = axMoving ∨ st = axStopping) then s.endAxis k stAborted
    else if (s.axis k).defers o.acc then
      (s.setAxis k { s.axis k with defer := some o }).set1 AXS_FLAGS_ACC_DEFERRED k
    else s.axMove k o

/-- The profile of axis `k` has brought it to rest (R452, R456, R477–R482). -/
def State.axRest (s : State) (k : Nat) : State :=
  let x := s.axis k
  let s := s.setAxis k { x with plan := none, v := 0, a := 0, after := 0 }
  let idle (s : State) : State := ((s.setAxis k { s.axis k with hom := 0, edge := none }).setAxState k axIdle).setRef k false
  match x.after with
  | 1 => (((s.set1 AXS_FLAGS_LIMIT k).setAxState k axFault).endAxis k stHwFault).fault 10 2 1 k
  | 2 => ((idle (s.set1 AXS_FLAGS_HOME_LIMIT k)).endAxis k stHwFault).fault 10 3 2 k
  | 3 => ((idle (s.set1 AXS_FLAGS_HOME_FAIL k)).endAxis k stHwFault).fault 10 4 2 k
  | 4 => (((s.set1 AXS_FLAGS_SOFT k).setAxState k axIdle).endAxis k stHwFault).fault 10 9 2 k
  | _ =>
    if x.hom = 4 then s.setReference k
    else if x.hom = 5 ∨ x.hom = 7 then s.homeEnd k
    else
      let s := if s.axState k = axMoving ∧ x.defer = none then s.endAxis k stOk else s
      let s := s.setAxState k axIdle
      match x.defer with
      | some o => (s.setAxis k { s.axis k with defer := none }).axMove k o
      | none => s

/-- What the switches and the distance ask of a motion at an update (R477, R480, R481). -/
def State.axWatch (s : State) (k : Nat) : State :=
  let x := s.axis k
  let s := s.setAxis k { x with lim := 0 }
  let st := s.axState k
  let dec := s.get AXS_CFG4_DEC_LIMIT k
  if st = axHoming then
    if x.after = 1 ∨ x.after = 2 ∨ x.after = 3 then s
    else if x.lim ≠ 0 then s.axStop k dec 0 (if x.after = 5 then 1 else 2)
    else if (x.hom = 1 ∨ x.hom = 2 ∨ x.hom = 3 ∨ x.hom = 6) ∧ ((s.get AXS_CFG17_HOME_MAX_DIST k) * 2 ^ 32 : Nat) < (x.p - x.hom0).natAbs then
      s.axStop k (s.get AXS_CFG14_HOME_ACC k) 0 3
    else if (x.hom = 2 ∨ x.hom = 3) ∧ x.edge.isSome then
      (s.axStop k (s.get AXS_CFG14_HOME_ACC k) 0 0).setAxis k { (s.axStop k (s.get AXS_CFG14_HOME_ACC k) 0 0).axis k with hom := 4 }
    else if x.hom = 1 ∧ !s.on AXS_STAT_HOME_ACT k then (s.setAxis k { x with hom := 2, lim := 0 }).homeRun k (s.homeSign k)
    else s
  else if (st = axMoving ∨ st = axStopping) ∧ x.after ≠ 1 ∧ x.lim ≠ 0 then s.axStop k dec 0 1
  else s

/-- The stall checks at an update (R475, R482, R485). -/
def State.axDev (s : State) (k : Nat) : State :=
  let x := s.axis k
  let st := s.axState k
  let beyond := s.get AXS_CFG0_ENC k ≠ 0 ∧ s.get AXS_CFG8_DEV_WIN k ≠ 0 ∧ s.get AXS_CFG8_DEV_WIN k * 65536 < x.d.natAbs
  if beyond ∧ x.hom = 6 ∧ x.after = 0 then s.stallReference k
  else if beyond ∧ x.hom ≠ 6 ∧ x.hom ≠ 7 ∧ st ≠ axDisabled ∧ st ≠ axFault then s.stall k
  else s

/-- One update of axis `k` (R451). -/
def State.axUpdate (s : State) (k : Nat) : State :=
  let s := s.finishSteps k
  let x := s.axis k
  let s := s.setAxis k (match x.plan with
    | some q =>
      let q := { q with t := q.t + 1 }
      let (_, v, a) := q.at_ q.t
      { x with p := x.nxt, v := v, a := a, plan := some q, ssiCnt := x.ssiCnt + 1, still := if v = 0 then x.still + 1 else 0 }
    | none => { x with p := x.nxt, ssiCnt := x.ssiCnt + 1, still := x.still + 1 })
  let st := s.axState k
  let s := if st = axDisabled ∧ s.on AXS_CFG0_EN k then
      (s.setAxis k { s.axis k with ssi := none, ssiBad := 0, still := 0 }).setAxState k (if s.on AXS_CFG0_SRC k then axExternal else axIdle)
    else if !s.on AXS_CFG0_EN k ∧ (st = axIdle ∨ st = axExternal ∨ st = axFault) then
      let s := (((s.setAxState k axDisabled).endAxis k stAborted).axLeave k).zeroDev k
      s.setAxis k { s.axis k with high := [], sgn := 0, lim := 0 }
    else s
  let s := s.axWatch k
  let s := match (s.axis k).plan with
    | some q => if q.ended then s.axRest k
      else if s.axState k = axMoving ∧ s.on AXS_STAT_VEL_MODE k ∧ (s.axis k).v = fxInt (s.axis k).vt then s.endAxis k stOk else s
    | none => s
  let s := s.axDev k
  let ops := (s.axis k).ops
  let s := s.setAxis k { s.axis k with ops := [] }
  let s := ops.foldl (fun s o => s.axOp k o) s
  let s := if s.axesBlocked then s.axOp k { op := 3 } else s
  let x := s.axis k
  let nxt := match x.plan with
    | some q => (q.at_ (q.t + 1)).1
    | none => x.p
  (s.setAxis k { x with nxt := nxt }).axShow k

/-- AXIS_UPDATE (R451). -/
def execAxisUpdate (s : State) : Out := .next { (forN 6 (fun k s => s.axUpdate k) s) with axesHalt := false }

/-! Register writes. -/

/-- Queue an operation for the next update (R451). -/
def State.axQueue (s : State) (k : Nat) (o : AxOp) : State := s.setAxis k { s.axis k with ops := (s.axis k).ops ++ [o] }

/-- The state of axis `k` with the operations that wait for its next update (R451). -/
def State.axSoon (s : State) (k : Nat) : Nat :=
  if (s.axis k).ops.any (fun o => o.op == 4 || o.op == 5) then axHoming
  else if (s.axis k).ops.any (fun o => o.op == 1 || o.op == 2) then axMoving else s.axState k

/-- The operation that TGT, SPD, ACC and JRK describe. -/
def State.axRegs (s : State) (k op : Nat) : AxOp :=
  { op := op, tgt := s.getS AXS_TGT_TGT k, spd := s.get AXS_SPD_SPD k, acc := s.get AXS_ACC_ACC k, jrk := s.get AXS_JRK_JRK k }

/-- A MOVE in progress is replaced: its long action finishes with ABORTED (R487). -/
def State.axReplaced (s : State) (k : Nat) : State :=
  if s.axSoon k = axMoving ∨ s.axSoon k = axStopping then s.endAxis k stAborted else s

/-- AXS_MOVE_POSITION (R452, R454): OP 1; it replaces a MOVE in progress. -/
def execAxsMovePosition (k : Fin 6) (s : State) : Out := .next ((s.axReplaced k.val).axQueue k.val (s.axRegs k.val 1))

/-- AXS_MOVE_VELOCITY (R453, R454): OP 2. -/
def execAxsMoveVelocity (k : Fin 6) (s : State) : Out := .next ((s.axReplaced k.val).axQueue k.val (s.axRegs k.val 2))

/-- AXS_STOP (R456): OP 3. -/
def execAxsStop (k : Fin 6) (s : State) : Out := .next (s.axQueue k.val { op := 3 })

/-- AXS_HOME_SWITCH (R479, R481): OP 4. -/
def execAxsHomeSwitch (k : Fin 6) (s : State) : Out := .next (s.axQueue k.val { op := 4 })

/-- AXS_HOME_STALL (R479, R482): OP 5. -/
def execAxsHomeStall (k : Fin 6) (s : State) : Out := .next (s.axQueue k.val { op := 5 })

/-- AXS_CLEAR (R485): OP 6. -/
def execAxsClear (k : Fin 6) (s : State) : Out := .next (s.axQueue k.val { op := 6 })

/-- ACC_WRITE (R455, R488, R490). -/
def execAccWrite (k : Fin 6) (v : Word) (s : State) : Out :=
  .next (if v = 0 then s.reservedFault 10 k.val else
    let s := s.put AXS_ACC_ACC v.toNat k.val
    if s.axState k.val = axMoving ∨ s.axState k.val = axStopping then s.axQueue k.val { op := 7, acc := v.toNat } else s)

/-- A write to word `w` of the record of axis `k` (R474, R485, R490); a new polarity exchanges the switch's qualified
levels active and inactive (R476). -/
def State.axWord (s : State) (k w : Nat) (v : Word) : State :=
  let st := s.axState k
  let a := 0x200A0100 + 0x100 * k + 4 * w
  let refuse := s.set1 AXS_FLAGS_WRITE_REFUSED k
  let quiet := st = axDisabled ∨ st = axIdle ∨ st = axExternal ∨ st = axFault
  if ¬quiet then refuse
  else if w = 0 then
    if st ≠ axDisabled ∧ (v.toNat % 2 ^ 31 / 2 ^ 18 ≠ (s.rd a).toNat % 2 ^ 31 / 2 ^ 18) then refuse
    else
      let flip := s.rd a ^^^ v
      let s := (s.wr a (v &&& 0xFFFC0000)).zeroDev k
      [0, 1, 2].foldl (fun s sw => if flip.toNat.testBit (23 - sw) then s.put (swField sw).1 (1 - s.get (swField sw).1 k) k else s) s
  else
    let s := s.wr a v
    if 7 ≤ w ∧ w ≤ 12 then s.zeroDev k else s

/-! Mailbox commands of group 08h (R137, R487). -/

/-- A combination of axis-record words that the map calls reserved, by the word that CONFIG names (R487, R488). -/
def axReserved (p : Nat → Nat) (w : Nat) : Bool := match w with
  | 7 => wfield (word (p 0)) 29 28 != 0 && p 7 == 0
  | 10 => decide (wfield (word (p 10)) 23 16 * 4000 < wfield (word (p 10)) 29 24 * 2 * wfield (word (p 10)) 10 0 + wfield (word (p 11)) 31 16 * 400)
  | 13 => p 13 == 0 || decide (p 1 < p 13)
  | 14 => p 14 == 0 || decide (p 2 < p 14)
  | 20 => decide (toSigned 32 (p 20) < toSigned 32 (p 19))
  | _ => false

/-- AXIS CONFIG. -/
def execAxisConfig (s : State) : Out := runCmd 0x2000 s (fun q s =>
  let k := q.w 0
  match firstBad ((0, decide (k < 6)) :: (List.range 22).map (fun w =>
      (w + 1, recordOk (0x200A0100 + 0x100 * (k % 6) + 4 * w) (word (q.w (w + 1))) && !axReserved (fun w => q.w (w + 1)) w)) ++
      [(23, q.w 23 == 0), (24, q.w 24 == 0)]) with
  | some i => (s, some (badParam i))
  | none =>
    let st := s.axState k
    if st = axMoving ∨ st = axStopping ∨ st = axHoming then (s, some (failReply stBusy))
    else
      let s := forN 21 (fun w s => s.axWord k (w + 1) (word (q.w (w + 2)))) s
      (s.axWord k 0 (word (q.w 1)), some (okReply [])))

/-- AXIS MOVE. -/
def execAxisMove (s : State) : Out := runCmd 0x2001 s (fun q s =>
  let k := q.w 0
  let vmax := s.get AXS_CFG1_V_MAX k
  let soft := s.on AXS_CFG0_SOFT_EN k && q.w 1 == 0
  match firstBad [(0, decide (k < 6)), (1, decide (q.w 1 < 2)),
      (2, if q.w 1 = 1 then decide ((q.sw 2).natAbs ≤ vmax)
          else !soft || decide (s.getS AXS_CFG19_SOFT_MIN k ≤ q.sw 2 ∧ q.sw 2 ≤ s.getS AXS_CFG20_SOFT_MAX k)),
      (3, decide (1 ≤ q.w 3 ∧ q.w 3 ≤ vmax)), (4, decide (1 ≤ q.w 4 ∧ q.w 4 ≤ s.get AXS_CFG2_A_MAX k)), (5, decide (q.w 5 ≤ s.get AXS_CFG3_J_MAX k))] with
  | some i => (s, some (badParam i))
  | none =>
    let st := s.axState k
    let x := s.axis k
    let d := if q.w 1 = 0 then toSigned 32 (q.w 2 + 2 ^ 32 - s.get AXS_POS_POS k) else q.sw 2
    let first := if x.v ≠ 0 then x.v.sign else d.sign
    if s.noPlace then (s, some (failReply stNoSpace))
    else if st = axDisabled ∨ st = axExternal ∨ st = axFault ∨ s.axesBlocked = true then (s, some (failReply stBadState))
    else if s.axSoon k = axHoming then (s, some (failReply stBusy))
    else if s.limAt k first then (s, some (failReply stHwFault 0x2802))
    else
      let s := (((s.put AXS_TGT_TGT (q.w 2) k).put AXS_SPD_SPD (q.w 3) k).put AXS_ACC_ACC (q.w 4) k).put AXS_JRK_JRK (q.w 5) k
      let s := (s.endAxis k stAborted).startAction q k
      (s.axQueue k (s.axRegs k (q.w 1 + 1)), some (okReply [])))

/-- AXIS HOME. -/
def execAxisHome (s : State) : Out := runCmd 0x2002 s (fun q s =>
  let k := q.w 0
  let able := s.get AXS_CFG0_ENC k ≠ 0 ∧ s.get AXS_CFG8_DEV_WIN k ≠ 0 ∧ s.get AXS_CFG16_HOME_BACKOFF k ≠ 0
  match firstBad [(0, decide (k < 6)), (1, decide (q.w 1 < 2 ∧ (q.w 1 = 1 → able)))] with
  | some i => (s, some (badParam i))
  | none =>
    if s.noPlace then (s, some (failReply stNoSpace))
    else if s.axSoon k ≠ axIdle ∨ s.axesBlocked = true then (s, some (failReply stBadState))
    else ((s.startAction q k).axQueue k { op := q.w 1 + 4 }, some (okReply [])))

/-- AXIS STOP. -/
def execAxisStop (s : State) : Out := runCmd 0x2003 s (fun q s =>
  match firstBad [(0, decide (0 < q.w 0 ∧ q.w 0 < 64))] with
  | some i => (s, some (badParam i))
  | none =>
    (forN 6 (fun k s => if !(q.w 0).testBit k then s
      else if s.axState k = axFault then s.axQueue k { op := 6 }
      else if s.axState k = axMoving ∨ s.axState k = axHoming then s.axQueue k { op := 3 } else s) s, some (okReply [])))

/-- AXIS STATUS (R473). -/
def execAxisStatus (s : State) : Out := runCmd 0x2004 s (fun q s =>
  reader [(0, decide (q.w 0 < 6))] s (fun s =>
    let k := q.w 0
    let e := ofSigned 64 (s.axis k).ext
    okReply [e % 2 ^ 32, e / 2 ^ 32, s.get AXS_VEL_VEL k, (s.rd (AXS_STAT_STATE.addr k)).toNat]))

end Sys2Proof.Machine
end

