-- ==== Sys2Proof/Machine/Pci.lean ====
section
/-! DEFINITION. The PCI Express endpoint, PCI (spec/18_network_time_host.md, R645–R651). -/

namespace Sys2Proof.Machine

/-! Permission windows (R647, R103). -/

/-- The base of window `k`. -/
def State.winBase (s : State) (k : Nat) : Nat := s.get PCI_WIN_BASE_LO_BASE_LO k * 4096 + 2 ^ 32 * s.get PCI_WIN_BASE_HI_BASE_HI k

/-- The size of window `k`. -/
def State.winSize (s : State) (k : Nat) : Nat := 2 ^ s.get PCI_WIN_SIZE_LOG2 k

/-- Window `k` is enabled and covers [a, a + n) whole, with WRITE where `w` asks for it (R647, R732). -/
def State.winCovers (s : State) (a n : Nat) (w : Bool) (k : Nat) : Bool :=
  s.on PCI_WIN_CTRL_EN k && (!w || s.on PCI_WIN_CTRL_WRITE k) && decide (s.winBase k ≤ a ∧ a + n ≤ s.winBase k + s.winSize k)

/-- Some window allows the request (R647). -/
def State.bar2Allowed (s : State) (a n : Nat) (w : Bool) : Bool := (List.range 16).any (s.winCovers a n w)

/-- Count and capture a refused BAR2 request (R647). -/
def State.bar2Deny (s : State) (a : Nat) (w : Bool) : State :=
  let s := s.incSat (if w then PCI_DENY_WRITES else PCI_DENY_READS)
  if s.on PCI_FLAGS_DENIED then s else
  let s := (s.put PCI_DENY_ADDR_LO_ADDR_LO (a % 2 ^ 32)).put PCI_DENY_ADDR_HI_ADDR_HI (a / 2 ^ 32)
  (s.set1 PCI_FLAGS_DENIED).fault 18 2 3

/-- A BAR2 request is served, or refused (R41, R647). -/
def State.bar2 (s : State) (a n : Nat) (w : Option (List Byte)) : State :=
  if !s.bar2Allowed a n w.isSome then s.bar2Deny a w.isSome else
  match w with
  | some bs => match s.dramWrite 1 a (bs.take n) with
    | (.decode, s) => s.bar2Deny a true
    | (_, s) => s
  | none => match s.dramRead 1 a n with
    | (.decode, _, s) => s.bar2Deny a false
    | (.target, _, s) => (s.set1 PCI_FLAGS_POISON).fault 18 3 3
    | (_, _, s) => s

/-- BAR2_REQUEST (R645, R647, R649): a read, or a write of bytes, at offset `a`; `aer`: the TLP has an uncorrectable
error (R651). In D3hot it completes with Unsupported Request and is not counted. -/
def execBar2Request (a n : Nat) (w : Option (List Byte)) (aer : Bool) (s : State) : Out :=
  .next (if !s.on PCI_STATUS_LINK_UP then s
    else if aer then s.fault 18 4 3
    else if s.on PCI_STATUS_D3HOT then s
    else s.bar2 a n w)

/-! Reset and link events (R649). -/

/-- Configuration space returns to its reset values; the MSI-X table, masks and pending bits are cleared (R649). -/
def State.endpointReset (s : State) : State :=
  let s := { s with pci := {}, mbx := { s.mbx with msix := [], vecPend := 0 } }
  let s := ((s.put PCI_STATUS_D3HOT 0).put PCI_STATUS_MSIX_EN 0).put PCI_STATUS_FN_MASK 0
  ((s.put PCI_STATUS_BME 0).set1 PCI_FLAGS_RESET).fault 18 1 2

/-- PCIE_RESET (R649): PERST low, hot reset or link down. -/
def execPcieReset (s : State) : Out :=
  .next (((s.put PCI_STATUS_LINK_UP 0).put PCI_STATUS_SPEED 0).put PCI_STATUS_WIDTH 0).endpointReset

/-- FUNCTION_LEVEL_RESET (R649): as above, without link retraining. -/
def execFunctionLevelReset (s : State) : Out := .next (if s.on PCI_STATUS_LINK_UP then s.endpointReset else s)

/-- D3HOT_ENTRY (R649). -/
def execD3hotEntry (s : State) : Out := .next (if s.on PCI_STATUS_LINK_UP then s.set1 PCI_STATUS_D3HOT else s)

/-- PCIE_LINK_UP (R645, R646, R649): the speed code 1–3 and the width 1, 2 or 4 the link trained to. -/
def execPcieLinkUp (speed : Fin 3) (width : Fin 3) (s : State) : Out :=
  .next (if s.on PCI_STATUS_LINK_UP then s
    else ((s.set1 PCI_STATUS_LINK_UP).put PCI_STATUS_SPEED (speed.val + 1)).put PCI_STATUS_WIDTH (2 ^ width.val))

/-- Send the pending vectors that nothing holds back any more (R104, R649). -/
def State.vecRelease (s : State) : State :=
  forN 32 (fun v s => if s.mbx.vecPend.testBit v then
    ({ s with mbx := { s.mbx with vecPend := setBit s.mbx.vecPend v false } }).raise v else s) s

/-- PCIE_CONFIG_REQUEST (R645, R646, R649): a configuration write, or a read, which changes nothing. -/
def execPcieConfigRequest (r : CfgReq) (s : State) : Out :=
  .next (if !s.on PCI_STATUS_LINK_UP then s else
    match r with
    | .read _ => s
    | .msix en mask => ((s.put PCI_STATUS_MSIX_EN (if en then 1 else 0)).put PCI_STATUS_FN_MASK (if mask then 1 else 0)).vecRelease
    | .busMaster en => (s.put PCI_STATUS_BME (if en then 1 else 0)).vecRelease
    | .toD0 => (s.put PCI_STATUS_D3HOT 0).vecRelease
    | .bar0 v => { s with pci := { s.pci with bar0 := v.toNat / 65536 * 65536 } }
    | .bar2 v => { s with pci := { s.pci with bar2 := v.toNat / 2 ^ 36 * 2 ^ 36 } })

end Sys2Proof.Machine
end

