-- ==== Sys2Proof/Machine/Lit.lean ====
section
/-! DEFINITION. The lighting drive LIT (spec/15_lighting.md, R570–R589) and the NTC conversion (R360). -/

namespace Sys2Proof.Machine

/-- The channel's state. -/
def State.litCh (s : State) (k : Nat) : LitCh := Tab.get {} s.lit k

/-- Set the channel's state. -/
def State.setLitCh (s : State) (k : Nat) (c : LitCh) : State := { s with lit := Tab.put s.lit k c }

/-- The channel is a member of group `g` (R584). -/
def State.litMember (s : State) (g k : Nat) : Bool := s.on LIT_CFG_GRP_EN k && s.get LIT_CFG_GROUP k == g

/-- The channel has OPEN, SHORT or OT set (R581). -/
def State.litFailed (s : State) (k : Nat) : Bool := s.bit LIT_LATCH_OPEN k || s.bit LIT_LATCH_SHORT k || s.bit LIT_OT_OT k

/-- The channel's group is held off (R581). -/
def State.litGroupOff (s : State) (k : Nat) : Bool := s.on LIT_CFG_GRP_EN k && s.bit LIT_STATUS_GROUP_OFF (s.get LIT_CFG_GROUP k)

/-- A member of group `g` has failed. -/
def State.litGroupFailed (s : State) (g : Nat) : Bool := (List.range 16).any (fun k => s.litMember g k && s.litFailed k)

/-- The threshold procedure runs on channel `k` (R623). -/
def State.litTrimming (s : State) (k : Nat) : Bool := s.on CAL_STATUS_LT_BUSY && s.get CAL_STATUS_LT_CHAN == k

/-- The channel may switch in its on-interval (R572, R580, R581, R583, R623). -/
def State.litRuns (s : State) (k : Nat) : Bool :=
  !s.litTrimming k && s.on LIT_CFG_EN k && s.get LIT_STAT_IEFF k != 0 && !s.litFailed k && !s.litGroupOff k

/-- LIT_STAT_k.STATE. -/
def State.litStateOf (s : State) (k : Nat) : Nat :=
  if s.bit LIT_LATCH_OPEN k then 2 else if s.bit LIT_LATCH_SHORT k then 3 else if s.bit LIT_OT_OT k then 4
  else if s.litGroupOff k then 5 else if s.on LIT_CFG_EN k && s.get LIT_DIM_DUTY k != 0 then 1 else 0

/-- Bring a channel's gate and what its registers show up to date; `LDGk` is low while it may not switch. -/
def State.litShow (k : Nat) (s : State) : State :=
  let c := s.litCh k
  let runs := s.litRuns k
  let s := if c.ldg && !(runs && c.inOn) then s.setLitCh k { c with ldg := false } else s
  (s.put LIT_STAT_STATE (s.litStateOf k) k).putBit LIT_STATUS_ON k (runs && c.inOn)

/-- A group with a failed member goes off; one without AON is not held off (R581). -/
def State.litGroupEval (g : Nat) (s : State) : State :=
  if !s.on LIT_GROUP_AON g then s.putBit LIT_STATUS_GROUP_OFF g false
  else if s.litGroupFailed g then s.putBit LIT_STATUS_GROUP_OFF g true else s

/-- The beacon group, if one is set (R584). -/
def State.beacon (s : State) : Option Nat := (List.range 4).find? (fun g => s.on LIT_GROUP_BEACON g)

/-- The group is healthy as a beacon (R585). -/
def State.beaconOk (s : State) (g : Nat) : Bool :=
  (List.range 16).any (s.litMember g) &&
    (List.range 16).all (fun k => !s.litMember g k || (s.on LIT_CFG_EN k && s.get LIT_DIM_DUTY k != 0 && !s.litFailed k))

/-- EMIT_EN as the conditions of R585 give it. -/
def State.emitWanted (s : State) : Bool := s.on LIT_CTRL_EMIT_ARM && (match s.beacon with
  | none => true
  | some g => s.beaconOk g)

/-- EMIT_EN follows its conditions; its fall sets BEACON_FAIL and records fault 004h (R585). -/
def State.emitEval (s : State) : State :=
  let want := s.emitWanted
  if s.on LIT_STATUS_EMIT_EN && !want then
    ((s.put LIT_STATUS_EMIT_EN 0).set1 LIT_FLAGS_BEACON_FAIL).fault 14 4 2 (s.beacon.getD 255)
  else s.put LIT_STATUS_EMIT_EN (if want then 1 else 0)

/-- Settle groups, channels and the emission enable after a change. -/
def State.litSettle (s : State) : State := (forN 16 State.litShow (forN 4 State.litGroupEval s)).emitEval

/-- IEFF at temperature `t` (R582). -/
def derated (iref : Nat) (t tD tO : Int) : Nat :=
  if t < tD then iref else if t < tO then (iref * (tO - t) / (tO - tD)).toNat else 0

/-- Bring IEFF and DERATING of channel `k` up to date (R576, R582). -/
def State.litIeff (k : Nat) (s : State) : State :=
  let iref := s.get LIT_CFG_IREF k
  let v := if s.on LIT_CFG_NTC_EN k then
      derated iref (s.getS LIT_NTC_T_T (s.get LIT_CFG_NTC k)) (s.getS LIT_DERATE_T_DERATE k) (s.getS LIT_DERATE_T_OFF k)
    else iref
  if s.litTrimming k then s else (s.put LIT_STAT_IEFF v k).putBit LIT_OT_DERATING k (decide (v < iref))

/-- Latch OPEN or SHORT for a channel (R579). -/
def State.litLatch (s : State) (k : Nat) (short : Bool) : State :=
  let s := s.putBit (if short then LIT_LATCH_SHORT else LIT_LATCH_OPEN) k true
  ((s.set1 (if short then LIT_FLAGS_SHORT else LIT_FLAGS_OPEN)).fault 14 (if short then 2 else 1) 2 k).litSettle

/-- A checked period ends: `toward` 0 neither, 1 OPEN, 2 SHORT (R579). -/
def State.litCount (s : State) (k toward : Nat) : State :=
  let c := s.litCh k
  let o := if toward = 1 then c.openC + 1 else 0
  let h := if toward = 2 then c.shortC + 1 else 0
  let s := s.setLitCh k { c with openC := o, shortC := h, chk := false }
  if toward = 1 ∧ s.get LIT_DET_OPEN_N k ≤ o then s.litLatch k false
  else if toward = 2 ∧ s.get LIT_DET_SHORT_N k ≤ h then s.litLatch k true else s

/-- DMAX / 256 of the period has passed without a trip (R572, R579). -/
def State.litDmax (s : State) (k : Nat) : State :=
  let c := s.litCh k
  if !c.ldg then s else
  let s := s.setLitCh k { c with ldg := false }
  if c.chk then s.litCount k 1 else s

/-- LIGHT_DMAX_REACHED (R572, R579). -/
def execLightDmaxReached (k : Fin 16) (s : State) : Out := .next (s.litDmax k)

/-- SWITCH_PERIOD_START (R572, R576, R578, R581): a period that has met neither trip nor DMAX is ended first. -/
def execSwitchPeriodStart (k : Fin 16) (s : State) : Out :=
  let s := (s.litDmax k).litIeff k
  let g := s.get LIT_CFG_GROUP k
  let s := if s.litGroupOff k && !s.litGroupFailed g then (s.putBit LIT_STATUS_GROUP_OFF g false).litSettle else s
  let c := s.litCh k
  let s := if c.inOn && s.litRuns k then
      s.setLitCh k { c with ldg := true, n := c.n + 1, trim := s.getS LIT_TRIM_TRIM k,
                            chk := decide (s.get LIT_DET_SKIP k ≤ c.n) && s.get LIT_DIM_DUTY k != 0 }
    else s
  .next (s.litShow k)

/-- The comparator's threshold in µV (R573). -/
def State.litThreshold (s : State) (k : Nat) : Int := s.get LIT_STAT_IEFF k * 250 + (s.litCh k).trim * 100

/-- LIGHT_TRIP (R572, R573, R579): `cyc` RT cycles after the period start LISk is at `uv` µV, the comparator's own
threshold error taken off. -/
def execLightTrip (k : Fin 16) (uv cyc : Nat) (s : State) : Out :=
  let c := s.litCh k
  .next (if c.ldg && decide (8 ≤ cyc) && decide (s.litThreshold k < uv) then
    let s := s.setLitCh k { c with ldg := false }
    if c.chk then s.litCount k (if cyc ≤ s.get LIT_DET_SHORT_T k then 2 else 0) else s
  else s)

/-- Whether an on-interval starts at cycle `c` (R575). -/
def dimStarts (per phase c : Nat) : Bool := per != 0 && phase * per / 4096 ≤ c && (c - phase * per / 4096) % per == 0

/-- A dimming period under DUTY, DIM_PERIOD and PHASE begins on channel `k` (R575). -/
def State.dimBegin (s : State) (k duty per phase : Nat) : State :=
  let c := s.litCh k
  if c.inOn && c.cont && duty == 4095 then s.setLitCh k { c with duty := duty, per := per, phase := phase }
  else (s.setLitCh k { c with inOn := duty != 0, cont := duty == 4095, n := 0, ldg := false, chk := false,
                              duty := duty, per := per, phase := phase }).litShow k

/-- DIM_ON_START (R575, R576): RT cycle `c` from the edge of tick 0. -/
def execDimOnStart (k : Fin 16) (c : Nat) (s : State) : Out :=
  let h := s.litCh k
  let d := s.get LIT_DIM_DUTY k
  let p := s.get LIT_DIM_DIM_PERIOD k
  let f := s.get LIT_PHASE_PHASE k
  .next (if s.on LIT_CFG_STROBE k then s
    else if dimStarts p f c then s.dimBegin k d p f
    else if dimStarts h.per h.phase c then s.dimBegin k h.duty h.per h.phase
    else s)

/-- The on-interval of channel `k` ends: LDGk goes low (R572). -/
def State.onEnd (s : State) (k : Nat) : State :=
  (s.setLitCh k { s.litCh k with inOn := false, cont := false, ldg := false, chk := false }).litShow k

/-- DIM_ON_END (R572, R575). -/
def execDimOnEnd (k : Fin 16) (s : State) : Out :=
  let c := s.litCh k
  .next (if c.inOn && !c.cont && !s.on LIT_CFG_STROBE k then s.onEnd k else s)

/-- The strobe of channel `k` begins (R577). -/
def State.strobeBegin (s : State) (k : Nat) : State :=
  (s.setLitCh k { s.litCh k with strobe := 2, inOn := true, cont := false, n := 0 }).litShow k

/-- STROBE_START (R577). -/
def execStrobeStart (k : Fin 16) (s : State) : Out := .next (if (s.litCh k).strobe = 1 then s.strobeBegin k else s)

/-- STROBE_END (R577). -/
def execStrobeEnd (k : Fin 16) (s : State) : Out :=
  .next (if (s.litCh k).strobe = 2 then (s.setLitCh k { s.litCh k with strobe := 0 }).onEnd k else s)

/-- A comparator with DEST 5 and INDEX `g` fires (R96, R577). -/
def State.strobeFire (s : State) (g : Nat) : State :=
  forN 16 (fun k s =>
    if s.on LIT_CFG_STROBE k && s.litMember g k && s.get LIT_DIM_DUTY k != 0 && !s.litTrimming k then
      if (s.litCh k).strobe ≠ 0 then (s.set1 LIT_FLAGS_STROBE_OVERLAP).fault 14 5 3 k
      else if s.get LIT_STROBE_STR_DLY k = 0 then s.strobeBegin k
      else s.setLitCh k { s.litCh k with strobe := 1 }
    else s) s

/-- LIT_CLEAR_WRITE (R580). -/
def execLitClearWrite (mask : BitVec 16) (s : State) : Out :=
  .next ((forN 16 (fun k s => if mask.toNat.testBit k then
    ((s.putBit LIT_LATCH_OPEN k false).putBit LIT_LATCH_SHORT k false).setLitCh k { s.litCh k with openC := 0, shortC := 0 } else s) s).litSettle)

/-- A write of LIT_GROUP_g: refused while MODE_ALLOW is 1, reserved with BEACON and no AON, refused with a second
beacon (R584). -/
def State.groupWrite (s : State) (g : Nat) (v : Word) : State :=
  let a := v.toNat % 2
  let b := v.toNat / 2 % 2
  if s.on LSR_PERMIT_MODE_ALLOW then s.set1 LIT_FLAGS_WRITE_REFUSED
  else if b = 1 ∧ a = 0 then s.reservedFault 14
  else if b = 1 ∧ (List.range 4).any (fun h => h != g && s.on LIT_GROUP_BEACON h) then s.set1 LIT_FLAGS_WRITE_REFUSED
  else ((s.put LIT_GROUP_AON a g).put LIT_GROUP_BEACON b g).litSettle

/-- GROUP_WRITE (R584). -/
def execGroupWrite (g : Fin 4) (v : Word) (s : State) : Out := .next (s.groupWrite g v)

/-- Group 8 has come into force: EN, STROBE, GROUP and GRP_EN act at once (R576); `old` is the state before. -/
def State.litCommit (s old : State) : State :=
  (forN 16 (fun k s =>
    if old.on LIT_CFG_STROBE k != s.on LIT_CFG_STROBE k then
      s.setLitCh k { s.litCh k with strobe := 0, inOn := false, cont := false, ldg := false, chk := false }
    else s) s).litSettle

/-! The NTC inputs (R360, R582, R583). -/

/-- The temperature of code `c` (R582). -/
def State.ntcTemp (s : State) (c : Nat) : Int :=
  let i := c / 128
  let a := s.getS LIT_CURVE_T i
  a + ((s.getS LIT_CURVE_T (i + 1) - a) * (c % 128 : Nat)).tdiv 128

/-- What a new temperature of its NTC input does to channel `k` (R582, R583). -/
def State.ntcChannel (s : State) (j : Nat) (bad : Bool) (k : Nat) : State :=
  if s.get LIT_CFG_NTC k ≠ j then s else
  let t := s.getS LIT_NTC_T_T j
  let s := if s.on LIT_CFG_NTC_EN k then s.litIeff k else s
  if s.on LIT_CFG_NTC_EN k && (bad || decide (s.getS LIT_DERATE_T_OFF k ≤ t)) then
    if s.bit LIT_OT_OT k then s else ((s.putBit LIT_OT_OT k true).set1 LIT_FLAGS_OT).fault 14 3 2 k
  else if !bad && decide (t ≤ s.getS LIT_DERATE_T_DERATE k) then s.putBit LIT_OT_OT k false else s

/-- NTC_CONVERT (R360, R582, R583): input `j` has code `c`. -/
def execNtcConvert (j : Fin 4) (c : BitVec 12) (s : State) : Out :=
  let o := decide (4080 ≤ c.toNat)
  let h := decide (c.toNat ≤ 15)
  let s := ((s.put AFE_NTC_CODE c.toNat j).put AFE_NTC_OPEN (if o then 1 else 0) j).put AFE_NTC_SHORT (if h then 1 else 0) j
  let was := s.bit AFE_STATUS_NTC_BAD j
  let s := s.putBit AFE_STATUS_NTC_BAD j (o || h)
  let s := if (o || h) && !was then (s.set1 AFE_FLAGS_NTC_BAD).fault 7 6 2 j else s
  let s := s.putS LIT_NTC_T_T (s.ntcTemp c.toNat) j
  .next (forN 16 (fun k s => s.ntcChannel j (o || h) k) s).litSettle

/-! The LITE commands (R139). -/

/-- A 16-bit signed quantity in payload word `i`. -/
def signed16 (q : Req) (i : Nat) : Bool := decide (-32768 ≤ toSigned 32 (q.w i) ∧ toSigned 32 (q.w i) ≤ 32767)

/-- LITE CHANNEL_SET (R139, R574). -/
def execLiteChannelSet (s : State) : Out := runCmd 0x2800 s (fun q s =>
  let k := q.w 0 % 16
  let iref := (q.w 1 * s.get LIT_RS_RS k + 125) / 250
  writer q 0x100 [(0, decide (q.w 0 < 16)), (1, decide (10 ≤ q.w 1 ∧ q.w 1 ≤ 1500 ∧ 1 ≤ iref ∧ iref ≤ 1023)), (2, decide (q.w 2 ≤ 4095)),
      (3, decide (1000 ≤ q.w 3 ∧ q.w 3 ≤ 25000)), (4, decide (q.w 4 < 4 ∨ q.w 4 = 0xFF))] s (fun s =>
    let s := ((s.putP LIT_CFG_IREF iref k).putP LIT_DIM_DIM_PERIOD ((800000000 / q.w 3 + 1) / 2) k).putP LIT_DIM_DUTY (q.w 2) k
    if q.w 4 = 0xFF then s.putP LIT_CFG_GRP_EN 0 k else (s.putP LIT_CFG_GRP_EN 1 k).putP LIT_CFG_GROUP (q.w 4) k))

/-- LITE GROUP_SET (R139, R584). -/
def execLiteGroupSet (s : State) : Out := runCmd 0x2801 s (fun q s =>
  let g := q.w 0 % 4
  let second := (List.range 4).any (fun h => h != g && s.on LIT_GROUP_BEACON h)
  match firstBad [(0, decide (q.w 0 < 4)), (1, decide (q.w 1 < 4 ∧ q.w 1 ≠ 2 ∧ !(q.w 1 = 3 ∧ second)))] with
  | some i => (s, some (badParam i))
  | none => (s.groupWrite g (word (q.w 1)), some (if s.on LSR_PERMIT_MODE_ALLOW then failReply stBadState else okReply)))

/-- LITE STATUS (R139, R589). -/
def execLiteStatus (s : State) : Out := runCmd 0x2802 s (fun _ s => reader [] s (fun s =>
  okReply [s.get LIT_STATUS_ON, s.get LIT_LATCH_OPEN, s.get LIT_LATCH_SHORT, s.get LIT_OT_OT]))

/-- LITE DERATE_SET (R139, R582). -/
def execLiteDerateSet (s : State) : Out := runCmd 0x2803 s (fun q s =>
  let k := q.w 0 % 16
  writer q 0x100 [(0, decide (q.w 0 < 16)), (1, decide (q.w 1 < 8)), (2, signed16 q 2 && decide (toSigned 32 (q.w 2) < toSigned 32 (q.w 3))), (3, signed16 q 3)] s
    (fun s => (((s.putP LIT_CFG_NTC_EN (q.w 1 % 2) k).putP LIT_CFG_NTC (q.w 1 / 2) k).putPS LIT_DERATE_T_DERATE (toSigned 32 (q.w 2)) k).putPS
      LIT_DERATE_T_OFF (toSigned 32 (q.w 3)) k))

/-- LITE CURVE_SET (R139, R582): the curve has no commit group. -/
def execLiteCurveSet (s : State) : Out := runCmd 0x2804 s (fun q s =>
  match firstBad ((List.range 33).map (fun i => (i, signed16 q i))) with
  | some i => (s, some (badParam i))
  | none => (forN 33 (fun i s => s.putS LIT_CURVE_T (toSigned 32 (q.w i)) i) s, some okReply))

/-- LITE STROBE_SET (R139, R577, R587). -/
def execLiteStrobeSet (s : State) : Out := runCmd 0x2805 s (fun q s =>
  let k := q.w 0 % 16
  writer q 0x100 [(0, decide (q.w 0 < 16)), (1, decide (q.w 1 < 2)), (2, decide (q.w 2 < 65536)), (3, decide (q.w 3 < 65536 ∧ !(q.w 1 = 1 ∧ q.w 3 = 0)))] s
    (fun s => ((s.putP LIT_CFG_STROBE (q.w 1) k).putP LIT_STROBE_STR_DLY (q.w 2) k).putP LIT_STROBE_STR_W (q.w 3) k))

/-- LITE DRIVE_SET (R139): each value within the range of its LIT field. -/
def execLiteDriveSet (s : State) : Out := runCmd 0x2806 s (fun q s =>
  let k := q.w 0 % 16
  writer q 0x100 [(0, decide (q.w 0 < 16)), (1, decide (200 ≤ q.w 1 ∧ q.w 1 ≤ 800)), (2, decide (1 ≤ q.w 2 ∧ q.w 2 ≤ 240)), (3, decide (1 ≤ q.w 3 ∧ q.w 3 ≤ 255)),
      (4, decide (1 ≤ q.w 4 ∧ q.w 4 ≤ 255)), (5, decide (9 ≤ q.w 5 ∧ q.w 5 ≤ 255)), (6, decide (q.w 6 ≤ 255))] s
    (fun s => (((((s.putP LIT_SW_SW_PERIOD (q.w 1) k).putP LIT_SW_DMAX (q.w 2) k).putP LIT_DET_OPEN_N (q.w 3) k).putP LIT_DET_SHORT_N (q.w 4) k).putP
      LIT_DET_SHORT_T (q.w 5) k).putP LIT_DET_SKIP (q.w 6) k))

end Sys2Proof.Machine
end

