-- ==== Sys2Proof/Machine/Bf.lean ====
section
/-! DEFINITION. Block-floating arithmetic and the stages of the loop engine (R378–R387), and the check of a program
image (R388). -/

namespace Sys2Proof.Machine

/-- A shift left by an integer number of places; a negative one is an arithmetic shift right (R379). -/
def shiftI (x n : Int) : Int := if 0 ≤ n then x * (2 ^ n.toNat : Nat) else x / ((2 ^ (-n).toNat : Nat) : Int)

/-- The bit length of a natural number. -/
def bitLen (n : Nat) : Nat := if n = 0 then 0 else Nat.log2 n + 1

/-- Rounding to nearest, ties upward, after a shift right by `sh` (R380). -/
def rndShift (x sh : Int) : Int := if 0 < sh then shiftI (x + shiftI 1 (sh - 1)) (-sh) else shiftI x (-sh)

/-- Stage flags in the places of LOP_FFLAGS (R381, R384). -/
def flEsat : Nat := 2
def flUnder : Nat := 4
def flLimited : Nat := 16
def flOutClamp : Nat := 256

/-- The shift at which no mantissa exceeds 17 bits (R380). -/
def renormShift (accs : List Int) : Nat → Int → Int
  | 0, sh => sh
  | n + 1, sh => if accs.any (fun a => decide (131071 < rndShift a sh)) then renormShift accs n (sh + 1) else sh

/-- Renormalise accumulators that stand for acc × 2^scale to one exponent (R380, R381): mantissas, exponent, flags. -/
def renorm (accs : List Int) (scale : Int) : List Int × Nat × Nat :=
  let b := bitLen (accs.foldl (fun m a => max m a.natAbs) 0)
  if b = 0 then (accs.map (fun _ => 0), 0, 0) else
  let sh := renormShift accs 2 ((b : Int) - 17)
  let e := sh + scale + 49
  let ms := accs.map (fun a => rndShift a sh)
  if 63 < e then (ms.map (fun m => if 0 < m then 131071 else if m < 0 then -131072 else 0), 63, flEsat)
  else if e < 0 then (ms.map (fun _ => 0), 0, flUnder)
  else (ms, e.toNat, 0)

/-- One exact value num × 2^scale as a block-floating value, and its flags (R380, R381). -/
def bfOf (num scale : Int) : BF × Nat :=
  let (ms, e, f) := renorm [num] scale
  (⟨ms.headD 0, e⟩, f)

/-- The value of a BF24 field (R407). -/
def bf24 (w : Nat) : BF := ⟨toSigned 18 (w % 2 ^ 18), w / 2 ^ 18 % 64⟩

/-- The BF24 layout of a value (R407). -/
def BF.to24 (v : BF) : Nat := v.e % 64 * 2 ^ 18 + ofSigned 18 v.m

/-- A value normalised (R369, R380). -/
def bfNorm (v : BF) : BF := (bfOf v.m ((v.e : Int) - 49)).1

/-- A sample as an operand (R369). -/
def bfSample (value : Int) (gain : Nat) : BF := ⟨value * 4, 32 - gain⟩

/-- A power word as an operand (R369). -/
def bfWord (w : Nat) : BF := ⟨w * 2, 32⟩

/-- The value 1.0 (R369). -/
def bfOne : BF := ⟨65536, 33⟩

/-- A value at a common exponent (R379). -/
def BF.al (v : BF) (ew : Nat) : Int := shiftI v.m ((v.e : Int) - ew)

/-- An instruction (R383). -/
structure LInstr where
  op  : Nat
  a   : Nat
  b   : Nat
  c   : Nat
  sel : Nat
  rsv : Nat
  ce  : Nat
  k   : List Int
  deriving DecidableEq, Repr

/-- Decode the four words of an instruction (R383). -/
def decodeLoop (ws : List Word) : LInstr :=
  let i (n : Nat) : Word := ws.getD n 0
  let f := wfield (i 3) 25 0 * 2 ^ 64 + (i 2).toNat * 2 ^ 32 + (i 1).toNat
  let k (n : Nat) : Int := toSigned 18 (f / 2 ^ (72 - 18 * n) % 2 ^ 18)
  { op := wfield (i 0) 31 28, a := wfield (i 0) 27 22, b := wfield (i 0) 21 16, c := wfield (i 0) 15 10, sel := wfield (i 0) 9 8,
    rsv := wfield (i 0) 7 0, ce := wfield (i 3) 31 26, k := [k 0, k 1, k 2, k 3, k 4] }

/-- Coefficient `n` of an instruction, from 1. -/
def LInstr.kk (i : LInstr) (n : Nat) : Int := i.k.getD (n - 1) 0

/-- The stages (R384). -/
def opGain : Nat := 1
def opPi : Nat := 2
def opSos : Nat := 3
def opLimit : Nat := 4
def opRate : Nat := 5
def opSelect : Nat := 6
def opPlaus : Nat := 7
def opOut : Nat := 8

/-- Which operand fields A, B, C the encoding of an instruction uses (R384). -/
def LInstr.uses (i : LInstr) : List Bool :=
  if i.op = opGain then [i.kk 1 != 0, i.kk 2 != 0, i.kk 3 != 0]
  else if i.op = opPi then [true, true, false]
  else if i.op = opSos ∨ i.op = opLimit ∨ i.op = opRate ∨ i.op = opOut then [true, false, false]
  else if i.op = opSelect then [i.sel == 2, true, true]
  else [false, false, false]

/-- Which coefficients k1 to k5 an instruction uses (R384). -/
def LInstr.coefs (i : LInstr) : List Bool :=
  if i.op = opGain then [true, true, true, false, false]
  else if i.op = opPi then [true, true, false, true, true]
  else if i.op = opSos then [true, true, true, true, true]
  else if i.op = opLimit ∨ i.op = opRate then [true, true, false, false, false]
  else if i.op = opSelect then [i.sel == 2, false, false, false, false]
  else if i.op = opPlaus then [true, false, false, false, false]
  else [false, false, false, false, false]

/-- An instruction has coefficients. -/
def LInstr.hasK (i : LInstr) : Bool := i.coefs.any id

/-- The clamp of an accumulator, and whether it acts (R384). -/
def clampI (v lo hi : Int) : Int × Nat := if v < lo then (lo, flLimited) else if hi < v then (hi, flLimited) else (v, 0)

/-- The word of an OUT instruction, and whether its clamp acts (R384). -/
def outWord (v : BF) : Nat × Nat :=
  let w := rndShift v.m (33 - v.e)
  if w < 0 then (0, flOutClamp) else if 0xFFFF < w then (0xFFFF, flOutClamp) else (w.toNat, 0)

/-- One execution of a stage other than PLAUS in a PRELOAD run (`pre`) or in a run in which every state updates
(R379–R385): the result, the new state and the flags. In a PRELOAD run the state that is set anew does not enter ew. -/
def LInstr.run (i : LInstr) (get : Nat → BF) (st : StageSt) (pre : Bool) : BF × StageSt × Nat :=
  let a := get i.a
  let b := get i.b
  let c := get i.c
  let ce := if i.hasK then i.ce else 49
  let se := if pre then 0 else st.e
  let plain (x : Int) : Int := shiftI x (49 - ce)
  let one (ew : Nat) (acc : Int) (f : Nat) : BF × StageSt × Nat :=
    let (ms, e, g) := renorm [acc] (ce + ew - 98)
    (⟨ms.headD 0, e⟩, st, f ||| g)
  if i.op = opGain then
    let rd (n : Nat) (v : BF) (ew : Nat) : Int := if i.kk n = 0 then 0 else i.kk n * v.al ew
    let ex (n : Nat) (v : BF) : Nat := if i.kk n = 0 then 0 else v.e
    let ew := max (ex 1 a) (max (ex 2 b) (ex 3 c))
    one ew (rd 1 a ew + rd 2 b ew + rd 3 c ew) 0
  else if i.op = opPi then
    let ew := if pre then max a.e b.e else max a.e se
    let bound (k : Int) : Int := shiftI k (49 - ew)
    let ini := if pre then plain (b.al ew) else plain ((⟨st.a, se⟩ : BF).al ew) + i.kk 2 * a.al ew
    let (ia, f1) := clampI ini (bound (i.kk 4)) (bound (i.kk 5))
    let (y, f2) := clampI (i.kk 1 * a.al ew + ia) (bound (i.kk 4)) (bound (i.kk 5))
    let (ms, e, g) := renorm [y, ia] (ce + ew - 98)
    (⟨ms.getD 0 0, e⟩, { st with e := e, a := ms.getD 1 0 }, f1 ||| f2 ||| g)
  else if i.op = opSos then
    if pre then
      let (ms, e, g) := renorm [i.kk 1 * a.al a.e, 0, 0] (ce + a.e - 98)
      (⟨ms.getD 0 0, e⟩, { e := e, a := 0, b := 0 }, g)
    else
      let ew := max a.e se
      let (ys, ey, g1) := renorm [i.kk 1 * a.al ew + plain ((⟨st.a, se⟩ : BF).al ew)] (ce + ew - 98)
      let y : BF := ⟨ys.headD 0, ey⟩
      let w := max ew ey
      let s1 := i.kk 2 * a.al w - i.kk 4 * y.al w + plain ((⟨st.b, se⟩ : BF).al w)
      let s2 := i.kk 3 * a.al w - i.kk 5 * y.al w
      let (ms, e, g2) := renorm [plain (y.al w), s1, s2] (ce + w - 98)
      (⟨ms.getD 0 0, e⟩, { e := e, a := ms.getD 1 0, b := ms.getD 2 0 }, g1 ||| g2)
  else if i.op = opLimit then
    let (y, f) := clampI (plain (a.al a.e)) (shiftI (i.kk 1) (49 - a.e)) (shiftI (i.kk 2) (49 - a.e))
    one a.e y f
  else if i.op = opRate then
    let ew := max a.e se
    let x := plain (a.al ew)
    let yp := plain ((⟨st.a, se⟩ : BF).al ew)
    let y := if pre then x else (clampI x (yp - shiftI (i.kk 1) (49 - ew)) (yp + shiftI (i.kk 2) (49 - ew))).1
    let (ms, e, g) := renorm [y] (ce + ew - 98)
    (⟨ms.headD 0, e⟩, { st with e := e, a := ms.headD 0 }, g)
  else if i.op = opSelect then
    let ew := if i.sel = 2 then max a.e (max b.e c.e) else max b.e c.e
    let (p, q) := (plain (b.al ew), plain (c.al ew))
    one ew (if i.sel = 0 then min p q else if i.sel = 1 then max p q
      else if shiftI (i.kk 1) (49 - ew) ≤ plain (a.al ew) then p else q) 0
  else if i.op = opOut then one a.e (plain (a.al a.e)) (outWord a).2
  else (⟨0, 0⟩, st, 0)

/-- One update of the PLAUS model state: x ← x + α × (u − x) (R396). -/
def plausStep (i : LInstr) (x u : BF) : BF × Nat :=
  let ew := max x.e u.e
  let (ms, e, f) := renorm [shiftI (x.al ew) (49 - i.ce) + i.kk 1 * u.al ew - i.kk 1 * x.al ew] (i.ce + ew - 98)
  (⟨ms.headD 0, e⟩, f)

/-- The residual r = sample − x, and x, renormalised together (R378, R380, R396; log entry 65). -/
def bfResid (a x : BF) : BF × BF × Nat :=
  let ew := max a.e x.e
  let (ms, e, f) := renorm [a.al ew - x.al ew, x.al ew] ((ew : Int) - 49)
  (⟨ms.getD 0 0, e⟩, ⟨ms.getD 1 0, e⟩, f)

/-- The residual of an earlier sample and the new x, renormalised together (R378, R380). -/
def bfJoin (r x : BF) : BF × BF × Nat :=
  let ew := max r.e x.e
  let (ms, e, f) := renorm [r.al ew, x.al ew] ((ew : Int) - 49)
  (⟨ms.getD 0 0, e⟩, ⟨ms.getD 1 0, e⟩, f)

/-- |r| > ABS + REL × |x| / 65,536, compared exactly (R397). -/
def outsideWindow (r x abs : BF) (rel : Nat) : Bool :=
  decide (abs.m * (2 ^ abs.e : Nat) * 65536 + rel * (x.m.natAbs * 2 ^ x.e : Nat) < ((r.m.natAbs * 2 ^ r.e * 65536 : Nat) : Int))

/-! The check of an image (R388). -/

/-- The cost of an instruction (R386). -/
def LInstr.cost (i : LInstr) : Nat := if i.op = opSos ∨ i.op = opPlaus then 2 else 1

/-- The errors of one instruction (R388), lowest first; 0 for none. -/
def LInstr.err (i : LInstr) (count kind : Nat) : Nat :=
  let fields := [i.a, i.b, i.c].zip i.uses
  if 8 < i.op ∨ i.rsv ≠ 0 ∨ (i.op = opSelect ∧ i.sel = 3) ∨ (i.op ≠ opSelect ∧ i.sel ≠ 0) then 1
  else if fields.any (fun (c, u) => if u then decide (58 ≤ c) || (decide (c < 48) && decide (count ≤ c)) else c != 0) then 2
  else if (i.hasK && decide (i.ce < 24)) || (i.k.zip i.coefs).any (fun (k, u) => !u && k != 0) ||
      (i.op == opPi && decide (i.kk 5 < i.kk 4)) || (i.op == opLimit && decide (i.kk 2 < i.kk 1)) ||
      (i.op == opRate && (decide (i.kk 1 < 0) || decide (i.kk 2 < 0))) ||
      (i.op == opPlaus && !(decide (0 < i.kk 1) && decide (i.kk 1 * (2 ^ i.ce : Nat) ≤ ((2 ^ 49 : Nat) : Int)))) then 3
  else if kind = 0 ∧ (i.a = 55 ∧ i.uses.getD 0 false ∨ i.c = 55 ∧ i.uses.getD 2 false ∨ i.b = 55 ∧ i.uses.getD 1 false ∧ i.op ≠ opPi) then 6
  else 0

/-- The better of two (index, ERR) candidates: the lower index, then the lower ERR (R388). -/
def betterErr : Option (Nat × Nat) → Nat × Nat → Option (Nat × Nat)
  | none, c => some c
  | some a, c => if c.1 < a.1 ∨ (c.1 = a.1 ∧ c.2 < a.2) then some c else some a

/-- The indices of a stage in a program. -/
def opIndices (is : List LInstr) (op : Nat) : List Nat := (is.zipIdx.filter (fun c => c.1.op == op)).map Prod.snd

/-- The index at which the running cost first exceeds 48 (R386, R388). -/
def overCost : List LInstr → Nat → Nat → Option Nat
  | [], _, _ => none
  | i :: t, n, c => if 48 < c + i.cost then some n else overCost t (n + 1) (c + i.cost)

/-- The result of the check of an image: ERR and ERR_INDEX of the first failure (R388); `inForce` when the image is in
force for a slot. -/
def checkImage (is : List LInstr) (kind : Nat) (inForce : Bool) : Nat × Nat :=
  let count := is.length
  let last := count - 1
  let outs := opIndices is opOut
  let ps := opIndices is opPlaus
  let c0 := is.zipIdx.foldl (fun b (i, n) => if i.err count kind = 0 then b else betterErr b (n, i.err count kind)) none
  let c1 := if outs = [last] then c0 else betterErr c0 (match outs.find? (fun n => n != last) with
    | some n => n
    | none => last, 4)
  let c2 := if kind = 0 then (if ps.length = 1 then c1 else betterErr c1 (ps.getD 1 last, 5))
    else match ps with
      | [] => c1
      | n :: _ => betterErr c1 (n, 5)
  let c3 := match overCost is 0 0 with
    | some n => betterErr c2 (n, 7)
    | none => c2
  let c4 := if inForce then betterErr c3 (0, 8) else c3
  match c4 with
  | some (n, e) => (e, n)
  | none => (0, 0)

end Sys2Proof.Machine
end

