-- ==== Sys2Proof/Machine/Lop.lean ====
section
/-! DEFINITION. The loop engine: program images, fast and slow loops, camera trim, plausibility supervision
(spec/10_loop_engine.md). -/

namespace Sys2Proof.Machine

/-- State of slot `k`: 0–15 fast, 16–23 slow. -/
def State.slot (s : State) (k : Nat) : Slot := Tab.get {} s.lop.slots k

/-- Replace the state of slot `k`. -/
def State.setSlot (s : State) (k : Nat) (l : Slot) : State := { s with lop := { s.lop with slots := Tab.put s.lop.slots k l } }

/-- The image in force for slot `k` (IMAGE_IF). -/
def State.slotImage (s : State) (k : Nat) : Nat := if k < 16 then s.get LOP_FSTAT_IMAGE_IF k else s.get LOP_SSTAT_IMAGE_IF (k - 16)

/-- Image `i` is in force for a slot. -/
def State.imageInForce (s : State) (i : Nat) : Bool := (List.range 24).any (fun k => s.slotImage k == i)

/-- A bit of the LOADED or KIND registers. -/
def State.imgBit (s : State) (lo hi : Fref) (i : Nat) : Bool := if i < 32 then s.bit lo i else s.bit hi (i - 32)

/-- Set a bit of the LOADED or KIND registers. -/
def State.setImgBit (s : State) (lo hi : Fref) (i : Nat) (v : Bool) : State := if i < 32 then s.putBit lo i v else s.putBit hi (i - 32) v

/-- Image `i` is loaded (R389, R390). -/
def State.loaded (s : State) (i : Nat) : Bool := i != 63 && s.imgBit LOP_IMG_LOADED_LO_LOADED LOP_IMG_LOADED_HI_LOADED i

/-- Image `i` is marked as a slow image. -/
def State.slowImage (s : State) (i : Nat) : Bool := s.imgBit LOP_IMG_KIND_LO_KIND LOP_IMG_KIND_HI_KIND i

/-- The first `n` instructions of image `i` (R383, R389). -/
def State.program (s : State) (i n : Nat) : List LInstr :=
  (List.range n).map (fun j => decodeLoop (bytesWords (Memory.readBytes 0 s.lop.imgs (i * 768 + 16 * j) 16) 4))

/-- Write words into image `i` from word `at`; the image is no longer loaded (R389). -/
def State.imageWrite (s : State) (i at_ : Nat) (ws : List Word) : State :=
  ({ s with lop := { s.lop with imgs := Memory.writeBytes 0 s.lop.imgs (i * 768 + 4 * at_) (wordsBytes ws) } }).setImgBit
    LOP_IMG_LOADED_LO_LOADED LOP_IMG_LOADED_HI_LOADED i false

/-- The check of image `i` (R388–R390): ERR and ERR_INDEX, and the state with the result. -/
def State.imageCheck (s : State) (i count kind : Nat) : Nat × Nat × State :=
  let (e, n) := if i = 63 then (8, 0) else checkImage (s.program i count) kind (s.imageInForce i)
  let s := ((s.put LOP_IMG_STATUS_ERR e).put LOP_IMG_STATUS_ERR_INDEX n).put LOP_IMG_STATUS_BUSY 0
  let s := { s with lop := { s.lop with check := none } }
  if e = 0 then
    let s := { s with lop := { s.lop with counts := Tab.put s.lop.counts i count } }
    (e, n, (s.setImgBit LOP_IMG_LOADED_LO_LOADED LOP_IMG_LOADED_HI_LOADED i true).setImgBit LOP_IMG_KIND_LO_KIND LOP_IMG_KIND_HI_KIND i (kind == 1))
  else (e, n, (s.set1 LOP_FLAGS_IMG_REFUSED).fault 8 4 3)

/-- The selector advances after a data access: WORD carries into INDEX. -/
def State.imgAdvance (s : State) : State :=
  let n := (s.get LOP_IMG_SEL_INDEX * 4 + s.get LOP_IMG_SEL_WORD + 1) % 256
  (s.put LOP_IMG_SEL_INDEX (n / 4)).put LOP_IMG_SEL_WORD (n % 4)

/-- IMG_DATA_ACCESS (R389): a write of `v`, or a read (none). Past instruction 47 there is no word: a read gives 0 and
a write changes nothing. -/
def execImgDataAccess (v : Option Word) (s : State) : Out :=
  let i := s.get LOP_IMG_SEL_IMAGE
  let n := s.get LOP_IMG_SEL_INDEX * 4 + s.get LOP_IMG_SEL_WORD
  .next (match v with
    | some w =>
      if s.imageInForce i then (s.set1 LOP_FLAGS_WRITE_REFUSED).imgAdvance
      else ((if n < 192 then s.imageWrite i n [w] else s).put LOP_IMG_DATA_DATA w.toNat).imgAdvance
    | none =>
      (s.put LOP_IMG_DATA_DATA (if n < 192 then leNat (Memory.readBytes 0 s.lop.imgs (i * 768 + 4 * n) 4) else 0)).imgAdvance)

/-- IMG_MARK (R389): COUNT outside 1–48 is reserved (R11). -/
def execImgMark (count : Fin 64) (slow : Bool) (s : State) : Out :=
  .next (if count.val = 0 ∨ 48 < count.val then s.reservedFault 8
    else ({ s with lop := { s.lop with check := some (s.get LOP_IMG_SEL_IMAGE, count.val, if slow then 1 else 0) } }).set1 LOP_IMG_STATUS_BUSY)

/-- IMG_CHECK_DONE (R388, R389). -/
def execImgCheckDone (s : State) : Out :=
  .next (match s.lop.check with
    | some (i, c, k) => (s.imageCheck i c k).2.2
    | none => s)

/-! Images in force and re-arming. -/

/-- Bring image `img` into force for fast slot `p` (R372, R395); the PLAUS model state is kept, t becomes 0 (R377). -/
def State.setImage (s : State) (p img : Nat) : State :=
  if s.get LOP_FSTAT_IMAGE_IF p = img then s else
  let l := s.slot p
  let s := (s.setSlot p { l with y := [], st := [], live := false, primed := false, closed := false }).put LOP_FSTAT_IMAGE_IF img p
  let s := s.put LOP_TRIM_TRIM 0 p
  if img ≠ 63 ∧ !s.loaded img then (s.set1 LOP_FFLAGS_NOT_LOADED p).fault 8 3 2 p else s

/-- Bring an image into force for slow slot `k` (R402): its next run is a PRELOAD run. -/
def State.setSlowImage (s : State) (k img : Nat) : State :=
  if s.get LOP_SSTAT_IMAGE_IF k = img then s else
  (s.setSlot (16 + k) { s.slot (16 + k) with y := [], st := [], primed := false, closed := false }).put LOP_SSTAT_IMAGE_IF img k

/-- The reported state of slot `k`. -/
def State.showSlot (s : State) (k : Nat) : State :=
  let forced := s.bit LOP_FORCED_FORCED k
  if k < 16 then s.put LOP_FSTAT_STATE (if forced then (if (s.slot k).satFirst then 3 else 2) else s.get LOP_FCTRL_MODE k) k
  else s.put LOP_SSTAT_STATE (if forced then 3 else s.get LOP_SCTRL_MODE (k - 16)) (k - 16)

/-- Re-arm slot `k` (R399). -/
def State.rearm (s : State) (k : Nat) : State :=
  let l := s.slot k
  let s := (s.setSlot k { l with live := false, primed := false, closed := false, sat := false, trip := false, satFirst := false, seqs := [] }).putBit LOP_FORCED_FORCED k false
  if k < 16 then s.put LOP_PLAUS_RUN_RUN 0 k else s

/-- LOOP_REARM (R399): a write of LOP_CLEAR. -/
def execLoopRearm (mask : Nat) (s : State) : Out := .next { s with lop := { s.lop with clear := s.lop.clear ||| mask % 2 ^ 24 } }

/-- Cancel the image numbers of LOAD_LOOP still on their way for slot `p` (R394). -/
def State.cancelImages (s : State) (p : Nat) : State :=
  let f (e : Lag) : Lag := { e with hand := { e.hand with image := none } }
  let one (t : Tab Lag) : Tab Lag := match Tab.find t p with
    | some e => Tab.put t p (f e)
    | none => t
  let line := match Tab.find s.lsr.line p with
    | some l => Tab.put s.lsr.line p (l.map f)
    | none => s.lsr.line
  { s.setSlot p { s.slot p with await := none } with lsr := { s.lsr with line := line, out := one s.lsr.out, cur := one s.lsr.cur } }

/-- The image that a LOOP PROG_LOAD has loaded for slot `k` comes into force with a commit of its number (R393). -/
def State.progInForce (s : State) (k img : Nat) : State :=
  if (s.slot k).loaded = some img then s.setSlot k { s.slot k with prog := img, loaded := none } else s

/-- What a commit of group 7 does in the loop engine (R377, R394, R399, R402): `nagus` are the slots whose captured
IMAGE Nagus wrote; `o` is the state before. -/
def State.lopCommit (s o : State) (nagus : Nat) : State :=
  let s := forN 16 (fun p s =>
    let s := if nagus.testBit p then ((s.setImage p (s.get LOP_FCTRL_IMAGE p)).cancelImages p).progInForce p (s.get LOP_FCTRL_IMAGE p) else s
    if s.get LOP_FCTRL_CAM_EN p ≠ o.get LOP_FCTRL_CAM_EN p ∨ s.get LOP_FCTRL_CAM_CTX p ≠ o.get LOP_FCTRL_CAM_CTX p then
      s.put LOP_TRIM_TRIM 0 p else s) s
  let s := forN 8 (fun k s =>
    let s := (s.setSlowImage k (s.get LOP_SCTRL_IMAGE k)).progInForce (16 + k) (s.get LOP_SCTRL_IMAGE k)
    if s.on LOP_SCTRL_MODE k then s else s.setSlot (16 + k) { s.slot (16 + k) with primed := false }) s
  let s := forN 24 (fun k s => if s.lop.clear.testBit k then s.rearm k else s) s
  forN 24 (fun k s => s.showSlot k) { s with lop := { s.lop with clear := 0 } }

/-! A run of a fast slot. -/

/-- The speed class of a speed (R373). -/
def State.speedClass (s : State) (vel : Nat) : Nat := forN 7 (fun j n => if s.get LOP_VCLASS_VEL j ≤ vel then n + 1 else n) 0

/-- K[c] of pier `p` (R374). -/
def State.kOf (s : State) (p vel : Nat) : BF := bf24 (s.get LOP_K_K p (s.speedClass vel))

/-- The camera trim t, signed (R375). -/
def State.trim (s : State) (p : Nat) : Int := s.getS LOP_TRIM_TRIM p

/-- OR flags into LOP_FFLAGS_p. -/
def State.orFlags (s : State) (p f : Nat) : State :=
  let a := LOP_FFLAGS_PLAUS_TRIP.addr p
  s.wr a (s.rd a ||| word f)

/-- A run of slot `p` without a usable descriptor: while the slot is live its runs since the last one are counted (R376). -/
def State.camSince (s : State) (p : Nat) (live : Bool) : State :=
  if !live then s else
  let l := s.slot p
  let hold := s.get LOP_CAM_AGE_STALE_HOLD p
  let s := s.setSlot p { l with since := min (l.since + 1) 65536 }
  if l.since + 1 = hold then ((s.put LOP_TRIM_TRIM 0 p).set1 LOP_FFLAGS_STALE p).fault 8 5 3 p else s

/-- The camera trim update at the end of slot `p`'s run, for the next run (R375–R377): `gm` is G of the measured tick. -/
def State.camTrim (s : State) (p : Nat) (gm live : Bool) : State :=
  let l := s.slot p
  let lit := if gm then min (l.litRun + 1) 255 else 0
  let s := s.setSlot p { l with litRun := lit }
  if !s.on LOP_FCTRL_CAM_EN p then s.put LOP_TRIM_TRIM 0 p else
  match Tab.find s.cam.latch (s.get LOP_FCTRL_CAM_CTX p) with
  | none => s.camSince p live
  | some d =>
    let frame := (d.words.getD 0 0).toNat
    if d.tick ≠ s.key.tick ∨ l.frame = some frame then s.camSince p live else
    let stale := (d.words.getD 1 0).toNat.testBit 15 || decide (s.get LOP_CAM_AGE_AGE_MAX p < d.age)
    if stale then (s.incSat LOP_FCNT_B_STALE p).camSince p live
    else if s.get LOP_CAM_AGE_TRIM_LIT p ≤ lit then
      let area : Nat := (d.words.getD 2 0).toNat % 2 ^ 24
      let rel := Int.tdiv (((s.get LOP_CAM_AREA_AREA_T p : Int) - (area : Int)) * s.get LOP_CAM_INV_INV_T p) 65536
      let t := s.trim p + Int.tdiv (s.get LOP_CAM_CFG_KC p * rel) 65536
      let mx : Int := s.get LOP_CAM_CFG_TMAX p
      let s := s.setSlot p { s.slot p with frame := some frame, since := 0 }
      let s := if mx < t ∨ t < -mx then s.set1 LOP_FFLAGS_TRIM_CLAMP p else s
      s.putS LOP_TRIM_TRIM (max (-mx) (min mx t)) p
    else s.camSince p live

/-- A plausibility trip (R398). -/
def State.plausTrip (s : State) (p : Nat) (r x : BF) : State :=
  let s := (s.putBit LOP_FORCED_FORCED p true).set1 LOP_FFLAGS_PLAUS_TRIP p
  let s := s.setSlot p { s.slot p with trip := true }
  s.faultWith 8 1 (if s.on LOP_FCTRL_PLAUS_F1 p then 1 else 2) p
    ([byte p] ++ leBytes 3 r.to24 ++ leBytes 3 x.to24 ++ leBytes 5 (s.key.tick % 2 ^ 40))

/-- One update of the PLAUS stage of slot `p` with one sample (R396–R398, R400); `check` tells whether the sample is
checked. -/
def State.plausSample (s : State) (p : Nat) (i : LInstr) (u : BF) (w : Nat) (check : Bool) : State :=
  let l := s.slot p
  let (x, f1) := plausStep i l.x u
  let (r, x, f2) := if check then bfResid (bfSample (swValue w) (swGain w)) x else bfJoin l.r x
  let s := ((s.setSlot p { l with x := x, r := r }).orFlags p (f1 ||| f2)).put LOP_EXPECT_EXPECT x.to24 p
  if !check then s else
  let s := s.put LOP_RESID_RESID r.to24 p
  if l.trip then s
  else if outsideWindow r x (bf24 (s.get LOP_PLAUS_ABS_ABS p)) (s.get LOP_PLAUS_N_REL p) then
    let s := s.incSat LOP_FCNT_A_OUT_WIN p
    let n := s.get LOP_PLAUS_RUN_RUN p + 1
    let s := s.put LOP_PLAUS_RUN_RUN (min n 0xFFFF) p
    if s.get LOP_PLAUS_N_N p ≤ n then s.plausTrip p r x else s
  else s.put LOP_PLAUS_RUN_RUN 0 p

/-- A stage has saturated in a PRELOAD or CLOSED run of slot `p` (R382). -/
def State.loopSaturate (s : State) (p : Nat) : State :=
  if (s.slot p).sat then s else
  ((s.putBit LOP_FORCED_FORCED p true).setSlot p { s.slot p with sat := true, satFirst := !s.bit LOP_FORCED_FORCED p }).fault 8 2 2 p

/-- What a run reads: operand codes 48 and above (R368). -/
abbrev Operands := Nat → BF

/-- Execute the instructions of a fast slot's run (R371, R396): `all` when every stage executes, `pre` in a PRELOAD run;
`mid` and `fin` are the emission sample words. -/
def State.fastStages (s : State) (p : Nat) (prog : List LInstr) (ops : Nat → BF) (u : BF) (mid fin : Nat) (all pre quiet : Bool) : State :=
  prog.zipIdx.foldl (fun s (i, n) =>
    if i.op = opPlaus then
      let f0 := s.rd (LOP_FFLAGS_PLAUS_TRIP.addr p)
      let s := s.wr (LOP_FFLAGS_PLAUS_TRIP.addr p) (f0 &&& ~~~(word flEsat))
      let s := s.plausSample p i u mid (swUsable mid && !quiet)
      let s := s.plausSample p i u fin (swUsable fin && !quiet)
      let s := s.setSlot p { s.slot p with y := Tab.put (s.slot p).y n (s.slot p).r }
      let s := if s.on LOP_FFLAGS_ESAT p && all then s.loopSaturate p else s
      s.orFlags p f0.toNat
    else if all then
      let l := s.slot p
      let get (c : Nat) : BF := if c < 48 then Tab.get {} l.y c else ops c
      let (y, st, f) := i.run get (Tab.get {} l.st n) pre
      let s := (s.setSlot p { l with y := Tab.put l.y n y, st := Tab.put l.st n st }).orFlags p f
      if f &&& flEsat ≠ 0 then s.loopSaturate p else s
    else s) s

/-- The usable samples of a pair are exchanged (R367): operands mid and end, and whether a substitution was made. -/
def samplePair (mid fin : Nat) : BF × BF × Bool :=
  let v (w : Nat) : BF := bfSample (swValue w) (swGain w)
  if !swUsable mid && swUsable fin then (v fin, v fin, true)
  else if swUsable mid && !swUsable fin then (v mid, v mid, true)
  else (v mid, v fin, false)

/-- EMEAN (R368): the mean of the usable samples, or EM_END. -/
def emean (mid fin : Nat) (emEnd : BF) : BF :=
  let num (w : Nat) : Int := swValue w * (2 ^ (8 - swGain w) : Nat)
  match swUsable mid, swUsable fin with
  | true, true => (bfOf (num mid + num fin) (-24)).1
  | true, false => (bfOf (num mid) (-23)).1
  | false, true => (bfOf (num fin) (-23)).1
  | false, false => emEnd

/-- What the run of a slot reads from outside the engine (R366): laser-side values of the measured tick and of the
target tick, SENT_M, and the sample words of inputs 2p and 2p + 1. -/
structure RunIn where
  mes  : Lag
  tgt  : Lag
  sent : Nat
  mid0 : Nat
  fin0 : Nat
  mid1 : Nat
  fin1 : Nat
  deriving DecidableEq, Repr

/-- Gather what the run of slot `p` reads; `mid0` and `mid1` are the φ200 sample words of the tick before. -/
def State.runIn (s : State) (p mid0 mid1 : Nat) : RunIn :=
  { mes := Tab.get {} s.lsr.prev p, tgt := s.lagOut p, sent := Tab.get 0 s.lsr.sentPrev p, mid0 := mid0, fin0 := (s.afeIn (2 * p)).s0,
    mid1 := mid1, fin1 := (s.afeIn (2 * p + 1)).s0 }

/-- REF (R374). -/
def State.refOf (s : State) (p : Nat) (r : RunIn) : BF :=
  let k := s.kOf p r.mes.hand.vel
  (bfOf (k.m * (r.mes.hand.planned : Int) * (r.mes.w : Int) * (65536 + s.trim p)) ((k.e : Int) - 96)).1

/-- u = K[c] × SENT_M (R396). -/
def State.uOf (s : State) (p : Nat) (r : RunIn) : BF :=
  let k := s.kOf p r.mes.hand.vel
  (bfOf (k.m * (r.sent : Int)) ((k.e : Int) - 65)).1

/-- The operands of a fast slot's run with codes from 48 (R368, R369). -/
def State.fastOps (s : State) (p : Nat) (r : RunIn) (c : Nat) : BF :=
  let e := samplePair r.mid0 r.fin0
  let b := samplePair r.mid1 r.fin1
  if c = 48 then e.2.1 else if c = 49 then e.1 else if c = 50 then b.2.1 else if c = 51 then b.1
  else if c = 52 then emean r.mid0 r.fin0 e.2.1 else if c = 53 then s.refOf p r else if c = 54 then bfWord r.sent
  else if c = 55 then bfWord r.tgt.hand.planned else if c = 56 then bfOne else if c = 57 then ⟨s.trim p * 2, 32⟩ else {}

/-- The run of slot `p` is live (R370), its image being loaded. -/
def State.runLive (s : State) (p : Nat) (r : RunIn) : Bool :=
  s.get LOP_FCTRL_MODE p == 1 && !s.bit LOP_FORCED_FORCED p && r.tgt.hand.gate && !r.tgt.hand.opn &&
    !(swBlocks r.mid0 || swBlocks r.fin0 || swBlocks r.mid1 || swBlocks r.fin1)

/-- The kind of a run: 0 OPEN, 1 PRELOAD, 2 CLOSED, 3 HOLD (R371). -/
def Slot.kind (l : Slot) (live good : Bool) : Nat :=
  if !live then 0 else if l.closed then (if good then 2 else 3) else if l.primed && good then 2 else 1

/-- Samples substituted in a run (R367). -/
def State.countSubst (s : State) (p : Nat) (r : RunIn) : State :=
  let n := (if (samplePair r.mid0 r.fin0).2.2 then 1 else 0) + (if (samplePair r.mid1 r.fin1).2.2 then 1 else 0)
  if n = 0 then s else (s.incSat LOP_FCNT_B_SUBST p n).set1 LOP_FFLAGS_SUBST p

/-- The PLAUS stage checks no sample in the four ticks after a test pulse, nor during a gate sweep (R400, R620). -/
def State.plausQuiet (s : State) (p : Nat) : Bool :=
  (Tab.get [] s.lsr.testTick p).any (fun t => decide (t ≤ s.key.tick ∧ s.key.tick ≤ t + 3)) || s.sweepOn p

/-- The end of a run of slot `p`: its word (R371, R382, R398), counts and state. -/
def State.runEnd (s : State) (p kind n planned : Nat) (live forced0 : Bool) : State :=
  let l := s.slot p
  let w := if !forced0 && s.bit LOP_FORCED_FORCED p then planned
    else if kind = 2 then (outWord (Tab.get {} l.y (n - 1))).1 else if kind = 3 then l.last else planned
  let s := if kind = 3 then s.incSat LOP_FCNT_A_HOLD_RUNS p else s
  let s := s.setSlot p { l with live := live, primed := l.primed || kind == 1, closed := l.closed || kind == 2, last := if kind = 2 then w else l.last }
  (((s.put LOP_FSTAT_RUN kind p).put LOP_FSTAT_WORD w p).putBit LOP_STATUS_LIVE p live).showSlot p

/-- The run of a fast slot whose image in force is loaded (R366–R372). -/
def State.loadedRun (s : State) (p : Nat) (r : RunIn) : State :=
  let forced0 := s.bit LOP_FORCED_FORCED p
  let live := s.runLive p r
  let good := r.mes.g && (swUsable r.mid0 || swUsable r.fin0)
  let s := if live && !(s.slot p).live then s.setSlot p { s.slot p with y := [], primed := false, closed := false } else s
  let kind := (s.slot p).kind live good
  let s := s.countSubst p r
  let img := s.get LOP_FSTAT_IMAGE_IF p
  let prog := s.program img (Tab.get 0 s.lop.counts img)
  let s := s.fastStages p prog (s.fastOps p r) (s.uOf p r) r.mid0 r.fin0 (kind == 1 || kind == 2) (kind == 1) (s.plausQuiet p)
  s.runEnd p kind prog.length r.tgt.hand.planned live forced0

/-- The run of a fast slot with no program: OPEN, PLANNED_N (R371, R390, R395). -/
def State.emptyRun (s : State) (p planned : Nat) : State :=
  let s := s.setSlot p { s.slot p with live := false }
  (((s.put LOP_FSTAT_RUN 0 p).put LOP_FSTAT_WORD planned p).putBit LOP_STATUS_LIVE p false).showSlot p

/-- The image number that arrives with the present tick's values, or one that an overrun has kept. -/
def State.nextImage (s : State) (p : Nat) : Option Nat := match (Tab.get ({} : Lag) s.lsr.cur p).hand.image with
  | some i => some i
  | none => (s.slot p).await

/-- It comes into force (R394). -/
def State.takeImage (s : State) (p : Nat) : State := match s.nextImage p with
  | some i => (s.setSlot p { s.slot p with await := none }).setImage p i
  | none => s

/-- An AFE or LOP overrun runs nothing (R372); an image number that arrived waits for the next run (R394; log entry 65). -/
def State.skipRun (s : State) (p : Nat) : State := s.setSlot p { s.slot p with await := s.nextImage p }

/-- The run of fast slot `p` in the present tick (R366–R376, R394): the word is left in LOP_FSTAT_p. -/
def State.fastRun (s : State) (p mid0 mid1 : Nat) : State :=
  let s := s.takeImage p
  let r := s.runIn p mid0 mid1
  let s := if s.loaded (s.get LOP_FSTAT_IMAGE_IF p) then s.loadedRun p r else s.emptyRun p r.tgt.hand.planned
  s.camTrim p r.mes.g (s.slot p).live

/-! Slow loops. -/

/-- A start for the slow slots of a mask, before φ272 of the tick or after (R401). -/
def State.slowStart (s : State) (mask : Nat) (early : Bool) : State :=
  let clash := mask &&& (if early then s.lop.start else s.lop.start2)
  let s := if early then { s with lop := { s.lop with start := s.lop.start ||| mask } } else { s with lop := { s.lop with start2 := s.lop.start2 ||| mask } }
  if clash = 0 then s
  else s.faultOnce LOP_FLAGS_START_MERGED 0 8 0xB 3 (((List.range 8).find? clash.testBit).getD 0 + 16)

/-- An auxiliary input's SEQ at this run, and the runs for which it has not changed (R402). -/
def seqStep (old : Option (Nat × Nat)) (seq : Nat) : Nat × Nat := match old with
  | some (q, n) => if q = seq then (seq, n + 1) else (seq, 0)
  | none => (seq, 0)

/-- Slow slot `k` falls back (R382, R402). -/
def State.slowFallBack (s : State) (k code : Nat) : State :=
  let s := s.putBit LOP_FORCED_FORCED (16 + k) true
  s.fault 8 code 2 (16 + k)

/-- Execute the program of slow slot `k` (R371, R402): its duty. -/
def State.slowStages (s : State) (k : Nat) (prog : List LInstr) (pre : Bool) : State :=
  let ops (c : Nat) : BF :=
    if 48 ≤ c ∧ c ≤ 55 then ⟨s.getS AFE_AUX_DATA_DATA (c - 48) / 64, 32⟩
    else if c = 56 then bfOne else if c = 57 then bfNorm (bf24 (s.get LOP_SLOW_SP_SP k)) else {}
  let (l, f) := prog.zipIdx.foldl (fun (acc : Slot × Nat) (i, n) =>
    let get (c : Nat) : BF := if c < 48 then Tab.get {} acc.1.y c else ops c
    let (y, st, f) := i.run get (Tab.get {} acc.1.st n) pre
    ({ acc.1 with y := Tab.put acc.1.y n y, st := Tab.put acc.1.st n st }, acc.2 ||| f)) (if pre then { s.slot (16 + k) with y := [] } else s.slot (16 + k), 0)
  let man := s.get LOP_SLOW_MAN_DUTY k
  let esat := f &&& flEsat ≠ 0
  let duty := if pre ∨ esat then man else (outWord (Tab.get {} l.y (prog.length - 1))).1
  let s := s.setSlot (16 + k) { l with primed := true, duty := duty }
  let s := if f &&& flEsat ≠ 0 then s.set1 LOP_SFLAGS_ESAT k else s
  let s := if f &&& flUnder ≠ 0 then s.set1 LOP_SFLAGS_UNDER k else s
  let s := if f &&& flOutClamp ≠ 0 then s.set1 LOP_SFLAGS_OUT_CLAMP k else s
  if esat then s.slowFallBack k 7 else s

/-- The run of slow slot `k` (R402). -/
def State.slowRun (s : State) (k : Nat) : State :=
  let l := s.slot (16 + k)
  let man := s.get LOP_SLOW_MAN_DUTY k
  let img := s.get LOP_SSTAT_IMAGE_IF k
  let manual (s : State) : State :=
    ((s.setSlot (16 + k) { s.slot (16 + k) with duty := man, primed := false }).putBit LOP_STATUS_LIVE (16 + k) false).showSlot (16 + k)
  if !s.on LOP_SCTRL_MODE k || s.bit LOP_FORCED_FORCED (16 + k) then manual s
  else if !(s.loaded img && s.slowImage img) then manual (if img = 63 ∨ s.loaded img then s else s.set1 LOP_SFLAGS_NOT_LOADED k)
  else
    let mask := s.get LOP_SCTRL_INMASK k
    let seqs := forN 8 (fun j t => Tab.put t j (seqStep (Tab.find l.seqs j) (s.get AFE_AUX_STAT_SEQ j))) l.seqs
    let s := s.setSlot (16 + k) { l with seqs := seqs }
    let stale := (List.range 8).any (fun j => mask.testBit j && decide (3 ≤ (Tab.get (0, 0) seqs j).2))
    let bad := (List.range 8).any (fun j => mask.testBit j && (s.on AFE_AUX_STAT_BURNOUT j || s.on AFE_AUX_STAT_OVR j))
    if stale || bad then
      let s := (if stale then s.set1 LOP_SFLAGS_STALE k else s).set1 LOP_SFLAGS_INPUT_FAULT k
      manual (s.slowFallBack k 6)
    else
      let s := s.slowStages k (s.program img (Tab.get 0 s.lop.counts img)) (!l.primed)
      ((s.incWrap LOP_SCNT_RUNS k).putBit LOP_STATUS_LIVE (16 + k) true).showSlot (16 + k)

/-- The slow loops of a tick: each slot with a start runs, in IDLE, PREP, BUILD, HOLD and SERVICE (R401, R404). -/
def State.slowTick (s : State) : State :=
  let m := s.lop.start
  let s := { s with lop := { s.lop with start := s.lop.start2, start2 := 0 } }
  if s.mode < 2 ∨ s.mode = 7 then s else forN 8 (fun k s => if m.testBit k then s.slowRun k else s) s

/-- The duty that governs SLPk (R402): the latest run's while the slot is closed, else the manual duty. -/
def State.slowDuty (s : State) (k : Nat) : Nat :=
  if s.on LOP_SCTRL_MODE k && !s.bit LOP_FORCED_FORCED (16 + k) && (s.slot (16 + k)).primed then (s.slot (16 + k)).duty else s.get LOP_SLOW_MAN_DUTY k

/-- SLOW_PWM_PERIOD_START (R403, R404). -/
def execSlowPwmPeriodStart (k : Fin 8) (s : State) : Out :=
  let d := s.slowDuty k.val
  let n := if s.mode < 2 ∨ s.mode = 7 then 0 else d * s.get LOP_SLOW_PWM_PERIOD k.val * 400 / 65536
  .next (({ s with lop := { s.lop with high := Tab.put s.lop.high k.val n } }).put LOP_SSTAT_DUTY d k.val)

/-! The tick. -/

/-- An uncorrectable error in the loop SRAM of slot `k` (R48, R406). -/
def State.loopUe (s : State) (k : Nat) : State :=
  let l := s.slot k
  (s.setSlot k { l with y := [], st := [], x := {}, r := {}, live := false, primed := false, closed := false }).fault 8 8 1 k

/-- The fast loops of one window of a tick, that of the even slots or, with `odd`, the later one (R62, R363, R366, R372): `skip` are the
piers with an AFE or LOP overrun; `mids` the φ200 sample words of the tick before. -/
def State.fastTick (s : State) (skip : List Nat) (mids : List Nat) (odd : Bool) : State :=
  forN 16 (fun p s => if (p % 2 == 1) != odd then s
    else if skip.contains p then s.skipRun p else s.fastRun p (mids.getD (2 * p) 0) (mids.getD (2 * p + 1) 0)) s

/-! Mailbox commands of group 06h (R135). -/

/-- Write the pending IMAGE of slot `k` from Nagus (R394). -/
def State.putImage (s : State) (k img : Nat) : State :=
  if k < 16 then ({ s with lop := { s.lop with nagus := setBit s.lop.nagus k true } }).putP LOP_FCTRL_IMAGE img k
  else s.putP LOP_SCTRL_IMAGE img (k - 16)

/-- LOOP PROG_LOAD (R391). -/
def execLoopProgLoad (s : State) : Out := runCmd 0x1800 s (fun q s =>
  let (k, n) := (q.w 0, q.w 1)
  match firstBad [(0, decide (k < 24)), (1, decide (1 ≤ n ∧ n ≤ 48))] with
  | some i => (s, some (badParam i))
  | none =>
    if stagedHit q s 0x80 then (s, some (failReply stStaged)) else
    let img := if s.imageInForce (2 * k) then 2 * k + 1 else 2 * k
    if s.imageInForce img then (s, some (failReply stBusy)) else
    let s := s.imageWrite img 0 ((q.p.drop 2).take (4 * n))
    match s.imageCheck img n (if k < 16 then 0 else 1) with
    | (0, _, s) => finishWrite q 0x80 ((s.putImage k img).setSlot k { s.slot k with loaded := some img })
    | (_, i, s) => (s, some { status := stBadParam, payload := [word (8 + 16 * i)] }))

/-- LOOP PLAUS_SET: p1 is ABS, p2 is REL. -/
def execLoopPlausSet (s : State) : Out := runCmd 0x1801 s (fun q s =>
  writer q 0x80 [(0, decide (q.w 0 < 16)), (1, decide (q.w 1 < 2 ^ 24) && !(q.w 1).testBit 17), (2, decide (q.w 2 < 65536)),
      (3, decide (0 < q.w 3 ∧ q.w 3 < 65536)), (4, decide (q.w 4 < 2))] s (fun s =>
    let p := q.w 0
    (((s.putP LOP_PLAUS_ABS_ABS (q.w 1) p).putP LOP_PLAUS_N_REL (q.w 2) p).putP LOP_PLAUS_N_N (q.w 3) p).putP LOP_FCTRL_PLAUS_F1 (q.w 4) p))

/-- LOOP LOOP_MODE (R399). -/
def execLoopLoopMode (s : State) : Out := runCmd 0x1802 s (fun q s =>
  writer q 0x80 [(0, decide (0 < q.w 0 ∧ q.w 0 < 2 ^ 24)), (1, decide (q.w 1 < 2))] s (fun s =>
    let s := forN 24 (fun k s => if (q.w 0).testBit k then
        (if k < 16 then s.putP LOP_FCTRL_MODE (q.w 1) k else s.putP LOP_SCTRL_MODE (q.w 1) (k - 16)) else s) s
    if q.w 1 = 1 then { s with lop := { s.lop with clear := s.lop.clear ||| q.w 0 } } else s))

/-- LOOP STATUS (R407). -/
def execLoopStatus (s : State) : Out := runCmd 0x1803 s (fun q s =>
  reader [(0, decide (q.w 0 < 24))] s (fun s =>
    let k := q.w 0
    let st (n : Nat) : Nat := if n = 3 then 0 else n
    if k < 16 then okReply [st (s.get LOP_FSTAT_STATE k), (s.rd (LOP_FFLAGS_PLAUS_TRIP.addr k)).toNat % 1024, s.get LOP_FSTAT_WORD k]
    else okReply [st (s.get LOP_SSTAT_STATE (k - 16)), (s.rd (LOP_SFLAGS_ESAT.addr (k - 16))).toNat % 64, s.get LOP_SSTAT_DUTY (k - 16)]))

/-- LOOP INPUT_SET. -/
def execLoopInputSet (s : State) : Out := runCmd 0x1804 s (fun q s =>
  writer q 0x40 [(0, q.w 0 != 0), (1, decide (q.w 1 ≤ 6)), (2, decide (q.w 2 < 2))] s (fun s =>
    forN 32 (fun i s => if (q.w 0).testBit i then (s.putP AFE_IN_CTRL_GAIN (q.w 1) i).putP AFE_IN_CTRL_OPEN_EN (q.w 2) i else s) s))

/-- LOOP AUX_SET. -/
def execLoopAuxSet (s : State) : Out := runCmd 0x1805 s (fun q s =>
  let w := q.w 3
  writer q 0x40 [(0, decide (q.w 0 < 256)), (1, decide (q.w 1 < 8)), (2, decide (q.w 2 < 4)),
      (3, decide (w < 512) && !w.testBit 3 && !w.testBit 7 && decide (w % 8 ≤ 4) && decide (w / 16 % 8 ≤ 4))] s (fun s =>
    let s := forN 8 (fun k s => if (q.w 0).testBit k then
        ((s.putP AFE_AUX_CFG_GAIN (q.w 1) k).putP AFE_AUX_CFG_BIAS (q.w 2 % 2) k).putP AFE_AUX_CFG_BURNOUT_EN (q.w 2 / 2) k else s) s
    ((s.putP AFE_AUX_CTRL_IEXC0 (w % 8)).putP AFE_AUX_CTRL_IEXC1 (w / 16 % 8)).putP AFE_AUX_CTRL_TIMER_EN (w / 256)))

end Sys2Proof.Machine
end

