-- ==== Sys2Proof/Machine/Flu.lean ====
section
/-! DEFINITION. The Flue event recorder FLU and the xSPI controller (spec/20_event_recorder.md, R700–R728). -/

namespace Sys2Proof.Machine

/-! Records in flash (R700, R705, R710). -/

/-- The first main block, the end of the main region, and the end of the reserve. -/
def fluMain0 : Nat := 0x1000000
def fluMain1 : Nat := 0x3004000
def fluResv1 : Nat := 0x3104000

/-- A payload as 12 bytes. -/
def pad12 (b : List Byte) : List Byte := (b ++ List.replicate 12 0#8).take 12

/-- The 32 bytes of a record (R700). -/
def recBytes (r : Rec) : List Byte :=
  let flags := r.sev % 8 + (if r.lost then 8 else 0) + 16 * (r.part % 8) + (if r.last then 128 else 0)
  let body := leBytes 6 r.seq ++ leBytes 4 r.opsec ++ leBytes 3 (min r.pcycle 0xFFFFFF) ++ [byte flags] ++ leBytes 2 r.code ++ pad12 r.payload
  body ++ leBytes 2 (crc16 body) ++ [0x5A#8, 0xC3#8]

/-- The record 32 bytes hold. -/
def recOf (b : List Byte) : Rec :=
  let at_ (i n : Nat) : Nat := leNat ((b.drop i).take n)
  let f := at_ 13 1
  { seq := at_ 0 6, opsec := at_ 6 4, pcycle := at_ 10 3, sev := f % 8, lost := f.testBit 3, part := f / 16 % 8, last := f.testBit 7,
    code := at_ 14 2, payload := (b.drop 16).take 12 }

/-- The classes of R716. -/
inductive SlotKind where
  | erased | void | valid | unreadable
  deriving DecidableEq, Repr

/-- Classify a slot's 32 bytes (R716). -/
def slotKind (b : List Byte) : SlotKind :=
  if b.all (fun x => x == 0xFF#8) then .erased
  else if leNat (b.drop 30) = 0 then .void
  else if leNat (b.drop 30) = 0xC35A ∧ leNat ((b.drop 28).take 2) = crc16 (b.take 28) then .valid
  else .unreadable

/-- The bytes of the flash. -/
def State.flashRead (s : State) (a n : Nat) : List Byte := Memory.readBytes 0xFF s.flash a n

/-- Program bytes into flash. -/
def State.flashWrite (s : State) (a : Nat) (b : List Byte) : State := { s with flash := Memory.writeBytes 0xFF s.flash a b }

/-- Erase the 4 KiB block at `b`. -/
def State.flashErase (s : State) (b : Nat) : State := { s with flash := s.flash.filter (fun c => c.1 < b || b + 4096 ≤ c.1) }

/-- The units of size `u` in [lo, hi) that hold a byte other than FFh, in rising order. -/
def usedUnits (m : Memory) (u lo hi : Nat) : List Nat :=
  (m.foldl (fun acc c => if c.1 < lo ∨ hi ≤ c.1 then acc else
    let b := c.1 / u * u
    match acc with
    | x :: _ => if x = b then acc else b :: acc
    | [] => [b]) []).reverse

/-- Block `b` is erased and in use. -/
def State.blockErased (s : State) (b : Nat) : Bool := !s.flu.bad.contains b && !s.flash.any (fun c => b ≤ c.1 && c.1 < b + 4096)

/-- Erased blocks of the main region beyond the write point's own (R711). -/
def State.erasedBlocks (s : State) : Nat :=
  let used := usedUnits s.flash 4096 fluMain0 fluMain1
  8196 - used.length - (s.flu.bad.filter (fun b => !used.contains b)).length -
    (if s.flu.wp ≠ 0 ∧ s.blockErased (s.flu.wp / 4096 * 4096) then 1 else 0)

/-- The first erased block of the main region from `a` on, round the region; 0 for none (R710). -/
def State.nextErased (s : State) (a : Nat) : Nat :=
  ((List.range 8196).map (fun i => fluMain0 + ((a - fluMain0) / 4096 + i) % 8196 * 4096)).find? s.blockErased |>.getD 0

/-- Move the main write point past `n` slots (R710). -/
def State.moveWp (s : State) (n : Nat) : State :=
  let a := s.flu.wp + 32 * n
  { s with flu := { s.flu with wp := if a % 4096 = 0 then s.nextErased a else a } }

/-- Program the waiting voids: the MARK of each slot becomes 00h, 00h (R711). -/
def State.programVoids (s : State) : State :=
  let s' := s.flu.voids.foldl (fun s a => s.flashWrite (a + 30) [0#8, 0#8]) s
  { s' with flu := { s'.flu with voids := [] } }

/-! Flushing (R709, R710, R713, R714). -/

/-- The next page of the flush: its first slot's address and the ring records that go there. -/
def State.nextPage (s : State) : Option (Nat × List Rec) := match s.flu.ring with
  | [] => none
  | r :: _ =>
    let a := if r.resv then s.flu.wpR else s.flu.wp
    if a = 0 ∨ !r.hasSeq then none else some (a, (s.flu.ring.takeWhile (fun x => x.resv == r.resv)).take (8 - a / 32 % 8))

/-- A record of severity 0 to 3 waits in the ring (R711). -/
def State.urgent (s : State) : Bool := s.flu.ring.any (fun r => decide (r.sev ≤ 3))

/-- The FLU may start a program: not after PF_DONE, not in step 3 of an ordered shutdown (R602, R714). -/
def State.mayProgram (s : State) : Bool := s.on FLU_STATUS_READY && !s.on FLU_STATUS_PF_DONE && s.get THM_SHUT_CTRL_STEP_NOW != 3

/-- The xSPI is free for a page: an erase in progress is suspended for a record of severity 0 to 3 (R711). -/
def State.busFree (s : State) : Bool :=
  (match s.flu.erasing with
    | none => true
    | some _ => s.urgent || s.flu.suspended) &&
  (match s.flu.xspi with
    | none => true
    | some (op, _, _) => op == 2 && s.urgent)

/-- What is programmed for a record whose ring copy fails SECDED (R713). -/
def lostRec (r : Rec) : Rec := { seq := r.seq, sev := 2, code := 0x5002, last := false, lost := true, resv := r.resv, payload := List.replicate 12 0#8 }

/-- Start the program of the next page; `ue` are the places in the page whose ring copies fail (R710, R713). -/
def State.startPage (s : State) (ue : List Nat) : State := match s.nextPage with
  | none => s
  | some (a, rs) =>
    let bad := (List.range rs.length).filter ue.contains
    let s := { s with flu := { s.flu with page := some (a, rs.zipIdx.map (fun (r, i) => if bad.contains i then lostRec r else r)), suspended := s.flu.erasing.isSome } }
    bad.foldl (fun s _ => (s.set1 FLU_FLAGS_SRAM_UE).fault 20 2 2) s

/-- What follows when no page is being programmed: the next page, or the end of the flush with PF_DONE (R714), the
end of step 4 of a shutdown (R602) and the erase resumed (R711). -/
def State.flushOn (s : State) (ue : List Nat) : State :=
  if s.flu.page.isSome then s
  else if s.flu.ring.isEmpty then
    let s := { s with flu := { s.flu with flushing := false, suspended := false } }
    let s := if s.on FLU_STATUS_PF then s.set1 FLU_STATUS_PF_DONE else s
    if s.get THM_SHUT_CTRL_STEP_NOW = 4 then (s.put THM_SHUT_CTRL_STEP_NOW 5).set1 THM_STATUS_SHUT_DONE else s
  else if s.flu.flushing && s.mayProgram && s.busFree then s.startPage ue else s

/-- FLUSH_START (R709, R713). -/
def execFlushStart (ue : List Nat) (s : State) : Out := .next (if s.flu.flushing then s.programVoids.flushOn ue else s)

/-- Step 4 of an ordered shutdown begins: the flush (R602). -/
def State.shutFlush (s : State) : State :=
  if s.get THM_SHUT_CTRL_STEP_NOW = 3 then
    ({ s.put THM_SHUT_CTRL_STEP_NOW 4 with flu := { (s.put THM_SHUT_CTRL_STEP_NOW 4).flu with flushing := true } }).flushOn []
  else s

/-- A page program has completed and its slots read back as written: its records are committed (R710). -/
def State.commitPage (s : State) (a : Nat) (rs : List Rec) : State :=
  let s := s.flashWrite a (rs.flatMap recBytes)
  let at_ := rs.zipIdx.map (fun (r, i) => (a + 32 * i, r))
  let s := { s with flu := { s.flu with page := none, ring := s.flu.ring.drop rs.length } }
  State.fluShow (if a < fluMain1 then
    ({ s with flu := { s.flu with live := s.flu.live ++ at_ } }).moveWp rs.length
  else { s with flu := { s.flu with resv := s.flu.resv ++ at_, wpR := a + 32 * rs.length } })

/-- The FLU skips the block at `b` until the next boot; fault 004h (R727). -/
def State.blockBad (s : State) (b : Nat) : State :=
  let s := { s with flu := { s.flu with bad := if s.flu.bad.contains b then s.flu.bad else s.flu.bad ++ [b] } }
  (s.set1 FLU_FLAGS_FLASH_ERR).fault 20 4 2

/-- A page program has failed: its slots hold free values, the write point leaves the block (R727). -/
def State.failPage (s : State) (a : Nat) (rs : List Rec) : State :=
  let (bs, s) := freeBytes (32 * rs.length) s
  let s := { s.flashWrite a bs with flu := { s.flu with page := none } }
  let b := a / 4096 * 4096
  if a < fluMain1 then
    let s := { s with flu := { s.flu with bad := s.flu.bad ++ [b] } }
    ({ s with flu := { s.flu with wp := s.nextErased (b + 4096) } }).blockBad b
  else ({ s with flu := { s.flu with wpR := if b + 4096 < fluResv1 then b + 4096 else 0 } }).blockBad b

/-- PAGE_PROGRAM_DONE (R710): `ok`: without error and read back as written; `ue`: as in FLUSH_START, for the next page. -/
def execPageProgramDone (ok : Bool) (ue : List Nat) (s : State) : Out :=
  .next (match s.flu.page with
    | none => s
    | some (a, rs) => ((if ok then s.commitPage a rs else s.failPage a rs).programVoids.shutFlush).flushOn ue)

/-- DROP_FAULT_ENTRY (R712): fault 001h with the records dropped since the previous one. -/
def execDropFaultEntry (s : State) : Out :=
  .next (if s.flu.dropSince ≠ 0 ∧ s.flu.ring.length < fluRingCap ∧ !s.on FLU_STATUS_SEALED_FULL then
    ({ s with flu := { s.flu with dropSince := 0 } }).fault 20 1 2 255 (some 0) (some (min s.flu.dropSince 0xFFFFFFFF))
  else s)

/-- FLU_FLUSH_WRITE (R709): a write of FLU_CTRL. -/
def execFluFlushWrite (v : Word) (s : State) : Out :=
  .next (if v.toNat % 2 = 1 then { s with flu := { s.flu with flushing := true } } else s)

/-! Compaction and erasing (R711). -/

/-- Void slots of the block at `b`. -/
def State.voidSlots (s : State) (b : Nat) : Nat :=
  ((List.range 128).filter (fun i => slotKind (s.flashRead (b + 32 * i) 32) == .void)).length

/-- Copy one live record of block `b` to the write point, keeping its SEQ, and void the original (R711). -/
def State.copyLive (s : State) (c : Nat × Rec) : State :=
  if s.flu.wp = 0 then s else
  let a := s.flu.wp
  let s := (s.flashWrite a (recBytes c.2)).flashWrite (c.1 + 30) [0#8, 0#8]
  ({ s with flu := { s.flu with live := s.flu.live.map (fun d => if d = c then (a, c.2) else d) } }).moveWp 1

/-- Move every live record out of the block at `b` and void every slot of it that is not erased (R711, R717). -/
def State.emptyBlock (s : State) (b : Nat) : State :=
  let s := (s.flu.live.filter (fun c => b ≤ c.1 && c.1 < b + 4096)).foldl State.copyLive s
  (usedUnits s.flash 32 b (b + 4096)).foldl (fun s a => if slotKind (s.flashRead a 32) = .valid ∧ s.flu.wp = 0 then s else s.flashWrite (a + 30) [0#8, 0#8]) s

/-- The block that compaction takes: the most void slots, the lowest address on a tie (R711). -/
def State.compactChoice (s : State) : Option (Nat × Nat) :=
  ((usedUnits s.flash 4096 fluMain0 fluMain1).filter (fun b => b ≠ s.flu.wp / 4096 * 4096 && !s.flu.bad.contains b)).foldl
    (fun best b => let n := s.voidSlots b
      match best with
      | some (_, m) => if m < n then some (b, n) else best
      | none => if n = 0 then none else some (b, n)) none

/-- BLOCK_COMPACT (R711): fewer than four erased blocks remain. -/
def execBlockCompact (s : State) : Out :=
  .next (if s.mayProgram && !s.on FLU_STATUS_PF && s.flu.page.isNone && s.flu.erasing.isNone && s.flu.xspi.isNone && decide (s.erasedBlocks < 4) then
    let s := s.programVoids
    match s.compactChoice with
    | none => s
    | some (b, _) =>
      let s := s.emptyBlock b
      ({ s with flu := { s.flu with erasing := some b } }).set1 FLU_STATUS_ERASING
  else s)

/-- ERASE_DONE (R711). -/
def execEraseDone (ok : Bool) (s : State) : Out :=
  .next (match s.flu.erasing with
    | none => s
    | some b => if s.flu.suspended || s.on FLU_STATUS_PF then s else
      let s := ({ s with flu := { s.flu with erasing := none } }).put FLU_STATUS_ERASING 0
      let s := if ok then s.flashErase b else s.blockBad b
      if s.flu.wp = 0 then { s with flu := { s.flu with wp := s.nextErased fluMain0 } } else s)

/-! Power failure (R714, R603). -/

/-- An erase of the Flue in progress is aborted, to be started again (R602, R714). -/
def State.eraseAbort (s : State) : State :=
  let ab := match s.flu.erasing with
    | some b => some b
    | none => s.flu.aborted
  ({ s with flu := { s.flu with erasing := none, suspended := false, aborted := ab } }).put FLU_STATUS_ERASING 0

/-- A program of firmware in progress is cut off (R602, R603). -/
def State.xspiCut (s : State) (op : Nat) : State :=
  if (s.flu.xspi.map Prod.fst) = some op then
    (({ s with flu := { s.flu with xspi := none } }).put FLU_XSPI_CMD_BUSY 0).set1 FLU_XSPI_CMD_ERR
  else s

/-- PFW_ACCEPT (R603, R714). -/
def State.pfwAccept (s : State) : State :=
  let s := ((((s.set1 FLU_STATUS_PF).set1 FLU_FLAGS_PFW).fault 20 7 3).eraseAbort)
  let s := { s with flu := { s.flu with flushing := true } }
  let s := if s.get THM_SHUT_CTRL_STEP_NOW = 3 then (s.xspiCut 3).put THM_SHUT_CTRL_STEP_NOW 4 else s
  s.flushOn []

/-- PFW_ACCEPT (R714). -/
def execPfwAccept (s : State) : Out := .next (if s.on FLU_STATUS_PF then s else s.pfwAccept)

/-- PFW_RELEASE (R714): programs and erases resume; an aborted erase is started again. -/
def execPfwRelease (s : State) : Out :=
  .next (if !s.on FLU_STATUS_PF then s else
    let s := (s.put FLU_STATUS_PF 0).put FLU_STATUS_PF_DONE 0
    match s.flu.aborted with
    | some b => ({ s with flu := { s.flu with erasing := some b, aborted := none } }).set1 FLU_STATUS_ERASING
    | none => s)

/-! The boot scan (R716–R718, R771). -/

/-- A slot as the scan finds it. -/
structure ScanSlot where
  addr : Nat
  kind : SlotKind
  r    : Rec
  deriving DecidableEq, Repr

/-- Every slot of R705 that is not erased (R716). -/
def State.scanSlots (s : State) : List ScanSlot :=
  (usedUnits s.flash 32 fluMain0 fluResv1).map (fun a =>
    let b := s.flashRead a 32
    let r := recOf b
    { addr := a, kind := slotKind b, r := { r with resv := decide (fluMain1 ≤ a) } })

/-- Keep the first of valid slots that carry one SEQ: those kept, and the others (R717). -/
def dedupSeq : List ScanSlot → List ScanSlot × List ScanSlot
  | [] => ([], [])
  | x :: t =>
    let (keep, dup) := dedupSeq t
    (x :: keep.filter (fun y => y.r.seq != x.r.seq), keep.filter (fun y => y.r.seq == x.r.seq) ++ dup)

/-- Insert by rising SEQ. -/
def insSeq (c : Nat × Rec) : List (Nat × Rec) → List (Nat × Rec)
  | [] => [c]
  | d :: t => if c.2.seq ≤ d.2.seq then c :: d :: t else d :: insSeq c t

/-- Records in rising order of SEQ. -/
def sortSeq (l : List (Nat × Rec)) : List (Nat × Rec) := l.foldr insSeq []

/-- One record of the scan is placed as if it arrived now (R717, R719). -/
def State.scanPlace (s : State) (c : Nat × Rec) : State :=
  if s.flu.live.length < s.fluRoom then { s with flu := { s.flu with live := s.flu.live ++ [c] } }
  else match fluVictim s.flu.live c.2.sev with
    | some v => { s.displace v with flu := { (s.displace v).flu with live := (s.displace v).flu.live ++ [c] } }
    | none => if c.2.sev ≤ 1 then { s with flu := { s.flu with ring := s.flu.ring ++ [{ c.2 with resv := true }], voids := s.flu.voids ++ [c.1] } }
      else { s.ringDrop 1 with flu := { (s.ringDrop 1).flu with voids := s.flu.voids ++ [c.1] } }

/-- The write points after a scan: behind the last slot used in the block of the newest record, where that block has
erased slots left, else the next erased block; in the reserve, behind its last used slot. -/
def State.scanPoints (s : State) (newest : Option Nat) : State :=
  let lastIn (lo hi : Nat) : Option Nat := (usedUnits s.flash 32 lo hi).getLast?
  let wp := match newest with
    | none => s.nextErased fluMain0
    | some a =>
      let b := a / 4096 * 4096
      match lastIn b (b + 4096) with
      | some l => if (l + 32) % 4096 = 0 then s.nextErased (b + 4096) else l + 32
      | none => s.nextErased b
  let wpR := match lastIn fluMain1 fluResv1 with
    | some l => if l + 32 < fluResv1 then l + 32 else 0
    | none => fluMain1
  { s with flu := { s.flu with wp := wp, wpR := wpR } }

/-- The SEQ a group's first record gets, shown in FLU_SUBMIT_SEQ; a group that does not fit sets NOSPACE (R712). -/
def State.submit (s : State) (g : List Rec) : State :=
  let s := s.put FLU_SUBMIT_BUSY 0
  if fluRingCap < s.flu.ring.length + g.length then s.set1 FLU_SUBMIT_NOSPACE
  else (s.put64 FLU_SUBMIT_SEQ_LO_SEQ_LO FLU_SUBMIT_SEQ_HI_SEQ_HI s.flu.seqNext).enterRecs g

/-- Give the records that waited for the scan their SEQs, in the order they entered (R701). -/
def State.numberRing (s : State) : State :=
  let wait := s.flu.ring.filter (fun r => !r.hasSeq)
  let seqd := s.flu.ring.filter (fun r => r.hasSeq)
  let n := s.flu.seqNext
  { s with flu := { s.flu with ring := seqd ++ wait.zipIdx.map (fun (r, i) => { r with seq := n + i, hasSeq := true }), seqNext := n + wait.length } }

/-- The repairs of R717 and the live records they leave: torn slots, duplicates and blocks re-erased are counted. -/
def State.scanRepair (s : State) : State × Nat × Nat × Nat × Option Nat :=
  let slots := s.scanSlots
  let (keep, dup) := dedupSeq (slots.filter (fun x => x.kind == .valid))
  let s := dup.foldl (fun s x => s.flashWrite (x.addr + 30) [0#8, 0#8]) s
  let blk (x : ScanSlot) : Nat := x.addr / 4096 * 4096
  let validB := (keep ++ dup).map blk
  let unread := slots.filter (fun x => x.kind == .unreadable)
  let torn := unread.filter (fun x => validB.contains (blk x))
  let dead := ((unread.filter (fun x => !validB.contains (blk x))).map blk).eraseDups
  let s := dead.foldl State.flashErase s
  let mainR := sortSeq ((keep.filter (fun x => !x.r.resv)).map (fun x => (x.addr, x.r)))
  let resvR := sortSeq ((keep.filter (fun x => x.r.resv)).map (fun x => (x.addr, x.r)))
  let s := { s with flu := { s.flu with live := [], resv := resvR } }
  let s := mainR.foldl State.scanPlace s
  let newest := (sortSeq (mainR ++ resvR)).getLast?
  let s := s.scanPoints (mainR.getLast?.map Prod.fst)
  let s := (((torn.filter (fun x => !x.r.resv)).map blk).eraseDups).foldl (fun s b =>
    let s := if s.flu.wp / 4096 * 4096 = b then { s with flu := { s.flu with wp := s.nextErased (b + 4096) } } else s
    let s := s.emptyBlock b
    if s.flu.live.any (fun c => b ≤ c.1 && c.1 < b + 4096) then s else s.flashErase b) s
  (s, torn.length, dup.length, dead.length, newest.map (fun c => c.2.seq))

/-- The scan record, the first after READY (R718, R771). -/
def State.scanRecord (s : State) (hi : Option Nat) (torn dup dead : Nat) : State :=
  let payload := leBytes 6 (hi.getD (2 ^ 48 - 1)) ++ leBytes 2 (min torn 0xFFFF) ++ leBytes 2 (min dup 0xFFFF) ++ leBytes 2 (min dead 0xFFFF)
  let wait := s.flu.ring
  let s := { s with flu := { s.flu with ring := wait.filter (fun r => r.hasSeq) } }
  let s := if torn ≠ 0 then (s.set1 FLU_FLAGS_TORN).faultWith 20 3 2 255 payload
    else s.enterRecs [{ sev := 4, code := 0x5103, payload := payload }]
  { s with flu := { s.flu with ring := s.flu.ring ++ wait.filter (fun r => !r.hasSeq) } }

/-- BOOT_SCAN_DONE (R716–R718, R771). -/
def execBootScanDone (s : State) : Out :=
  .next (if !s.on SEC_STATUS_MEAS_DONE || s.on FLU_STATUS_READY then s else
    let (s, torn, dup, dead, hi) := s.scanRepair
    let next := match hi with
      | some h => h + 2049
      | none => 0
    let s := { s with flu := { s.flu with seqNext := next, scanHi := hi } }
    let s := ((s.set1 FLU_STATUS_READY).put FLU_SCAN_TORN (min torn 0xFFFF)).put FLU_SCAN_REERASED (min dead 0xFFFF)
    let s := if s.flu.resv.isEmpty then s else s.set1 FLU_STATUS_RESERVE
    let s := if fluResvCap ≤ s.flu.resv.length then s.set1 FLU_STATUS_SEALED_FULL else s
    let s := ((s.scanRecord hi torn dup dead).numberRing.programVoids.sealCheck).fluShow
    match s.flu.submit with
    | some g => ({ s with flu := { s.flu with submit := none } }).submit g
    | none => s)

/-! Submission and reading (R712, R716, R723–R725). -/

/-- The group the FLU_REC registers hold (R728). -/
def State.submitGroup (s : State) (parts : Nat) : List Rec :=
  (List.range (parts + 1)).map (fun r => { sev := s.get FLU_REC_HEAD_SEV r, code := s.get FLU_REC_HEAD_CODE r, payload := (List.range 3).flatMap (fun w => leBytes 4 (s.get FLU_REC_PAY_BYTES r w)) })

/-- FLU_SUBMIT_GO (R712, R716, R728): a write of FLU_SUBMIT. -/
def execFluSubmitGo (v : Word) (s : State) : Out :=
  let s := if v.toNat.testBit 29 then s.put FLU_SUBMIT_NOSPACE 0 else s
  .next (if !v.toNat.testBit 31 then s.put FLU_SUBMIT_PARTS (v.toNat % 8)
    else if s.on FLU_SUBMIT_BUSY then s.set1 FLU_FLAGS_WRITE_REFUSED
    else
      let s := s.put FLU_SUBMIT_PARTS (v.toNat % 8)
      let g := s.submitGroup (v.toNat % 8)
      if s.on FLU_STATUS_READY then s.submit g
      else ({ s with flu := { s.flu with submit := some g } }).set1 FLU_SUBMIT_BUSY)

/-- The live records with SEQ at least `first`, in increasing SEQ (R723). -/
def State.fluFrom (s : State) (first : Nat) : List Rec :=
  (sortSeq (((s.flu.live ++ s.flu.resv).filter (fun c => first ≤ c.2.seq)) ++
    ((s.flu.ring.filter (fun r => r.hasSeq && first ≤ r.seq)).map (fun r => (0, r))))).map Prod.snd

/-- FLU_READ_START (R723–R725, R728): a write of FLU_RD_CTRL. -/
def execFluReadStart (v : Word) (s : State) : Out :=
  let n := v.toNat % 32
  .next (if n = 0 ∨ 30 < n then s.reservedFault 20
    else if !v.toNat.testBit 31 then s.put FLU_RD_CTRL_COUNT n
    else
      let first := s.get64 FLU_RD_FIRST_LO_FIRST_LO FLU_RD_FIRST_HI_FIRST_HI
      let all := s.fluFrom first
      let got := all.take n
      let old := s.fluOldest
      let (ret, s) := match got with
        | r :: _ => (r.seq, s)
        | [] => (s.fresh.1 % 2 ^ 48, s.fresh.2)
      let s := { s with sram := Memory.writeBytes 0 s.sram (s.get FLU_RD_ADDR_ADDR) (got.flatMap recBytes) }
      let s := ((s.put FLU_RD_CTRL_COUNT n).put FLU_RD_CTRL_RETURNED got.length).put FLU_RD_CTRL_MORE (if n < all.length then 1 else 0)
      let s := (s.put64 FLU_RD_BEFORE_LO_SEQ FLU_RD_BEFORE_HI_SEQ old).put64 FLU_RD_AFTER_LO_SEQ FLU_RD_AFTER_HI_SEQ old
      s.put64 FLU_RD_RET_LO_SEQ FLU_RD_RET_HI_SEQ ret)

/-! The xSPI controller (R707). -/

/-- A range a program or erase of firmware may touch (R707). -/
def xspiAllowed (a n : Nat) : Bool := a + n ≤ 0x1000000 || (0x3800000 ≤ a && a + n ≤ 0x3802000)

/-- A GO of FLU_XSPI_CMD with OP `op` (R707, R728). -/
def State.xspiGo (s : State) (op : Nat) : State :=
  if s.on FLU_XSPI_CMD_BUSY then s.set1 FLU_FLAGS_WRITE_REFUSED else
  let a := s.get FLU_XSPI_FADDR_FADDR
  let s := s.put FLU_XSPI_CMD_OP op
  if a % 256 ≠ 0 ∨ (op = 2 ∧ a % 4096 ≠ 0) then s.reservedFault 20
  else if op ≠ 1 ∧ !xspiAllowed a (if op = 2 then 4096 else 256) then
    (((s.set1 FLU_FLAGS_PROTECTED).set1 FLU_FLAGS_WRITE_REFUSED).set1 FLU_XSPI_CMD_ERR).fault 20 8 3
  else ({ s with flu := { s.flu with xspi := some (op, a, s.get FLU_XSPI_SADDR_SADDR) } }).set1 FLU_XSPI_CMD_BUSY

/-- XSPI_READ (R707). -/
def execXspiRead (s : State) : Out := .next (s.xspiGo 1)

/-- XSPI_ERASE (R707). -/
def execXspiErase (s : State) : Out := .next (s.xspiGo 2)

/-- XSPI_PROGRAM (R707). -/
def execXspiProgram (s : State) : Out := .next (s.xspiGo 3)

/-- The Nagus address range lies in the SRAM (R42). -/
def inSram (a n : Nat) : Bool := 0x10000000 ≤ a && a + n ≤ 0x10100000

/-- NOR programming clears bits: what a byte becomes. -/
def norBytes (old new : List Byte) : List Byte := List.zipWith (· &&& ·) old new

/-- A program or erase has to wait: after PF_DONE, in a shutdown, while a page is programmed (R602, R707, R714). -/
def State.xspiHeld (s : State) (op : Nat) : Bool :=
  op != 1 && (s.on FLU_STATUS_PF_DONE || s.get THM_SHUT_CTRL_STEP_NOW == 4 || s.get THM_SHUT_CTRL_STEP_NOW == 5 || s.flu.page.isSome)

/-- The effect of an operation that has ended: `ok` without failure; a failed one leaves free values (R707). -/
def State.xspiEffect (s : State) (op a m : Nat) (ok : Bool) : State :=
  if ok then
    (match op with
      | 1 => { s with sram := Memory.writeBytes 0 s.sram m (s.flashRead a 256) }
      | 2 => s.flashErase a
      | _ => s.flashWrite a (norBytes (s.flashRead a 256) (Memory.readBytes 0 s.sram m 256)))
  else if op = 1 then s.set1 FLU_XSPI_CMD_ERR
  else
    let (bs, s) := freeBytes (if op = 2 then 4096 else 256) (s.set1 FLU_XSPI_CMD_ERR)
    s.flashWrite a bs

/-- The operation in progress completes or fails (R707): what it was, and whether it succeeded. -/
def State.xspiEnd (s : State) (ok : Bool) : State × Option (Nat × Nat × Bool) := match s.flu.xspi with
  | none => (s, none)
  | some (op, a, m) => if s.xspiHeld op then (s, none) else
    let s := ({ s with flu := { s.flu with xspi := none } }).put FLU_XSPI_CMD_BUSY 0
    let ok := ok && (op == 2 || inSram m 256)
    (s.xspiEffect op a m ok, some (op, a, ok))

/-! The FLUE commands (R144). -/

/-- FLUE READ (R144, R723–R725). -/
def execFlueRead (s : State) : Out := runCmd 0x3C00 s (fun q s =>
  match firstBad [(1, decide (q.w 1 < 65536)), (2, decide (1 ≤ q.w 2 ∧ q.w 2 ≤ 30))] with
  | some i => (s, some (badParam i))
  | none =>
    let all := s.fluFrom (q.w64 0)
    let got := all.take (q.w 2)
    let old := s.fluOldest
    let (ret, s) := match got with
      | r :: _ => (r.seq, s)
      | [] => (s.fresh.1 % 2 ^ 48, s.fresh.2)
    let w2 (v : Nat) : List Nat := [v % 2 ^ 32, v / 2 ^ 32]
    (s, some { okReply (w2 old ++ w2 ret ++ [got.length] ++ w2 old ++ (bytesWords (got.flatMap recBytes) (8 * got.length)).map (·.toNat)) with
      more := decide (q.w 2 < all.length) }))

/-- FLUE STATUS (R144, R728). -/
def execFlueStatus (s : State) : Out := runCmd 0x3C01 s (fun _ s => reader [] s (fun s =>
  let n := (s.flu.seqNext + 2 ^ 48 - 1) % 2 ^ 48
  okReply [n % 2 ^ 32, n / 2 ^ 32, s.fluOldest % 2 ^ 32, s.fluOldest / 2 ^ 32, s.get FLU_RESV_RESV, if s.on FLU_STATUS_SEALED_FULL then 1 else 0]))

/-- FLUE NOTE (R144, R704, R712). -/
def execFlueNote (s : State) : Out := runCmd 0x3C02 s (fun q s =>
  match firstBad [(0, decide (4 ≤ q.w 0 ∧ q.w 0 ≤ 7)), (1, decide (q.w 1 < 65536 ∧ 0x200 ≤ q.w 1 % 1024))] with
  | some i => (s, some (badParam i))
  | none =>
    let n := s.flu.seqNext
    let t := s.enterRecs [{ sev := q.w 0, code := q.w 1, payload := leBytes 4 (q.w 2) ++ leBytes 4 (q.w 3) ++ leBytes 4 (q.w 4) }]
    if fluRingCap ≤ s.flu.ring.length then (s, some (failReply stNoSpace))
    else (t, some (if t.flu.seqNext = n then failReply stNoSpace else okReply [n % 2 ^ 32, n / 2 ^ 32])))

end Sys2Proof.Machine
end

