-- ==== Sys2Proof/Machine/Thm.lean ====
section
/-! DEFINITION. Temperature sensing and the Damper, THM (spec/16_thermal.md, R590–R608). -/

namespace Sys2Proof.Machine

/-- The neighbours of a sensor (R592). -/
def thmNeighbours (i : Nat) : List Nat := match i with
  | 0 => [1, 3] | 1 => [0, 2, 4] | 2 => [1, 5] | 3 => [0, 4, 6] | 4 => [1, 3, 5, 7] | 5 => [2, 4, 8]
  | 6 => [3, 7] | 7 => [4, 6, 8] | 8 => [5, 7] | 9 => [10, 0, 3] | 10 => [9, 6, 7] | _ => [9, 10]

/-- Insert into a rising list. -/
def insInt (x : Int) : List Int → List Int
  | [] => [x]
  | y :: t => if x ≤ y then x :: y :: t else y :: insInt x t

/-- The median of a list; with an even count the mean of the two middle values, truncated (R592). -/
def medianOf (l : List Int) : Int :=
  let s := l.foldr insInt []
  let n := s.length
  if n % 2 = 1 then s.getD (n / 2) 0 else (s.getD (n / 2 - 1) 0 + s.getD (n / 2) 0).tdiv 2

/-- Sensor `i` is excluded. -/
def State.broken (s : State) (i : Nat) : Bool := s.bit THM_BROKEN_BROKEN i

/-- How far sensor `i` lies from its neighbours' median; none where it is not checked (R592). -/
def State.thmDiff (s : State) (i : Nat) : Option Nat :=
  let ns := (thmNeighbours i).filter (fun j => !s.broken j)
  if s.broken i || decide (ns.length < 2) then none
  else some (s.getS THM_T_T i - medianOf (ns.map (fun j => s.getS THM_T_T j))).natAbs

/-- Count the updates at which each sensor differs by more than DELTA (R593). -/
def State.thmRuns (s : State) : State :=
  let run (i : Nat) : Nat := match s.thmDiff i with
    | some d => if s.get THM_BRK_DELTA < d then Tab.get 0 s.thm.runs i + 1 else 0
    | none => 0
  { s with thm := { s.thm with runs := (List.range 12).map (fun i => (i, run i)) } }

/-- The sensor declared broken at this update: of those that qualify, the one with the largest difference, the lowest
number among equals (R593). -/
def State.thmWorst (s : State) : Option (Nat × Nat) :=
  (List.range 12).foldl (fun b i => match s.thmDiff i with
    | some d => if Tab.get 0 s.thm.runs i < s.get THM_BRK_TIME then b else match b with
      | some (_, e) => if e < d then some (i, d) else b
      | none => some (i, d)
    | none => b) none

/-- Declare sensor `i` broken; the record carries its last value (R593). -/
def State.declareBroken (s : State) (i : Nat) : State :=
  let s := ((s.putBit THM_BROKEN_BROKEN i true).set1 THM_T_BROKEN i).set1 THM_FLAGS_BROKEN
  s.fault 15 4 2 i none (some (ofSigned 32 (s.getS THM_T_T i)))

/-- The highest value among the sensors that are not broken, and the lowest sensor that gives it (R591). -/
def State.thmMax (s : State) : Option (Nat × Int) :=
  (List.range 12).foldl (fun b i => if s.broken i then b else match b with
    | some (_, v) => if v < s.getS THM_T_T i then some (i, s.getS THM_T_T i) else b
    | none => some (i, s.getS THM_T_T i)) none

/-- TMAX, MAX_SENSOR and PEAK (R591); `first`: the first update since reset. -/
def State.thmTmax (s : State) (first : Bool) : State := match s.thmMax with
  | none => s
  | some (i, t) =>
    let s := (s.putS THM_STATUS_TMAX t).put THM_STATUS_MAX_SENSOR i
    if first || decide (s.getS THM_PEAK_PEAK < t) then s.putS THM_PEAK_PEAK t else s

/-- Fewer than five of sensors 0 to 8 are not broken (R595). -/
def State.thmLow (s : State) : Bool := decide (((List.range 9).filter (fun i => !s.broken i)).length < 5)

/-- The F1 condition of R595 begins or ends. -/
def State.thmLowEval (s : State) : State :=
  let low := s.thmLow
  let was := s.thm.low
  let s := { s with thm := { s.thm with low := low } }
  if low && !was then (s.set1 THM_FLAGS_SENSORS_LOW).fault 15 6 1
  else if !low && was then s.dropCause (15 * 1024 + 6) else s

/-- The ordered shutdown begins: steps 1 and 2 are the actions of an F0 fault, step 3 ends at once when no program is
in progress (R602). -/
def State.shutBegin (s : State) : State :=
  let s := ((s.set1 THM_FLAGS_SHUTDOWN).fault 15 3 0).endActions (fun a => a.op == 0x3003 || a.op == 0x3803) stHwFault
  let s := { s with cal := { s.cal with store := none }, fw := { s.fw with write := none } }
  let s := (s.eraseAbort.xspiCut 2).put THM_SHUT_CTRL_STEP_NOW 3
  if s.flu.page.isSome || (s.flu.xspi.map Prod.fst) == some 3 then s else s.shutFlush

/-- Entry to a level from below (R596). -/
def State.thmEnter (s : State) (l : Nat) : State :=
  let s := s.put THM_STATUS_LEVEL l
  if l = 1 then (s.set1 THM_FLAGS_WARN).fault 15 1 3
  else if l = 2 then ((s.set1 THM_FLAGS_THROTTLE).incSat THM_CNT_EPISODES).fault 15 2 2
  else s.shutBegin

/-- The level moves: up to the highest threshold passed, each entry recording its fault, or one level down (R596). -/
def State.thmLevel (s : State) : State :=
  let t := s.getS THM_STATUS_TMAX
  let warn := s.getS THM_THRESH_A_WARN
  let throt := s.getS THM_THRESH_A_THROT
  let shut := s.getS THM_THRESH_B_SHUT
  let h := s.getS THM_THRESH_B_HYST
  let l := s.get THM_STATUS_LEVEL
  if l = 3 then s else
  let top := if shut ≤ t then 3 else if throt ≤ t then 2 else if warn ≤ t then 1 else 0
  if l < top then ((List.range 4).filter (fun k => l < k ∧ k ≤ top)).foldl State.thmEnter s
  else if l = 2 ∧ t < throt - h then s.put THM_STATUS_LEVEL 1
  else if l = 1 ∧ t < warn - h then s.put THM_STATUS_LEVEL 0
  else s

/-- The target reduction n_t (R598). -/
def State.redTarget (s : State) : Nat :=
  let m := s.get THM_DAMP_MAX_RED
  if s.get THM_STATUS_LEVEL = 3 || s.thm.low then m
  else if s.get THM_STATUS_LEVEL = 2 then
    min m (1 + (max 0 (s.getS THM_STATUS_TMAX - s.getS THM_THRESH_A_THROT)).toNat / max 1 (s.get THM_DAMP_STEP))
  else 0

/-- RED rises to its target at once, and in level 3 and under R595 it is MAX_RED; while it lies above, the time toward the next fall runs (R598). -/
def State.redEval (s : State) : State :=
  let n := s.redTarget
  if s.get THM_STATUS_RED < n || s.get THM_STATUS_LEVEL = 3 || s.thm.low then ({ s with thm := { s.thm with relax := 0 } }).put THM_STATUS_RED n
  else { s with thm := { s.thm with relax := if n < s.get THM_STATUS_RED then s.thm.relax + 1 else 0 } }

/-- Milliseconds with RED above 0 (THM_CNT.THR_S). -/
def State.redSeconds (s : State) : State :=
  if s.get THM_STATUS_RED = 0 then s
  else if s.thm.ms + 1 = 1000 then ({ s with thm := { s.thm with ms := 0 } }).incSat THM_CNT_THR_S
  else { s with thm := { s.thm with ms := s.thm.ms + 1 } }

/-- THERMAL_UPDATE (R590–R598, R602): `ts` are the twelve results in 1/16 °C. -/
def execThermalUpdate (ts : List (BitVec 16)) (s : State) : Out :=
  let first := !s.on THM_T_VALID 0
  let s := forN 12 (fun i s => (s.put THM_T_T (ts.getD i 0).toNat i).set1 THM_T_VALID i) s
  let s := s.thmRuns
  let s := match s.thmWorst with
    | some (i, _) => s.declareBroken i
    | none => s
  .next (((s.thmTmax first).thmLowEval.thmLevel).redEval.redSeconds)

/-- DAMPER_RELAX (R598): RELAX ms have passed while RED lies above its target. -/
def execDamperRelax (s : State) : Out :=
  .next (if s.redTarget < s.get THM_STATUS_RED ∧ s.get THM_DAMP_RELAX ≤ s.thm.relax then
    ({ s with thm := { s.thm with relax := 0 } }).put THM_STATUS_RED (s.get THM_STATUS_RED - 1)
  else s)

/-- SHUTDOWN_FLASH_END (R602): the program in progress is cut off after FLASH_MAX ms, and step 4 begins. -/
def execShutdownFlashEnd (s : State) : Out :=
  .next (if s.get THM_SHUT_CTRL_STEP_NOW ≠ 3 then s else
    let s := s.xspiCut 3
    let s := match s.flu.page with
      | some (a, rs) => s.failPage a rs
      | none => s
    s.shutFlush)

/-- SENSOR_CLEAR (R594, R595): a write of THM_SENSOR_CLEAR. -/
def execSensorClear (mask : BitVec 12) (s : State) : Out :=
  .next (forN 12 (fun i s => if mask.toNat.testBit i then
      ({ s with thm := { s.thm with runs := Tab.put s.thm.runs i 0 } }.putBit THM_BROKEN_BROKEN i false).put THM_T_BROKEN 0 i
    else s) s).thmLowEval

/-- A write of THM_PEAK: CLEAR sets PEAK to TMAX (R608). -/
def State.peakClear (s : State) : State := s.put THM_PEAK_PEAK (s.get THM_STATUS_TMAX)

/-- Whether a pair of threshold words keeps R597. -/
def threshOk (a b : Word) : Bool :=
  let f (w : Word) (hi lo : Nat) : Int := toSigned 16 (wfield w hi lo)
  decide (f a 31 16 < f a 15 0 ∧ f a 15 0 < f b 31 16 ∧ f b 31 16 ≤ 0x760 ∧ 16 ≤ f b 15 0 ∧ f b 15 0 ≤ 128)

/-- A write of THM_THRESH_A or _B (R597). -/
def State.threshWrite (s : State) (b : Bool) (v : Word) : State :=
  if s.get THM_STATUS_LEVEL ≠ 0 then s.set1 THM_FLAGS_WRITE_REFUSED
  else if (if b then threshOk (s.rd 0x200F000C) v else threshOk v (s.rd 0x200F0010)) then s.wr (if b then 0x200F0010 else 0x200F000C) v
  else s.reservedFault 15

/-- THRM STATUS (R140, R597). -/
def execThrmStatus (s : State) : Out := runCmd 0x2C00 s (fun _ s => reader [] s (fun s =>
  okReply [(ofSigned 32 (s.getS THM_STATUS_TMAX)), s.get THM_BROKEN_BROKEN, s.get THM_STATUS_LEVEL, s.get THM_STATUS_RED]))

/-- THRM SENSOR_READ (R140, R608). -/
def execThrmSensorRead (s : State) : Out := runCmd 0x2C01 s (fun _ s => reader [] s (fun s =>
  okReply ((List.range 12).map (fun i => ofSigned 32 (s.getS THM_T_T i)))))

end Sys2Proof.Machine
end

