-- ==== Sys2Proof/Machine/Cal.lean ====
section
/-! DEFINITION. Calibration and trimming, CAL (spec/17_calibration.md, R609–R630), and the end of long actions. -/

namespace Sys2Proof.Machine

/-! Trim sets (R609, R624). -/

/-- How a set reads a field: in force or pending. -/
def State.trimField (s : State) (pend : Bool) (f : Fref) (i : Nat) : Nat := if pend then s.getP f i else s.get f i

/-- The trim words t1–t16 and the TRIM bits of t17–t32, RS left out (R609). -/
def State.trimBits (s : State) (pend : Bool) : List Nat :=
  (List.range 16).map (fun p => s.trimField pend AFE_OFS_TRIM (2 * p + 1) * 2 ^ 24 + s.trimField pend AFE_OFS_TRIM (2 * p) * 2 ^ 16 +
      s.trimField pend LSR_DELAY_FINE p * 32 + s.trimField pend PLK_TAP_TAP p) ++
    (List.range 16).map (fun k => s.trimField pend LIT_TRIM_TRIM k)

/-- SET_ID of the pending set: that of a TRIM_WRITE whose values are still pending (R624). -/
def State.pendSetId (s : State) : Nat := match s.cal.idNext with
  | some (id, l) => if l = s.trimBits true then id else 0xFFFF
  | none => if s.trimBits true = s.trimBits false then s.cal.setId else 0xFFFF

/-- The 44 words of a trim set (R624). -/
def State.trimSet (s : State) (pend : Bool) (stamp gen : Nat) : List Nat :=
  let b := s.trimBits pend
  let t0 := 2 ^ 16 + (if pend then s.pendSetId else s.cal.setId)
  let rs := (List.range 16).map (fun k => s.get LIT_RS_RS k * 2 ^ 16 + b.getD (16 + k) 0)
  let on := (List.range 8).map (fun j => Tab.get 0 s.cal.onset (2 * j) + 2 ^ 16 * Tab.get 0 s.cal.onset (2 * j + 1))
  let body := [t0] ++ b.take 16 ++ rs ++ on ++ [stamp, gen]
  body ++ [crc32 (body.flatMap (leBytes 4))]

/-- FORMAT and CRC of 44 words check (R625, R627). -/
def trimValid (ws : List Nat) : Bool := ws.length == 44 && ws.getD 0 0 / 2 ^ 16 == 1 && ws.getD 43 0 == crc32 ((ws.take 43).flatMap (leBytes 4))

/-- The flash block of copy `c` (R626). -/
def trimBlock (c : Nat) : Nat := 0x3800000 + 0x1000 * c

/-- The words of copy `c`. -/
def State.trimCopy (s : State) (c : Nat) : List Nat := (bytesWords (s.flashRead (trimBlock c) 176) 44).map (·.toNat)

/-- The newer valid copy: its number and words (R626, R627). -/
def State.trimStored (s : State) : Option (Nat × List Nat) :=
  let a := s.trimCopy 0
  let b := s.trimCopy 1
  match trimValid a, trimValid b with
  | true, true => if a.getD 42 0 < b.getD 42 0 then some (1, b) else some (0, a)
  | true, false => some (0, a)
  | false, true => some (1, b)
  | false, false => none

/-- Write a set's trims as pending values and RS at once (R625, R627). -/
def State.trimApply (s : State) (ws : List Nat) : State :=
  let t (i : Nat) : Nat := ws.getD i 0
  let s := forN 16 (fun p s => (((s.putP AFE_OFS_TRIM (t (1 + p) / 2 ^ 24) (2 * p + 1)).putP AFE_OFS_TRIM (t (1 + p) / 2 ^ 16 % 256) (2 * p)).putP
    LSR_DELAY_FINE (t (1 + p) / 32 % 2 ^ 11) p).putP PLK_TAP_TAP (t (1 + p) % 32) p) s
  let s := forN 16 (fun k s => (s.putP LIT_TRIM_TRIM (t (17 + k) % 64) k).put LIT_RS_RS (t (17 + k) / 2 ^ 16) k) s
  { s with cal := { s.cal with idNext := some (t 0 % 2 ^ 16, s.trimBits true) } }

/-- A commit of group 9 has come into force: TAP_USE takes TAP (R299), SET_ID follows (R624), and the record of R628 is
posted; `old` is the state before. -/
def State.trimCommit (s old : State) : State :=
  let s := forN 16 (fun p s => s.put PLK_TAP_TAP_USE (s.get PLK_TAP_TAP p) p) s
  let id := match s.cal.idNext with
    | some (id, l) => if l = s.trimBits false then id else 0xFFFF
    | none => if s.trimBits false = old.trimBits false then s.cal.setId else 0xFFFF
  let s := { s with cal := { s.cal with setId := id, idNext := none } }
  let crc := (s.trimSet false 0 0).getD 43 0
  s.enterRecs [{ sev := 4, code := 0x4100, payload := leBytes 2 id ++ leBytes 4 crc ++ leBytes 6 s.key.tick }]

/-! Runs (R612–R616). What a CAL RUN action works on: `arg` is the procedure, 4 for gap mode; `arg2` is the pier or
channel, plus 2^16 with DEFER. -/

/-- The modes of R612 for a procedure. -/
def calModeOk (proc mode : Nat) : Bool :=
  if proc = 4 then mode == 4 else if proc = 2 then mode == 6 else mode == 2 || mode == 3 || mode == 5 || mode == 6

/-- The unfinished runs. -/
def State.calRuns (s : State) : List Action := s.unfinished.filter (fun a => a.op == 0x3000)

/-- End the unfinished CAL action `a` with a status. -/
def State.calFinish (s : State) (a : Action) (st : Nat) : State := s.endActions (fun b => b == a) st

/-- Request or stage the commit of group 9 when a run that has written a pending trim finishes (R615). -/
def State.calTrimWritten (s : State) (a : Action) : State :=
  if a.arg2 / 65536 = 1 then { s with mbx := { s.mbx with staged := s.mbx.staged ||| 0x200 } } else s.requestCommit 0x200

/-- MEAS / 64 to the nearest integer, ties away from zero (R616). -/
def measSteps (m : Int) : Int := if 0 ≤ m then (m + 32) / 64 else -((-m + 32) / 64)

/-- The pending AFE trims that follow a completed measurement (R616). -/
def State.afeTrims (s : State) (p : Nat) : State :=
  forN 2 (fun j s => let i := 2 * p + j
    s.putPS AFE_OFS_TRIM (max (-128) (min 127 (s.getS AFE_OFS_TRIM i - measSteps (s.getS AFE_OFS_MEAS i)))) i) s

/-- The run `a` leaves its modes: what it drives is ended, fault 006h (R614). -/
def State.calModeEnd (s : State) (a : Action) : State :=
  let u := a.arg2 % 65536
  let s := if a.arg = 1 then s.calEnd.calRefuse (2 * u)
    else if a.arg = 4 then s.calEnd
    else if a.arg = 2 then ({ s with cal := { s.cal with swp := none } }).put CAL_STATUS_SWP_BUSY 0
    else if a.arg = 3 then ((s.put CAL_STATUS_LT_BUSY 0).litIeff u).litSettle
    else s
  ((s.set1 CAL_FLAGS_MODE_END).fault 16 6 3 u).calFinish a stAborted

/-- What has become of one run: its end, if it has come (R612–R616, R619, R621, R623). -/
def State.calPoll1 (s : State) (a : Action) : State :=
  let u := a.arg2 % 65536
  if !calModeOk a.arg s.mode then s.calModeEnd a
  else if a.arg = 0 then
    if (s.link u).start then s
    else if s.linkState u = lsUp ∨ s.linkState u = lsFailed then
      (if (s.link u).swept then s.calTrimWritten a else s).calFinish a (if s.linkState u = lsUp then stOk else stHwFault)
    else s
  else if a.arg = 1 ∨ a.arg = 4 then
    if s.on AFE_CAL_CTRL_BUSY then s
    else if s.on AFE_CAL_CTRL_DONE then ((s.afeTrims u).calTrimWritten a).calFinish a stOk
    else s.calFinish a stHwFault
  else if a.arg = 2 then
    if s.on CAL_STATUS_SWP_BUSY then s else s.calFinish a (if s.on CAL_SWP_RES_VALID then stOk else stHwFault)
  else if s.on CAL_STATUS_LT_BUSY then s
  else if s.on CAL_LT_RES_RANGE then s.calFinish a stHwFault
  else (s.calTrimWritten a).calFinish a stOk

/-- Firmware looks after its runs. -/
def State.calPoll (s : State) : State := if s.halted then s else s.calRuns.foldl State.calPoll1 s

/-- LONG_ACTION_FINISH (R117): the event of KIND 0003h for the ended action with this tag. -/
def execLongActionFinish (tag : BitVec 16) (s : State) : Out :=
  let s := s.calPoll
  .next (if s.halted then s else match s.mbx.actions.find? (fun a => a.finished && !a.posted && a.tag == tag.toNat) with
    | none => s
    | some a =>
      let s := { s with mbx := { s.mbx with actions := s.mbx.actions.map (fun b => if b = a then { b with posted := true } else b) } }
      s.event 3 a.op a.tag a.status)

/-! Gap mode (R617–R619). -/

/-- The guaranteed dark span of pier `p` at φ120 of the present tick, before the values of the tick are handed (R617). -/
def State.darkSpan (s : State) (p : Nat) : Nat :=
  let q := s.pier p
  if s.pierState p = psRun then
    match q.mot with
    | some m => if m.kind = .stroke then (if m.typ = 1 then m.plan.k - m.i else m.lit0 - 1 - m.i + (if m.fresh then 1 else 0)) else 0
    | none => 0
  else if s.pierState p = psSync then
    match q.waitTo with
    | some w => w - s.key.tick
    | none => 0
  else 0

/-- At φ120: a piece opens while none is running, when the span is long enough (R618). -/
def State.gapOpen (s : State) : State :=
  if !s.on CAL_STATUS_MC_BUSY || s.cal.piece.isSome then s else
  let p := s.get CAL_STATUS_MC_PIER
  let d := s.darkSpan p
  let c := s.get LSR_DELAY_COARSE p
  if s.get CAL_GAP_GAP_MIN * 1000 ≤ d * s.periodNs then
    ({ s with cal := { s.cal with piece := some (s.key.tick + 1 + c, s.key.tick + d + c) } }).incSat CAL_MC_STAT_PIECES
  else s

/-- The results of one sampling edge join a piece that is on (R618). -/
def State.gapCount (s : State) : State :=
  if s.cal.pieceOn then s.put CAL_MC_RESULTS (min 512 (s.get CAL_MC_RESULTS + 1)) else s

/-- A piece is due to close: its span ends or 512 results are held (R618). -/
def State.gapDue (s : State) : Bool := match s.cal.piece with
  | some (_, t) => s.cal.pieceOn && (decide (t ≤ s.key.tick) || decide (512 ≤ s.get CAL_MC_RESULTS))
  | none => false

/-- Close the piece; with 512 results held the measurement completes (R618, R352). -/
def State.gapClose (s : State) : State :=
  if !s.gapDue then s else
  let p := s.get CAL_STATUS_MC_PIER
  let s := ({ s with cal := { s.cal with piece := none, pieceOn := false } }).calReconnect p
  if 512 ≤ s.get CAL_MC_RESULTS then
    (({ s with afe := { s.afe with calDue := true } }).calWrite).put CAL_STATUS_MC_BUSY 0
  else s

/-- At a tick edge, the counter already advanced: the laser-side edge of a piece shorts the inputs (R618). -/
def State.gapEdge (s : State) : State := match s.cal.piece with
  | some (f, _) => if f ≤ s.key.tick ∧ !s.cal.pieceOn then { s with cal := { s.cal with pieceOn := true } } else s
  | none => s

/-- GAP_PIECE_CLOSE (R618). -/
def execGapPieceClose (s : State) : Out := .next s.gapClose

/-- MC_START (R618, R630, R353): a write of CAL_MC. -/
def execMcStart (v : Word) (s : State) : Out :=
  let p := wfield v 19 16
  .next (if !v.toNat.testBit 31 then s.put CAL_MC_PIER p
    else if s.on CAL_STATUS_MC_BUSY then s.set1 CAL_FLAGS_WRITE_REFUSED
    else
      let s := s.put CAL_MC_PIER p
      if s.on AFE_CAL_CTRL_BUSY then s.calRefuse (2 * p) else
      let z (i : Nat) (s : State) : State := s.setAfeIn i { s.afeIn i with sum := 0 }
      let s := z (2 * p) (z (2 * p + 1) { s with afe := { s.afe with calPier := p } })
      (((s.put CAL_MC_RESULTS 0).set1 CAL_STATUS_MC_BUSY).put CAL_STATUS_MC_PIER p).set1 AFE_CAL_CTRL_BUSY)

/-- GAP_WAIT_TIMEOUT (R619): WAIT ms have passed since START. -/
def execGapWaitTimeout (s : State) : Out :=
  .next (if s.on CAL_STATUS_MC_BUSY then
    let s := (s.calEnd.set1 CAL_FLAGS_NO_GAP).fault 16 1 3 (s.get CAL_STATUS_MC_PIER)
    (s.calRuns.filter (fun a => a.arg == 4)).foldl (fun s a => s.calFinish a stTimeout) s
  else s)

/-! The gate sweep (R620–R622). -/

/-- The sweep ends: `st` 0 passed, else the failure (R621). -/
def State.sweepEnd (s : State) (w : Sweep) (st : Nat) : State :=
  let s := (({ s with cal := { s.cal with swp := none } }).put CAL_STATUS_SWP_BUSY 0).put CAL_SWP_RES_STATUS st
  if st = 0 then
    let o := (w.s1 * 1000 - w.lo) % 65536
    let s := (s.set1 CAL_SWP_RES_VALID).put CAL_SWP_RES_ONSET o
    { s with cal := { s.cal with onset := Tab.put s.cal.onset w.pier o, setId := 0xFFFF } }
  else ((s.put CAL_SWP_RES_VALID 0).set1 CAL_FLAGS_SWP_FAIL).fault 16 2 3 w.pier

/-- Fire the sweep's next pulse; a pulse refused under R337 ends it (R620, R621). -/
def State.sweepFire (s : State) (w : Sweep) : State :=
  if s.testOk w.pier then
    { (s.testFire w.pier) with cal := { s.cal with swp := some { w with tick := s.key.tick, smp := [] } } }
  else (s.testFire w.pier).sweepEnd w 4

/-- Weigh the samples of the latest pulse: the search as it goes on (R621), or the status with which the sweep ends. -/
def sweepWeigh (w : Sweep) (levelMin : Int) : Sweep × Option Nat :=
  let at_ (k : Nat) : Int := w.smp.getD k 0
  let w' : Sweep × Option Nat := if !w.lev then
      let level := (w.smp.drop 1).foldl max (at_ 0)
      let h := level / 2
      if level < levelMin then (w, some 1) else
      match (List.range w.win).find? (fun k => decide (h ≤ at_ k)) with
      | none => (w, some 2)
      | some 0 => (w, some 3)
      | some k => ({ w with lev := true, h := h, s1 := k }, none)
    else
      let n := w.n + 1
      let hits := w.hits + (if w.h ≤ at_ w.s1 then 1 else 0)
      if n < w.rep then ({ w with n := n, hits := hits }, none)
      else if w.rep < 2 * hits then ({ w with n := 0, hits := 0, lo := w.f }, none)
      else ({ w with n := 0, hits := 0, hi := w.f - 1 }, none)
  match w' with
  | (w, some e) => (w, some e)
  | (w, none) => if w.n ≠ 0 then (w, none) else if w.lo < w.hi then ({ w with f := (w.lo + w.hi + 1) / 2 }, none) else (w, some 0)

/-- SWEEP_PULSE (R620, R621): GAP ticks after the previous pulse its samples are weighed and the next one is fired. -/
def execSweepPulse (s : State) : Out :=
  .next (match s.cal.swp with
    | none => s
    | some w =>
      if s.key.tick < w.tick + s.get CAL_SWP_CFG_GAP then s else
      let s := if Tab.get 0 s.lsr.test w.pier = 3 then s.testEnd w.pier else s
      let s := if w.lev then s else s.putS CAL_SWP_LEVEL_LEVEL ((w.smp.drop 1).foldl max (w.smp.getD 0 0))
      match sweepWeigh w (s.get CAL_SWP_LEVEL_LEVEL_MIN) with
      | (w, some st) => s.sweepEnd w st
      | (w, none) => s.sweepFire w)

/-- A sample of the swept input, in tick t + 2 and later, `late` for the φ200 sample (R620). -/
def State.sweepSample (s : State) (late : Bool) : State := match s.cal.swp with
  | some w =>
    let k := 2 * (s.key.tick - (w.tick + 2)) + (if late then 1 else 0)
    if w.tick + 2 ≤ s.key.tick ∧ k = w.smp.length ∧ k < w.win then
      let a := s.afeIn w.input
      { s with cal := { s.cal with swp := some { w with smp := w.smp ++ [swValue (if late then a.s200 else a.s0)] } } }
    else s
  | none => s

/-- Start a sweep with the settings of the CAL_SWP registers (R620, R630). -/
def State.sweepStart (s : State) : State :=
  let p := s.get CAL_SWP_CTRL_PIER
  let w : Sweep := { pier := p, input := 2 * p + s.get CAL_SWP_CTRL_INPUT, win := s.get CAL_SWP_CTRL_WINDOW, rep := s.get CAL_SWP_CTRL_REPEAT, tick := s.key.tick }
  ((s.set1 CAL_STATUS_SWP_BUSY).put CAL_STATUS_SWP_PIER p).sweepFire w

/-- A write of CAL_SWP_CTRL (R630). -/
def State.sweepWrite (s : State) (v : Word) : State :=
  let rep := wfield v 27 24
  let win := wfield v 5 0
  if v.toNat.testBit 31 && s.on CAL_STATUS_SWP_BUSY then s.set1 CAL_FLAGS_WRITE_REFUSED
  else if rep = 0 ∨ win < 4 ∨ (v.toNat.testBit 31 ∧ s.get CAL_SWP_CFG_POWER = 0) then s.reservedFault 16
  else
    let s := ((s.put CAL_SWP_CTRL_REPEAT rep).put CAL_SWP_CTRL_INPUT (wfield v 20 20)).put CAL_SWP_CTRL_PIER (wfield v 19 16)
    let s := s.put CAL_SWP_CTRL_WINDOW win
    if v.toNat.testBit 31 then s.sweepStart else s

/-- SWEEP_START (R620, R630). -/
def execSweepStart (v : Word) (s : State) : Out := .next (s.sweepWrite v)

/-! The lighting threshold (R623). -/

/-- A write of CAL_LT_CTRL (R623, R630). -/
def State.ltWrite (s : State) (v : Word) : State :=
  let k := wfield v 3 0
  if !v.toNat.testBit 31 then s.put CAL_LT_CTRL_CHANNEL k
  else if s.on CAL_STATUS_LT_BUSY then s.set1 CAL_FLAGS_WRITE_REFUSED
  else
    let s := ((s.put CAL_LT_CTRL_CHANNEL k).set1 CAL_STATUS_LT_BUSY).put CAL_STATUS_LT_CHAN k
    let s := s.setLitCh k { s.litCh k with strobe := 0, ldg := false, chk := false }
    (({ s with cal := { s.cal with lt := -32 } }).put LIT_STAT_IEFF 400 k).litSettle

/-- THRESHOLD_START (R623). -/
def execThresholdStart (v : Word) (s : State) : Out := .next (s.ltWrite v)

/-- The procedure ends: with a TRIM found, or out of range (R623); the channel resumes. -/
def State.ltEnd (s : State) (r : Option Int) : State :=
  let k := s.get CAL_STATUS_LT_CHAN
  let s := s.put CAL_STATUS_LT_BUSY 0
  let s := match r with
    | some t => (((s.set1 CAL_LT_RES_VALID).put CAL_LT_RES_RANGE 0).putS CAL_LT_RES_TRIM t).putPS LIT_TRIM_TRIM t k
    | none => (((s.put CAL_LT_RES_VALID 0).set1 CAL_LT_RES_RANGE).set1 CAL_FLAGS_LT_RANGE).fault 16 3 2 k
  (s.litIeff k).litSettle

/-- THRESHOLD_STEP (R623): whether the comparator trips at the present TRIM. -/
def execThresholdStep (trip : Bool) (s : State) : Out :=
  .next (if !s.on CAL_STATUS_LT_BUSY then s
    else if trip then
      if s.cal.lt = 31 then s.ltEnd none else { s with cal := { s.cal with lt := s.cal.lt + 1 } }
    else if s.cal.lt = -32 then s.ltEnd none else s.ltEnd (some s.cal.lt))

/-! Storing (R626). -/

/-- Start the flash operation a CAL STORE needs next, when the controller is free. -/
def State.storeGo (s : State) : State := match s.cal.store with
  | none => s
  | some (b, bs, prog) =>
    if s.flu.xspi.isSome then s
    else
      let buf := 0x100FFF00
      let s := if prog then { s with sram := Memory.writeBytes 0 s.sram buf bs } else s
      ({ s with flu := { s.flu with xspi := some (if prog then 3 else 2, b, buf) } }).set1 FLU_XSPI_CMD_BUSY

/-- The STORE ends with a status; a mismatch records fault 005h. -/
def State.storeEnd (s : State) (ok : Bool) : State :=
  let s := { s with cal := { s.cal with store := none } }
  let s := if ok then s else s.fault 16 5 2
  s.endActions (fun a => a.op == 0x3003) (if ok then stOk else stHwFault)

/-- After a flash operation `op` on block `a` has ended: the STORE goes on (R626). -/
def State.storeStep (s : State) (op a : Nat) (ok : Bool) : State := match s.cal.store with
  | none => s
  | some (b, bs, prog) =>
    if a ≠ b ∨ op ≠ (if prog then 3 else 2) then s.storeGo
    else if !ok then s.storeEnd false
    else if !prog then ({ s with cal := { s.cal with store := some (b, bs, true) } }).storeGo
    else s.storeEnd (s.flashRead b bs.length == bs)

/-! The CAL commands (R141). -/

/-- Another run stands in the way (R613). -/
def State.calBusy (s : State) (proc u : Nat) : Bool :=
  s.calRuns.any (fun a =>
    let same := a.arg2 % 65536 == u
    let pr := if a.arg = 4 then 1 else a.arg
    (proc ≠ 0 && pr == proc) || ((proc == 0 || proc == 2) && same && pr ≤ 2) || (proc == 1 && same && pr == 2))

/-- RUN is accepted in the mode and state in force (R612). -/
def State.calAccept (s : State) (proc u : Nat) : Bool :=
  if proc = 1 then s.mode == 4 || calModeOk 1 s.mode
  else if proc = 2 then s.mode == 6 && s.on LSR_PERMIT_MODE_ALLOW && s.get KEY_CTRL_PERIOD == 0 && (s.pierState u == psOff || s.pierState u == psIdle)
  else if proc = 3 then calModeOk 3 s.mode &&
    !(s.mode == 6 && s.on LSR_PERMIT_MODE_ALLOW && (match s.beacon with
      | some g => s.litMember g u
      | none => false))
  else calModeOk 0 s.mode

/-- Start what a procedure drives (R612, R772); firmware clears AFE_CAL_CTRL.DONE before an offset measurement (log entry 65). -/
def State.calDrive (s : State) (proc u : Nat) : State :=
  if proc = 0 then
    let s := if s.linkState u = lsOff then s.put PLK_CTRL_MODE (if s.fw.legacy.testBit u then 2 else 1) u else s
    s.trainStart u true
  else if proc = 1 then
    let s := s.put AFE_CAL_CTRL_DONE 0
    if s.mode = 4 then
      after (execMcStart (word (2 ^ 31 + u * 65536))) s
    else s.calStart u
  else if proc = 2 then
    (s.put CAL_SWP_CTRL_PIER u).sweepWrite (word (2 ^ 31) ||| wset (s.rd 0x20100020) 19 16 u)
  else s.ltWrite (word (2 ^ 31 + u))

/-- CAL RUN (R111, R141, R612–R615): the flags and the modes of the procedure are checked where the request is taken. -/
def execCalRun (s : State) : Out := runCmd 0x3000 s (fun q s =>
  let proc := q.w 0
  let u := q.w 1
  match firstBad [(0, decide (proc < 4)), (1, decide (u < 16))] with
  | some i => (s, some (badParam i))
  | none =>
    if proc ≠ 2 ∧ stagedHit q s 0x200 then (s, some (failReply stStaged))
    else if s.noPlace then (s, some (failReply stNoSpace))
    else if !s.calAccept proc u then (s, some (failReply stBadState))
    else if s.calBusy proc u then (s, some (failReply stBusy))
    else
      let kind := if proc = 1 ∧ s.mode = 4 then 4 else proc
      let s := s.startAction q kind (u + (if q.defer then 65536 else 0))
      (s.calDrive proc u, some okReply))

/-- CAL TRIM_READ (R141, R624, R627). -/
def execCalTrimRead (s : State) : Out := runCmd 0x3001 s (fun q s =>
  match q.w 0 with
  | 0 => (s, some (okReply (s.trimSet false 0 0)))
  | 1 => (s, some (okReply (s.trimSet true 0 0)))
  | 2 => (s, some (match s.trimStored with
      | some (_, ws) => okReply ws
      | none => failReply stNotFound))
  | _ => (s, some (badParam 0)))

/-- CAL TRIM_WRITE (R141, R625). -/
def execCalTrimWrite (s : State) : Out := runCmd 0x3002 s (fun q s =>
  let ws := (List.range 44).map q.w
  writer q 0x200 ([(atByte 2, decide (q.w 0 / 2 ^ 16 = 1))] ++ (List.range 16).map (fun p => (1 + p, decide (q.w (1 + p) / 32 % 2 ^ 11 ≤ 1999))) ++
      (List.range 16).map (fun k => (17 + k, decide (q.w (17 + k) / 64 % 1024 = 0))) ++ [(43, trimValid ws)]) s
    (fun s => s.trimApply ws))

/-- CAL STORE (R141, R626); BUSY also while an earlier one is unfinished (log entry 60). -/
def execCalStore (s : State) : Out := runCmd 0x3003 s (fun q s =>
  if s.noPlace then (s, some (failReply stNoSpace))
  else if s.bit KEY_COMMIT_STATUS_DIRTY 9 || s.mbx.staged.testBit 9 || s.cal.store.isSome then (s, some (failReply stBusy))
  else
    let (c, gen) := match s.trimStored with
      | some (c, ws) => (1 - c, (ws.getD 42 0 + 1) % 2 ^ 32)
      | none => (0, 1)
    let bs := (s.trimSet false (s.get VLT_OPSEC_OPSEC) gen).flatMap (leBytes 4)
    let s := (s.startAction q)
    (({ s with cal := { s.cal with store := some (trimBlock c, bs ++ List.replicate 80 0xFF#8, false) } }).storeGo, some okReply))

end Sys2Proof.Machine
end

