-- ==== Sys2Proof/Machine/Dmc.lean ====
section
/-! DEFINITION. The DRAM controller: training, refresh, row disturbance, command replay, scrubbing
(spec/13_memory_dma.md). -/

namespace Sys2Proof.Machine

/-- Training starts (R500). -/
def State.dramTrainStart (s : State) : State :=
  if s.on DMC_STATUS_READY || s.on DMC_STATUS_TRAINING then s
  else (((s.set1 DMC_STATUS_TRAINING).put DMC_STATUS_STEP 1).put DMC_STATUS_LANE 15).put DMC_STATUS_CH 0

/-- DRAM_TRAIN_START (R499, R500). -/
def execDramTrainStart (s : State) : Out := .next s.dramTrainStart

/-- Report delays and VREFDQ codes: ten words per channel, lanes 0–8 then VREF (R502). -/
def State.trainVals (s : State) (vals : List Word) : State :=
  (List.range 20).foldl (fun s i => s.wr (0x200B0200 + 0x40 * (i / 10) + 4 * (i % 10)) (if i % 10 = 9 then vals.getD i 0 &&& 0x3F3F else vals.getD i 0)) s

/-- DRAM_TRAIN_DONE (R496, R500, R501): the next step begins, a step fails on a byte lane of a channel, or the zero fill ends. -/
def execDramTrainDone (e : TrainEv) (vals : List Word) (s : State) : Out :=
  .next (if !s.on DMC_STATUS_TRAINING then s else match e with
    | .step n => if s.get DMC_STATUS_STEP < n.val then s.put DMC_STATUS_STEP n.val else s
    | .fail st lane ch =>
      let s := (((s.put DMC_STATUS_TRAINING 0).put DMC_STATUS_STEP st).put DMC_STATUS_LANE lane).put DMC_STATUS_CH ch
      (s.set1 DMC_FLAGS_TRAIN_FAIL).fault 11 7 2 ch
    | .done =>
      let s := ((s.put DMC_STATUS_TRAINING 0).put DMC_STATUS_STEP 0).set1 DMC_STATUS_READY
      let s := s.put DMC_STATUS_SIZE (16 * 2 ^ (s.get DMC_CFG_DENSITY + s.get DMC_CFG_RANKS))
      let s := { s with dram := [], dmc := { ceSeen := s.dmc.ceSeen, ueHeld := s.dmc.ueHeld } }
      s.trainVals vals)

/-- The bank number and the row of a system address (R497, R498). -/
def State.dramBank (s : State) (a : Nat) : Nat × Nat :=
  let row := if s.on DMC_CFG_RANKS then a / 2 ^ 19 else a / 2 ^ 18
  let bg := (a / 2 ^ 9 % 4) ^^^ (row % 4)
  let ba := (a / 2 ^ 11 % 4) ^^^ (row / 4 % 4)
  (dramChannel a * 32 + s.dramRank a * 16 + bg * 4 + ba, row)

/-- Rows of a bank (R497). -/
def State.dramRows (s : State) : Nat := if s.on DMC_CFG_DENSITY then 2 ^ 17 else 2 ^ 16

/-- The table of a bank: 32 places (R504). -/
def State.rhTable (s : State) (b : Nat) : List (Option (Nat × Nat)) := Tab.get (List.replicate 32 none) s.dmc.rows b

/-- The place with the lowest count, the lowest index winning a tie, and its count (R504). -/
def rhLowest (t : List (Option (Nat × Nat))) : Nat × Nat :=
  (t.zipIdx.filterMap (fun e => e.1.map (fun r => (e.2, r.2)))).foldl (fun b e => if e.2 < b.2 then e else b) (0, 2 ^ 32)

/-- One activation of `row` in a table: the new table, the row's count and whether a row was evicted (R504). -/
def rhCount (t : List (Option (Nat × Nat))) (row : Nat) : List (Option (Nat × Nat)) × Nat × Bool :=
  match t.findIdx? (fun e => (e.map Prod.fst) == some row) with
  | some i => let n := ((t.getD i none).map Prod.snd).getD 0 + 1; (t.set i (some (row, n)), n, false)
  | none => match t.findIdx? (fun e => e == none) with
    | some i => (t.set i (some (row, 1)), 1, false)
    | none => let (i, n) := rhLowest t; (t.set i (some (row, n + 1)), n + 1, true)

/-- An eviction is counted against a requester; past the limit it is throttled (R508). -/
def State.rhEvict (s : State) (req : Nat) : State :=
  let n := Tab.get 0 s.dmc.evict req + 1
  let s := { s with dmc := { s.dmc with evict := Tab.put s.dmc.evict req n } }
  let s := s.incWrap DMC_RH_EVICTED_EVICTED
  if n ≤ s.get DMC_RH_EVICT_LIMIT ∨ req = 2 ∨ req = 3 then s else
  let was := Tab.get 0 s.dmc.thr req
  let s := { s with dmc := { s.dmc with thr := Tab.put s.dmc.thr req 2 } }
  if was ≠ 0 then s else
  let s := ((((s.set1 DMC_THROTTLE_LAST_VALID).set1 DMC_THROTTLE_LAST_ACTIVE).put DMC_THROTTLE_LAST_REQ req).incSat DMC_THROTTLE_LAST_EPISODES).set1 DMC_FLAGS_THROTTLED
  s.fault 11 6 3 255 req

/-- An activation on behalf of `req` for address `a` (R504, R505). -/
def State.activate (s : State) (req a : Nat) : State :=
  let (b, row) := s.dramBank a
  let (t, n, ev) := rhCount (s.rhTable b) row
  let s := { s with dmc := { s.dmc with rows := Tab.put s.dmc.rows b t } }
  let s := if ev then s.rhEvict req else s
  if n < s.get DMC_RH_THRESH_THRESH then s else
  let t := t.map (fun e => if (e.map Prod.fst) = some row then some (row, 0) else e)
  let k := (if 1 ≤ row then 1 else 0) + (if 2 ≤ row then 1 else 0) + (if row + 1 < s.dramRows then 1 else 0) + (if row + 2 < s.dramRows then 1 else 0)
  ({ s with dmc := { s.dmc with rows := Tab.put s.dmc.rows b t } }).incWrap DMC_RH_REFRESH_REFRESH 0 k

/-- Errors that appear in stored beats (R513). -/
def State.dramErrors (s : State) (errs : List (Nat × Nat)) : State :=
  { s with dmc := { s.dmc with ecc := errs.foldl (fun t e => if e.2 = 0 then t else Tab.put t e.1 (e.2 % 256)) s.dmc.ecc } }

/-- Commands pass on a channel after a replay (R510). -/
def State.afterReplay (s : State) (c k : Nat) : State :=
  let (n, left) := Tab.get (0, 0) s.dmc.replay c
  if n = 0 ∨ s.dmc.alert.testBit c then s else { s with dmc := { s.dmc with replay := if left ≤ k then Tab.del s.dmc.replay c else Tab.put s.dmc.replay c (n, left - k) } }

/-- An uncorrectable error in the row-activation table of the bank of `a` (R509). -/
def State.rhTableUe (s : State) (a : Nat) : State :=
  ({ s with dmc := { s.dmc with rows := Tab.del s.dmc.rows (s.dramBank a).1 } }).fault 11 8 2 (dramChannel a)

/-! The ports (R50, R51, R518). -/

/-- The reservation of a shared port, in units of 0.25 GB/s (R50). -/
def portShare (p : Nat) : Nat := match p with
  | 1 => 12 | 2 => 16 | 3 => 16 | 4 => 16 | 5 => 4 | 6 => 1 | _ => 0

/-- A request's port, channel and rank. -/
def reqPort (d : DReq) : Nat := portOf d.req.toNat
def reqChan (d : DReq) : Nat := dramChannel d.a
def State.reqRank (s : State) (d : DReq) : Nat := reqChan d * 2 + s.dramRank d.a

/-- The shared ports with requests pending. -/
def State.portsPending (s : State) : List Nat := (List.range 7).filter (fun p => p != 0 && s.dmc.queue.any (fun e => reqPort e.1 == p))

/-- The counters when `n` bursts are served for the shared port `p` (R51, R518; log entry 27): every pending port earns its share, its
reservation and an equal part of what is not reserved by a pending port; the port served pays; a port without requests starts from 0. -/
def State.deficits (s : State) (p n : Nat) : Tab Int :=
  let ps := s.portsPending
  let pool := 139 - ps.foldl (fun a q => a + portShare q) 0
  ps.map (fun q => (q, Tab.get 0 s.dmc.deficit q + (n * (60 * portShare q + 60 / ps.length * pool) : Nat) - (if q = p then (n * 8340 : Nat) else 0)))

/-- A request is held back: ALERT_n is low on its channel (R510), or its requester is throttled and GAP has not passed (R508). -/
def State.reqHeld (s : State) (d : DReq) : Bool :=
  s.dmc.alert.testBit (reqChan d) ||
    (d.act && Tab.get 0 s.dmc.thr d.req.toNat != 0 && Tab.get 0 s.dmc.gap (d.req.toNat * 2 + reqChan d) != 0)

/-- The requests that channel `c` could serve now, oldest first. -/
def State.ready (s : State) (c : Nat) : List (DReq × Bool) := s.dmc.queue.filter (fun e => reqChan e.1 == c && !s.reqHeld e.1)

/-- The shared port that goes first among `ps`: the greatest counter, the lowest port winning a tie. -/
def State.nextPort (s : State) (ps : List Nat) : Nat :=
  ps.foldl (fun b q => if Tab.get 0 s.dmc.deficit b < Tab.get 0 s.dmc.deficit q then q else b) (ps.headD 0)

/-- The request that channel `c` serves next (R518): stroke fetches, patch-record writes, then the shared ports. -/
def State.nextReq (s : State) (c : Nat) : Option (DReq × Bool) :=
  let l := s.ready c
  match l.find? (fun e => e.1.req == 2) with
  | some e => some e
  | none => match l.find? (fun e => reqPort e.1 == 0) with
    | some e => some e
    | none =>
      let p := s.nextPort ((List.range 7).filter (fun p => l.any (fun e => reqPort e.1 == p)))
      l.find? (fun e => reqPort e.1 == p)

/-- The controller accepts a write: it completes, and every later read returns its data (R40, R519). -/
def State.takeWrite (s : State) (d : DReq) : State := match d.bs with
  | some b => (s.dramWrite d.req.toNat d.a b).2
  | none => s

/-- A request arrives (R41, R40, R519): one that DRAM does not serve is answered at once; a write is accepted while fewer than 64 wait
on its channel. -/
def State.reqArrive (s : State) (d : DReq) : State :=
  if !s.dramFitted d.a d.n || s.dramDead d.a d.n then match d.bs with
    | some b => (s.dramWrite d.req.toNat d.a b).2
    | none => (s.dramRead d.req.toNat d.a d.n).2.2
  else
    let room := decide ((s.dmc.queue.filter (fun e => reqChan e.1 == reqChan d && e.1.bs.isSome && e.2)).length < 64)
    let s := if room then s.takeWrite d else s
    let s := s.dramWake d.a d.n
    { s with dmc := { s.dmc with queue := s.dmc.queue ++ [(d, room)] } }

/-- When the last request queued for a rank has gone, every owed refresh is issued (R503). -/
def State.rankIdle (s : State) (k : Nat) : State :=
  if s.dmc.queue.any (fun e => s.reqRank e.1 == k) then s else { s with dmc := { s.dmc with owed := Tab.put s.dmc.owed k 0 } }

/-- Serve one request (R504, R508–R510, R513–R515, R518). -/
def State.serveReq (s : State) (d : DReq) (taken : Bool) : State :=
  let r := d.req.toNat
  let s := { s with dmc := { s.dmc with
    deficit := if reqPort d = 0 then s.dmc.deficit else s.deficits (reqPort d) (burstsOf d.a d.n)
    gap := if d.act && Tab.get 0 s.dmc.thr r != 0 then Tab.put s.dmc.gap (r * 2 + reqChan d) (s.get DMC_RH_EVICT_GAP) else s.dmc.gap
    queue := s.dmc.queue.erase (d, taken) } }
  let s := if d.tue then s.rhTableUe d.a else s
  let s := if d.act then s.activate r d.a else s
  let s := s.afterReplay (reqChan d) (if d.act then 2 else 1)
  let s := match d.bs with
    | some _ => if taken then s else s.takeWrite d
    | none => (s.dramRead r d.a d.n).2.2
  s.rankIdle (s.reqRank d)

/-- A channel serves its next request, if it has one. -/
def State.serveChan (s : State) (c : Nat) : State := match s.nextReq c with
  | some (d, t) => s.serveReq d t
  | none => s

/-- DRAM_REQUEST (R504, R505, R508, R509, R513–R515, R518, R519): the requests `p0` to `p5` reach the ports, in the order of the ports,
and each channel serves one request. -/
def execDramRequest (p0 p1 p2 p3 p4 p5 : List DReq) (e : DramEv) (s : State) : Out :=
  let s := s.dramErrors e.errs
  let s := { s with dmc := { s.dmc with gap := (s.dmc.gap.map (fun g => (g.1, g.2 - e.clk))).filter (fun g => g.2 != 0) } }
  .next ((((p0 ++ p1 ++ p2 ++ p3 ++ p4 ++ p5).foldl State.reqArrive s).serveChan 0).serveChan 1)

/-- REFRESH_DUE (R503): `busy`: requests of other commands are queued for the rank. -/
def execRefreshDue (c r : Fin 2) (busy : Bool) (s : State) : Out :=
  let k := c.val * 2 + r.val
  let n := Tab.get 0 s.dmc.owed k + 1
  .next (if !s.on DMC_STATUS_READY || s.on DMC_PAR_FATAL c.val then s
    else { s with dmc := { s.dmc with owed := Tab.put s.dmc.owed k (if (busy || s.dmc.queue.any (fun e => s.reqRank e.1 == k)) && decide (n < s.get DMC_REF_CTRL_POSTPONE_MAX) then n else 0) } })

/-- RH_TABLE_RESET (R506). -/
def execRhTableReset (s : State) : Out := .next { s with dmc := { s.dmc with rows := [] } }

/-- EVICT_PERIOD (R508): a 1 ms period ends. -/
def execEvictPeriod (s : State) : Out :=
  let thr := (s.dmc.thr.map (fun c => (c.1, c.2 - 1))).filter (fun c => c.2 != 0)
  let s := { s with dmc := { s.dmc with evict := [], thr := thr } }
  .next (s.put DMC_THROTTLE_LAST_ACTIVE (if (Tab.find thr (s.get DMC_THROTTLE_LAST_REQ)).isSome && s.on DMC_THROTTLE_LAST_VALID then 1 else 0))

/-- A request queued for a lost channel ends as a target error (R512). -/
def State.reqDead (s : State) (d : DReq) : State := s.busErr .target d.req.toNat d.bs.isSome d.a

/-- The channel goes out of service (R512). -/
def State.parFatal (s : State) (c : Nat) : State :=
  if s.on DMC_PAR_FATAL c then s else
  let (dead, rest) := s.dmc.queue.partition (fun e => reqChan e.1 == c)
  let s := { s with dmc := { s.dmc with replay := Tab.del s.dmc.replay c, alert := setBit s.dmc.alert c false, queue := rest } }
  dead.foldl (fun s e => s.reqDead e.1) (((s.set1 DMC_PAR_FATAL c).set1 DMC_FLAGS_PAR_FATAL).fault 11 2 0 c)

/-- The attempt under way on channel `c` fails: the next one begins, or the channel is lost (R510, R512). -/
def State.nextAttempt (s : State) (c : Nat) : State :=
  let (n, _) := Tab.get (0, 0) s.dmc.replay c
  if 3 ≤ n then s.parFatal c else { s with dmc := { s.dmc with replay := Tab.put s.dmc.replay c (n + 1, 16) } }

/-- CA_PARITY_ALERT (R510): ALERT_n accepted low. -/
def execCaParityAlert (c : Fin 2) (s : State) : Out :=
  .next (if !s.on DMC_CFG_CA_PAR_EN || s.on DMC_PAR_FATAL c.val || !s.on DMC_STATUS_READY then s
    else ({ s with dmc := { s.dmc with alert := setBit s.dmc.alert c.val true } }).nextAttempt c.val)

/-- CA_ALERT_RELEASE (R510–R512): ALERT_n is high again and the 16 commands are replayed; `ue`: the retry buffer gives an uncorrectable error. -/
def execCaAlertRelease (c : Fin 2) (ue : Bool) (s : State) : Out :=
  .next (if (Tab.get (0, 0) s.dmc.replay c.val).1 = 0 then s
    else if ue then s.parFatal c.val
    else ((({ s with dmc := { s.dmc with alert := setBit s.dmc.alert c.val false } }.incSat DMC_PAR_ALERTS c.val).incSat DMC_PAR_REPLAYS c.val).set1 DMC_FLAGS_PAR_ALERT).fault 11 1 3 c.val)

/-- CA_ALERT_TIMEOUT (R510, R512): ALERT_n has stayed low for 10 µs. -/
def execCaAlertTimeout (c : Fin 2) (s : State) : Out :=
  .next (if (Tab.get (0, 0) s.dmc.replay c.val).1 = 0 then s else s.nextAttempt c.val)

/-- ZQ_CALIBRATE (R502): ZQCS to each rank holds the rank and changes no state of the AP16. -/
def execZqCalibrate (s : State) : Out := .next s

/-- DQS_TRACK (R502): the delays after the tracking update. -/
def execDqsTrack (vals : List Word) (s : State) : Out := .next (if s.on DMC_STATUS_READY then s.trainVals vals else s)

/-- One beat read by the scrubber (R513, R516). -/
def State.scrubBeat (s : State) (beat : Nat) : State := match Tab.find s.dmc.ecc beat with
  | none => s
  | some 1 => s.ceFound beat true 0x3F
  | some v =>
    let a := beat * 8
    let c := dramChannel a
    let s := ((((s.set1 DMC_ECC_LAST_VALID).set1 DMC_ECC_LAST_UE).set1 DMC_ECC_LAST_SCRUB).put DMC_ECC_LAST_CH c).put DMC_ECC_LAST_RANK (s.dramRank a)
    let s := ((s.put DMC_ECC_LAST_BEAT (beat % 8)).put DMC_ECC_LAST_REQ 0x3F).put DMC_ECC_LAST_SYNDROME v
    let s := (s.put DMC_ECC_ADDR_LO_ADDR_LO (a % 2 ^ 32)).put DMC_ECC_ADDR_HI_ADDR_HI (a / 2 ^ 32)
    let s := { s with dmc := { s.dmc with ueHeld := true } }
    let s := s.set1 DMC_FLAGS_SCRUB_UE
    if s.dmc.scrubUe then s else ({ s with dmc := { s.dmc with scrubUe := true } }).fault 11 5 2 c

/-- SCRUB_READ (R516). -/
def execScrubRead (errs : List (Nat × Nat)) (s : State) : Out :=
  let s := s.dramErrors errs
  let a := s.get DMC_SCRUB_POS_LO_POS_LO * 64 + s.get DMC_SCRUB_POS_HI_POS_HI * 2 ^ 32
  .next (if !s.on DMC_SCRUB_CTRL_EN || !s.dramFitted a 64 || s.dramDead a 64 then s else
    let s := (beatsOf a 64).foldl (fun s b => s.scrubBeat b) s
    let s := s.incWrap DMC_PORT_BYTES_BURSTS 6
    let b := a + 64
    if b < s.get DMC_STATUS_SIZE * 2 ^ 30 then (s.put DMC_SCRUB_POS_LO_POS_LO (b % 2 ^ 32 / 64)).put DMC_SCRUB_POS_HI_POS_HI (b / 2 ^ 32)
    else ((({ s with dmc := { s.dmc with scrubUe := false } }).put DMC_SCRUB_POS_LO_POS_LO 0).put DMC_SCRUB_POS_HI_POS_HI 0).incWrap DMC_SCRUB_PASS_PASSES)

/-- ECC_CLEAR (R517). -/
def execEccClear (s : State) : Out :=
  let s := { s with dmc := { s.dmc with ceSeen := false, ueHeld := false } }
  .next (forN 2 (fun c s => forN 2 (fun r s => (s.put DMC_ECC_CNT_CE 0 c r).put DMC_ECC_CNT_UE 0 c r) s) s)

/-- POWER_DOWN_ENTRY (R503, R519): the rank has had no queued request for PD_IDLE clocks; owed refreshes are issued. -/
def execPowerDownEntry (c r : Fin 2) (s : State) : Out :=
  let k := c.val * 2 + r.val
  .next (if s.get DMC_PD_PD_IDLE = 0 || !s.on DMC_STATUS_READY || s.dmc.queue.any (fun e => s.reqRank e.1 == k) then s
    else { s with dmc := { s.dmc with down := setBit s.dmc.down k true, owed := Tab.put s.dmc.owed k 0 } })

/-! The balls of a channel (R744). -/

/-- A digital ball of a DRAM channel: data and strobes, DBI, address, bank and command, ALERT_N, RESET_N, TEN, and by rank the clock
pair, clock enable, chip select and ODT. -/
inductive DdrBall where
  | dq | dbi
  | addr (i : Fin 18)
  | cmd | alertN | resetN | ten
  | ck (r : Fin 2)
  | cke (r : Fin 2)
  | csN (r : Fin 2)
  | odt (r : Fin 2)
  deriving DecidableEq, Repr

/-- The level of a ball: high impedance, low, high, an input, or driven by the traffic or the training in progress. -/
inductive BallLevel where
  | z | low | high | input | driven
  deriving DecidableEq, Repr

/-- The level of a ball of channel 0 or 1, which are alike but for power-down (R499–R501, R519, R744): until training first starts the
reset state; while training runs or DRAM is in service the bus is driven, with A17 low and the balls of an absent rank inactive. -/
def State.ddrBall (s : State) (n : Fin 2) (b : DdrBall) : BallLevel :=
  let ready := s.on DMC_STATUS_READY
  let live := ready || s.on DMC_STATUS_TRAINING
  let absent (r : Fin 2) : Bool := r.val == 1 && !s.on DMC_CFG_RANKS
  let bus (off : BallLevel) : BallLevel := if live then off else .z
  match b with
  | .dq | .dbi | .cmd => bus .driven
  | .addr i => bus (if i.val = 17 then .low else .driven)
  | .alertN => .input
  | .resetN => if ready then .high else if s.on DMC_STATUS_TRAINING then (if s.get DMC_STATUS_STEP ≤ 1 then .driven else .high) else .low
  | .ten => .low
  | .ck r => bus (if absent r then .low else .driven)
  | .cke r => if !live || absent r then .low else if ready then (if s.dmc.down.testBit (n.val * 2 + r.val) then .low else .high) else .driven
  | .csN r => bus (if absent r then .high else .driven)
  | .odt r => bus (if absent r then .low else .driven)

end Sys2Proof.Machine
end

