-- ==== Sys2Proof/Machine/Sec.lean ====
section
/-! DEFINITION. The security engine SEC: modes, debug, attestation, jobs' signatures and the lifecycle
(spec/19_security_modes_debug.md, R652–R687). -/

namespace Sys2Proof.Machine

/-- Write a byte string into an array of registers, four bytes a register (R699). -/
def State.putBytes (s : State) (f : Fref) (bs : List Byte) : State :=
  ((bytesWords bs (bs.length / 4)).zipIdx).foldl (fun s (w, i) => s.wr (f.addr i) w) s

/-- The byte string an array of `n` registers holds. -/
def State.getBytes (s : State) (f : Fref) (n : Nat) : List Byte := (List.range n).flatMap (fun i => leBytes 4 (s.rd (f.addr i)).toNat)

/-- A byte string of exactly `n` bytes. -/
def fitBytes (n : Nat) (bs : List Byte) : List Byte := (bs ++ List.replicate n 0#8).take n

/-- The signature `sig` verifies over the message under the public key (R652). -/
def sigOk (key msg sig : List Byte) : Bool := Config.ecdsaVerify key (sha384 msg) sig

/-- The hash of the debug token key of the lifecycle (R655). -/
def State.tokenKey (s : State) : Option (List Byte) := match s.lifecycle with
  | 0 => some s.otp.vndDbg
  | 1 => some s.otp.intDbg
  | 2 => some s.otp.ownDbg
  | _ => none

/-! Modes (R671–R677). -/

/-- Checks 3 and 4 of R673 refuse the target mode. -/
def State.modeRefused (s : State) (m : Nat) (lasers : Bool) : Bool :=
  (match comboCell s.lifecycle s.debug m with
    | .r => true
    | .n => true
    | .s => lasers
    | _ => false) ||
  (m == 4 && (!(s.lifecycle == 1 || s.lifecycle == 2) || !s.on SEC_STATUS_JOB_OK || s.on FLU_STATUS_SEALED_FULL))

/-- A level above LOCKED in BUILD: fault 002h, and the open job is marked debug-present (R685). -/
def State.debugInBuild (s : State) : State :=
  if s.mode = 4 ∧ s.debug ≠ 0 then ({ s with job := { s.job with dbg := s.job.dbg || s.job.st ≠ 0 } }).fault 19 2 2 else s

/-- The mode becomes `m`, LASERS as given; entry to BUILD above LOCKED is recorded (R673, R685). -/
def State.takeMode (s : State) (m : Nat) (lasers : Bool) : State :=
  let l := if m = 6 ∧ lasers then 1 else 0
  let was := s.mode
  let s := (s.put SEC_MODE_LASERS l).put SEC_STATUS_LASERS l
  if was = m then s else (s.enterMode m).debugInBuild

/-- The hold that the host requests: fault 005h, whose cause does not persist (R675). -/
def State.hostHold (s : State) : State := (s.fault 19 5 1).dropCause (19 * 1024 + 5)

/-- A write of SEC_MODE with a target of 2 to 6 (R671, R673): false where the SEC block ignores it. SAFE and BOOT are not
left by it, and HOLD only by SYS RESUME (R18, R663, R672). -/
def State.modeWrite (s : State) (m : Nat) (lasers : Bool) : State × Bool :=
  if s.mode = 7 ∨ s.mode = 5 ∨ s.mode = 1 ∨ s.mode = 0 then (s.set1 SEC_FLAGS_MODE_REFUSED, false)
  else if s.modeRefused m lasers then ((s.set1 SEC_FLAGS_MODE_REFUSED).fault 19 4 3, false)
  else if m = 5 then (s.hostHold, true)
  else (s.takeMode m lasers, true)

/-- MODE_WRITE (R673): a write of SEC_MODE. -/
def execModeWrite (v : Word) (s : State) : Out :=
  let m := v.toNat % 16
  let l := v.toNat.testBit 8
  .next (if m < 2 ∨ 6 < m ∨ (l ∧ m ≠ 6) then s.reservedFault 19 else (s.modeWrite m l).1)

/-! Challenges and tokens (R664, R679–R683, R685). -/

/-- The combination table lets the level be opened in the mode in force (R686). -/
def State.mayOpen (s : State) (lvl : Nat) : Bool := match comboCell s.lifecycle lvl s.mode with
  | .a => true
  | .aStar => true
  | .s => !s.on SEC_STATUS_LASERS
  | _ => false

/-- Draw a challenge for a level (R680). -/
def State.drawChallenge (s : State) (lvl : Nat) : State :=
  let c := fitBytes 32 (Config.randomBytes s.vlt.draws)
  let s := ({ s with vlt := { s.vlt with draws := s.vlt.draws + 1 }, sec := { s.sec with chal := lvl } }).putBytes SEC_CHAL_BYTES c
  (s.set1 SEC_CHAL_CTRL_VALID).put SEC_CHAL_CTRL_LEVEL lvl

/-- Whether a challenge may be drawn (R664, R680). -/
def State.mayChallenge (s : State) (lvl : Nat) : Bool := s.on SEC_STATUS_MEAS_DONE && s.mayOpen lvl

/-- CHALLENGE_NEW (R664, R680): a write of SEC_CHAL_CTRL. -/
def execChallengeNew (v : Word) (s : State) : Out :=
  let l := v.toNat % 4
  .next (if l = 0 ∨ l = 3 then s.reservedFault 19
    else if !v.toNat.testBit 31 then s.put SEC_CHAL_CTRL_LEVEL l
    else if s.mayChallenge l then s.drawChallenge l
    else s.put SEC_CHAL_CTRL_LEVEL l)

/-- CHALLENGE_EXPIRE (R680). -/
def execChallengeExpire (s : State) : Out := .next (s.put SEC_CHAL_CTRL_VALID 0)

/-- A token is refused (R681). -/
def State.refuseToken (s : State) : State × Bool :=
  ((((s.put SEC_CHAL_CTRL_VALID 0).set1 SEC_FLAGS_TOKEN_REFUSED).put SEC_TOKEN_CTRL_RESULT 2).fault 19 3 3, false)

/-- A level is granted (R681, R685). -/
def State.grant (s : State) (lvl : Nat) (hash : List Byte) : State :=
  let s := ((s.put SEC_CHAL_CTRL_VALID 0).setDebug lvl).put SEC_TOKEN_CTRL_RESULT 1
  let s := if lvl ≠ 0 then s.set1 SEC_STATUS_DEBUG_SEEN else s
  let (f, s) := freeBytes 2 s
  (s.faultWith 19 1 3 255 ([255#8, byte lvl] ++ hash.take 8 ++ f)).debugInBuild

/-- The message a token signs (R681). -/
def State.tokenMsg (s : State) (lvl : Nat) : List Byte := s.getBytes SEC_CHAL_BYTES 8 ++ s.otp.uid ++ [byte s.lifecycle, byte lvl]

/-- Check a debug token (R664, R681); true where it is granted or lowers the level. -/
def State.tokenCheck (s : State) (t : List Byte) : State × Bool :=
  let lvl := (t.getD 2 0).toNat
  let head := decide (leNat (t.take 2) = 1) && decide (lvl < 3) && (t.getD 3 0 == 0)
  if !s.on SEC_STATUS_MEAS_DONE || !head then s.refuseToken
  else if t.length = 4 then
    if lvl < s.debug then ((s.setDebug lvl).put SEC_TOKEN_CTRL_RESULT 1, true) else s.refuseToken
  else if t.length = 196 then
    let key := (t.drop 4).take 96
    let hash := sha384 key
    if s.on SEC_CHAL_CTRL_VALID && s.sec.chal == lvl && s.tokenKey == some hash && sigOk key (s.tokenMsg lvl) (t.drop 100) &&
        s.mayOpen lvl then (s.grant lvl hash, true)
    else s.refuseToken
  else s.refuseToken

/-- TOKEN_CHECK (R681): a write of SEC_TOKEN_CTRL. -/
def execTokenCheck (v : Word) (s : State) : Out :=
  let n := v.toNat % 1024
  .next (if n ≠ 4 ∧ n ≠ 196 then s.reservedFault 19
    else
      let s := s.put SEC_TOKEN_CTRL_LEN n
      if v.toNat.testBit 31 then (s.tokenCheck (Memory.readBytes 0 s.sram (s.get SEC_TOKEN_ADDR_ADDR) n)).1 else s)

/-- DEBUG_CLOSE (R683). -/
def execDebugClose (s : State) : Out := .next (s.setDebug 0)

/-- DEBUG_HALT_REQUEST (R679, R684): FULL only; with MODE_ALLOW = 1 fault 006h is first, and the halt waits until the
gates are off. -/
def execDebugHaltRequest (s : State) : Out :=
  .next (if s.debug ≠ 2 || s.on SEC_DEBUG_HALTED then s
    else if s.on SEC_STATUS_MODE_ALLOW then ({ s with sec := { s.sec with haltPend := true } }).fault 19 6 1
    else s.set1 SEC_DEBUG_HALTED)

/-- SEC DEBUG_CHALLENGE (R143, R680). -/
def execSecDebugChallenge (s : State) : Out := runCmd 0x3801 s (fun q s =>
  let l := q.w 0
  if l ≠ 1 ∧ l ≠ 2 then (s, some (badParam 0))
  else if !s.mayChallenge l then (s, some (failReply stDenied))
  else
    let s := s.drawChallenge l
    (s, some (okReply ((List.range 8).map (fun i => (s.rd (SEC_CHAL_BYTES.addr i)).toNat)))))

/-- SEC DEBUG_RESPONSE (R143, R681). -/
def execSecDebugResponse (s : State) : Out := runCmd 0x3802 s (fun q s =>
  match s.tokenCheck (wordsBytes q.p) with
  | (s, true) => (s, some (okReply [s.debug]))
  | (s, false) => (s, some (failReply stDenied)))

/-! Attestation (R666, R667). -/

/-- FLAGS of a report (R666). -/
def State.attFlags (s : State) : Nat :=
  let b (c : Bool) (k : Nat) : Nat := if c then 2 ^ k else 0
  b (s.lifecycle == 0) 0 + b (s.on VLT_STATUS_TAMPERED) 1 + b s.sec.lost 2 + b (s.on SEC_STATUS_DEBUG_SEEN) 3 + b (s.on SEC_STATUS_JOB_OK) 4 +
    b (s.on SEC_STATUS_JOB_SIGNED) 5

/-- Bytes 0 to 231 of a report (R666). -/
def State.attBody (s : State) (nonce user : List Byte) : List Byte :=
  leBytes 2 1 ++ [byte s.lifecycle, byte s.debug, byte s.mode, byte s.attFlags, byte (s.get SEC_ARB_COUNT), byte ((s.rd 0x2013001C).toNat % 4)] ++
    fitBytes 16 s.otp.uid ++ fitBytes 48 nonce ++ s.getBytes SEC_MEAS_FW_BYTES 12 ++ s.getBytes SEC_MEAS_JOB_BYTES 12 ++
    leBytes 4 (s.get VLT_OPSEC_OPSEC) ++ leBytes 4 (s.get VLT_PCYCLE_PCYCLE) ++ leBytes 8 ((s.flu.seqNext + 2 ^ 48 - 1) % 2 ^ 48) ++ fitBytes 48 user

/-- The report with the vault die's signature; in BLANK 96 zero bytes (R667). -/
def State.attSign (s : State) (body : List Byte) : List Byte :=
  body ++ (match s.otp.key with
    | some k => if s.lifecycle = 0 then List.replicate 96 0#8 else fitBytes 96 (Config.ecdsaSign k (sha384 body))
    | none => List.replicate 96 0#8)

/-- ATT_START (R667, R699): a write of SEC_ATT_CTRL. -/
def execAttStart (v : Word) (s : State) : Out :=
  let s := if v.toNat.testBit 29 then s.put SEC_ATT_CTRL_DONE 0 else s
  let s := if v.toNat.testBit 28 then s.put SEC_ATT_CTRL_ERR 0 else s
  .next (if !v.toNat.testBit 31 then s
    else if s.on SEC_ATT_CTRL_BUSY then s.set1 SEC_FLAGS_WRITE_REFUSED
    else
      let a := s.get SEC_ATT_ADDR_ATT_ADDR
      let body := s.attBody (Memory.readBytes 0 s.sram (a + 24) 48) (Memory.readBytes 0 s.sram (a + 184) 48)
      ({ s with sec := { s.sec with att := some (body, a) } }).set1 SEC_ATT_CTRL_BUSY)

/-- ATT_DONE (R654, R667, R697): `ok`: the signing engine has not failed. -/
def execAttDone (ok : Bool) (s : State) : Out :=
  .next (match s.sec.att with
    | none => s
    | some (body, a) =>
      let s := ({ s with sec := { s.sec with att := none } }).put SEC_ATT_CTRL_BUSY 0
      if ok then ({ s with sram := Memory.writeBytes 0 s.sram a (s.attSign body) }).set1 SEC_ATT_CTRL_DONE
      else (s.set1 SEC_ATT_CTRL_ERR).fault 19 10 2)

/-- SEC ATTEST (R143, R667): `ok` as in ATT_DONE. -/
def execSecAttest (ok : Bool) (s : State) : Out := runCmd 0x3800 s (fun q s =>
  if ok then
    let user := leBytes 4 s.fw.version ++ leBytes 2 0x0402 ++ [byte (s.get SEC_ARB_COUNT)]
    (s, some { payload := bytesWords (s.attSign (s.attBody (wordsBytes q.p) user)) 82 })
  else ((s.set1 SEC_ATT_CTRL_ERR).fault 19 10 2, some (failReply stHwFault 0x4C0A)))

/-! Job manifests (R668–R670). -/

/-- The images of a manifest: `n` of them in the bytes; none where they do not end exactly (R668). -/
def manifestImages : Nat → List Byte → Option (List (List Byte))
  | 0, bs => if bs.isEmpty then some [] else none
  | n + 1, bs =>
    let c := (bs.getD 0 0).toNat
    if c = 0 ∨ 48 < c ∨ bs.length < 8 + 16 * c ∨ (bs.drop 1).take 7 ≠ List.replicate 7 0#8 then none
    else (manifestImages n (bs.drop (8 + 16 * c))).map (fun t => (bs.drop 8).take (16 * c) :: t)

/-- A manifest that keeps the layout of R668. -/
structure Manifest where
  id     : Nat
  layers : Nat
  piers  : Nat
  period : Nat
  signed : Bool
  images : List (List Byte)
  body   : List Byte
  key    : List Byte
  sig    : List Byte
  deriving DecidableEq, Repr

/-- Read a manifest (R668). -/
def readManifest (bs : List Byte) : Option Manifest :=
  let at_ (i n : Nat) : Nat := leNat ((bs.drop i).take n)
  let signed := (at_ 6 2).testBit 0
  let n := if signed then bs.length - 192 else bs.length
  if bs.length < (if signed then 256 else 64) ∨ at_ 0 4 ≠ 0x4A4F4231 ∨ at_ 4 2 ≠ 1 ∨ 1 < at_ 6 2 ∨ at_ 12 4 = 0 ∨ 0xFFFFF < at_ 12 4 ∨ at_ 16 2 = 0 ∨
      15 < at_ 18 1 ∨ at_ 20 4 ≠ bs.length ∨ (bs.drop 56).take 8 ≠ List.replicate 8 0#8 then none
  else (manifestImages (at_ 18 1) ((bs.take n).drop 64)).map (fun l =>
    { id := at_ 8 4, layers := at_ 12 4, piers := at_ 16 2, period := at_ 19 1, signed := signed, images := l,
      body := bs.take n, key := (bs.drop n).take 96, sig := (bs.drop (n + 96)).take 96 })

/-- Whether a manifest of good layout is accepted in the lifecycle (R669). -/
def State.manifestOk (s : State) (m : Manifest) : Bool := match s.lifecycle with
  | 1 => !m.signed || sigOk m.key m.body m.sig
  | 2 => m.signed && sha384 m.key == s.otp.jobHash && sigOk m.key m.body m.sig
  | _ => false

/-- The check of the manifest at a system address (R669): `id` is the JOB_ID that JOB OPEN asks for. -/
def State.jobCheck (s : State) (a n : Nat) (id : Option Nat) : State × Option Manifest :=
  let (r, bs, s) := s.dramRead 7 a n
  let s := ((s.put SEC_STATUS_JOB_OK 0).put SEC_STATUS_JOB_SIGNED 0).put SEC_JOB_CTRL_BUSY 0
  let good : Option Manifest := if r = .ok then (readManifest bs).filter (fun m => s.manifestOk m && (id == none || id == some m.id)) else none
  match good with
  | some m =>
    let s := ((s.set1 SEC_STATUS_JOB_OK).put SEC_STATUS_JOB_SIGNED (if m.signed then 1 else 0)).putBytes SEC_MEAS_JOB_BYTES (sha384 bs)
    (s, some m)
  | none => (s.fault 19 7 3, none)

/-- The job measurement is cleared (R670). -/
def State.measClear (s : State) : State :=
  ((s.put SEC_STATUS_JOB_OK 0).put SEC_STATUS_JOB_SIGNED 0).putBytes SEC_MEAS_JOB_BYTES (List.replicate 48 0)

/-- JOB_CHECK_START (R669, R699): a write of SEC_JOB_CTRL with START. -/
def execJobCheckStart (s : State) : Out :=
  let n := s.get SEC_JOB_LEN_LEN
  .next (if s.on SEC_JOB_CTRL_BUSY then s.set1 SEC_FLAGS_WRITE_REFUSED
    else if n < 64 ∨ 65536 < n then s.reservedFault 19
    else ({ s with sec := { s.sec with job := some (s.get64 SEC_JOB_ADDR_LO_ADDR_LO SEC_JOB_ADDR_HI_ADDR_HI, n) } }).set1 SEC_JOB_CTRL_BUSY)

/-- JOB_CHECK_DONE (R668, R669). -/
def execJobCheckDone (s : State) : Out :=
  .next (match s.sec.job with
    | none => s
    | some (a, n) => (({ s with sec := { s.sec with job := none } }).jobCheck a n none).1)

/-- JOB_MEAS_CLEAR (R670). -/
def execJobMeasClear (s : State) : Out := .next s.measClear

/-! The lifecycle (R655–R660) and the anti-rollback counter (R665). -/

/-- The lifecycle moves forward (R656): its fuse is burnt, and a burnt fuse stays burnt. -/
def State.lifeMove (s : State) (lc : Nat) : State :=
  let old := s.lifecycle
  let s := { s with otp := { s.otp with life := max s.otp.life lc } }
  ((s.put SEC_STATUS_LIFECYCLE lc).setDebug 0).fault 19 8 3 255 (some old) (some lc)

/-- Program the provisioning record: the candidate pair becomes the identity key (R657, R658). -/
def State.provision (s : State) (rec : List Byte) : State :=
  let k := s.sec.cand.getD 0
  let pub := fitBytes 96 (Config.publicKey k)
  let s := { s with otp := { s.otp with key := some k, idPub := pub, intDbg := (rec.drop 4).take 48, prov := sha384 rec }, sec := { s.sec with cand := none } }
  (s.putBytes SEC_IDPUB_BYTES pub).lifeMove 1

/-- Program the owner record (R659). -/
def State.sealOwner (s : State) (rec : List Byte) : State :=
  ({ s with otp := { s.otp with jobHash := (rec.drop 4).take 48, ownDbg := (rec.drop 52).take 48, ownHash := sha384 rec } }).lifeMove 2

/-- A retire order is accepted (R660). -/
def State.retireOk (s : State) (o : List Byte) : Bool :=
  let key := (o.drop 4).take 96
  s.lifecycle != 3 && o.take 4 == leBytes 2 1 ++ [3#8, 0#8] && s.tokenKey == some (sha384 key) &&
    sigOk key (s.otp.uid ++ [byte s.lifecycle, 3#8] ++ s.getBytes SEC_IDPUB_BYTES 24) (o.drop 100)

/-- LIFECYCLE_PROGRAM (R656, R658–R660): a write of SEC_LC_CTRL. -/
def execLifecycleProgram (v : Word) (s : State) : Out :=
  let t := v.toNat % 4
  let s := s.put SEC_LC_CTRL_TARGET t
  let rd (n : Nat) : List Byte := Memory.readBytes 0 s.sram (s.get SEC_LC_ADDR_LC_ADDR) n
  .next (if !v.toNat.testBit 31 then s
    else if t = 1 ∧ s.lifecycle = 0 ∧ s.on SEC_STATUS_KEY_READY then s.provision (rd 84)
    else if t = 2 ∧ s.lifecycle = 1 then s.sealOwner (rd 132)
    else if t = 3 ∧ s.retireOk (rd 196) then s.lifeMove 3
    else s.set1 SEC_FLAGS_MODE_REFUSED)

/-- SEC PROVISION (R658). -/
def execSecProvision (s : State) : Out := runCmd 0x3806 s (fun q s =>
  if q.w 0 ≠ 1 then (s, some (badParam 0))
  else if s.lifecycle ≠ 0 ∨ s.job.st ≠ 0 then (s, some (failReply stBadState))
  else if !s.on SEC_STATUS_KEY_READY then (s, some (failReply stBusy))
  else
    let s := s.provision (wordsBytes q.p)
    (s, some { payload := bytesWords s.otp.idPub 24 }))

/-- SEC SEAL (R659). -/
def execSecSeal (s : State) : Out := runCmd 0x3807 s (fun q s =>
  if q.w 0 ≠ 1 then (s, some (badParam 0))
  else if s.lifecycle ≠ 1 ∨ s.job.st ≠ 0 then (s, some (failReply stBadState))
  else (s.sealOwner (wordsBytes q.p), some okReply))

/-- SEC RETIRE (R660). -/
def execSecRetire (s : State) : Out := runCmd 0x3808 s (fun q s =>
  if q.w 0 ≠ 0x00030001 then (s, some (badParam 0))
  else if s.retireOk (wordsBytes q.p) then (s.lifeMove 3, some okReply)
  else (s, some (failReply stDenied)))

/-- KEY_PAIR_READY (R657). -/
def execKeyPairReady (s : State) : Out :=
  .next (if s.lifecycle = 0 ∧ !s.on SEC_STATUS_KEY_READY then
    ({ s with sec := { s.sec with cand := some s.vlt.keys }, vlt := { s.vlt with keys := s.vlt.keys + 1 } }).set1 SEC_STATUS_KEY_READY
  else s)

/-- Burn anti-rollback fuses up to `n` of the 63 (R653, R665). -/
def State.arbRaise (s : State) (goal : Nat) : State :=
  let n := min goal 63
  if n ≤ s.otp.arb then s else
  (({ s with otp := { s.otp with arb := n } }).put SEC_ARB_COUNT n).fault 19 9 3

/-- ARB_RAISE (R665): a write of SEC_ARB_RAISE. -/
def execArbRaise (v : Word) (s : State) : Out := .next (if v.toNat.testBit 31 then s.arbRaise (v.toNat % 64) else s)

end Sys2Proof.Machine
end

