-- ==== Sys2Proof/Machine/Vlt.lean ====
section
/-! DEFINITION. The vault die, the supplies and device reset (spec/19_security_modes_debug.md R688–R698,
spec/22_balls_electrical.md R748–R755). -/

namespace Sys2Proof.Machine

/-! Device reset (R119, R682, R748, R754). -/

/-- The words of the VLT window that a device reset keeps: the fields marked "vault", the level of PSU_EN, the condition of
source 4 and the tamper log; LINK_OK, the flags and the latest fault return to 0. -/
def State.vaultWords (s : State) : Tab Word :=
  (s.regs.filter (fun c => 0x20150000 ≤ c.1 && c.1 < 0x20160000 && c.1 != 0x20150028 && c.1 != 0x2015002C)).map
    (fun c => if c.1 = 0x20150000 then (c.1, c.2 &&& 0x7FFFFFFF#32) else c)

/-- A flash operation in progress stops at once (R754): a page or a program leaves free bytes, an erase a block of them. -/
def State.flashTear (s : State) : State :=
  let tear (a n : Nat) (s : State) : State :=
    let (bs, s) := freeBytes n s
    s.flashWrite a bs
  let s := match s.flu.page with
    | some (a, rs) => tear a (32 * rs.length) s
    | none => s
  let s := match s.flu.erasing with
    | some b => tear b 4096 s
    | none => s
  match s.flu.xspi with
  | some (2, a, _) => tear a 4096 s
  | some (3, a, _) => tear a 256 s
  | _ => s

/-- What caused a device reset (MBX_RESET_CAUSE). -/
inductive Cause where
  | power | command
  deriving DecidableEq, Repr

/-- A device reset: the deck and hearth dies return to their reset values; the vault die, the fuses and the flash keep
theirs. The free-running counter goes to 0 at a power-on reset only (R78). -/
def State.deviceReset (s : State) (c : Cause) : State :=
  let s := s.flashTear
  let t : State := { State.reset with
    regs := s.vaultWords, otp := s.otp, flash := s.flash, free := s.free, pending := s.pending,
    vlt := s.vlt, sec := { lost := s.on VLT_STATUS_LOST },
    thm := { after := s.get THM_STATUS_LEVEL == 3 },
    key := if c = .power then {} else { frc := s.key.frc, frcEdge := s.key.frc, frcUnlock := s.key.frc } }
  let bits := (match c with
    | .power => 8
    | .command => 4) + s.mbx.cause
  ((((t.wr 0x20010208 (word bits)).put SEC_STATUS_LIFECYCLE s.otp.life).put SEC_ARB_COUNT s.otp.arb).putBytes SEC_UID_BYTES
    (fitBytes 16 s.otp.uid)).putBytes SEC_IDPUB_BYTES (if s.otp.life = 0 then List.replicate 96 0#8 else fitBytes 96 s.otp.idPub)

/-- A power-on reset of the deck and hearth dies, which lasts until POR_END (R754). -/
def State.powerReset (s : State) : State :=
  let s := s.deviceReset .power
  ({ s with vlt := { s.vlt with por := true } }).put KEY_STATUS_RT_PLL_LOCK 0

/-- The main supplies are gone: the AP16 is in VAULT (R678), which ends by the supplies unless a wake event comes first (R691). -/
def State.toVault (s : State) : State :=
  let s := s.powerReset
  (({ s with vlt := { s.vlt with main := false, sleep := false } }).put SEC_STATUS_MODE 0).put VLT_WAKE_CAUSE 0

/-- FAULT_N is driven low: during device reset, in BOOT, HOLD and SAFE, and while the analog trip holds the deck die unpowered
(R748). -/
def State.faultN (s : State) : Bool :=
  if s.vlt.main then s.vlt.por || s.mode == 1 || s.mode == 5 || s.mode == 7 else s.on VLT_STATUS_TRIP

/-- RESET_PIN (R754): RESET_N low for `ns`; a pulse of 100 ns to 1 µs resets the device or not, as a free value decides. -/
def execResetPin (ns : Nat) (s : State) : Out :=
  .next (if ns < 100 || !s.vlt.main then s
    else if 1000 ≤ ns then s.powerReset
    else
      let (v, s) := s.fresh
      if v % 2 = 1 then s.powerReset else s)

/-- COMMAND_RESET_DELAY (R129): 1 ms after the SYS RESET reply the device resets. -/
def execCommandResetDelay (s : State) : Out := .next (if s.mbx.resetPend then s.deviceReset .command else s)

/-- POR_END (R57, R754): every monitored rail is above its threshold; the RT PLL locks and tick 0 begins. -/
def execPorEnd (s : State) : Out :=
  .next (if s.vlt.main && s.vlt.por && s.vlt.rails == 0x3F then
    ({ s with vlt := { s.vlt with por := false } }).put KEY_STATUS_RT_PLL_LOCK 1
  else s)

/-- SUPPLY_RISE (R691, R692, R753): the main supplies rise; PCYCLE advances and power-on reset begins. -/
def execSupplyRise (s : State) : Out :=
  .next (if s.vlt.main then s else
    let s := s.powerReset
    ({ s with vlt := { s.vlt with main := true, rails := 0x3F } }).incSat VLT_PCYCLE_PCYCLE)

/-- The rails other than VAA are all below their thresholds. -/
def railsGone (r : Nat) : Bool := r % 32 == 0

/-- SUPPLY_MONITOR_TRIP (R752, R755): rail `rail` crosses its rising or falling threshold; 5 is VAA. -/
def execSupplyMonitorTrip (rail : Fin 6) (rising : Bool) (s : State) : Out :=
  let was := s.vlt.rails.testBit rail
  let r := setBit s.vlt.rails rail rising
  let s := { s with vlt := { s.vlt with rails := r } }
  .next (if rising || !was || !s.vlt.main then s
    else if rail = 5 then ({ s with afe := { s.afe with good := 0 } }).hearthLost
    else if railsGone r then s.toVault
    else s.powerReset)

/-- ANALOG_TRIP (R25, R605): the gates go off, the deck die loses its supply and state; the vault die latches TRIP. -/
def execAnalogTrip (s : State) : Out := .next (if s.vlt.main then (s.set1 VLT_STATUS_TRIP).toVault else s)

/-! The real-time clock and the counters (R691–R693). -/

/-- Let `adv` periods of 1/32,768 s pass (R693). -/
def State.vaultAdvance (s : State) (adv : Nat) : State :=
  let t := (s.get VLT_RTC_SEC_SEC * 32768 + s.get VLT_RTC_SUB_SUB + adv) % 2 ^ 47
  (s.put VLT_RTC_SEC_SEC (t / 32768)).put VLT_RTC_SUB_SUB (t % 32768)

/-- RTC_SET (R693). -/
def execRtcSet (v : Word) (s : State) : Out := .next ((s.put VLT_RTC_SEC_SEC v.toNat).put VLT_RTC_SUB_SUB 0)

/-- OPSEC_SECOND (R692): a second has passed with the deck die powered. -/
def execOpsecSecond (adv : Nat) (s : State) : Out :=
  let s := s.vaultAdvance adv
  .next (if s.vlt.main then s.incSat VLT_OPSEC_OPSEC else s)

/-- PSU_EN goes high; CAUSE records what ended the VAULT (R691). -/
def State.psuOn (s : State) (cause : Nat) : State :=
  if s.on VLT_STATUS_PSU_EN then s
  else if s.vlt.main then s.set1 VLT_STATUS_PSU_EN
  else (s.set1 VLT_STATUS_PSU_EN).put VLT_WAKE_CAUSE cause

/-- WAKE_REQUEST (R691): WAKE_N has been low for 20 ms. -/
def execWakeRequest (adv : Nat) (s : State) : Out :=
  let s := s.vaultAdvance adv
  .next (if s.on VLT_WAKE_WAKE_EN then s.psuOn 1 else s)

/-- RTC_ALARM (R691): the RTC reaches VLT_ALARM. -/
def execRtcAlarm (adv : Nat) (s : State) : Out :=
  let s := s.vaultAdvance adv
  .next (if s.on VLT_WAKE_ALARM_EN ∧ s.get VLT_RTC_SEC_SEC = s.get VLT_ALARM_ALARM then s.psuOn 2 else s)

/-- SLEEP_REQUEST (R678): a write of VLT_WAKE; SLEEP = 1 asks for the drop of PSU_EN. -/
def execSleepRequest (v : Word) (s : State) : Out :=
  let s := (s.put VLT_WAKE_ALARM_EN (wfield v 31 31)).put VLT_WAKE_WAKE_EN (wfield v 30 30)
  .next (if v.toNat.testBit 29 then { s with vlt := { s.vlt with sleep := true } } else s)

/-- PSU_EN_DROP (R678): 10 ms after SLEEP. -/
def execPsuEnDrop (s : State) : Out :=
  .next (if s.vlt.sleep then ({ s with vlt := { s.vlt with sleep := false } }).put VLT_STATUS_PSU_EN 0 else s)

/-- VLT_CLEAR_LOST (R692). -/
def execVltClearLost (s : State) : Out := .next (s.put VLT_STATUS_LOST 0)

/-- Empty the tamper log (R696). -/
def State.clearTlog (s : State) : State :=
  (forN 16 (fun i s => (s.put VLT_TLOG_SEC_SEC 0 i).wr (VLT_TLOG_INFO_SOURCE.addr i) 0) s).put VLT_STATUS_TLOG_FILL 0 |>.put VLT_STATUS_TLOG_OVF 0

/-- VLT_CLEAR_TLOG (R696). -/
def execVltClearTlog (s : State) : Out := .next s.clearTlog

/-- VLT_CLEAR_TRIP (R606). -/
def execVltClearTrip (s : State) : Out := .next (s.put VLT_STATUS_TRIP 0)

/-! Tamper (R694–R696). -/

/-- The newest entry of a source, if it is no more than 60 s old (R695). -/
def State.tlogMatch (s : State) (src : Nat) : Option Nat :=
  match ((List.range (s.get VLT_STATUS_TLOG_FILL)).filter (fun i => s.get VLT_TLOG_INFO_SOURCE i == src)).getLast? with
  | some i => if (s.get VLT_RTC_SEC_SEC + 2 ^ 32 - s.get VLT_TLOG_SEC_SEC i) % 2 ^ 32 ≤ 60 then some i else none
  | none => none

/-- Enter an event in the tamper log (R695). -/
def State.tlogAdd (s : State) (src detail : Nat) : State := match s.tlogMatch src with
  | some i => s.incSat VLT_TLOG_INFO_COUNT i
  | none =>
    let n := s.get VLT_STATUS_TLOG_FILL
    if 16 ≤ n then s.incSat VLT_STATUS_TLOG_OVF
    else
      let s := ((s.put VLT_TLOG_SEC_SEC (s.get VLT_RTC_SEC_SEC) n).put VLT_TLOG_INFO_SOURCE src n).put VLT_TLOG_INFO_COUNT 1 n
      (s.put VLT_TLOG_INFO_DETAIL detail n).put VLT_STATUS_TLOG_FILL (n + 1)

/-- A sealed device is marked (R695). -/
def State.markTampered (s : State) : State := if s.otp.life = 2 then s.set1 VLT_STATUS_TAMPERED else s

/-- A tamper event of an enabled source (R694–R696). -/
def State.tamper (s : State) (src detail : Nat) : State :=
  if s.bit VLT_TAMP_EN_EN (src - 1) then
    let s := s.tlogAdd src detail
    let s := if src = 4 then s else s.markTampered
    if s.vlt.main then s.fault 21 src (if src = 4 then 3 else 2) else s
  else s

/-- TAMPER_SAMPLE (R694): LID_OUT has taken its next level; the levels of LID_IN, TAMP_A_N and TAMP_B_N. -/
def execTamperSample (lidIn tampA tampB : Bool) (adv : Nat) (s : State) : Out :=
  let s := s.vaultAdvance adv
  let lid := !s.vlt.lid
  let wasA := s.vlt.aLow
  let wasB := s.vlt.bLow
  let s := { s with vlt := { s.vlt with lid := lid, aLow := !tampA, bLow := !tampB } }
  let s := if lidIn ≠ lid then s.tamper 1 (if lidIn then 1 else 0) else s
  let s := if wasA ∧ !tampA then s.tamper 2 0 else s
  .next (if wasB ∧ !tampB then s.tamper 3 0 else s)

/-- VBAT_LOW (R694): VBAT has been below 2.1 V for 1 s and measures `mv`, or is no longer below it. -/
def execVbatLow (low : Bool) (mv : BitVec 16) (adv : Nat) (s : State) : Out :=
  let s := s.vaultAdvance adv
  .next (if low then (s.set1 VLT_STATUS_VBAT_LOW).tamper 4 mv.toNat else s.put VLT_STATUS_VBAT_LOW 0)

/-- VAULT_CLOCK_FAULT (R694). -/
def execVaultClockFault (adv : Nat) (s : State) : Out := .next ((s.vaultAdvance adv).tamper 5 0)

/-- VAULT_TEMP_CHECK (R694): sensor 11 in 1/16 °C, below −50 °C or above +130 °C. -/
def execVaultTempCheck (t : BitVec 16) (adv : Nat) (s : State) : Out :=
  let s := s.vaultAdvance adv
  .next (if t.toInt < -800 ∨ 2080 < t.toInt then s.tamper 6 t.toNat else s)

/-- VBAT_INSERT (R691, R692, R695): with the main supplies absent too, a vault power-on reset; PSU_EN goes high. -/
def execVbatInsert (s : State) : Out :=
  .next (if s.vlt.main then s.set1 VLT_STATUS_PSU_EN else
    let s := ((s.put VLT_OPSEC_OPSEC 0).put VLT_PCYCLE_PCYCLE 0).put VLT_RTC_SEC_SEC 0
    let s := (((s.put VLT_RTC_SUB_SUB 0).put VLT_ALARM_ALARM 0).wr 0x2015001C 3).clearTlog
    let s := (((s.wr 0x20150000 0).set1 VLT_STATUS_LOST).set1 VLT_STATUS_PSU_EN).put VLT_TAMP_EN_EN 0x3F
    ({ s with vlt := { s.vlt with sleep := false, aLow := false, bLow := false, lid := false } }).markTampered)

end Sys2Proof.Machine
end

