-- ==== Sys2Proof/Machine/Boot.lean ====
section
/-! DEFINITION. Boot, firmware slots and their commands (spec/03_nagus_mailboxes.md R146–R150,
spec/19_security_modes_debug.md R661–R663, spec/23_bringup_walkthrough.md R769, R770). -/

namespace Sys2Proof.Machine

/-! Slots (R146, R661, R662, R769). -/

/-- The flash address of slot `k`: A 0, B 1 (R146). -/
def slotAddr (k : Nat) : Nat := k * 0x800000

/-- A little-endian field of slot `k`'s header (R661). -/
def State.slotNat (s : State) (k off n : Nat) : Nat := leNat (s.flashRead (slotAddr k + off) n)

/-- The slot has a header of FORMAT 1. -/
def State.slotFormat (s : State) (k : Nat) : Bool := s.slotNat k 0 4 == 1

/-- Slot `k` is confirmed (STATE [0]). -/
def State.slotConfirmed (s : State) (k : Nat) : Bool := (s.slotNat k 21 1).testBit 0

/-- The image bytes of slot `k`. -/
def State.fwImage (s : State) (k : Nat) : List Byte := s.flashRead (slotAddr k + 4096) (s.slotNat k 12 4)

/-- D of slot `k` (R661). -/
def State.slotD (s : State) (k : Nat) : List Byte := sha384 (s.flashRead (slotAddr k) 16 ++ s.fwImage k)

/-- LENGTH is in range and within the slot (R661, R662). -/
def lengthOk (n : Nat) : Bool := 4096 ≤ n && n ≤ 786432 && n % 4 == 0

/-- Slot `k` verifies (R662). -/
def State.slotOk (s : State) (k : Nat) : Bool :=
  s.slotFormat k && lengthOk (s.slotNat k 12 4) && sha384 (s.flashRead (slotAddr k + 24) 96) == s.otp.fwHash &&
    Config.ecdsaVerify (s.flashRead (slotAddr k + 24) 96) (s.slotD k) (s.flashRead (slotAddr k + 120) 96) &&
    decide (s.otp.arb ≤ s.slotNat k 8 1)

/-- The ROM runs slot `k`: it verifies, and is confirmed or has not reached three unconfirmed boots (R147). -/
def State.slotRuns (s : State) (k : Nat) : Bool := s.slotOk k && (s.slotConfirmed k || decide (s.slotNat k 20 1 < 3))

/-- The rank of a slot in the ROM's order: its activation number, below any for a slot without a header. -/
def State.slotRank (s : State) (k : Nat) : Nat := if s.slotFormat k then s.slotNat k 16 4 + 1 else 0

/-- The slot tried first (R147): A where the activation numbers are equal (log entry 60). -/
def State.firstSlot (s : State) : Nat := if s.slotRank 0 < s.slotRank 1 then 1 else 0

/-- The board block of slot `k`, if valid: DENSITY, RANKS, REF_2X and LEGACY (R769, R770). -/
def State.boardBlock (s : State) (k : Nat) : Option (Nat × Nat × Nat × Nat) :=
  let b := s.flashRead (slotAddr k + 0x7FF000) 64
  let at_ (i n : Nat) : Nat := leNat ((b.drop i).take n)
  if at_ 0 4 = 0x42445231 ∧ at_ 4 1 < 8 ∧ at_ 5 1 = 0 ∧ (b.drop 8).take 52 = List.replicate 52 0#8 ∧ at_ 60 4 = crc32 (b.take 60) then
    some (at_ 4 1 % 2, at_ 4 1 / 2 % 2, at_ 4 1 / 4, at_ 6 2)
  else none

/-- The DRAM configuration of a board block, or the defaults, and training (R770). -/
def State.boardSetup (s : State) (b : Option (Nat × Nat × Nat × Nat)) : State :=
  let (d, r, x, l) := b.getD (0, 0, 1, 0)
  let s := ((s.put DMC_CFG_DENSITY d).put DMC_CFG_RANKS r).put DMC_REF_CTRL_REF_2X x
  let s := if d = 0 then s.put DMC_TIM_D_TRFC 0x230 else s
  ({ s with fw := { s.fw with legacy := l } }).dramTrainStart

/-- The boot ROM runs slot `k` (R147, R663): the image is copied and measured; firmware reads the board block (R770). -/
def State.runSlot (s : State) (k : Nat) : State :=
  let s := if s.slotConfirmed k then s else s.flashWrite (slotAddr k + 20) [byte (s.slotNat k 20 1 + 1)]
  let s := { s with sram := Memory.writeBytes 0 s.sram 0x10000000 (s.fwImage k) }
  let s := (s.putBytes SEC_MEAS_FW_BYTES (s.slotD k)).put SEC_SLOT_SLOT k
  let s := (s.put SEC_SLOT_CONFIRMED (if s.slotConfirmed k then 1 else 0)).set1 SEC_STATUS_MEAS_DONE
  let s := { s.set1 VLT_STATUS_LINK_OK with fw := { s.fw with version := s.slotNat k 4 4, rollback := s.slotNat k 8 1 } }
  s.boardSetup (s.boardBlock k)

/-- No slot runs: recovery (R147, R148). -/
def State.recover (s : State) : State :=
  let s := { s with mbx := { s.mbx with recovery := true } }
  s.boardSetup (match s.boardBlock 0 with
    | some b => some b
    | none => s.boardBlock 1)

/-- BOOT_MEASURE_DONE (R147, R148, R663, R770); an F0 fault during boot has entered SAFE, and the ROM goes on. -/
def execBootMeasureDone (s : State) : Out :=
  .next (if !(s.mode == 1 || s.mode == 7) || s.on SEC_STATUS_MEAS_DONE || s.mbx.recovery || s.vlt.por || s.on MBX_READY_HALTED then s else
    let a := s.firstSlot
    if s.slotRuns a then s.runSlot a
    else if s.slotRuns (1 - a) then
      let s := s.runSlot (1 - a)
      if s.slotFormat a then s.fault 1 6 2 else s
    else s.recover)

/-! Before FW_READY (R606, R627, R663, R692, R696, R704, R770). -/

/-- A write that raises a vault counter is accepted while LOST is 1; any other sets WRITE_REFUSED (R692). -/
def State.raiseCounter (s : State) (f : Fref) (v : Nat) : State :=
  if s.on VLT_STATUS_LOST ∧ s.get f < v then s.put f v else s.set1 VLT_FLAGS_WRITE_REFUSED

/-- COUNTER_RESTORE (R692). -/
def execCounterRestore (s : State) : Out :=
  .next (if !s.on FLU_STATUS_READY || !s.on VLT_STATUS_LOST || s.on MBX_READY_FW_READY then s else
    let r : Option Rec := match s.flu.scanHi with
      | some h => ((s.flu.live ++ s.flu.resv).find? (fun c => c.2.seq == h)).map Prod.snd
      | none => none
    let s := match r with
      | some r => (s.raiseCounter VLT_OPSEC_OPSEC r.opsec).raiseCounter VLT_PCYCLE_PCYCLE (min (r.pcycle + 1) 0xFFFFFF)
      | none => s
    (s.put VLT_STATUS_LOST 0).fault 21 8 2)

/-- Record one entry of the tamper log as its fault (R696). -/
def State.tlogFault (s : State) (i : Nat) : State :=
  let src := s.get VLT_TLOG_INFO_SOURCE i
  let (f, s) := freeBytes 5 s
  s.faultWith 21 src (if src = 4 then 3 else 2) 255
    ([255#8] ++ f.take 1 ++ leBytes 2 (s.get VLT_TLOG_INFO_COUNT i) ++ f.drop 1 ++ leBytes 4 (s.get VLT_TLOG_SEC_SEC i))

/-- The tamper log goes into the Flue (R696). -/
def State.copyTlog (s : State) : State :=
  let n := s.get VLT_STATUS_TLOG_FILL
  let ovf := s.get VLT_STATUS_TLOG_OVF
  let s := forN n (fun i s => s.tlogFault i) s
  let s := if ovf ≠ 0 then s.fault 21 7 2 else s
  if n = 0 ∧ ovf = 0 then s else s.clearTlog

/-- TRIP is recorded and cleared (R606); the tick last known before it is a free value. -/
def State.readTrip (s : State) : State :=
  if s.on VLT_STATUS_TRIP then
    let (t, s) := s.fresh
    let (b1, s) := s.fresh
    let s := (s.put VLT_STATUS_TRIP 0).set1 THM_FLAGS_TRIP_SEEN
    s.faultWith 15 5 0 255 (faultPayload 255 b1 t (s.flu.scanHi.getD 0))
  else s

/-- The stored trim set is loaded (R627). -/
def State.loadTrims (s : State) : State := match s.trimStored with
  | some (_, ws) => (s.trimApply ws).requestCommit 0x200
  | none => s.fault 16 4 2

/-- The boot record (R704). -/
def State.bootRecord (s : State) : State :=
  let d := s.getBytes SEC_MEAS_FW_BYTES 12
  let part (b : List Byte) : Rec := { sev := 4, code := 0x5100, payload := b }
  s.enterRecs ([part ([byte ((s.rd 0x20010208).toNat % 16), byte ((s.rd 0x2013001C).toNat % 4), byte s.lifecycle, byte (s.get SEC_ARB_COUNT)] ++
    leBytes 4 s.fw.version ++ leBytes 4 0)] ++ (List.range 4).map (fun i => part ((d.drop (12 * i)).take 12)))

/-- Recovery opens window 0 when the DRAM is trained (R148). -/
def State.recoveryWindow (s : State) : State :=
  if s.on DMC_STATUS_READY then
    let s := ((s.put PCI_WIN_BASE_LO_BASE_LO 0x10000 0).put PCI_WIN_BASE_HI_BASE_HI 0 0).put PCI_WIN_SIZE_LOG2 26 0
    ((s.set1 PCI_WIN_CTRL_EN 0).set1 PCI_WIN_CTRL_WRITE 0).put PCI_WIN_CTRL_USE 0 0
  else s

/-- Training has ended, with READY or with TRAIN_FAIL (R770). -/
def State.trainEnded (s : State) : Bool := !s.on DMC_STATUS_TRAINING && (s.on DMC_STATUS_READY || s.on DMC_FLAGS_TRAIN_FAIL)

/-- FW_READY_SET (R148, R606, R627, R663, R696, R770). -/
def execFwReadySet (s : State) : Out :=
  .next (if s.on MBX_READY_FW_READY || !s.trainEnded || s.halted then s
    else if s.mbx.recovery then ((s.recoveryWindow).set1 MBX_READY_FW_READY).putSummary
    else if !s.on SEC_STATUS_MEAS_DONE || !s.on FLU_STATUS_READY || s.on VLT_STATUS_LOST || !(s.mode == 1 || s.mode == 7) then s
    else
      let s := (s.copyTlog.readTrip.loadTrims.bootRecord).set1 MBX_READY_FW_READY
      (if s.mode = 7 then s else s.enterMode 2).putSummary)

/-! The slot commands (R143, R149, R150, R707). -/

/-- The buffer of SEC FW_WRITE in the Nagus SRAM. -/
def fwBuf : Nat := 0x100FFE00

/-- SEC FW_WRITE ends. -/
def State.fwEnd (s : State) (st : Nat) : State :=
  ({ s with fw := { s.fw with write := none } }).endActions (fun a => a.op == 0x3803) st

/-- Start the next operation of SEC FW_WRITE: the erase of the block a page begins, or the page (R707). -/
def State.fwGo (s : State) : State := match s.fw.write with
  | none => s
  | some w =>
    if s.flu.xspi.isSome then s
    else if w.dst % 4096 = 0 ∧ !w.erased then ({ s with flu := { s.flu with xspi := some (2, w.dst, fwBuf) } }).set1 FLU_XSPI_CMD_BUSY
    else match s.fwRead w.src 256 with
      | (.ok, bs, s) => ({ s with sram := Memory.writeBytes 0 s.sram fwBuf bs, flu := { s.flu with xspi := some (3, w.dst, fwBuf) } }).set1 FLU_XSPI_CMD_BUSY
      | (_, _, s) => s.fwEnd stHwFault

/-- An xSPI operation has ended: what SEC FW_WRITE does next. -/
def State.fwStep (s : State) (op a : Nat) (ok : Bool) : State := match s.fw.write with
  | none => s
  | some w =>
    if a ≠ w.dst ∨ op ≠ (if w.dst % 4096 = 0 ∧ !w.erased then 2 else 3) then s.fwGo
    else if !ok then s.fwEnd stHwFault
    else if op = 2 then ({ s with fw := { s.fw with write := some { w with erased := true } } }).fwGo
    else if w.left ≤ 1 then s.fwEnd stOk
    else ({ s with fw := { s.fw with write := some { dst := w.dst + 256, src := w.src + 256, left := w.left - 1 } } }).fwGo

/-- SEC FW_WRITE (R103, R143, R148): a range past the end of the slot is BAD_PARAM at p4, and a second command while an earlier
one is unfinished BUSY (log entry 60). -/
def execSecFwWrite (s : State) : Out := runCmd 0x3803 s (fun q s =>
  if !(s.mbx.recovery && !s.on DMC_STATUS_READY) && !s.rangeAllowed (q.w64 2) (q.w 4) then (s, some (failReply stDenied)) else
  match firstBad [(0, decide (q.w 0 < 2)), (1, decide (q.w 1 % 4096 = 0 ∧ q.w 1 < 0x800000)),
      (4, decide (q.w 4 % 4096 = 0 ∧ q.w 4 ≠ 0 ∧ q.w 1 + q.w 4 ≤ 0x800000))] with
  | some i => (s, some (badParam i))
  | none =>
    if s.noPlace then (s, some (failReply stNoSpace))
    else if s.on SEC_STATUS_MEAS_DONE && s.get SEC_SLOT_SLOT == q.w 0 then (s, some (failReply stDenied))
    else if s.mbx.recovery && !s.on DMC_STATUS_READY then (s, some (failReply stHwFault 0x2C07))
    else if s.fw.write.isSome then (s, some (failReply stBusy))
    else
      let s := s.startAction q
      (({ s with fw := { s.fw with write := some { dst := slotAddr (q.w 0) + q.w 1, src := q.w64 2, left := q.w 4 / 256 } } }).fwGo, some okReply))

/-- XSPI_OP_DONE (R707): the operation in progress ends, with or without failure, and what waits for it goes on. -/
def execXspiOpDone (ok : Bool) (s : State) : Out :=
  .next (match s.xspiEnd ok with
    | (s, none) => s
    | (s, some (op, a, ok)) =>
      let s := (s.storeStep op a ok).fwStep op a ok
      if op = 3 then s.shutFlush else s)

/-- SEC FW_ACTIVATE (R149, R662). -/
def execSecFwActivate (s : State) : Out := runCmd 0x3804 s (fun q s =>
  let k := q.w 0
  if 1 < k then (s, some (badParam 0))
  else if !s.slotOk k then (s, some (failReply stDenied))
  else
    let n := if s.slotFormat (1 - k) then s.slotNat (1 - k) 16 4 + 1 else 1
    (s.flashWrite (slotAddr k + 16) (leBytes 4 (n % 2 ^ 32) ++ [0#8, 0#8]), some okReply))

/-- SEC FW_CONFIRM (R150, R665). -/
def execSecFwConfirm (s : State) : Out := runCmd 0x3805 s (fun _ s =>
  let k := s.get SEC_SLOT_SLOT
  if s.slotConfirmed k then (s, some (failReply stBadState))
  else
    let s := (s.flashWrite (slotAddr k + 21) [1#8]).arbRaise s.fw.rollback
    (s, some (okReply [s.get SEC_ARB_COUNT])))

end Sys2Proof.Machine
end

