-- ==== Sys2Proof/Machine/CamPix.lean ====
section
/-! DEFINITION. The stages of the image pipeline over one frame: defect pixels, noise reduction, gain, ROI, the
melt-pool descriptor and the statistics (R425–R430, R441). -/

namespace Sys2Proof.Machine

/-- A field of a context record held as sixteen words. -/
def camF (cfg : List Word) (f : Fref) : Nat := wfield (cfg.getD ((f.base - 0x20091000) / 4) 0) f.hi f.lo

/-- A pixel of rows of pixels. -/
def pixAt (rows : List (List Nat)) (x y : Nat) : Nat := (rows.getD y []).getD x 0

/-- Bits of a pixel of data type `dt`, and the shift of stage 1 (R417, R425). -/
def rawBits (dt : Nat) : Nat := match dt with
  | 0x2A => 8 | 0x2B => 10 | 0x2C => 12 | _ => 16

/-- Stage 1 (R425). -/
def unpackRow (dt : Nat) (row : List Nat) : List Nat := row.map (fun p => p % 2 ^ rawBits dt * 2 ^ (16 - rawBits dt))

/-- The listed defect pixels (x, y) of a context, entries out of order left out, and whether one was (R428). -/
def defList (defs : Tab Word) (base count : Nat) : List (Nat × Nat) × Bool :=
  let e (i : Nat) : Nat × Nat := let w := Tab.get 0 defs i; (wfield w 11 0, wfield w 28 16)
  let lt (a b : Nat × Nat) : Bool := decide (a.2 < b.2 ∨ (a.2 = b.2 ∧ a.1 < b.1))
  let ok (k : Nat) : Bool := k == 0 || lt (e (base + k - 1)) (e (base + k))
  let ks := List.range count
  ((ks.filter ok).map (fun k => e (base + k)), ks.any (fun k => !ok k))

/-- A listed pixel's replacement from its row's neighbours (R428); a row of one pixel has none: a free value. -/
def defPix (free : Nat) (rows : List (List Nat)) (w x y : Nat) : Nat :=
  if 0 < x ∧ x + 1 < w then (pixAt rows (x - 1) y + pixAt rows (x + 1) y + 1) / 2
  else if x + 1 < w then pixAt rows (x + 1) y
  else if 0 < x then pixAt rows (x - 1) y
  else free % 65536

/-- Rows with each pixel replaced by a function of its column, its row and itself. -/
def mapPix (rows : List (List Nat)) (f : Nat → Nat → Nat → Nat) : List (List Nat) :=
  rows.zipIdx.map (fun r => r.1.zipIdx.map (fun p => f p.2 r.2 p.1))

/-- The pixels within `r` columns and rows of (x, y), centre included, positions outside the frame left out. -/
def window (rows : List (List Nat)) (w h r x y : Nat) : List (Nat × Nat × Nat) :=
  (List.range (2 * r + 1)).flatMap (fun j => (List.range (2 * r + 1)).filterMap (fun i =>
    if r ≤ x + i ∧ x + i - r < w ∧ r ≤ y + j ∧ y + j - r < h then some (x + i - r, y + j - r, pixAt rows (x + i - r) (y + j - r)) else none))

/-- Dynamic defect replacement of one pixel (R428). -/
def dynPix (rows : List (List Nat)) (w h thr x y c : Nat) : Nat :=
  match ((window rows w h 1 x y).filter (fun p => !(p.1 == x && p.2.1 == y))).map (fun p => p.2.2) with
  | [] => c
  | n :: ns =>
    let mx := ns.foldl max n
    let mn := ns.foldl min n
    if mx + thr < c then mx else if c + thr < mn then mn else c

/-- Stage 3 of one pixel. -/
def snrPix (rows : List (List Nat)) (w h r thr x y c : Nat) : Nat :=
  let ns := ((window rows w h r x y).map (fun p => p.2.2)).filter (fun (n : Nat) => ((n : Int) - c).natAbs ≤ thr)
  (ns.foldl (fun a n => a + n) 0 + ns.length / 2) / ns.length

/-- Stage 4 of one pixel, from its history pixel (none: the history is not valid). -/
def tnrPix (thr k x : Nat) (h : Option Nat) : Nat := match h with
  | none => x
  | some h => if thr < ((x : Int) - h).natAbs then x else ((h : Int) + (((x : Int) - h) * k + 128) / 256).toNat % 65536

/-- Stage 5 of one pixel. -/
def gainPix (black gain y : Nat) : Nat := (min 65535 (max 0 ((((y : Int) - black) * gain + 2048) / 4096))).toNat

/-- Units of history a context needs (R427). -/
def tnrUnits (cfg : List Word) : Nat := (camF cfg CAM_CTX1_FRAME_W * camF cfg CAM_CTX1_FRAME_H * 2 + 8191) / 8192

/-- The history of a context fits in the 64 units (R427). -/
def tnrFits (cfg : List Word) : Bool := camF cfg CAM_CTX5_TNR_BASE + tnrUnits cfg ≤ 64

/-- What a frame's pixels give: v of the ROI row by row, the history, and what the frame is marked with. -/
structure PixOut where
  roi    : List (List Nat)
  hist   : Tab Nat
  reset  : Bool
  noFit  : Bool
  order  : Bool
  deriving DecidableEq, Repr

/-- Stages 1 to 6 (R425–R428) over a frame of `rows` with record `cfg`, `gain`, and whether the history is valid. -/
def framePix (free : Nat) (cfg : List Word) (gain : Nat) (valid : Bool) (defs : Tab Word) (hist : Tab Nat) (rows : List (List Nat)) : PixOut :=
  let w := camF cfg CAM_CTX1_FRAME_W
  let h := camF cfg CAM_CTX1_FRAME_H
  let r1 := rows.map (unpackRow (camF cfg CAM_CTX0_DT))
  let (ds, order) := defList defs (camF cfg CAM_CTX7_DEF_BASE) (camF cfg CAM_CTX7_DEF_COUNT)
  let r2 := if ds = [] then r1 else mapPix r1 (fun x y c => if ds.contains (x, y) then defPix free r1 w x y else c)
  let r3 := if camF cfg CAM_CTX0_DEF_DYN = 1 then mapPix r2 (dynPix r2 w h (camF cfg CAM_CTX8_DYN_THR)) else r2
  let r4 := if camF cfg CAM_CTX0_SNR_EN = 1 then
      mapPix r3 (snrPix r3 w h (if camF cfg CAM_CTX0_SNR_5X5 = 1 then 2 else 1) (camF cfg CAM_CTX4_SNR_THR)) else r3
  let on := camF cfg CAM_CTX0_TNR_EN = 1
  let run := on ∧ tnrFits cfg = true
  let key (x y : Nat) : Nat := camF cfg CAM_CTX5_TNR_BASE * 4096 + y * w + x
  let r5 := if run then mapPix r4 (fun x y c => tnrPix (camF cfg CAM_CTX5_TNR_THR) (camF cfg CAM_CTX5_TNR_K) c
      (if valid then some (Tab.get 0 hist (key x y)) else none)) else r4
  let hist := if run then r5.zipIdx.foldl (fun t r => r.1.zipIdx.foldl (fun t p => Tab.put t (key p.2 r.2) p.1) t) hist else hist
  let x0 := camF cfg CAM_CTX2_ROI_X0
  let y0 := camF cfg CAM_CTX2_ROI_Y0
  let roi := ((r5.drop y0).take (camF cfg CAM_CTX3_ROI_H)).map (fun r => ((r.drop x0).take (camF cfg CAM_CTX3_ROI_W)).map (gainPix (camF cfg CAM_CTX4_BLACK) gain))
  { roi := roi, hist := hist, reset := decide run && !valid, noFit := decide on && !tnrFits cfg, order := order }

/-- Sum of a function over the ROI's pixels. -/
def roiSum (roi : List (List Nat)) (f : Nat → Nat → Nat → Nat) : Nat :=
  roi.zipIdx.foldl (fun a r => r.1.zipIdx.foldl (fun a p => a + f p.2 r.2 p.1) a) 0

/-- ⌊64 √λ + 1/2⌋ for λ = (a ± √d) / (2 n²) (R430). -/
def extent (n a d : Nat) (major : Bool) : Nat :=
  let x := 16384 * 16384 * d
  let g := isqrt x
  let num := if major then 16384 * a + g else 16384 * a - (if g * g = x then g else g + 1)
  (isqrt (num / (2 * n * n)) + 1) / 2

/-- The measured fields of a descriptor (R430): AREA, PEAK, MEAN, CX, CY, LENGTH, WIDTH, SPATTER, SAT. LENGTH and
WIDTH are free within one unit of the exact value; the PEAK of an ROI without pixels is free. -/
structure Pool where
  area : Nat := 0
  peak : Nat := 0
  mean : Nat := 0
  cx   : Nat := 0
  cy   : Nat := 0
  len  : Nat := 0
  wid  : Nat := 0
  spat : Nat := 0
  sat  : Bool := false
  deriving DecidableEq, Repr

/-- A number within one unit of `n`, saturated to 16 bits (log entry 4). -/
def within1 (free n : Nat) : Nat := min 0xFFFF (n + free % 3 - 1)

/-- The descriptor's fields over the ROI (R430). -/
def poolOf (free : Nat → Nat) (thr spat : Nat) (roi : List (List Nat)) : Pool :=
  let inPool (f : Nat → Nat → Nat → Nat) : Nat := roiSum roi (fun x y v => if thr ≤ v then f x y v else 0)
  let n := inPool (fun _ _ _ => 1)
  let sx := inPool (fun x _ _ => x)
  let sy := inPool (fun _ y _ => y)
  let vxx := n * inPool (fun x _ _ => x * x) - sx * sx
  let vyy := n * inPool (fun _ y _ => y * y) - sy * sy
  let vxy : Int := (n * inPool (fun x y _ => x * y) : Nat) - (sx * sy : Nat)
  let d := (((vxx : Int) - vyy) ^ 2 + 4 * vxy ^ 2).toNat
  let below (x y : Nat) (dx : Int) (dy : Nat) : Bool :=
    let u := (x : Int) + dx
    if u < 0 ∨ (roi.getD 0 []).length ≤ u.toNat ∨ y < dy then true else decide (pixAt roi u.toNat (y - dy) < spat)
  let seeds := roiSum roi (fun x y v => if spat ≤ v && below x y (-1) 0 && below x y (-1) 1 && below x y 0 1 && below x y 1 1 then 1 else 0)
  let px := roiSum roi (fun _ _ _ => 1)
  let peak := if px = 0 then free 2 % 65536 else roi.foldl (fun a r => r.foldl max a) 0
  let sat := decide (0 < roiSum roi (fun _ _ v => if v = 65535 then 1 else 0))
  if n = 0 then { peak := peak, spat := min seeds 255, sat := sat } else
  { area := min n 0xFFFFFF, peak := peak, mean := inPool (fun _ _ v => v) / n, cx := (512 * sx + 257 * n) / (2 * n),
    cy := (512 * sy + 257 * n) / (2 * n), len := within1 (free 0) (extent n (vxx + vyy) d true),
    wid := within1 (free 1) (extent n (vxx + vyy) d false), spat := min (seeds - 1) 255, sat := sat }

/-- The marks of a frame in d1 bits [15:8] (R429). -/
def descFlags (missing empty untrig sat reset crc skip : Bool) : Nat :=
  let b (c : Bool) (n : Nat) : Nat := if c then 2 ^ n else 0
  b missing 7 + b empty 6 + b untrig 5 + b sat 4 + b reset 3 + b crc 2 + b skip 1

/-- The eight words of a descriptor (R429). -/
def descWords (num id flags c ref : Nat) (p : Pool) : List Word :=
  [word num, word (id * 2 ^ 16 + flags * 2 ^ 8 + c), word (p.spat * 2 ^ 24 + p.area), word (p.peak * 2 ^ 16 + p.mean),
    word p.cx, word p.cy, word (p.len * 2 ^ 16 + p.wid), word ref]

/-- The statistics words s0–s31 (R441). The smallest and the largest v of an ROI without pixels are free. -/
def statWords (free : Nat → Nat) (num flags ref : Nat) (e : ExpSet) (roi : List (List Nat)) : List Word :=
  let px := roiSum roi (fun _ _ _ => 1)
  let mx := if px = 0 then free 2 % 65536 else roi.foldl (fun a r => r.foldl max a) 0
  let mn := if px = 0 then free 3 % 65536 else roi.foldl (fun a r => r.foldl min a) 65535
  let sum := roiSum roi (fun _ _ v => v)
  let bin (j : Nat) : Nat := min 0xFFFF (roiSum roi (fun _ _ v => if v / 2048 = j then 1 else 0))
  [word e.id, word num, word ref, word (ref / 2 ^ 32), word e.exp, word e.gain, word px, word (mx * 65536 + mn), word sum,
    word (sum / 2 ^ 32), word (roiSum roi (fun _ _ v => if v = 65535 then 1 else 0)), word (flags * 256), 0, 0, 0, 0] ++
  (List.range 16).map (fun i => word (bin (2 * i + 1) * 65536 + bin (2 * i)))

end Sys2Proof.Machine
end

