-- ==== Sys2Proof/Machine/Cam.lean ====
section
/-! DEFINITION. The camera interface and image pipeline: ports and frames, contexts, admission, descriptors, triggers
and exposure, buffers and the descriptor log (spec/11_camera_pipeline.md). -/

namespace Sys2Proof.Machine

/-- State of context `c`. -/
def State.camCtx (s : State) (c : Nat) : CamCtx := Tab.get {} s.cam.ctx c

/-- Replace the state of context `c`. -/
def State.setCamCtx (s : State) (c : Nat) (x : CamCtx) : State := { s with cam := { s.cam with ctx := Tab.put s.cam.ctx c x } }

/-- The record of context `c` in its registers (R415). -/
def State.camReg (s : State) (c : Nat) : List Word := (List.range 16).map (fun w => s.rd (0x20091000 + 64 * c + 4 * w))

/-- The working copy of context `c` (R415). -/
def State.camWork (s : State) (c : Nat) : List Word :=
  if (s.camCtx c).work = [] then (List.range 16).map (fun w => resetWord (0x20091000 + 64 * c + 4 * w)) else (s.camCtx c).work

/-- A record is in force when its ROI is not empty (R416). -/
def camOn (cfg : List Word) : Bool := camF cfg CAM_CTX3_ROI_W != 0 && camF cfg CAM_CTX3_ROI_H != 0

/-- A record takes the port and virtual channel (R413). -/
def camAt (cfg : List Word) (port vc : Nat) : Bool := camF cfg CAM_CTX0_PORT == port && camF cfg CAM_CTX0_VC == vc

/-- A frame is large (R417). -/
def camLarge (cfg : List Word) : Bool :=
  65536 < camF cfg CAM_CTX1_FRAME_W * camF cfg CAM_CTX1_FRAME_H * rawBits (camF cfg CAM_CTX0_DT) / 8

/-- Pipeline cycles of one line (R419, R420). -/
def camLine (cfg : List Word) : Nat := (camF cfg CAM_CTX1_FRAME_W + 3) / 4 + 2

/-- Pipeline cycles of a frame (R420). -/
def camCycles (cfg : List Word) : Nat := camF cfg CAM_CTX1_FRAME_H * camLine cfg + 48

/-- Bytes a line of `n` pixels occupies. -/
def camBytes (cfg : List Word) (n : Nat) : Nat := n * rawBits (camF cfg CAM_CTX0_DT) / 8

/-- The frames that are open. -/
def State.camOpen (s : State) : List CamFrame := (List.range 32).filterMap (fun c => (s.camCtx c).opn)

/-- Lines of a large frame that wait for admission. -/
def CamFrame.waiting (f : CamFrame) : Nat := if f.drop then 0 else f.rows.length - f.adm

/-- Bytes in the FIFO of port `n` (R423). -/
def State.camFill (s : State) (n : Nat) : Nat :=
  ((s.camOpen ++ s.cam.elig ++ s.cam.large).filter (fun f => camF f.cfg CAM_CTX0_PORT == n)).foldl (fun a f => a + f.held) 0

/-- Bring CAM_STATUS and the FIFO fills up to date. -/
def State.camShow (s : State) : State :=
  let big := (s.camOpen ++ s.cam.large).filter (fun f => camLarge f.cfg && !f.drop)
  let busy := s.cam.cur.isSome || big.any (fun f => 0 < f.adm)
  let work := (s.cam.cur.toList ++ s.cam.elig).foldl (fun a f => a + camCycles f.cfg) 0 + big.foldl (fun a f => a + f.waiting * camLine f.cfg) 0
  let ports := s.camOpen.foldl (fun a f => setBit a (camF f.cfg CAM_CTX0_PORT) true) 0
  let s := ((s.put CAM_STATUS_PIPE_BUSY (if busy then 1 else 0)).put CAM_STATUS_PORT_OPEN ports).put CAM_STATUS_BACKLOG (min work 0xFFFF)
  forN 4 (fun n s => s.put CAM_PORT_STAT_FILL (s.camFill n) n) s

/-- A record conflicts with another context in force (R416). -/
def State.camConflict (s : State) (c : Nat) (cfg : List Word) : Bool :=
  (List.range 32).any (fun d => d != c && camOn (s.camWork d) && camAt (s.camWork d) (camF cfg CAM_CTX0_PORT) (camF cfg CAM_CTX0_VC) &&
    camF (s.camWork d) CAM_CTX0_DT == camF cfg CAM_CTX0_DT)

/-- Load the working copy of context `c`, unless it would conflict (R415, R416, R427). -/
def State.camLoad (s : State) (c : Nat) : State :=
  let new := s.camReg c
  let old := s.camWork c
  if s.camConflict c new then s.set1 CAM_FLAGS_CTX_CONFLICT else
  let ch (f : Fref) : Bool := camF old f != camF new f
  let fresh := ch CAM_CTX0_TNR_EN || ch CAM_CTX5_TNR_BASE || ch CAM_CTX1_FRAME_W || ch CAM_CTX1_FRAME_H
  (s.setCamCtx c { s.camCtx c with work := new, fresh := (s.camCtx c).fresh || fresh }).putBit CAM_CTX_PEND_PEND c false

/-- Ask for a load of context `c` (R415). -/
def State.camApply (s : State) (c : Nat) : State :=
  let s := s.putBit CAM_CTX_PEND_PEND c true
  if (s.camCtx c).opn.isNone then s.camLoad c else s

/-- CTX_APPLY (R415). -/
def execCtxApply (v : Word) (s : State) : Out :=
  .next (forN 32 (fun c s => if v.toNat.testBit c then s.camApply c else s) s)

/-! Descriptors. -/

/-- A descriptor of a frame is complete (R420, R431): it waits for the next tick edge that it came 16 RT cycles
before. An older one of its context that still waits for that edge is replaced and counted. -/
def State.camComplete (s : State) (f : CamFrame) (words : List Word) (tick phase : Nat) : State :=
  let late := decide (s.tickLen < phase + 16)
  let d : CamDone := { c := f.c, n := f.n, words := words, tick := tick, late := late }
  match s.cam.done.find? (fun e => e.c == f.c && e.late == late) with
  | none => { s with cam := { s.cam with done := s.cam.done ++ [d] } }
  | some e =>
    let keep := if e.n < f.n then d else e
    ({ s with cam := { s.cam with done := s.cam.done.filter (fun (e : CamDone) => !(e.c == f.c && e.late == late)) ++ [keep] } }).incSat CAM_LATCH_OVERTAKEN f.c

/-- Latch the complete descriptors at a tick edge, the counter already advanced (R431). -/
def State.camEdge (s : State) : State :=
  let (rdy, rest) := s.cam.done.partition (fun d => !d.late)
  let s := { s with cam := { s.cam with done := rest.map (fun d => { d with late := false }), late := 0 } }
  rdy.foldl (fun s d =>
    let age := min (s.key.tick - d.tick) 255
    let s := { s with cam := { s.cam with latch := Tab.put s.cam.latch d.c ⟨d.words, age, s.key.tick⟩ } }
    let s := d.words.zipIdx.foldl (fun s (w, i) => s.put CAM_DESC_WORD w.toNat d.c i) s
    s.put CAM_LATCH_AGE age d.c) s

/-- A frame is dropped (R423, R424): the context counts it, and a MISSING descriptor is complete. -/
def State.camDrop (s : State) (f : CamFrame) (code : Nat) (flag : Fref) (once : Bool) (phase : Nat) : State :=
  let s := s.incSat CAM_CCNT1_DROPPED f.c
  let s := if once then s.faultOnce flag 0 9 code 3 f.c else (s.set1 flag).fault 9 code 3 f.c
  let fl := descFlags true true f.untrig false false f.crc f.skip
  s.camComplete f (descWords f.num f.set.id fl f.c f.ref {}) s.key.tick phase

/-- Drop the open frame of context `c`: its later packets are discarded (R423). -/
def State.dropOpen (s : State) (c code : Nat) (flag : Fref) (phase : Nat) : State := match (s.camCtx c).opn with
  | none => s
  | some f =>
    if f.drop then s else
    let s := s.setCamCtx c { s.camCtx c with opn := some { f with drop := true, held := 0, rows := [], emb := [] }, fresh := true }
    s.camDrop f code flag true phase

/-- Drop the open frame as malformed (R413). -/
def State.dropMalformed (s : State) (c phase : Nat) : State := match (s.camCtx c).opn with
  | none => s
  | some f => if f.drop then s else
    (s.incSat CAM_PORT_CNT_C_MALFORMED (camF f.cfg CAM_CTX0_PORT)).dropOpen c 2 CAM_FLAGS_MALFORMED phase

/-- Drop the open frame because a packet does not fit in the port FIFO (R423). -/
def State.dropOverflow (s : State) (c phase : Nat) : State := match (s.camCtx c).opn with
  | none => s
  | some f => if f.drop then s else
    (s.incSat CAM_PORT_CNT_C_OVF_DROP (camF f.cfg CAM_CTX0_PORT)).dropOpen c 1 CAM_FLAGS_OVF_DROP phase

/-! Packets. -/

/-- A packet that no context takes (R412). -/
def State.unsupported (s : State) (port : Nat) : State :=
  (s.incSat CAM_PORT_CNT_B_UNSUP port).faultOnce CAM_FLAGS_LINK_ERR 0 9 6 3 port

/-- A header with a corrected bit is counted (R412). -/
def State.eccCorr (s : State) (port : Nat) (corr : Bool) : State := if corr then s.incSat CAM_PORT_CNT_A_ECC_CORR port else s

/-- The data lanes of port `n` as a mask. -/
def State.camLanes (s : State) (n : Nat) : Nat := 2 ^ (s.get CAM_PORT_CTRL_LANES n + 1) - 1

/-- A packet is received on port `n`: its lanes are synchronised and out of ULPS (CAM_PORT_STAT_n; log entry 25). -/
def State.camSync (s : State) (n : Nat) : State := (s.put CAM_PORT_STAT_HS_SYNC (s.camLanes n) n).put CAM_PORT_STAT_ULPS 0 n

/-- All lanes of port `n` enter ULPS or leave it (R409). -/
def State.camUlps (s : State) (n : Nat) (enter : Bool) : State :=
  (s.put CAM_PORT_STAT_HS_SYNC 0 n).put CAM_PORT_STAT_ULPS (if enter then s.camLanes n else 0) n

/-- Port `n` stops receiving: no lane is synchronised or in ULPS (R411). -/
def State.camPortOff (s : State) (n : Nat) : State := (s.put CAM_PORT_CTRL_EN 0 n).camUlps n false

/-- A payload CRC fails: it is counted and fault 003h recorded (R412); `c` is 255 where no context takes the packet. -/
def State.crcErr (s : State) (port c : Nat) : State := (s.incSat CAM_PORT_CNT_B_CRC_ERR port).faultOnce CAM_FLAGS_LINK_ERR 0 9 3 3 c

/-- Contexts in force on a port and virtual channel. -/
def State.camTakers (s : State) (port vc : Nat) : List Nat :=
  (List.range 32).filter (fun c => camOn (s.camWork c) && camAt (s.camWork c) port vc)

/-- A disabled context names the port and virtual channel: its packets are discarded without a count (R416). -/
def State.camIgnored (s : State) (port vc : Nat) : Bool :=
  (List.range 32).any (fun c => !camOn (s.camWork c) && camAt (s.camWork c) port vc)

/-- Where every pier is in the present tick (R444). -/
def State.whereNow (s : State) : Where :=
  (List.range 16).map (fun p => let h := (Tab.get {} s.scn.piers p : PierSt).force; (h.x, h.y, h.seq, h.gate))

/-- A trigger event is discarded, or a frame finds none (R433). -/
def State.trigLost (s : State) (c : Nat) : State := s.faultOnce CAM_FLAGS_TRIG_LOST 0 9 8 3 c

/-- Count a discarded trigger event (R433). -/
def State.trigDiscard (s : State) (c : Nat) : State := (s.incSat CAM_CCNT2_TRIG_LOST c).trigLost c

/-- The extended number of a frame start with number `w`, and how far it advances; none where the number repeats
(R414). -/
def frameStep (prev : Option Nat) (w : Nat) : Option Nat :=
  if w ≤ 1 then some 1 else match prev with
  | none => some 1
  | some v => if (w + 65536 - v) % 65536 = 0 then none else some ((w + 65536 - v) % 65536)

/-- The set a frame carries and the context after its frame start (R435–R437). -/
def carried (cfg : List Word) (x : CamCtx) (e : Option CamEv) : ExpSet × CamCtx :=
  if camF cfg CAM_CTX0_EXP_MODE = 1 then
    let now := x.wait.filter (fun p => p.1 == 0)
    let set := match now.getLast? with
      | some p => p.2
      | none => x.carry
    (set, { x with carry := set, wait := (x.wait.filter (fun p => p.1 != 0)).map (fun p => (p.1 - 1, p.2)) })
  else match e with
    | some e => (e.set, { x with carry := e.set })
    | none => (x.set, { x with carry := x.set })

/-- Open a frame of context `c` (R413, R414, R433, R435); `fits`: the packet fits in the port FIFO (R423). -/
def State.openFrame (s : State) (c w : Nat) (fits : Bool) (phase : Nat) : State :=
  let s := s.dropMalformed c phase
  let cfg := s.camWork c
  let x := s.camCtx c
  if !fits then
    let f : CamFrame := { c := c, n := s.cam.n + 1, num := (x.num + 1) % 2 ^ 32, cfg := cfg, set := (carried cfg x none).1, ref := s.key.tick,
                          loc := s.whereNow, untrig := false, skip := false, fresh := true }
    let s := { s with cam := { s.cam with n := s.cam.n + 1 } }
    (s.setCamCtx c { x with opn := some f }).dropOverflow c phase
  else
    let s := s.incWrap CAM_CCNT0_FRAMES c
    let d := frameStep x.w w
    let s := if d = none then (s.incSat CAM_CCNT3_FNUM_ERR c).faultOnce CAM_FLAGS_MALFORMED 0 9 7 3 c else s
    let d := d.getD 1
    let s := s.incSat CAM_CCNT1_SKIPPED c (d - 1)
    let bound := camF cfg CAM_CTX8_TRIG != 31
    let old := x.evs.filter (fun e => decide (e.tick + camF cfg CAM_CTX8_TRIG_AGE < s.key.tick))
    let evs := x.evs.filter (fun e => !decide (e.tick + camF cfg CAM_CTX8_TRIG_AGE < s.key.tick))
    let s := old.foldl (fun s _ => s.trigDiscard c) s
    let untrig := bound && evs.isEmpty
    let s := if untrig then (s.incSat CAM_CCNT2_UNTRIG c).trigLost c else s
    let e := if bound then evs.head? else none
    let (set, x) := carried cfg x e
    let f : CamFrame := {
      c := c, n := s.cam.n + 1, num := (x.num + d) % 2 ^ 32, cfg := cfg, set := set, untrig := untrig, skip := decide (1 < d), fresh := x.fresh,
      ref := match e with
        | some e => e.tick
        | none => s.key.tick,
      loc := match e with
        | some e => e.loc
        | none => s.whereNow }
    let s := { s with cam := { s.cam with n := s.cam.n + 1 } }
    let s := s.put CAM_EXP_IF_ID_FRAME set.id c
    s.setCamCtx c { x with num := f.num, w := some w, opn := some f, evs := evs.drop 1, fresh := false }

/-- A frame start finds the frame of context `c` still open: it is malformed, and closed (R413). -/
def State.abandonOpen (s : State) (c phase : Nat) : State :=
  let s := s.dropMalformed c phase
  s.setCamCtx c { s.camCtx c with opn := none }

/-- CSI_FRAME_START (R411–R416, R433). -/
def execCsiFrameStart (port : Fin 4) (vc : Fin 16) (w : BitVec 16) (corr : Bool) (phase : Nat) (s : State) : Out :=
  let n := port.val
  .next (if !s.on CAM_PORT_CTRL_EN n then s else
    let s := (s.camSync n).eccCorr n corr
    let s := forN 32 (fun c s => if s.bit CAM_CTX_PEND_PEND c && camAt (s.camWork c) n vc.val then (s.abandonOpen c phase).camLoad c else s) s
    let cs := s.camTakers n vc.val
    let fits := decide (s.camFill n < 393216)
    let s := if cs = [] ∧ !s.camIgnored n vc.val then s.unsupported n else s
    (cs.foldl (fun s c => s.openFrame c w.toNat fits phase) s).camShow)

/-- A line of context `c` arrives (R412, R413, R423). -/
def State.frameLine (s : State) (c port : Nat) (px : List Nat) (crcOk : Bool) (phase : Nat) : State :=
  match (s.camCtx c).opn with
  | none => (if crcOk then s else s.crcErr port c).incSat CAM_PORT_CNT_C_MALFORMED port
  | some f =>
    let s := if crcOk then s else s.crcErr port c
    if f.drop then s
    else if 393216 < s.camFill port + camBytes f.cfg px.length then s.dropOverflow c phase
    else
      let f := { f with rows := f.rows ++ [px], held := f.held + camBytes f.cfg px.length, crc := f.crc || !crcOk }
      let s := s.setCamCtx c { s.camCtx c with opn := some f }
      if px.length ≠ camF f.cfg CAM_CTX1_FRAME_W then s.dropMalformed c phase
      else if !crcOk ∧ camF f.cfg CAM_CTX0_CRC_DROP = 1 then s.dropOpen c 3 CAM_FLAGS_LINK_ERR phase
      else s

/-- CSI_LINE (R409, R412, R413, R423). -/
def execCsiLine (port : Fin 4) (vc : Fin 16) (dt : BitVec 6) (px : List Nat) (corr crcOk : Bool) (phase : Nat) (s : State) : Out :=
  let n := port.val
  .next (if !s.on CAM_PORT_CTRL_EN n then s else
    let s := (s.camSync n).eccCorr n corr
    match (s.camTakers n vc.val).find? (fun c => camF (s.camWork c) CAM_CTX0_DT == dt.toNat) with
    | some c => (s.frameLine c n px crcOk phase).camShow
    | none =>
      if (List.range 32).any (fun c => !camOn (s.camWork c) && camAt (s.camWork c) n vc.val && camF (s.camWork c) CAM_CTX0_DT == dt.toNat) then s
      else (if crcOk then s else s.crcErr n 255).unsupported n)

/-- The place of a small frame among the eligible ones: order of frame ends, then PRIORITY, then context (R418). -/
def admitsBefore (a b : CamFrame) : Bool :=
  let pa := camF a.cfg CAM_CTX0_PRIORITY
  let pb := camF b.cfg CAM_CTX0_PRIORITY
  decide (a.stamp < b.stamp ∨ (a.stamp = b.stamp ∧ (pb < pa ∨ (pa = pb ∧ a.c < b.c))))

/-- Insert an eligible small frame in the order of admission. -/
def insertElig (f : CamFrame) : List CamFrame → List CamFrame
  | [] => [f]
  | g :: t => if admitsBefore f g then f :: g :: t else g :: insertElig f t

/-- The frame end of context `c` (R413, R418). -/
def State.closeFrame (s : State) (c stamp phase : Nat) : State := match (s.camCtx c).opn with
  | none => s
  | some f =>
    let s := if f.rows.length ≠ camF f.cfg CAM_CTX1_FRAME_H then s.dropMalformed c phase else s
    match (s.camCtx c).opn with
    | none => s
    | some f =>
      let s := s.setCamCtx c { s.camCtx c with opn := none }
      let f := { f with endTick := s.key.tick, stamp := stamp }
      if f.drop then s
      else if camLarge f.cfg then { s with cam := { s.cam with large := s.cam.large ++ [f] } }
      else { s with cam := { s.cam with elig := insertElig f s.cam.elig } }

/-- CSI_FRAME_END (R412, R413, R418): `same` says that it comes in the pipeline cycle of the frame end before it. -/
def execCsiFrameEnd (port : Fin 4) (vc : Fin 16) (corr same : Bool) (phase : Nat) (s : State) : Out :=
  let n := port.val
  .next (if !s.on CAM_PORT_CTRL_EN n then s else
    let s := (s.camSync n).eccCorr n corr
    let cs := s.camTakers n vc.val
    if cs = [] ∧ !s.camIgnored n vc.val then s.unsupported n else
    let stamp := if same then s.cam.stamp else s.cam.stamp + 1
    let s := { s with cam := { s.cam with stamp := stamp } }
    (cs.foldl (fun s c => s.closeFrame c stamp phase) s).camShow)

/-- Embedded data of context `c` (R412, R413, R442). -/
def State.embedded (s : State) (c port : Nat) (bs : List Byte) (crcOk : Bool) (phase : Nat) : State :=
  let s := if crcOk then s else s.crcErr port c
  match (s.camCtx c).opn with
  | none => s
  | some f =>
    if f.drop then s
    else if 393216 < s.camFill port + bs.length then s.dropOverflow c phase
    else
      let s := s.setCamCtx c { s.camCtx c with opn := some { f with emb := f.emb ++ bs, held := f.held + bs.length, crc := f.crc || !crcOk } }
      if !crcOk ∧ camF f.cfg CAM_CTX0_CRC_DROP = 1 then s.dropOpen c 3 CAM_FLAGS_LINK_ERR phase else s

/-- A packet of another kind with a readable header (R409, R412): line start, line end and the generic short packets are ignored,
embedded data joins its frame, every other type is unsupported. -/
def State.otherPacket (s : State) (n vc dt : Nat) (bs : List Byte) (crcOk : Bool) (phase : Nat) : State :=
  let bad (s : State) : State := if crcOk ∨ dt < 0x10 then s else s.crcErr n 255
  if dt = 2 ∨ dt = 3 ∨ 8 ≤ dt ∧ dt < 0x10 then s
  else if dt = 0x12 then
    let cs := s.camTakers n vc
    if cs = [] then if s.camIgnored n vc then s else (bad s).unsupported n
    else (cs.foldl (fun s c => s.embedded c n bs crcOk phase) s).camShow
  else (bad s).unsupported n

/-- CSI_OTHER_PACKET (R409, R412): another packet, or a low-power state of the lanes. -/
def execCsiOtherPacket (port : Fin 4) (vc : Fin 16) (dt : BitVec 6) (bs : List Byte) (form : CsiForm) (crcOk : Bool) (phase : Nat)
    (s : State) : Out :=
  let n := port.val
  .next (if !s.on CAM_PORT_CTRL_EN n then s else match form with
    | .packet hdr =>
      let s := s.camSync n
      if hdr.val = 2 then (s.incSat CAM_PORT_CNT_A_ECC_UNCORR n).faultOnce CAM_FLAGS_LINK_ERR 0 9 4 3 n
      else (s.eccCorr n (hdr.val == 1)).otherPacket n vc.val dt.toNat bs crcOk phase
    | .ulps enter => s.camUlps n enter
    | .escape => s)

/-- CSI_LANE_SYNC_ERROR (R445): `lanes` are the lanes that remain synchronised. -/
def execCsiLaneSyncError (port : Fin 4) (lanes : BitVec 4) (s : State) : Out :=
  .next (if !s.on CAM_PORT_CTRL_EN port.val then s
    else ((s.incSat CAM_PORT_CNT_D_SYNC_ERR port.val).put CAM_PORT_STAT_HS_SYNC lanes.toNat port.val).faultOnce CAM_FLAGS_LINK_ERR 0 9 5 3 port.val)

/-- FRAME_OPEN_TIMEOUT (R413): 100 ms after the frame start of context `c`. -/
def execFrameOpenTimeout (c : Fin 32) (phase : Nat) (s : State) : Out := .next (s.dropMalformed c.val phase).camShow

/-! Admission and processing. -/

/-- Release the FIFO bytes of the next line of a large frame (R419). -/
def CamFrame.admitLine (f : CamFrame) : CamFrame :=
  { f with adm := f.adm + 1, held := f.held - camBytes f.cfg (f.rows.getD f.adm []).length }

/-- Admit the next line of the large frame of context `c`; `ue`: its buffer gave an uncorrectable error (R48). -/
def State.admitLine (s : State) (c : Nat) (ue : Bool) (phase : Nat) : State :=
  let s := { s with cam := { s.cam with lastLarge := c } }
  match s.cam.large.find? (fun f => f.c == c && 0 < f.waiting) with
  | some f =>
    if ue then ({ s with cam := { s.cam with large := s.cam.large.filter (fun g => g.n != f.n) } }).camDrop f 0xB CAM_FLAGS_OVF_DROP false phase
    else { s with cam := { s.cam with large := s.cam.large.map (fun g => if g.n = f.n then g.admitLine else g) } }
  | none => match (s.camCtx c).opn with
    | none => s
    | some f =>
      if ue then
        (s.setCamCtx c { s.camCtx c with opn := some { f with drop := true, held := 0, rows := [], emb := [] }, fresh := true }).camDrop f 0xB CAM_FLAGS_OVF_DROP false phase
      else s.setCamCtx c { s.camCtx c with opn := some f.admitLine }

/-- Contexts with a large frame that has an eligible line (R419). -/
def State.largeReady (s : State) : List Nat :=
  (List.range 32).filter (fun c => (s.camOpen ++ s.cam.large).any (fun f => f.c == c && camLarge f.cfg && decide (0 < f.waiting)))

/-- FRAME_ADMIT (R53, R418, R419): small frames first, in the order of their frame ends; lines of two large frames
alternate. -/
def execFrameAdmit (ue : Bool) (phase : Nat) (s : State) : Out :=
  .next (if s.cam.cur.isSome then s else match s.cam.elig with
    | f :: t =>
      let s := { s with cam := { s.cam with elig := t } }
      (if ue then s.camDrop f 0xB CAM_FLAGS_OVF_DROP false phase else { s with cam := { s.cam with cur := some { f with held := 0 } } }).camShow
    | [] => match s.largeReady with
      | [] => s
      | c :: cs => (s.admitLine (((c :: cs).find? (fun d => decide (s.cam.lastLarge < d))).getD c) ue phase).camShow)

/-- Write a frame's pixels and embedded data to its DRAM buffer (R442, R443); the header waits. -/
def State.camWrite (s : State) (f : CamFrame) (roi : List (List Nat)) (desc stats : List Word) : State :=
  let k := f.num % (max 1 (camF f.cfg CAM_CTX14_WR_COUNT))
  let base := camF f.cfg CAM_CTX11_WR_BASE_LO * 256 + camF f.cfg CAM_CTX12_WR_BASE_HI * 2 ^ 32
  let size := camF f.cfg CAM_CTX13_STRIDE * 256
  let a := base + size * k
  let pix := roi.flatMap (fun r => r.flatMap (fun v => leBytes 2 v))
  let emb := if camF f.cfg CAM_CTX0_EMB_EN = 1 then f.emb.take (size - 256 - pix.length) else []
  let head := wordsBytes desc ++ wordsBytes stats ++ leBytes 4 emb.length ++ List.replicate 92 0#8
  match s.dramWrite 4 (a + 256) (pix ++ emb) with
  | (.ok, s) => s.setCamCtx f.c { s.camCtx f.c with headers := (s.camCtx f.c).headers ++ [(a, head)] }
  | (_, s) => ((s.setCamCtx f.c { s.camCtx f.c with work := (s.camWork f.c).set 0 (wset ((s.camWork f.c).getD 0 0) 3 3 0) }).set1 CAM_FLAGS_WR_ERR).fault 9 0xC 2 f.c

/-- Lose a log record (R444). -/
def State.dlogLose (s : State) (c : Nat) : State := (s.incSat CAM_DLOG_LOST_LOST).faultOnce CAM_FLAGS_DLOG_LOST 0 9 0xD 3 c

/-- Stage the log record of a frame (R444). -/
def State.camLog (s : State) (f : CamFrame) (desc : List Word) : State :=
  if !s.on CAM_DLOG_CTRL_EN || decide (64 ≤ s.cam.staged.length) then s.dlogLose f.c else
  let p := camF f.cfg CAM_CTX9_PIER
  let (x, y, sq, g) := f.loc.getD p (0, 0, 0, false)
  let b := wordsBytes desc ++ leBytes 4 (ofSigned 32 x) ++ leBytes 4 (ofSigned 32 y) ++ leBytes 6 sq ++ [byte ((if g then 128 else 0) + p), 0#8] ++
    leBytes 4 (s.get SCN_LAYER_LAYER) ++ leBytes 4 (f.ref / 2 ^ 32) ++ List.replicate 8 0#8
  { s with cam := { s.cam with staged := s.cam.staged ++ [b] } }

/-- The end of a frame's processing (R420, R425–R444). -/
def State.camProcess (s : State) (f : CamFrame) (phase : Nat) : State :=
  let free (i : Nat) : Nat := Config.freeNat (s.free + i)
  let x := s.camCtx f.c
  let valid := !f.fresh && x.hist == some ((f.num + 2 ^ 32 - 1) % 2 ^ 32)
  let o := framePix (free 4) f.cfg f.set.gain valid s.cam.defs s.cam.hist f.rows
  let p := poolOf free (camF f.cfg CAM_CTX6_THR) (camF f.cfg CAM_CTX6_SPAT_THR) o.roi
  let fl := descFlags false (p.area == 0) f.untrig p.sat o.reset f.crc f.skip
  let desc := descWords f.num f.set.id fl f.c f.ref p
  let stats := statWords free f.num fl f.ref f.set o.roi
  let s := { s with free := s.free + 5, cam := { s.cam with hist := o.hist } }
  let s := s.setCamCtx f.c { x with hist := some f.num, seen := true }
  let s := if o.noFit then s.set1 CAM_FLAGS_TNR_FIT else s
  let s := if o.order then s.set1 CAM_FLAGS_DEF_ORDER else s
  let s := stats.zipIdx.foldl (fun s (w, i) => s.put CAM_STATS_WORD w.toNat f.c i) s
  let s := s.camComplete f desc f.endTick phase
  let s := if camF f.cfg CAM_CTX0_WR_EN = 1 then s.camWrite f o.roi desc stats else s
  if camF f.cfg CAM_CTX0_DLOG_EN = 1 then s.camLog f desc else s

/-- FRAME_DONE (R420): the pipeline ends the frame of context `c`. -/
def execFrameDone (c : Fin 32) (phase : Nat) (s : State) : Out :=
  .next (match s.cam.cur with
    | some f => if f.c = c.val then (({ s with cam := { s.cam with cur := none } }).camProcess f phase).camShow else s
    | none => match s.cam.large.find? (fun f => f.c == c.val && f.waiting == 0) with
      | some f => (({ s with cam := { s.cam with large := s.cam.large.filter (fun g => g.n != f.n) } }).camProcess f phase).camShow
      | none => s)

/-- BUFFER_HEADER_WRITE (R442, R443). -/
def execBufferHeaderWrite (c : Fin 32) (s : State) : Out :=
  .next (match (s.camCtx c.val).headers with
    | [] => s
    | (a, b) :: t =>
      let s := s.setCamCtx c.val { s.camCtx c.val with headers := t }
      match s.dramWrite 4 a b with
      | (.ok, s) => s
      | (_, s) => ((s.setCamCtx c.val { s.camCtx c.val with work := (s.camWork c.val).set 0 (wset ((s.camWork c.val).getD 0 0) 3 3 0) }).set1 CAM_FLAGS_WR_ERR).fault 9 0xC 2 c.val)

/-- The staged log records are lost: the writer is off (R444). -/
def State.dlogLoseAll (s : State) : State :=
  let s := s.cam.staged.foldl (fun s r => s.dlogLose ((r.getD 4 0).toNat % 32)) s
  { s with cam := { s.cam with staged := [] } }

/-- DLOG_RECORD_WRITE (R444, R255–R257, R261). -/
def execDlogRecordWrite (s : State) : Out :=
  .next (match s.cam.staged with
    | [] => s
    | b :: rest =>
      let s := { s with cam := { s.cam with staged := rest } }
      let n := 2 ^ (12 + s.get CAM_DLOG_SIZE_SIZE) / 64
      let base := s.get CAM_DLOG_BASE_LO_BASE_LO * 4096 + s.get CAM_DLOG_BASE_HI_BASE_HI * 2 ^ 32
      match s.dramWrite 4 (base + 64 * (s.get CAM_DLOG_WR_WR % n)) b with
      | (.ok, s) => s.incWrap CAM_DLOG_WR_WR
      | (_, s) => ((s.put CAM_DLOG_CTRL_EN 0).dlogLose ((b.getD 4 0).toNat % 32)).dlogLoseAll)

/-- A write of CAM_DLOG_CTRL.EN (R444 with R255): setting it from 0 zeroes CAM_DLOG_WR; the records staged at EN = 0 are lost. -/
def State.camLogEn (s : State) (en : Bool) : State :=
  if en then if s.on CAM_DLOG_CTRL_EN then s else (s.put CAM_DLOG_WR_WR 0).set1 CAM_DLOG_CTRL_EN
  else (s.put CAM_DLOG_CTRL_EN 0).dlogLoseAll

/-- CAM_DEF_DATA shows the selected entry. -/
def State.camShowDef (s : State) : State := s.wr 0x20090044 (Tab.get 0 s.cam.defs (s.get CAM_DEF_SEL_INDEX))

/-- DEF_DATA_ACCESS (R428): a write of `v` or a read. -/
def execDefDataAccess (v : Option Word) (s : State) : Out :=
  let i := s.get CAM_DEF_SEL_INDEX
  let s := match v with
    | some w => { s with cam := { s.cam with defs := Tab.put s.cam.defs i (w &&& 0x1FFF0FFF) } }
    | none => s
  .next (s.put CAM_DEF_SEL_INDEX ((i + 1) % 16384)).camShowDef

/-! Triggers and exposure. -/

/-- The context bound to output `o` (R432). -/
def State.camBound (s : State) (o : Nat) : Option Nat := (List.range 32).find? (fun c => camF (s.camWork c) CAM_CTX8_TRIG == o)

/-- The width of a pulse of output `o` fired now, in RT cycles (R432). -/
def State.camWidth (s : State) (o : Nat) : Nat := match s.camBound o with
  | some c => if camF (s.camWork c) CAM_CTX0_EXP_MODE = 0 then ((s.camCtx c).set.exp * 2 + 4) / 5 else s.get CAM_TRIG_WIDTH o
  | none => s.get CAM_TRIG_WIDTH o

/-- The level of CTRGo: active low with POL = 1 (R432). -/
def State.ctrg (s : State) (o : Nat) : Bool := s.on CAM_TRIG_ACTIVE o != s.on CAM_TRIG_POL o

/-- A comparator pulses output `o` (R432, R433). -/
def State.camTrigger (s : State) (o : Nat) : State :=
  if 16 < o ∨ !s.on CAM_TRIG_EN o then s
  else if s.on CAM_TRIG_ACTIVE o then
    let c := (s.camBound o).getD 255
    (if c < 32 then s.incSat CAM_CCNT3_TRIG_OVERLAP c else s).faultOnce CAM_FLAGS_TRIG_OVERLAP 0 9 9 3 c
  else
    let s := ({ s with cam := { s.cam with width := Tab.put s.cam.width o (s.camWidth o) } }).set1 CAM_TRIG_ACTIVE o
    match s.camBound o with
    | none => s
    | some c =>
      let x := s.camCtx c
      let s := if 4 ≤ x.evs.length then s.trigDiscard c else s
      let evs := x.evs.drop (x.evs.length - 3)
      s.setCamCtx c { x with evs := evs ++ [{ set := x.set, tick := s.key.tick, loc := s.whereNow }] }

/-- TRIGGER_PULSE_END (R432): the width has passed. -/
def execTriggerPulseEnd (o : Fin 17) (s : State) : Out := .next (({ s with cam := { s.cam with width := Tab.put s.cam.width o.val 0 } }).put CAM_TRIG_ACTIVE 0 o.val)

/-- EXPOSURE_ARM (R434). -/
def execExposureArm (c : Fin 32) (phase : Nat) (s : State) : Out :=
  let s := s.set1 CAM_EXP_CTRL_ARM c.val
  .next (if 380 ≤ phase then { s with cam := { s.cam with late := setBit s.cam.late c.val true } } else s)

/-- The count written for a set (R436). -/
def expCount (cfg : List Word) (e : Nat) : Nat :=
  let u := camF cfg CAM_CTX10_EXP_UNIT
  min ((e * 16 + u / 2) / u) (2 ^ (8 * (camF cfg CAM_CTX9_EXP_BYTES + 1)) - 1)

/-- The bytes of an exposure write after its START (R438). -/
def cciBytes (cfg : List Word) (n : Nat) : List Byte :=
  [byte (2 * camF cfg CAM_CTX9_DEV), byte (camF cfg CAM_CTX9_EXP_REG / 256), byte (camF cfg CAM_CTX9_EXP_REG)] ++ beBytes (camF cfg CAM_CTX9_EXP_BYTES + 1) n

/-- The control interface of port `n` starts the next queued exposure write, when it is enabled and free (R436,
R438). -/
def State.cciStart (s : State) (n : Nat) : State :=
  if !s.on CAM_CCI_CTRL_EN n || s.on CAM_CCI_STAT_BUSY n then s else
  match (List.range 32).find? (fun c => (s.camCtx c).queued.isSome && camF (s.camWork c) CAM_CTX0_PORT == n) with
  | none => s
  | some c =>
    let bs := cciBytes (s.camWork c) (((s.camCtx c).queued.map Prod.snd).getD 0)
    let s := { s with cam := { s.cam with cci := Tab.put s.cam.cci n bs } }
    (s.setCamCtx c { s.camCtx c with started := (s.camCtx c).queued, queued := none }).set1 CAM_CCI_STAT_BUSY n

/-- The sets `arms` that φ380 found armed come into force at a commit of group 6 (R434, R436). -/
def State.camCommit (s : State) (arms : Nat) : State :=
  forN 32 (fun c s =>
    if !s.on CAM_EXP_CTRL_ARM c || !arms.testBit c then s else
    let e : ExpSet := { exp := s.get CAM_EXP_EXPOSURE c, gain := s.get CAM_EXP_ID_GAIN c, id := s.get CAM_EXP_ID_SETTINGS_ID c }
    let s := (s.put CAM_EXP_CTRL_ARM 0 c).put CAM_EXP_IF_ID_IF e.id c
    let s := s.setCamCtx c { s.camCtx c with set := e }
    let cfg := s.camWork c
    if camF cfg CAM_CTX0_EXP_MODE = 1 then
      let s := if (s.camCtx c).queued.isSome then s.set1 CAM_EXP_CTRL_SUPERSEDED c else s
      (s.setCamCtx c { s.camCtx c with queued := some (e, expCount cfg e.exp) }).cciStart (camF cfg CAM_CTX0_PORT)
    else s) s

/-- CCI_WRITE_DONE (R436, R438): the write in progress on port `n` ends, acknowledged (`ok`) or not. -/
def execCciWriteDone (port : Fin 4) (ok : Bool) (s : State) : Out :=
  let n := port.val
  .next (match (List.range 32).find? (fun c => (s.camCtx c).started.isSome && camF (s.camWork c) CAM_CTX0_PORT == n) with
    | none => s
    | some c =>
      let x := s.camCtx c
      let s := s.put CAM_CCI_STAT_BUSY 0 n
      let s := match x.started with
        | some (e, _) =>
          if ok then (s.incWrap CAM_CCI_STAT_WRITES n).setCamCtx c { x with started := none, wait := x.wait ++ [(camF (s.camWork c) CAM_CTX0_SENSOR_LATENCY, e)] }
          else (((s.setCamCtx c { x with started := none }).set1 CAM_EXP_CTRL_CCI_FAIL c).set1 CAM_FLAGS_CCI_FAIL).fault 9 0xA 2 c
        | none => s
      s.cciStart n)

/-! Mailbox commands of group 07h (R136). -/

/-- CAM PORT_SET (R411). -/
def execCamPortSet (s : State) : Out := runCmd 0x1C00 s (fun q s =>
  match firstBad [(0, decide (q.w 0 < 4)), (1, decide (1 ≤ q.w 1 ∧ q.w 1 ≤ 4)), (2, decide (80 ≤ q.w 2 ∧ q.w 2 ≤ 2500))] with
  | some i => (s, some (badParam i))
  | none =>
    let n := q.w 0
    ((((s.camPortOff n).put CAM_PORT_CTRL_LANES (q.w 1 - 1) n).put CAM_PORT_CTRL_RATE (q.w 2) n).set1 CAM_PORT_CTRL_EN n, some (okReply [])))

/-- A combination of fields of a context record that the map calls reserved, by word. -/
def camReserved (cfg : List Word) (w : Nat) : Bool :=
  if w = 7 then decide (16384 < camF cfg CAM_CTX7_DEF_BASE + camF cfg CAM_CTX7_DEF_COUNT)
  else if w = 8 then camF cfg CAM_CTX0_EXP_MODE == 1 && camF cfg CAM_CTX8_TRIG != 31
  else if w = 13 then camF cfg CAM_CTX0_WR_EN == 1 &&
    decide (camF cfg CAM_CTX13_STRIDE * 256 < 256 + camF cfg CAM_CTX3_ROI_W * camF cfg CAM_CTX3_ROI_H * 2)
  else if w = 14 then camF cfg CAM_CTX0_WR_EN == 1 && camF cfg CAM_CTX14_WR_COUNT == 0
  else false

/-- The history units of two records overlap (R427). -/
def tnrOverlap (a b : List Word) : Bool :=
  camF a CAM_CTX0_TNR_EN == 1 && camF b CAM_CTX0_TNR_EN == 1 &&
    decide (camF a CAM_CTX5_TNR_BASE < camF b CAM_CTX5_TNR_BASE + tnrUnits b ∧ camF b CAM_CTX5_TNR_BASE < camF a CAM_CTX5_TNR_BASE + tnrUnits a)

/-- The payload checks of CONTEXT_SET (R416). -/
def State.contextBad (s : State) (q : Req) : Option Nat :=
  let c := q.w 0
  let cfg := (List.range 16).map (fun w => word (q.w (w + 1)))
  let others := (List.range 32).filter (fun d => d != c && camOn (s.camWork d))
  let cross (w : Nat) : Bool := match w with
    | 0 => !s.camConflict c cfg
    | 2 => decide (camF cfg CAM_CTX2_ROI_X0 + camF cfg CAM_CTX3_ROI_W ≤ camF cfg CAM_CTX1_FRAME_W)
    | 3 => decide (camF cfg CAM_CTX2_ROI_Y0 + camF cfg CAM_CTX3_ROI_H ≤ camF cfg CAM_CTX1_FRAME_H)
    | 5 => camF cfg CAM_CTX0_TNR_EN == 0 || (tnrFits cfg && others.all (fun d => !tnrOverlap cfg (s.camWork d)))
    | 8 => camF cfg CAM_CTX8_TRIG == 31 || (List.range 32).all (fun d => d == c || camF (s.camWork d) CAM_CTX8_TRIG != camF cfg CAM_CTX8_TRIG)
    | _ => true
  firstBad ((0, decide (c < 32)) :: (List.range 16).map (fun w =>
    (w + 1, recordOk (0x20091000 + 64 * (c % 32) + 4 * w) (cfg.getD w 0) && !camReserved cfg w && cross w)))

/-- The buffers a CONTEXT_SET record names as its destination are allowed (R103, R442); with WR_EN = 0 it names none. -/
def State.contextDest (s : State) (q : Req) : Bool :=
  let cfg := (List.range 16).map (fun w => word (q.w (w + 1)))
  camF cfg CAM_CTX0_WR_EN == 0 ||
    s.rangeAllowed (camF cfg CAM_CTX11_WR_BASE_LO * 256 + camF cfg CAM_CTX12_WR_BASE_HI * 2 ^ 32) (camF cfg CAM_CTX13_STRIDE * 256 * camF cfg CAM_CTX14_WR_COUNT)

/-- CAM CONTEXT_SET (R103, R416). -/
def execCamContextSet (s : State) : Out := runCmd 0x1C01 s (fun q s =>
  if !s.contextDest q then (s, some (failReply stDenied)) else
  match s.contextBad q with
  | some i => (s, some (badParam i))
  | none =>
    let s := forN 15 (fun w s => s.wr (0x20091000 + 64 * q.w 0 + 4 * w) (word (q.w (w + 1)))) s
    (s.camApply (q.w 0), some (okReply [])))

/-- CAM EXPOSURE_SET (R440). -/
def execCamExposureSet (s : State) : Out := runCmd 0x1C02 s (fun q s =>
  let c := q.w 0
  match firstBad [(0, decide (c < 32)), (1, decide (q.w 1 < 65536)), (2, decide (10 ≤ q.w 2)), (3, decide (1 ≤ q.w 3 ∧ q.w 3 < 65536))] with
  | some i => (s, some (badParam i))
  | none =>
    if stagedHit q s 0x40 then (s, some (failReply stStaged))
    else if s.on CAM_EXP_CTRL_ARM c then (s, some (failReply stBusy))
    else
      let s := ((s.put CAM_EXP_EXPOSURE (q.w 2) c).put CAM_EXP_ID_SETTINGS_ID (q.w 1) c).put CAM_EXP_ID_GAIN (q.w 3) c
      let s := (s.set1 CAM_EXP_CTRL_ARM c).putP AFE_XSYNC_SETTINGS_ID (q.w 1) (camF (s.camWork c) CAM_CTX9_PIER)
      let t := if q.defer then 0 else s.key.tick + 1
      finishWrite q 0x40 s [t % 2 ^ 32, t / 2 ^ 32])

/-- CAM STATS_READ (R136, R441). -/
def execCamStatsRead (s : State) : Out := runCmd 0x1C03 s (fun q s =>
  match firstBad [(0, decide (q.w 0 < 32))] with
  | some i => (s, some (badParam i))
  | none =>
    if (s.camCtx (q.w 0)).seen then (s, some (okReply ((List.range 32).map (fun i => s.get CAM_STATS_WORD (q.w 0) i))))
    else (s, some (failReply stNotFound)))

end Sys2Proof.Machine
end

