-- ==== Sys2Proof/Machine/Trigger.lean ====
section
/-! DEFINITION. The time-trigger comparators (R92–R96) and changes of the network-time offset (R82, R83, R95). -/

namespace Sys2Proof.Machine

/-- The target of comparator `k`. -/
def State.ttTarget (s : State) (k : Nat) : Nat := s.get64 KEY_TT_TARGET_LO_TARGET KEY_TT_TARGET_HI_TARGET k

/-- Set the target of comparator `k`. -/
def State.putTarget (s : State) (k v : Nat) : State := s.put64 KEY_TT_TARGET_LO_TARGET KEY_TT_TARGET_HI_TARGET (v % 2 ^ 64) k

/-- The first value of `t`, `t + p`, … above `now` (R93, R95). -/
def pastNow (t p now : Nat) : Nat := if now < t ∨ p = 0 then t else t + ((now - t) / p + 1) * p

/-- A DEST and INDEX that R96 lists. -/
def ttDestOk (dest index : Nat) : Bool := match dest with
  | 0 => index == 0
  | 1 => index == 0
  | 2 => index ≤ 16
  | 3 => index ≤ 8
  | 4 => index == 0
  | 5 => index ≤ 3
  | _ => false

/-- The action of a comparator's destination (R96, R354); `aux` holds the auxiliary results, `phase` the phase of the
start in its tick. -/
def State.ttAction (s : State) (k phase : Nat) (aux : List Nat) : State :=
  let i := s.get KEY_TT_CTRL_INDEX k
  let s' := match s.get KEY_TT_CTRL_DEST k with
    | 1 => s.auxLatch aux
    | 2 => s.camTrigger i
    | 3 => s.slowStart (if i = 8 then 255 else 2 ^ i) (decide (phase < 272))
    | 4 => s.layerGo
    | 5 => s.strobeFire i
    | _ => s
  s'.xsyncLatch k

/-- Comparator `k` fires (R92–R95); `jumped`: because of an offset change. -/
def State.ttFire (s : State) (k phase : Nat) (aux : List Nat) (jumped : Bool) : State :=
  let t := s.ttTarget k
  let p := s.get KEY_TT_PERIOD_PERIOD k
  let s := (s.set1 KEY_TT_STATUS_FIRED k).put64 KEY_TT_FIRE_LO_TICK KEY_TT_FIRE_HI_TICK (s.key.tick % 2 ^ 64) k
  let s := if jumped then s.set1 KEY_TT_STATUS_JUMPED k else s
  let s := { s with key := { s.key with ttJump := setBit s.key.ttJump k false } }
  let s := if s.on KEY_TT_CTRL_PERIODIC k then s.putTarget k (if jumped then pastNow t p s.nt else t + p) else s.put KEY_TT_CTRL_EN 0 k
  s.ttAction k phase aux

/-- Comparator `k` is due: network time has reached or passed its target (R92). -/
def State.ttDue (s : State) (k : Nat) : Bool := s.on KEY_TT_CTRL_EN k && decide (s.ttTarget k ≤ s.nt)

/-- Comparators that an offset change has passed stay marked only while they are due (R95). -/
def State.ttUnjump (s : State) : State :=
  { s with key := { s.key with ttJump := forN 16 (fun k m => if s.ttDue k then m else setBit m k false) s.key.ttJump } }

/-- TRIGGER_FIRE (R92): after `adv` time-clock cycles, at phase `phase` of the tick; with ALIGN at a tick edge. -/
def execTriggerFire (k : Fin 16) (adv phase : Nat) (aux : List Nat) (s : State) : Out :=
  let s := s.advance adv
  .next (if s.ttDue k && (!s.on KEY_TT_CTRL_ALIGN k || phase == 0) then s.ttFire k phase aux (s.key.ttJump.testBit k) else s)

/-- A CTRL write sets EN (R93, R94). -/
def State.ttArm (s : State) (k : Nat) : State :=
  let t := s.ttTarget k
  if s.nt < t then s
  else if s.on KEY_TT_CTRL_PERIODIC k then (s.putTarget k (pastNow t (s.get KEY_TT_PERIOD_PERIOD k) s.nt)).set1 KEY_TT_STATUS_MISSED k
  else ((s.set1 KEY_TT_STATUS_MISSED k).put KEY_TT_CTRL_EN 0 k).fault 0 9 3 k

/-- A write of KEY_TT_CTRL_k (R93, R94, R96). On an armed comparator a write with EN = 1 sets IGNORED and nothing else, also
where its DEST or INDEX is reserved (log entry 59). -/
def State.ttCtrlWrite (s : State) (k : Nat) (v : Word) : State :=
  let en := v.toNat.testBit 31
  if s.on KEY_TT_CTRL_EN k && en then s.set1 KEY_TT_STATUS_IGNORED k
  else if !ttDestOk (wfield v 20 16) (wfield v 7 0) ∨ (en ∧ v.toNat.testBit 30 ∧ s.get KEY_TT_PERIOD_PERIOD k < 1000) then s.reservedFault 0
  else
    let s := s.wr (KEY_TT_CTRL_EN.addr k) (v &&& 0xE01F00FF#32)
    let s := { s with key := { s.key with ttJump := setBit s.key.ttJump k false } }
    if en then s.ttArm k else s

/-- TRIGGER_ARM (R93–R96). -/
def execTriggerArm (k : Fin 16) (v : Word) (adv : Nat) (s : State) : Out := .next ((s.advance adv).ttCtrlWrite k v)

/-- A write of TARGET or PERIOD is ignored while EN is 1 (R93). -/
def State.ttRegWrite (s : State) (k : Nat) (a : Nat) (v : Word) : State :=
  if s.on KEY_TT_CTRL_EN k then s.set1 KEY_TT_STATUS_IGNORED k else s.wr a v

/-! Offset changes (R82, R83, R95). -/

/-- Change the offset, or refuse the change; comparators that the jump passes fire: those with ALIGN at the next tick edge,
or at once where the offset comes into force at a tick edge (phase 0) (R82, R83, R95). -/
def State.ofsChange (s : State) (new phase : Nat) (aux : List Nat) : State :=
  if s.ofsRefused new then s.refuseOfs else
  let fwd := decide (0 < s.ofsDelta new)
  let due (k : Nat) : Bool := s.on KEY_TT_CTRL_EN k && !s.ttDue k
  let was := (List.range 16).filter due
  let s := s.acceptOfs new
  if !fwd then s.ttUnjump else
  was.foldl (fun s k => if !s.ttDue k then s
    else if s.on KEY_TT_CTRL_ALIGN k && phase != 0 then { s with key := { s.key with ttJump := setBit s.key.ttJump k true } }
    else s.ttFire k phase aux true) s

/-- OFS_HI_WRITE (R82): the new offset is formed and accepted or refused. -/
def execOfsHiWrite (v : Word) (adv phase : Nat) (aux : List Nat) (s : State) : Out :=
  let s := s.advance adv
  .next (s.ofsChange (v.toNat * 2 ^ 32 + s.key.ofsLoHeld) phase aux)

/-- At a tick edge, the comparators that are due with ALIGN fire, each once (R92, R95; log entry 59). -/
def State.ttEdge (s : State) (aux : List Nat) : State :=
  forN 16 (fun k s => if s.ttDue k && s.on KEY_TT_CTRL_ALIGN k then s.ttFire k 0 aux (s.key.ttJump.testBit k) else s) s

/-- Within the present tick, up to phase `phase` at FRC value `f`, the comparators without ALIGN that fall due fire, each as
often as it falls due (R92, R94); a tick holds at most 13 periods of 1,000 ns. -/
def State.ttTick (s : State) (f phase : Nat) (aux : List Nat) : State :=
  let now := s.key.frc
  let s := { s with key := { s.key with frc := f } }
  let s := forN 16 (fun k s => forN 13 (fun _ s =>
    if s.ttDue k && !s.on KEY_TT_CTRL_ALIGN k then s.ttFire k phase aux false else s) s) s
  { s with key := { s.key with frc := now } }

end Sys2Proof.Machine
end

