-- ==== Sys2Proof/Machine/Net.lean ====
section
/-! DEFINITION. Ethernet and precision time, NET (spec/18_network_time_host.md, R631–R644), and the TIME commands (R142). -/

namespace Sys2Proof.Machine

/-- The state of port `n`. -/
def State.port (s : State) (n : Nat) : PortSt := Tab.get {} s.net.ports n

/-- Set the state of port `n`. -/
def State.setPort (s : State) (n : Nat) (p : PortSt) : State := { s with net := { s.net with ports := Tab.put s.net.ports n p } }

/-- A 32-bit word of Nagus SRAM. -/
def State.sramWord (s : State) (a : Nat) : Nat := leNat (Memory.readBytes 0 s.sram a 4)

/-- Write bytes to Nagus SRAM at Nagus address `a`; bytes outside it go nowhere (R42). -/
def State.sramWrite (s : State) (a : Nat) (bs : List Byte) : State :=
  if 0x10000000 ≤ a ∧ a + bs.length ≤ 0x10100000 then { s with sram := Memory.writeBytes 0 s.sram a bs } else s.viaErr .decode 6 true a

/-- The next descriptor's index after `i` in a ring of `n`. -/
def ringNext (i n : Nat) : Nat := if i + 1 < n then i + 1 else 0

/-! Receive (R633–R635, R638). -/

/-- The six address bytes of port `n`. -/
def State.macAddr (s : State) (n : Nat) : List Byte := leBytes 2 (s.get NET_MAC_HI_MAC_HI n) ++ leBytes 4 (s.get NET_MAC_LO_MAC_LO n)

/-- The receive filter of R633; pause frames are discarded. -/
def State.ethAccepts (s : State) (n : Nat) (bs : List Byte) : Bool :=
  let d := bs.take 6
  (d == s.macAddr n || d == [0x01#8, 0x1B#8, 0x19#8, 0#8, 0#8, 0#8] || d == [0x01#8, 0x80#8, 0xC2#8, 0#8, 0#8, 0x0E#8] || d == List.replicate 6 0xFF#8) &&
    beNat ((bs.drop 12).take 2) != 0x8808

/-- A frame behind its addresses and 802.1Q tag: EtherType and what follows. -/
def ethBody (bs : List Byte) : Nat × List Byte :=
  let b := if beNat ((bs.drop 12).take 2) = 0x8100 then bs.drop 16 else bs.drop 12
  (beNat (b.take 2), b.drop 2)

/-- A UDP/IPv4 frame to port 319 or 320, its IPv4 header without options: the UDP payload (R636). -/
def udpPtp (b : List Byte) : Option (List Byte) :=
  if (b.getD 0 0).toNat = 0x45 ∧ (b.getD 9 0).toNat = 17 ∧ (beNat ((b.drop 22).take 2) = 319 ∨ beNat ((b.drop 22).take 2) = 320) then some (b.drop 28) else none

/-- A PTP frame that firmware 4.2 ignores and counts: one-step Sync, Pdelay messages, UDP/IPv4 (R638). -/
def ptpRejected (bs : List Byte) : Bool :=
  let (t, b) := ethBody bs
  if t = 0x88F7 then
    let m := (b.getD 0 0).toNat % 16
    (m == 0 && !((b.getD 6 0).toNat).testBit 1) || m == 2 || m == 3 || m == 10
  else t == 0x0800 && (udpPtp b).isSome

/-- The receive timestamp (R635). -/
def State.rxStamp (s : State) (n : Nat) : Nat :=
  ((s.ntFixed s.frcNow / 2 ^ 28 + 2 ^ 68 - s.get NET_LAT_INGRESS n) % 2 ^ 68) / 16

/-- A frame is written to the next receive descriptor (R634). -/
def State.rxWrite (s : State) (n : Nat) (bs : List Byte) (fcsOk : Bool) : State :=
  let d := s.get NET_RXR_BASE_RXR_BASE n + 16 * s.get NET_RXR_POS_POS n
  if !(s.sramWord d).testBit 31 then ((s.incSat NET_CNT_A_RX_NOBUF n).set1 NET_FLAGS_RX_NOBUF).fault 17 3 3 n else
  let t := s.rxStamp n
  let trunc := decide (1536 < bs.length)
  let d0 := 2 ^ 29 + (if fcsOk then 0 else 2 ^ 28) + (if trunc then 2 ^ 27 else 0) + min bs.length 0x7FF
  let s := s.sramWrite (s.sramWord (d + 4)) (bs.take 1536)
  let s := (s.sramWrite d (leBytes 4 d0)).sramWrite (d + 8) (leBytes 8 t)
  let s := (s.incSat NET_CNT_A_RX_FRAMES n).put NET_RXR_POS_POS (ringNext (s.get NET_RXR_POS_POS n) (s.get NET_RXR_SIZE_COUNT n)) n
  let s := if fcsOk then s else s.incSat NET_CNT_B_FCS_ERR n
  if fcsOk && ptpRejected bs then s.incSat NET_CNT_C_PTP_REJ n else s

/-- ETH_RX_FRAME (R633–R635, R638): a frame without its FCS, after `adv` time-clock cycles. -/
def execEthRxFrame (n : Fin 2) (bs : List Byte) (fcsOk : Bool) (adv : Nat) (s : State) : Out :=
  let s := s.advance adv
  .next (if s.bit NET_STATUS_LINK n && s.on NET_CTRL_EN n && s.ethAccepts n bs then s.rxWrite n bs fcsOk else s)

/-! Transmit (R634–R637). -/

/-- Show the head of the timestamp queue and its fill (R637). -/
def State.txtsShow (s : State) (n : Nat) : State :=
  let q := (s.port n).queue
  let s := s.put NET_TXTS_POP_FILL q.length n
  match q with
  | [] => s.wr (NET_TXTS_INFO_VALID.addr n) 0
  | e :: _ =>
    let s := (s.set1 NET_TXTS_INFO_VALID n).put NET_TXTS_INFO_NOTPTP (if e.notPtp then 1 else 0) n
    ((s.put NET_TXTS_INFO_MSGTYPE e.typ n).put NET_TXTS_INFO_SEQID e.seq n).put64 NET_TXTS_LO_T_LO NET_TXTS_HI_T_HI e.t n

/-- An entry for a transmitted frame (R636). -/
def txEntry (bs : List Byte) (t : Nat) : TxTs :=
  let (y, b) := ethBody bs
  let p := if y = 0x88F7 then some b else if y = 0x0800 then udpPtp b else none
  match p with
  | some h => { notPtp := false, typ := (h.getD 0 0).toNat % 16, seq := beNat ((h.drop 30).take 2), t := t }
  | none => { notPtp := true, typ := 0, seq := 0, t := t }

/-- An entry reaches the queue, or is dropped with fault 002h once per episode (R637). -/
def State.txtsPush (s : State) (n : Nat) (e : TxTs) : State :=
  let p := s.port n
  if p.queue.length < 8 then (s.setPort n { p with queue := p.queue ++ [e] }).txtsShow n
  else
    let s := ((s.setPort n { p with ovf := true }).incSat NET_CNT_C_TXTS_OVF n).set1 NET_FLAGS_TXTS_OVF
    if p.ovf then s else s.fault 17 2 3 n

/-- The transmit timestamp (R635). -/
def State.txStamp (s : State) (n : Nat) : Nat := (s.ntFixed s.frcNow / 2 ^ 28 + s.get NET_LAT_EGRESS n) / 16 % 2 ^ 64

/-- The frame of the next transmit descriptor has been sent, or has failed, as with a buffer outside the Nagus SRAM (R41,
R634, R636). -/
def State.txDone (s : State) (n : Nat) (ok : Bool) : State :=
  let d := s.get NET_TXR_BASE_TXR_BASE n + 16 * s.get NET_TXR_POS_POS n
  let d0 := s.sramWord d
  if !d0.testBit 31 then s.setPort n { s.port n with stop := true } else
  let buf := s.sramWord (d + 4)
  let held := decide (0x10000000 ≤ buf ∧ buf + d0 % 2048 ≤ 0x10100000)
  let s := if held then s else s.viaErr .decode 6 false buf
  let ok := ok && held
  let bs := Memory.readBytes 0 s.sram buf (d0 % 2048)
  let s := if d0.testBit 30 && ok then s.txtsPush n (txEntry bs (s.txStamp n)) else s
  let s := s.sramWrite d (leBytes 4 (d0 % 2 ^ 28 + 2 ^ 29 + (if d0.testBit 30 then 2 ^ 30 else 0) + (if ok then 0 else 2 ^ 28)))
  (if ok then s.incSat NET_CNT_B_TX_FRAMES n else s).put NET_TXR_POS_POS (ringNext (s.get NET_TXR_POS_POS n) (s.get NET_TXR_SIZE_COUNT n)) n

/-- ETH_TX_FRAME (R634–R636). -/
def execEthTxFrame (n : Fin 2) (ok : Bool) (adv : Nat) (s : State) : Out :=
  let s := s.advance adv
  .next (if s.bit NET_STATUS_LINK n && s.on NET_CTRL_EN n && !(s.port n).stop then s.txDone n ok else s)

/-- TX_KICK (R634). -/
def execTxKick (n : Fin 2) (v : Word) (s : State) : Out :=
  .next (if v.toNat % 2 = 1 then s.setPort n { s.port n with stop := false } else s)

/-- TXTS_POP (R637): the head entry is removed; an empty queue ends the overflow episode. -/
def execTxtsPop (n : Fin 2) (v : Word) (s : State) : Out :=
  .next (if !v.toNat.testBit 31 then s else
    match (s.port n).queue with
    | [] => s
    | _ :: q => (s.setPort n { s.port n with queue := q, ovf := (s.port n).ovf && !q.isEmpty }).txtsShow n)

/-! Management and link (R633). -/

/-- MDIO_FRAME (R633): a write of NET_MDIO; OP 0 and 3 are reserved. -/
def execMdioFrame (v : Word) (s : State) : Out :=
  let op := wfield v 29 28
  .next (if s.on NET_MDIO_BUSY then s
    else if op = 0 ∨ op = 3 then s.reservedFault 17
    else
      let s := ((s.put NET_MDIO_OP op).put NET_MDIO_PHY (wfield v 25 21)).put NET_MDIO_REG (wfield v 20 16)
      let s := s.put NET_MDIO_DATA (wfield v 15 0)
      if v.toNat.testBit 31 then s.set1 NET_MDIO_BUSY else s)

/-- MDIO_DONE (R633): the data bits on the wire, and whether a PHY answered. -/
def execMdioDone (data : BitVec 16) (answered : Bool) (s : State) : Out :=
  .next (if !s.on NET_MDIO_BUSY then s else
    let s := s.put NET_MDIO_BUSY 0
    let s := if s.get NET_MDIO_OP = 2 then s.put NET_MDIO_DATA data.toNat else s
    if answered then s else s.set1 NET_FLAGS_MDIO_ERR)

/-- ETH_LINK_CHANGE (R633): the link at 1,000 Mbit/s full duplex comes up or is lost. -/
def execEthLinkChange (n : Fin 2) (up : Bool) (s : State) : Out :=
  .next (if s.bit NET_STATUS_LINK n = up then s
    else if up then s.putBit NET_STATUS_LINK n true
    else ((s.putBit NET_STATUS_LINK n false).set1 NET_FLAGS_LINK_LOST).fault 17 1 3 n)

/-! The servo (R638–R642). -/

/-- Servo states (R639). -/
def ptpFree : Nat := 0
def ptpQualify : Nat := 1
def ptpLocked : Nat := 2
def ptpHoldover : Nat := 3

/-- Lexicographic order of data sets: the better comes first. -/
def dsLt : List Nat → List Nat → Bool
  | [], [] => false
  | [], _ => true
  | _, [] => false
  | a :: s, b :: t => a < b || (a == b && dsLt s t)

/-- Select a time transmitter on port `n`; a new identity, or none in use, enters QUALIFY (R641). -/
def State.ptpSelect (s : State) (n : Nat) (ds : List Nat) (qualify : Bool) : State :=
  let s := ({ s with net := { s.net with tx := some ds } }).put NET_PTP_PORT n
  if qualify then ({ s with net := { s.net with offs := [] } }).put NET_PTP_STATE ptpQualify else s

/-- PTP_ANNOUNCE (R638, R641, R642): a qualified Announce on port `n` with its data set, best first, identity last. -/
def execPtpAnnounce (n : Fin 2) (ds : List Nat) (s : State) : Out :=
  .next (match s.net.tx with
    | none => s.ptpSelect n ds true
    | some cur =>
      let same := ds.getLast? == cur.getLast?
      if s.get NET_PTP_STATE = ptpHoldover then s.ptpSelect n ds true
      else if same then (if n.val = s.get NET_PTP_PORT || dsLt ds cur then s.ptpSelect n ds false else s)
      else if dsLt ds cur then s.ptpSelect n ds true else s)

/-- PTP_ANNOUNCE_TIMEOUT (R642): three announce intervals without an Announce of the selected time transmitter. -/
def execPtpAnnounceTimeout (s : State) : Out :=
  .next (if s.get NET_PTP_STATE = ptpQualify ∨ s.get NET_PTP_STATE = ptpLocked then
    ({ s with net := { s.net with offs := [] } }.put NET_PTP_STATE ptpHoldover).fault 17 4 2 (s.get NET_PTP_PORT)
  else s)

/-- The increment firmware's servo chooses in LOCKED: a free value within 1.0 ± 0.0005 (R640). -/
def State.servoInc (s : State) : State :=
  let (v, s) := s.fresh
  s.applyInc (2 ^ 32 - 2147483 + v % (2 * 2147483 + 1))

/-- Eight offsets have been collected in QUALIFY (R641). -/
def State.ptpQualified (s : State) (offs : List Int) (phase : Nat) (aux : List Nat) : State :=
  let sum := offs.foldl (· + ·) 0
  if !offs.all (fun o => decide ((8 * o - sum).natAbs ≤ 800)) then { s with net := { s.net with offs := [] } } else
  let th := sum.tdiv 8
  let s := { s with net := { s.net with offs := [] } }
  let s := if th.natAbs ≤ s.get KEY_JUMP_LIMIT_LIMIT then s
    else
      let s := s.set1 KEY_TIME_CTRL_JUMP_ARM
      (s.ofsChange (ofSigned 64 (toSigned 64 s.key.ofs - th)) phase aux).fault 17 6 3 (s.get NET_PTP_PORT) none (some (ofSigned 32 th))
  s.put NET_PTP_STATE ptpLocked

/-- PTP_SYNC_EXCHANGE (R638, R640, R641): the four times of a Sync and Delay exchange with the selected time
transmitter; a step happens at phase `phase`, with `aux` as in TRIGGER_FIRE. -/
def execPtpSyncExchange (t1 t2 t3 t4 : Nat) (phase : Nat) (aux : List Nat) (s : State) : Out :=
  let d1 : Int := (t2 : Int) - t1
  let d2 : Int := (t4 : Int) - t3
  let ofs := d1 - (d1 + d2).tdiv 2
  .next (if s.get NET_PTP_STATE = ptpLocked then s.servoInc
    else if s.get NET_PTP_STATE = ptpQualify then
      let offs := s.net.offs ++ [ofs]
      if offs.length < 8 then { s with net := { s.net with offs := offs } } else s.ptpQualified offs phase aux
    else s)

/-! The TIME commands (R142, R643). -/

/-- TIME READ (R84, R142). -/
def execTimeRead (s : State) : Out := runCmd 0x3400 s (fun _ s =>
  let s := s.snap
  (s, some (okReply ((List.range 6).map (fun i => s.get KEY_SNAP_CAP_VAL i)))))

/-- The servo steers the clock (R643). -/
def State.steered (s : State) : Bool := s.get NET_PTP_STATE == ptpQualify || s.get NET_PTP_STATE == ptpLocked

/-- TIME INC_SET (R81, R142, R643). -/
def execTimeIncSet (s : State) : Out := runCmd 0x3401 s (fun q s =>
  let inc := q.w 1 * 2 ^ 32 + q.w 0
  match firstBad [(0, decide (!(q.w 1 = 0 ∧ q.w 0 < 0xC0000000) ∧ !(q.w 1 = 1 ∧ 0x40000000 < q.w 0))), (1, decide (q.w 1 < 2))] with
  | some i => (s, some (badParam i))
  | none => if s.steered then (s, some (failReply stBusy)) else (({ s with key := { s.key with fracHeld := q.w 0 } }).applyInc inc, some okReply))

/-- TIME OFS_SET (R82, R142, R643); firmware's write comes into force at phase 399 of the present tick (log entry 60). -/
def execTimeOfsSet (aux : List Nat) (s : State) : Out := runCmd 0x3402 s (fun q s =>
  match firstBad [(2, decide (q.w 2 < 2))] with
  | some i => (s, some (badParam i))
  | none =>
    if s.steered then (s, some (failReply stBusy)) else
    let s := { (if q.w 2 = 1 then s.set1 KEY_TIME_CTRL_JUMP_ARM else s) with key := { s.key with ofsLoHeld := q.w 0 } }
    let refused := s.ofsRefused (q.w64 0)
    let beyond := decide (s.get KEY_JUMP_LIMIT_LIMIT < (s.ofsDelta (q.w64 0)).natAbs)
    (s.ofsChange (q.w64 0) 399 aux, some (if refused then failReply stDenied else okReply [if beyond then 1 else 0])))

/-- TIME DISC_SET (R58, R142, R773): the reply waits for the capture of group 0. -/
def execTimeDiscSet (s : State) : Out := runCmd 0x3403 s (fun q s =>
  match firstBad [(0, decide (q.w 0 ≤ 4)), (1, decide (q.w 1 ≤ 2)), (4, decide (q.w 4 < 256)), (5, decide (q.w 5 < 2))] with
  | some i => (s, some (badParam i))
  | none =>
    if stagedHit q s 1 then (s, some (failReply stStaged)) else
    let s := (s.putP KEY_CTRL_PERIOD (q.w 0)).putP KEY_CTRL_DISC_MODE (q.w 1)
    let s := ((s.putP KEY_DISC_ANCHOR_LO_ANCHOR_LO (q.w 2)).putP KEY_DISC_ANCHOR_HI_ANCHOR_HI (q.w 3)).putP KEY_WIRE_COMP_COMP (q.w 4)
    let s := s.tickOutEn (q.w 5 == 1)
    match finishWrite q 1 s with
    | (s, some r) => if q.defer then (s, some r) else ({ s with mbx := { s.mbx with waitKey := some (q.m, r) } }, none)
    | (s, none) => (s, none))

/-- TIME TRIGGER_SET (R93–R96, R142): writes of TARGET, PERIOD and CTRL, which an armed comparator ignores under R93. -/
def execTimeTriggerSet (s : State) : Out := runCmd 0x3404 s (fun q s =>
  let k := q.w 0
  let v := word (q.w 4)
  let small := v.toNat.testBit 31 && v.toNat.testBit 30 && decide (q.w 3 < 1000)
  match firstBad [(0, decide (k < 16)), (3, !small), (4, v &&& 0x1FE0FF00#32 == 0 && ttDestOk (wfield v 20 16) (wfield v 7 0))] with
  | some i => (s, some (badParam i))
  | none =>
    if 12 ≤ k then (s, some (failReply stDenied)) else
    let s := if s.on KEY_TT_CTRL_EN k then s.set1 KEY_TT_STATUS_IGNORED k else (s.putTarget k (q.w64 1)).put KEY_TT_PERIOD_PERIOD (q.w 3) k
    (s.ttCtrlWrite k v, some okReply))

end Sys2Proof.Machine
end

