-- ==== Sys2Proof/Machine/Sys.lean ====
section
/-! DEFINITION. The mailbox commands of groups SYS and JOB, and the ring commands of SCN and SPAN
(spec/03_nagus_mailboxes.md R129–R131, R133; spec/19_security_modes_debug.md R668–R678; R732, R740, R775). -/

namespace Sys2Proof.Machine

/-! SYS (R129). -/

/-- SYS NOP. -/
def execSysNop (s : State) : Out := runCmd 0x0000 s (fun _ s => (s, some okReply))

/-- SYS INFO: in recovery no firmware runs, and p1 is a free value. -/
def execSysInfo (s : State) : Out := runCmd 0x0001 s (fun _ s =>
  let (v, s) := if s.mbx.recovery then s.fresh else (s.fw.version, s)
  let slot := s.get SEC_SLOT_SLOT
  let conf := if s.on SEC_STATUS_MEAS_DONE && s.slotConfirmed slot then 512 else 0
  (s, some (okReply [0x0402, v, s.mode + 16 * s.lifecycle + 64 * s.debug + 256 * slot + conf, s.key.tick % 2 ^ 32, s.key.tick / 2 ^ 32])))

/-- The targets SYS MODE accepts from a mode (R672). -/
def modeTargets (m : Nat) : List Nat := match m with
  | 2 => [0, 3, 5, 6]
  | 3 => [2, 4, 5, 6]
  | 4 => [3, 5]
  | 6 => [2, 3, 5, 6]
  | _ => []

/-- MODE_ALLOW that a mode with LASERS gives (R672). -/
def allowOf (m : Nat) (lasers : Bool) : Bool := m == 4 || (m == 6 && lasers)

/-- Some pier is in RUN or SYNC. -/
def State.anyRun (s : State) : Bool := (List.range 16).any (fun p => s.pierState p == psRun || s.pierState p == psSync)

/-- R604 refuses the target. -/
def State.tooHot (s : State) (m : Nat) : Bool :=
  s.thm.after && (m == 3 || m == 4 || m == 6) && decide (s.getS THM_THRESH_B_SHUT - s.getS THM_THRESH_B_HYST ≤ s.getS THM_STATUS_TMAX)

/-- SYS MODE (R673–R675, R678). -/
def execSysMode (s : State) : Out := runCmd 0x0002 s (fun q s =>
  let m := q.w 0 % 16
  let l := (q.w 0).testBit 8
  if q.w 0 / 16 % 16 ≠ 0 ∨ q.w 0 / 512 ≠ 0 ∨ 7 < m then (s, some (badParam 0))
  else if l ∧ m ≠ 6 then (s, some (badParam (atByte 1)))
  else if !(modeTargets s.mode).contains m then (s, some (failReply stBadState))
  else if m = 4 ∧ s.job.st ≠ 2 then (s, some (failReply stBadState))
  else if s.modeRefused m l then (s.fault 19 4 3, some (failReply stDenied))
  else if s.modeAllow && !allowOf m l && m ≠ 5 && s.anyRun then (s, some (failReply stBadState))
  else if s.tooHot m then (s, some (failReply stBadState))
  else if m = 0 then ({ s with flu := { s.flu with flushing := true }, vlt := { s.vlt with sleep := true } }, some (okReply [0]))
  else
    let s := (s.modeWrite m l).1
    (s, some (okReply [s.mode])))

/-- The cause of an F1 fault persists (R740): its code and unit. -/
def State.persists (s : State) (code unit : Nat) : Bool :=
  if (0x0801 ≤ code ∧ code ≤ 0x0806) ∨ code = 0x1001 ∨ code = 0x1002 ∨ code = 0x1009 then s.pierState unit == psFault
  else if code = 0x1403 ∨ code = 0x1412 then s.linkState unit != lsUp
  else if code = 0x1405 then (s.get PLK_UL_STATUS_STATUS unit).testBit 14
  else if code = 0x1801 then s.bit LSR_IN_A_ALARM unit
  else if code = 0x1805 then !s.permit
  else if code = 0x1806 then s.on LSR_PERMIT_DISCREP
  else if code = 0x1C07 then !s.on AFE_STATUS_HEARTH_OK
  else if code = 0x2801 ∨ code = 0x2802 ∨ code = 0x2808 then s.axState unit == axFault
  else if code = 0x3C06 then s.thm.low
  else false

/-- The mode SYS RESUME enters (R676, R721). -/
def State.resumeMode (s : State) : Nat :=
  let r := s.get SEC_MODE_RET
  if r = 4 ∧ (s.job.st ≠ 2 ∨ s.on FLU_STATUS_SEALED_FULL) then 3 else r

/-- SYS RESUME (R18, R676, R685, R740). -/
def execSysResume (s : State) : Out := runCmd 0x0003 s (fun _ s =>
  if s.mode ≠ 5 then (s, some (failReply stBadState))
  else match s.causes.find? (fun c => s.persists c.1 c.2) with
    | some c => (s, some (failReply stHwFault c.1))
    | none =>
      let s := (({ s with causes := [] }).enterMode s.resumeMode).debugInBuild
      (s, some (okReply [s.mode])))

/-- The groups are no longer staged (R121). -/
def State.unstage (s : State) (g : Nat) : State := { s with mbx := { s.mbx with staged := s.mbx.staged &&& (1023 - g) } }

/-- The lowest free scheduled slot (R129). -/
def State.freeSlot (s : State) : Option Nat := (List.range 8).find? (fun k => !s.on KEY_SCHED_CTRL_ARM k)

/-- SYS COMMIT (R58, R68, R73, R74, R123): with group 0 and no target tick the reply waits for the capture. -/
def execSysCommit (s : State) : Out := runCmd 0x0004 s (fun q s =>
  let g := q.w 0
  let t := q.w64 1
  if g = 0 ∨ 1023 < g then (s, some (badParam 0))
  else if t = 0 then
    let s := (s.unstage g).requestCommit g
    let n := s.key.tick + 1
    let r := okReply [n % 2 ^ 32, n / 2 ^ 32]
    if g.testBit 0 then ({ s with mbx := { s.mbx with waitKey := some (q.m, r) } }, none) else (s, some r)
  else match s.freeSlot with
    | none => (s, some (failReply stNoSpace))
    | some k =>
      let s := ((s.unstage g).put64 KEY_SCHED_TICK_LO_TICK_LO KEY_SCHED_TICK_HI_TICK_HI t k).schedArm k g 0
      (s, some (if s.on KEY_SCHED_CTRL_ARM k then okReply [q.w 1, q.w 2] else failReply stCommitRefused 7)))

/-- SYS DISCARD. -/
def execSysDiscard (s : State) : Out := runCmd 0x0005 s (fun q s =>
  if 1023 < q.w 0 then (s, some (badParam 0)) else ((s.unstage (q.w 0)).discard (q.w 0), some okReply))

/-- SYS RESET: the reset follows 1 ms after the reply. -/
def execSysReset (s : State) : Out := runCmd 0x0006 s (fun q s =>
  if q.w 0 ≠ 1 then (s, some (badParam 0)) else ({ s with mbx := { s.mbx with resetPend := true } }, some okReply))

/-- SYS ACTION_STATUS (R117): the latest action with the tag; p1 is 0 unless it has finished (log entry 60). -/
def execSysActionStatus (s : State) : Out := runCmd 0x0007 s (fun q s =>
  reader [(0, decide (q.w 0 < 65536))] s (fun s =>
    match s.mbx.actions.reverse.find? (fun a => a.tag == q.w 0) with
    | none => okReply [0, 0]
    | some a => if a.finished then okReply [2, a.status] else okReply [1, 0]))

/-- End what a long action drives, and the action, with ABORTED (R118). -/
def State.stopAction (s : State) (a : Action) : State :=
  let s := if a.op = 0x0403 then { s with job := { s.job with st := if s.job.st = 3 then 2 else s.job.st } }
    else if a.op = 0x2001 ∨ a.op = 0x2002 then s.axQueue a.arg { op := 3 }
    else if a.op = 0x3000 then
      (if a.arg = 1 ∨ a.arg = 4 then s.calEnd
      else if a.arg = 2 then ({ s with cal := { s.cal with swp := none } }).put CAL_STATUS_SWP_BUSY 0
      else if a.arg = 3 then ((s.put CAL_STATUS_LT_BUSY 0).litIeff (a.arg2 % 65536)).litSettle
      else s)
    else if a.op = 0x3003 then { s with cal := { s.cal with store := none } }
    else if a.op = 0x3803 then { s with fw := { s.fw with write := none } }
    else s
  s.endActions (fun b => b == a) stAborted

/-- SYS ACTION_STOP (R118, R129). -/
def execSysActionStop (s : State) : Out := runCmd 0x0008 s (fun q s =>
  if 65535 < q.w 0 then (s, some (badParam 0))
  else match s.unfinished.find? (fun a => a.tag == q.w 0) with
    | none => (s, some (failReply stNotFound))
    | some a => (s.stopAction a, some okReply))

/-! Permission windows (R103, R732, R775). -/

/-- A power of two from 2 ^ lo to 2 ^ hi. -/
def pow2In (n lo hi : Nat) : Bool := n == 2 ^ Nat.log2 n && decide (lo ≤ Nat.log2 n ∧ Nat.log2 n ≤ hi)

/-- Open a window over [a, a + n), or find the enabled one that covers it (R732): its index, or the status. -/
def State.openWindow (s : State) (a n use : Nat) (w : Bool) : Sum Nat Nat × State :=
  match (List.range 16).find? (s.winCovers a n w) with
  | some k => (.inl k, s)
  | none => match (List.range 16).find? (fun k => !s.on PCI_WIN_CTRL_EN k) with
    | none => (.inr stNoSpace, s)
    | some k =>
      if !s.rangeAllowed a n then (.inr stDenied, s) else
      let s := ((s.put PCI_WIN_BASE_LO_BASE_LO (a / 4096 % 2 ^ 20) k).put PCI_WIN_BASE_HI_BASE_HI (a / 2 ^ 32) k).put PCI_WIN_SIZE_LOG2 (Nat.log2 n) k
      (.inl k, ((s.put PCI_WIN_CTRL_WRITE (if w then 1 else 0) k).put PCI_WIN_CTRL_USE use k).set1 PCI_WIN_CTRL_EN k)

/-- A base a ring or a window may have: a multiple of 4 KiB, 40 bits. -/
def baseOk (a : Nat) : Bool := a % 4096 == 0 && decide (a < 2 ^ 40)

/-- SYS WINDOW_OPEN. -/
def execSysWindowOpen (s : State) : Out := runCmd 0x0009 s (fun q s =>
  match firstBad [(0, baseOk (q.addr 0)), (2, pow2In (q.w 2) 12 36), (3, decide (q.w 3 < 2))] with
  | some i => (s, some (badParam i))
  | none => match s.openWindow (q.addr 0) (q.w 2) 0 (q.w 3 == 1) with
    | (.inl k, s) => (s, some (okReply [k]))
    | (.inr st, s) => (s, some (failReply st)))

/-- Two ranges share a byte. -/
def overlaps (a n b m : Nat) : Bool := decide (a < b + m ∧ b < a + n)

/-- An active ring lies in part inside [a, a + n) (R775). -/
def State.ringInside (s : State) (a n : Nat) : Bool :=
  (List.range 16).any (fun p => s.pierState p != psOff && overlaps a n (s.ringBase p) (2 ^ (12 + s.get SCN_RING_SIZE_SIZE p))) ||
  (s.on SPN_PATCH_CTRL_EN && overlaps a n (s.get SPN_PATCH_BASE_LO_BASE_LO * 4096 + s.get SPN_PATCH_BASE_HI_BASE_HI * 2 ^ 32) (2 ^ (12 + s.get SPN_PATCH_SIZE_SIZE))) ||
  (s.on CAM_DLOG_CTRL_EN && overlaps a n (s.get CAM_DLOG_BASE_LO_BASE_LO * 4096 + s.get CAM_DLOG_BASE_HI_BASE_HI * 2 ^ 32) (2 ^ (12 + s.get CAM_DLOG_SIZE_SIZE)))

/-- SYS WINDOW_CLOSE. -/
def execSysWindowClose (s : State) : Out := runCmd 0x000A s (fun q s =>
  let k := q.w 0
  if 15 < k then (s, some (badParam 0))
  else if !s.on PCI_WIN_CTRL_EN k then (s, some (failReply stNotFound))
  else if s.ringInside (s.winBase k) (s.winSize k) then (s, some (failReply stBusy))
  else (s.put PCI_WIN_CTRL_EN 0 k, some okReply))

/-- SCN RING_SET (R131, R152, R201). -/
def execScnRingSet (s : State) : Out := runCmd 0x0800 s (fun q s =>
  let p := q.w 0
  match firstBad [(0, decide (p < 16)), (1, baseOk (q.addr 1)), (3, pow2In (q.w 3) 12 28), (4, decide (1 ≤ q.w 4 ∧ q.w 4 + 1 ≤ q.w 3 / 32))] with
  | some i => (s, some (badParam i))
  | none =>
    if psIdle < s.pierState p then (s, some (failReply stBusy))
    else match s.openWindow (q.addr 1) (q.w 3) 1 true with
      | (.inl k, s) =>
        let s := ((s.put SCN_RING_BASE_LO_BASE_LO (q.addr 1 / 4096 % 2 ^ 20) p).put SCN_RING_BASE_HI_BASE_HI (q.addr 1 / 2 ^ 32) p).put SCN_RING_SIZE_SIZE
          (Nat.log2 (q.w 3) - 12) p
        let s := s.put SCN_RING_LWM_LWM (q.w 4) p
        (s.setPier p { s.pier p with lwm := decide (q.w 4 ≤ s.ringFill p) }, some (okReply [k]))
      | (.inr st, s) => (s, some (failReply st)))

/-- SPAN PATCH_RING (R133, R255, R263): the writer is disabled while the ring is moved, and enabled again. -/
def execSpanPatchRing (s : State) : Out := runCmd 0x1002 s (fun q s =>
  match firstBad [(0, baseOk (q.addr 0)), (2, pow2In (q.w 2) 12 24), (3, decide (1 ≤ q.w 3 ∧ q.w 3 ≤ q.w 2 / 32))] with
  | some i => (s, some (badParam i))
  | none => match s.openWindow (q.addr 0) (q.w 2) 2 true with
    | (.inl k, s) =>
      let s := s.patchOff
      let s := ((s.put SPN_PATCH_BASE_LO_BASE_LO (q.addr 0 / 4096 % 2 ^ 20)).put SPN_PATCH_BASE_HI_BASE_HI (q.addr 0 / 2 ^ 32)).put SPN_PATCH_SIZE_SIZE
        (Nat.log2 (q.w 2) - 12)
      ((s.put SPN_PATCH_THRESH_THRESH (q.w 3)).patchOn, some (okReply [k]))
    | (.inr st, s) => (s, some (failReply st)))

/-! JOB (R130, R392, R393, R668–R671). -/

/-- The pending image of slot `k`. -/
def State.slotPending (s : State) (k : Nat) : Nat := if k < 16 then s.getP LOP_FCTRL_IMAGE k else s.getP LOP_SCTRL_IMAGE (k - 16)

/-- An image from 48 to 62 is in force or pending for slot `k` (R393). -/
def State.jobImage (s : State) (k : Nat) : Bool :=
  let j (i : Nat) : Bool := decide (48 ≤ i ∧ i ≤ 62)
  j (s.slotImage k) || j (s.slotPending k)

/-- Load the images of a manifest from image 48 on (R392); false where one fails its check. -/
def State.loadImages (s : State) : Nat → List (List Byte) → State × Bool
  | _, [] => (s, true)
  | i, b :: t =>
    let n := b.length / 16
    match (s.imageWrite i 0 (bytesWords b (4 * n))).imageCheck i n 0 with
    | (0, _, s) => s.loadImages (i + 1) t
    | (_, _, s) => (s, false)

/-- The job-open record (R704). -/
def State.jobOpenRecord (s : State) (m : Manifest) : State :=
  let d := s.getBytes SEC_MEAS_JOB_BYTES 12
  let part (b : List Byte) : Rec := { sev := 4, code := 0x5101, payload := b }
  let f := (if m.signed then 1 else 0) + (if s.debug ≠ 0 then 2 else 0)
  s.enterRecs ([part (leBytes 4 m.id ++ leBytes 3 m.layers ++ [byte f] ++ leBytes 4 0)] ++ (List.range 4).map (fun i => part ((d.drop (12 * i)).take 12)))

/-- JOB OPEN. -/
def execJobOpen (s : State) : Out := runCmd 0x0400 s (fun q s =>
  let per := s.get KEY_CTRL_PERIOD
  if !s.rangeAllowed (q.addr 1) (q.w 3) then (s, some (failReply stDenied)) else
  match firstBad [(3, decide (64 ≤ q.w 3 ∧ q.w 3 ≤ 65536))] with
  | some i => (s, some (badParam i))
  | none =>
    if s.job.st ≠ 0 ∨ (List.range 24).any s.jobImage = true then (s, some (failReply stBusy))
    else match s.jobCheck (q.addr 1) (q.w 3) (some (q.w 0)) with
      | (s, none) => (s, some (failReply stDenied))
      | (s, some m) =>
        if m.period ≠ per then (s.measClear, some (badParam 1))
        else match s.loadImages 48 m.images with
          | (s, false) => (s.measClear, some (badParam 1))
          | (s, true) =>
            let s := { s with job := { st := 1, id := m.id, layers := m.layers, piers := m.piers } }
            (s.jobOpenRecord m, some (okReply [m.layers, m.piers])))

/-- JOB START (R120, R130, R673, R685). -/
def execJobStart (s : State) : Out := runCmd 0x0401 s (fun q s =>
  if 0xFFFFF < q.w 0 then (s, some (badParam 0))
  else if s.mode ≠ 3 ∨ s.job.st ≠ 1 then (s, some (failReply stBadState))
  else if s.modeRefused 4 false then (s.fault 19 4 3, some (failReply stDenied))
  else
    let s := { s.layerSet (q.w 0) with job := { s.job with st := 2 } }
    (s.takeMode 4 false, some okReply))

/-- JOB STATUS. -/
def execJobStatus (s : State) : Out := runCmd 0x0402 s (fun _ s =>
  reader [] s (fun s => okReply [s.job.st, s.get SCN_LAYER_LAYER, s.get SCN_STATUS_LAYER_DONE &&& s.job.piers]))

/-- Pier `p` has stopped for JOB STOP: it executes nothing, or is in HALT at rest. -/
def State.pierStopped (s : State) (p : Nat) : Bool :=
  let st := s.pierState p
  st == psOff || st == psIdle || st == psDone || st == psFault || (st == psHalt && !(s.pier p).byStop && (s.pier p).stop == 0 && (s.pier p).atRest)

/-- The end of JOB STOP (R676). -/
def State.jobEnd (s : State) : State :=
  let s := ({ s with job := { s.job with st := 4 } }).endActions (fun a => a.op == 0x0403) stOk
  if s.mode = 4 then s.takeMode 3 false
  else if s.mode = 5 ∧ s.get SEC_MODE_RET = 4 then s.put SEC_MODE_RET 3 else s

/-- Firmware looks after JOB STOP: piers past their layer stop; when every pier of the job has stopped, it ends. -/
def State.jobPoll (s : State) : State :=
  if s.job.st ≠ 3 || s.halted then s else
  let s := forPiers s.job.piers (fun p s => if s.pierState p = psLayerWait then s.stopPier p else s) s
  if (piersOf s.job.piers).all s.pierStopped then s.jobEnd else s

/-- JOB STOP (R130, R676). -/
def execJobStop (s : State) : Out := runCmd 0x0403 s (fun q s =>
  if 1 < q.w 0 then (s, some (badParam 0))
  else if s.noPlace then (s, some (failReply stNoSpace))
  else if s.job.st ≠ 2 then (s, some (failReply stBadState))
  else
    let s := { s.startAction q with job := { s.job with st := 3, stopNow := q.w 0 = 1, ended1 := q.w 0 = 1 } }
    let s := if q.w 0 = 1 then
        forPiers s.job.piers (fun p s => if psLayerWait ≤ s.pierState p ∧ s.pierState p ≤ psSync then s.stopPier p else s) s
      else s
    (s.jobPoll, some okReply))

/-- The images of the job leave every fast slot, and group 7 is committed (R393). -/
def State.dropJobImages (s : State) : State :=
  (forN 16 (fun k s => if s.jobImage k then s.putImage k (s.slot k).prog else s) s).requestCommit 0x80

/-- JOB CLOSE (R122, R130, R393, R670, R704): the sequence of a record that a sealed-full Flue drops is a free value. -/
def execJobClose (s : State) : Out := runCmd 0x0404 s (fun _ s =>
  if s.mbx.staged.testBit 7 then (s, some (failReply stStaged))
  else if s.job.st = 0 ∨ s.job.st = 2 ∨ s.job.st = 3 then (s, some (failReply stBadState))
  else
    let s := s.dropJobImages
    let n := s.flu.seqNext
    let f := (if s.job.dbg then 1 else 0) + (if s.job.ended1 then 2 else 0) + (if s.job.incomplete then 4 else 0)
    let s := s.enterRecs [{ sev := 4, code := 0x5102, payload := leBytes 4 s.job.id ++ leBytes 3 (s.get SCN_LAYER_LAYER) ++ [byte f] ++ leBytes 4 s.job.f1 }]
    let (n, s) := if s.flu.seqNext = n then (s.fresh.1 % 2 ^ 48, s.fresh.2) else (n, s)
    let s := { s.measClear with job := {} }
    (s, some (okReply [n % 2 ^ 32, n / 2 ^ 32])))

end Sys2Proof.Machine
end

