-- ==== Sys2Proof/Machine/Commit.lean ====
section
/-! DEFINITION. Commit: the capture at φ380, the transfer at a tick edge and what it changes in each block, scheduled
commits (R58, R67–R75). -/

namespace Sys2Proof.Machine

/-- Take the capture of φ380 (R69). Slots whose IMAGE Nagus wrote are marked anew only after a capture of group 7. -/
def State.capture (s : State) (groups : Nat) : State :=
  let arms := forN 32 (fun c m => if s.on CAM_EXP_CTRL_ARM c && !s.cam.late.testBit c then m + 2 ^ c else m) 0
  let swaps := forN 16 (fun p m => if s.get COR_BANK_SWAP_PEND p = 2 then m + 2 ^ p else m) 0
  let s := { s with key := { s.key with capt := { pend := s.pend, images := s.lop.nagus, arms := arms, swaps := swaps } } }
  let s := s.put KEY_COMMIT_STATUS_DIRTY (forN 10 (fun g m => if groups.testBit g then setBit m g false else m) (s.get KEY_COMMIT_STATUS_DIRTY))
  if groups.testBit 7 then { s with lop := { s.lop with nagus := 0 } } else s

/-- Group 0 has come into force: PERIOD_IF and DISC_MODE_IF follow, and a new PERIOD retrains the links (R300). -/
def State.keyCommit (s o : State) : State :=
  let s := (s.put KEY_STATUS_PERIOD_IF (s.get KEY_CTRL_PERIOD)).put KEY_STATUS_DISC_MODE_IF (s.get KEY_CTRL_DISC_MODE)
  let s := if s.get KEY_CTRL_DISC_MODE = o.get KEY_CTRL_DISC_MODE then s else
    { s with key := { s.key with
        lockRun := 0, tickIn := 0, wireFrom := 16 * s.frcNow, wireBad := false, tickInFailed := false, badRun := 0, goodRun := 0, slew := 0 } }
  if s.get KEY_CTRL_PERIOD = o.get KEY_CTRL_PERIOD then s else s.retrain

/-- Group 2 has come into force: the swaps that waited for it take place (R222). -/
def State.corCommit (s : State) (swaps : Nat) : State :=
  forN 16 (fun p s => if swaps.testBit p ∧ s.get COR_BANK_SWAP_PEND p = 2 then s.swapBank p else s) s

/-- Group 5 has come into force: a lag line whose length changes restarts, and the images it held come into force in
their order (R315, R394). -/
def State.lsrCommit (s o : State) : State :=
  forN 16 (fun p s => if s.get LSR_DELAY_COARSE p = o.get LSR_DELAY_COARSE p then s else
    let (imgs, s) := s.lagRestart p
    imgs.foldl (fun s i => s.setImage p i) s) s

/-- The captured values of the groups in `mask` come into force together (R69–R71), with what follows from it in each
block. -/
def State.commit (s : State) (mask : Nat) : State :=
  if mask = 0 then s else
  let o := s
  let c := s.key.capt
  let s := (s.transfer mask c.pend).setWide 0x20000018 s.key.tick
  let s := if mask.testBit 0 then s.keyCommit o else s
  let s := if mask.testBit 2 then s.corCommit c.swaps else s
  let s := if mask.testBit 5 then s.lsrCommit o else s
  let s := if mask.testBit 6 ∨ mask.testBit 9 then s.afeCommit o else s
  let s := if mask.testBit 6 then s.camCommit c.arms else s
  let s := if mask.testBit 7 then s.lopCommit o c.images else s
  let s := if mask.testBit 8 ∨ mask.testBit 9 then s.litCommit o else s
  if mask.testBit 9 then s.trimCommit o else s

/-- The armed scheduled slots that fall due at tick `t`. -/
def State.dueSlots (s : State) (t : Nat) : List Nat := (List.range 8).filter (fun k => s.on KEY_SCHED_CTRL_ARM k && decide (s.schedTarget k ≤ t))

/-- The groups of slot `k`. -/
def State.slotMask (s : State) (k : Nat) : Nat := s.get KEY_SCHED_CTRL_MASK k

/-- PERIOD as it would be captured differs from PERIOD in force, in BUILD or HOLD (R58). -/
def State.periodBlocked (s : State) : Bool := (s.mode == 4 || s.mode == 5) && s.getP KEY_CTRL_PERIOD != s.get KEY_CTRL_PERIOD

/-- A request with group 0 is refused at its capture (R58). -/
def State.periodRefuse (s : State) : State := (s.set1 KEY_COMMIT_ERR_PERIOD_REFUSED).fault 0 8 3

/-- The reply of a mailbox command that waited for the capture of group 0 (R58, R123). -/
def State.keyReply (s : State) (refused : Bool) : State := match s.mbx.waitKey with
  | none => s
  | some (m, r) => ({ s with mbx := { s.mbx with waitKey := none } }).finish m (if refused then failReply stCommitRefused 8 else r)

/-- The capture of φ380 (R58, R69): requests that R58 refuses are dropped, the reply that waited is written, the groups
that commit at the coming edge are captured. The immediate requests with group 0 that stand for one edge are one merged request
(R70): refused, they record fault 008h once (log entry 59). -/
def State.phi380 (s : State) : State :=
  let blocked := s.periodBlocked
  let imm := blocked && s.key.nextK != 0
  let bad := if blocked then (s.dueSlots (s.key.tick + 1)).filter (fun k => (s.slotMask k).testBit 0) else []
  let s := if imm then ({ s with key := { s.key with nextK := 0 } }).periodRefuse else s
  let s := bad.foldl (fun s k => (s.put KEY_SCHED_CTRL_ARM 0 k).periodRefuse) s
  let s := if s.key.nextK ≠ 0 ∨ imm then s.keyReply imm else s
  let groups := (s.dueSlots (s.key.tick + 1)).foldl (fun g k => g ||| s.slotMask k) (s.key.next ||| s.key.nextK)
  s.capture groups

/-- ARM returns to 0 and FIRED is set in slot `k` (R73). -/
def State.slotFired (s : State) (k : Nat) : State := (s.put KEY_SCHED_CTRL_ARM 0 k).set1 KEY_SCHED_CTRL_FIRED k

/-- The commits of a tick edge, the counter already advanced: every immediate request and every scheduled slot that falls due,
merged (R68, R70, R73); requests made from φ380 on move up. -/
def State.commitEdge (s : State) : State :=
  let due := s.dueSlots s.key.tick
  let mask := due.foldl (fun g k => g ||| s.slotMask k) (s.key.next ||| s.key.nextK)
  let s := { s with key := { s.key with next := s.key.next2, nextK := s.key.nextK2, next2 := 0, nextK2 := 0 } }
  ((due.foldl (fun s k => s.slotFired k) s).commit mask).showArmed

/-- Slot `k` fires alone (R73). -/
def State.schedFire (s : State) (k : Nat) : State := ((s.slotFired k).commit (s.slotMask k)).showArmed

/-- SCHED_COMMIT_FIRE (R73): slot `k` has reached its target tick; its groups commit from the values captured at φ380 of
the tick before. TICK_EDGE does the same for every slot due at its edge (R70), so after it no slot is left to fire (log entry
13). -/
def execSchedCommitFire (k : Fin 8) (s : State) : Out :=
  .next (if s.on KEY_SCHED_CTRL_ARM k.val && decide (s.schedTarget k.val ≤ s.key.tick) then s.schedFire k.val else s)

end Sys2Proof.Machine
end

