-- ==== Sys2Proof/Machine/Dma.lean ====
section
/-! DEFINITION. DMA channels: the checks at START, queueing, STOP, the end of transfers and the stop of the engine
(R520–R531). The accesses themselves stand in Machine/DmaRun.lean. -/

namespace Sys2Proof.Machine

/-- State of channel `ch`. -/
def State.dmaCh (s : State) (ch : Nat) : DmaCh := Tab.get {} s.dma.chs ch

/-- Replace the state of channel `ch` and show ACTIVE and QUEUED. -/
def State.setDmaCh (s : State) (ch : Nat) (c : DmaCh) : State :=
  let s := { s with dma := { s.dma with chs := Tab.put s.dma.chs ch c } }
  (s.put DMA_STAT_QUEUED (if c.next.isSome then 1 else 0) ch).putBit DMA_ACTIVE_ACTIVE ch c.act.isSome

/-- The range of one side: its bytes, or the 4 bytes of a fixed side (R523); empty when LEN is 0 (R524). -/
def dmaRange (fix : Bool) (a len : Nat) : Nat × Nat := if len = 0 then (a, a) else if fix then (a, a + 4) else (a, a + len)

/-- Two ranges share a byte. -/
def rangesMeet (a b : Nat × Nat) : Bool := a.1 < a.2 && b.1 < b.2 && a.1 < b.2 && b.1 < a.2

/-- The on-chip alias and the register windows in it (R46, R520). -/
def aliasRange : Nat × Nat := (0xFF00000000, 0xFF40000000)
def windowRange : Nat × Nat := (0xFF20000000, 0xFF20160000)

/-- The transfer that the registers of channel `ch` and the control word describe. -/
def State.dmaXfer (s : State) (ch : Nat) : DmaX :=
  { id := s.dma.ids + 1, src := s.get DMA_SRC_LO_SRC_LO ch + 2 ^ 32 * s.get DMA_SRC_HI_SRC_HI ch,
    dst := s.get DMA_DST_LO_DST_LO ch + 2 ^ 32 * s.get DMA_DST_HI_DST_HI ch, len := s.get DMA_LEN_LEN ch,
    burst := 64 * 2 ^ s.get DMA_CTRL_BURST ch, half := s.on DMA_CTRL_HALF_IE ch, full := s.on DMA_CTRL_FULL_IE ch,
    sfix := s.on DMA_CTRL_SRC_FIX ch, dfix := s.on DMA_CTRL_DST_FIX ch }

/-- The refusal of R522 that applies first, if any. -/
def State.dmaRefusal (s : State) (ch : Nat) (x : DmaX) : Option Nat :=
  let r := dmaRange x.sfix x.src x.len
  let w := dmaRange x.dfix x.dst x.len
  let bad (fix : Bool) (a : Nat) (g : Nat × Nat) : Bool := x.len != 0 && (fix || rangesMeet g windowRange) && (a % 4 != 0 || x.len % 4 != 0)
  if rangesMeet r w && !(!x.sfix && !x.dfix && decide (x.dst < x.src) && s.on DMA_CTRL_ALLOW_OVERLAP ch) then some 1
  else if 4 ≤ ch && (rangesMeet r aliasRange || rangesMeet w aliasRange) then some 2
  else if bad x.sfix x.src r || bad x.dfix x.dst w then some 3
  else if 2 ^ 40 < r.2 ∨ 2 ^ 40 < w.2 then some 4
  else if s.on DMA_STATUS_HALTED then some 5
  else if (s.dmaCh ch).act.isSome && (s.dmaCh ch).next.isSome then some 6
  else none

/-- The end of a channel's active transfer is reached, again and again while queued transfers have nothing to do
(R524, R527). -/
def State.dmaComplete : Nat → Nat → State → State
  | 0, _, s => s
  | f + 1, ch, s => match (s.dmaCh ch).act with
    | none => s
    | some x =>
      if x.done < x.len then s else
      let c := s.dmaCh ch
      let s := if x.full then s.putBit DMA_IRQ_FULL_FULL ch true else s
      let s := (s.put DMA_STAT_STATE 2 ch).setDmaCh ch { act := c.next, next := none, stop := false }
      match c.next with
      | none => s
      | some _ => State.dmaComplete f ch ((s.put DMA_STAT_STATE 1 ch).put DMA_DONE_DONE 0 ch)

/-- Begin a transfer on an idle channel (R521, R524). -/
def State.dmaBegin (s : State) (ch : Nat) (x : DmaX) : State :=
  let s := ((s.put DMA_STAT_STATE 1 ch).put DMA_DONE_DONE 0 ch).put DMA_STAT_ERR 0 ch
  (s.setDmaCh ch { act := some x }).dmaComplete 3 ch

/-- A START on channel `ch` (R521, R522). -/
def State.dmaStart (s : State) (ch : Nat) : State :=
  let x := s.dmaXfer ch
  match s.dmaRefusal ch x with
  | some e => (((s.put DMA_STAT_ERR e ch).set1 DMA_STAT_REFUSED ch).putBit DMA_IRQ_ERR_ERR ch true).fault 12 3 3 ch
  | none =>
    let s := { s with dma := { s.dma with ids := s.dma.ids + 1 } }
    let c := s.dmaCh ch
    if c.act.isSome then s.setDmaCh ch { c with next := some x } else s.dmaBegin ch x

/-- DMA_START (R520–R524): a CTRL write with START = 1; with STOP = 1 as well, or BURST = 3, it is a reserved value. -/
def execDmaStart (ch : Fin 32) (v : Word) (s : State) : Out :=
  .next (if v.toNat.testBit 30 ∨ wfield v 9 8 = 3 then s.reservedFault 12 ch.val
    else (s.wr (DMA_CTRL_BURST.addr ch.val) (v &&& 0x0000036E)).dmaStart ch.val)

/-- A stopping channel with nothing left in flight becomes STOPPED (R528). -/
def State.dmaStopped (s : State) (ch : Nat) : State :=
  let c := s.dmaCh ch
  match c.act with
  | some x => if c.stop && x.buf == [] && !s.dma.out.any (fun o => o.ch == ch) then (s.put DMA_STAT_STATE 3 ch).setDmaCh ch {} else s
  | none => s

/-- Stop a channel (R528). -/
def State.dmaStop (s : State) (ch : Nat) : State :=
  let c := s.dmaCh ch
  if c.act.isNone then s else (s.setDmaCh ch { c with next := none, stop := true }).dmaStopped ch

/-- DMA_STOP (R528). -/
def execDmaStop (ch : Fin 32) (s : State) : Out := .next (s.dmaStop ch.val)

/-- The engine stops every channel (R529, R530): `ch` failed with `err` at address `a`; `code` is the fault. -/
def State.dmaHalt (s : State) (ch err a code : Nat) (late : Bool) : State :=
  let s := forN 32 (fun d s =>
    let c := s.dmaCh d
    if c.act.isSome ∨ c.next.isSome then
      let s := (s.setDmaCh d {}).put DMA_STAT_STATE 3 d
      (s.put DMA_STAT_ERR (if d = ch ∧ late = false then err else 11) d).putBit DMA_IRQ_ERR_ERR d true
    else s) s
  let s := if late then (s.set1 DMA_STAT_LATE_ERR ch).putBit DMA_IRQ_ERR_ERR ch true else s
  let s := ((s.set1 DMA_STATUS_HALTED).put DMA_ERR_ADDR_LO_ADDR_LO (a % 2 ^ 32)).put DMA_ERR_ADDR_HI_ADDR_HI (a / 2 ^ 32)
  s.fault 12 code 2 ch (some (a / 2 ^ 32 % 256)) (some (a % 2 ^ 32))

/-- DMA_HALT_CLEAR (R531). -/
def execDmaHaltClear (s : State) : Out :=
  .next (if !s.on DMA_STATUS_HALTED then s
    else if s.dma.out = [] then s.put DMA_STATUS_HALTED 0 else s.set1 DMA_FLAGS_WRITE_REFUSED)

end Sys2Proof.Machine
end

