-- ==== Sys2Proof/Machine/Dsp.lean ====
section
/-! DEFINITION. The display compositor and scan-out: the display commit, link, layers, composition, writeback, offline
accumulation (spec/14_display.md). -/

namespace Sys2Proof.Machine

/-- A layer record (R545). -/
structure LayerRec where
  en     : Bool
  opaque_ : Bool
  fmt    : Nat
  z      : Nat
  galpha : Nat
  yshift : Nat
  addr   : Nat
  pitch  : Nat
  sw     : Nat
  sh     : Nat
  dx     : Nat
  dy     : Nat
  dw     : Nat
  dh     : Nat
  faddr  : Nat
  fen    : Bool
  fval   : Nat
  deriving DecidableEq, Repr

/-- The layer record in twelve words. -/
def layerRec (l : Nat → Word) : LayerRec :=
  let f (w hi lo : Nat) : Nat := wfield (l w) hi lo
  { en := f 0 31 31 == 1, opaque_ := f 0 30 30 == 1, fmt := f 0 29 27, z := f 0 26 24, galpha := f 0 23 16, yshift := f 0 3 0,
    addr := f 1 31 0 + 2 ^ 32 * f 2 7 0, pitch := f 3 15 0, sh := f 4 31 16, sw := f 4 15 0, dy := f 5 31 16, dx := f 5 15 0,
    dh := f 6 31 16, dw := f 6 15 0, faddr := f 7 31 0 + 2 ^ 32 * f 8 7 0, fen := f 8 31 31 == 1, fval := f 9 31 0 }

/-- Bytes of a source pixel (R546). -/
def LayerRec.bpp (l : LayerRec) : Nat := match l.fmt with
  | 0 => 4 | 1 => 2 | 4 => 2 | _ => 1

/-- The layer is scaled in either direction (R547). -/
def LayerRec.scaled (l : LayerRec) : Bool := l.sw != l.dw || l.sh != l.dh

/-- Layer `n`'s record in force. -/
def State.layerIf (s : State) (n : Nat) : LayerRec := layerRec (fun w => s.rd (0x200D0300 + 0x40 * n + 4 * w))

/-- Layer `n`'s hidden state. -/
def State.layer (s : State) (n : Nat) : DspLayer := Tab.get {} s.dsp.layers n

/-- Replace layer `n`'s hidden state. -/
def State.setLayer (s : State) (n : Nat) (l : DspLayer) : State := { s with dsp := { s.dsp with layers := Tab.put s.dsp.layers n l } }

/-- The in-force copy of a palette, coefficient or writeback register (R540). -/
def State.dspIf (s : State) (a : Nat) : Word := match Tab.find s.dsp.iff a with
  | some v => v
  | none => resetWord a

/-- Active size in force. -/
def State.hActive (s : State) : Nat := s.get DSP_TI0_H_ACTIVE
def State.vActive (s : State) : Nat := s.get DSP_TI0_V_ACTIVE

/-- BACKGROUND in force as three bytes. -/
def State.background (s : State) : List Byte :=
  let b := s.get DSP_TI7_BACKGROUND
  [byte (b / 65536), byte (b / 256), byte b]

/-! The checks of a snapshot (R541). -/

/-- Lanes and lane rate in Mbit/s (R538). -/
def linkLanes (c : Nat) : Nat := 2 ^ c
def linkRate (c : Nat) : Nat := match c with
  | 0 => 1620 | 1 => 2160 | 2 => 2430 | 3 => 2700 | 4 => 3240 | 5 => 4320 | _ => 5400

/-- The first failing check of a timing record `t` and six layer records: REASON and LAYER (R541). -/
def dspCheck (t : Nat → Word) (l : Nat → LayerRec) : Option (Nat × Nat) :=
  let f (w hi lo : Nat) : Nat := wfield (t w) hi lo
  let first (p : Nat → LayerRec → Bool) : Option Nat := (List.range 6).find? (fun n => (l n).en && p n (l n))
  match first (fun n r => decide (n < 2) && r.scaled && decide (2048 < r.sw)) with
  | some n => some (1, n)
  | none => match first (fun _ r => decide (f 0 15 0 < r.dx + r.dw ∨ f 0 31 16 < r.dy + r.dh)) with
    | some n => some (2, n)
    | none => match first (fun n r => if 2 ≤ n then r.scaled else decide (2 * r.dw < r.sw ∨ 4 * r.sw < r.dw ∨ 2 * r.dh < r.sh ∨ 4 * r.sh < r.dh)) with
      | some n => some (3, n)
      | none => match first (fun n r => if n < 2 then r.fmt == 2 else r.fmt == 3 || r.fmt == 4) with
        | some n => some (4, n)
        | none =>
          let ht := f 0 15 0 + f 1 15 0 + f 1 31 16 + f 2 15 0
          let vt := f 0 31 16 + f 2 31 16 + f 3 15 0 + f 3 31 16
          if linkLanes (f 5 1 0) * linkRate (f 5 11 8) * 800000 < f 4 31 0 * 24480 ∨ 61 * ht * vt < f 4 31 0 * 1000 then some (5, 0) else none

/-- The addresses of the pending registers of a unit (R540). -/
def dspUnit (u : Nat) : List Nat :=
  if u = 6 then (List.range 8).map (fun i => 0x200D0040 + 4 * i)
  else if u = 7 then [0x200D0080, 0x200D0084, 0x200D0088]
  else (List.range 12).map (fun w => 0x200D0100 + 0x40 * u + 4 * w) ++
    (if u < 2 then (List.range 128).map (fun i => 0x200D2000 + 0x200 * u + 4 * i) else (List.range 256).map (fun i => 0x200D1000 + 0x400 * (u - 2) + 4 * i))

/-- Snapshot the units of a mask (R540). -/
def State.dspGo (s : State) (mask : Nat) : State :=
  let as := ((List.range 8).filter mask.testBit).flatMap dspUnit
  let snap := as.foldl (fun t a => Tab.put t a (s.rd a)) s.dsp.snap
  ({ s with dsp := { s.dsp with snap := snap, mask := s.dsp.mask ||| mask } }).set1 DSP_COMMIT_ARMED

/-- The timing word and the layer records that a snapshot would leave in force. -/
def State.snapTiming (s : State) (i : Nat) : Word :=
  if s.dsp.mask.testBit 6 then Tab.get 0 s.dsp.snap (0x200D0040 + 4 * i) else s.rd (0x200D0060 + 4 * i)
def State.snapLayer (s : State) (n : Nat) : LayerRec :=
  if s.dsp.mask.testBit n then layerRec (fun w => Tab.get 0 s.dsp.snap (0x200D0100 + 0x40 * n + 4 * w)) else s.layerIf n

/-- A record of layer `n` comes into force (R550–R552). -/
def State.layerTake (s : State) (n : Nat) (ws : List Word) : State :=
  let x := s.layer n
  let old := s.layerIf n
  let new := layerRec (fun w => ws.getD w 0)
  let s := if x.taken ∧ new.addr ≠ old.addr then
      ((s.put DSP_LSTAT_RETF_RETIRE_FRAME x.last n).put DSP_LSTAT_RETLO_RETIRE_LO (old.addr % 2 ^ 32) n).put DSP_LSTAT_INFO_RETIRE_HI (old.addr / 2 ^ 32) n
    else s
  let x := if x.taken ∧ new.addr ≠ old.addr then { x with ret := x.last, last := 0xFFFFFFFF } else x
  let s := ws.zipIdx.foldl (fun s (v, w) => if w < 12 then s.wr (0x200D0300 + 0x40 * n + 4 * w) v else s) s
  (s.setLayer n { x with taken := true, held := none, late := false }).put DSP_LSTAT_INFO_HELD 0 n

/-- A record of layer `n` in a snapshot: held for its fence when it names a new buffer, else in force (R550). -/
def State.layerNew (s : State) (n : Nat) (ws : List Word) : State :=
  let new := layerRec (fun w => ws.getD w 0)
  let x := s.layer n
  if new.fen ∧ (x.taken = false ∨ new.addr ≠ (s.layerIf n).addr) then (s.setLayer n { x with held := some ws, late := false }).set1 DSP_LSTAT_INFO_HELD n
  else s.layerTake n ws

/-- Fault 009h names layer `n`, once per frame (R550, R557). -/
def State.fetchFault (s : State) (n : Nat) : State :=
  if s.dsp.ferr then s else ({ s with dsp := { s.dsp with ferr := true } }).fault 13 9 3 n

/-- Read the fence of a held record (R550). -/
def State.fenceCheck (s : State) (n : Nat) : State := match (s.layer n).held with
  | none => s
  | some ws =>
    let r := layerRec (fun w => ws.getD w 0)
    let (res, bs, s) := s.dramRead 5 r.faddr 4
    let s := if res = .ok then s else (s.fetchFault n).set1 DSP_FLAGS_FETCH_ERR
    if res = .ok ∧ leNat bs = r.fval then s.layerTake n ws
    else if (s.layer n).late then s
    else (((s.setLayer n { s.layer n with late := true }).incSat DSP_CNT_B_LATE).set1 DSP_FLAGS_LATE).fault 13 2 3 n

/-- The link goes down to be trained again (R542–R544). -/
def State.linkTrain (s : State) : State := (((s.set1 DSP_STATUS_TRAINING).put DSP_STATUS_LINK_UP 0).set1 DSP_STATUS_BLANK).put DSP_STATUS_STATIC 0

/-- The snapshot that waits is checked and comes into force or is refused (R541, R542). -/
def State.snapInForce (s : State) : State :=
  if !s.on DSP_COMMIT_ARMED then s else
  let drop (s : State) : State := ({ s with dsp := { s.dsp with snap := [], mask := 0 } }).put DSP_COMMIT_ARMED 0
  match dspCheck s.snapTiming s.snapLayer with
  | some (r, n) => (drop (((s.set1 DSP_COMMIT_ERR_REFUSED).put DSP_COMMIT_ERR_REASON r).put DSP_COMMIT_ERR_LAYER n)).fault 13 (if r = 1 then 5 else 6) 3 (if r = 5 then 255 else n)
  | none =>
    let t := s.dsp
    let word (a : Nat) : Word := Tab.get 0 t.snap a
    let s := { s with dsp := { s.dsp with iff := (t.snap.filter (fun c => 0x200D1000 ≤ c.1 || (0x200D0080 ≤ c.1 && c.1 < 0x200D0090))).foldl (fun m c => Tab.put m c.1 c.2) s.dsp.iff, changed := true, same := 0 } }
    let s := forN 6 (fun n s => if t.mask.testBit n then s.layerNew n ((List.range 12).map (fun w => word (0x200D0100 + 0x40 * n + 4 * w))) else s) s
    let s := if t.mask.testBit 6 then
        let ch (i m : Nat) : Bool := (word (0x200D0040 + 4 * i)).toNat % m != (s.rd (0x200D0060 + 4 * i)).toNat % m
        let link := ch 4 (2 ^ 32) || ch 5 0x1000
        let size := ch 0 (2 ^ 32)
        let s := forN 8 (fun i s => s.wr (0x200D0060 + 4 * i) (word (0x200D0040 + 4 * i))) s
        let s := if (link || (!s.on DSP_STATUS_LINK_UP && !s.on DSP_STATUS_TRAINING)) && s.on DSP_CTRL_SCAN_EN then s.linkTrain else s
        if size && !link then { s with dsp := { s.dsp with blankNext := true } } else s
      else s
    (drop s).put DSP_STATUS_STATIC 0

/-! Vertical sync (R539). -/

/-- Layer `u` hides layer `l` (R549). -/
def State.hides (s : State) (u l : Nat) : Bool :=
  let a := s.layerIf u
  let b := s.layerIf l
  a.en && (s.layer u).taken && decide (b.z < a.z ∨ (b.z = a.z ∧ l < u)) && a.galpha == 255 && (a.fmt == 1 || a.fmt == 3 || a.fmt == 4 || a.opaque_) &&
    decide (a.dx ≤ b.dx ∧ a.dy ≤ b.dy ∧ b.dx + b.dw ≤ a.dx + a.dw ∧ b.dy + b.dh ≤ a.dy + a.dh)

/-- Layer `n` is fetched in the present frame (R549, R551). -/
def State.fetched (s : State) (n : Nat) : Bool := (s.layerIf n).en && (s.layer n).taken && !s.on DSP_LSTAT_INFO_SKIPPED n

/-- Start the composition of the present frame (R549, R555). -/
def State.frameStart (s : State) : State :=
  let s := forN 6 (fun n s =>
    let skip := (s.layerIf n).en && (s.layer n).taken && (List.range 6).any (fun u => s.hides u n)
    let s := (s.put DSP_LSTAT_INFO_SKIPPED (if skip then 1 else 0) n).put DSP_LSTAT_INFO_TRANSPARENT (if (s.layerIf n).en && !(s.layer n).taken then 1 else 0) n
    s.setLayer n { s.layer n with crc := 0xFFFFFFFF, next := 0, rows := [], err := false }) s
  { s with dsp := { s.dsp with comp := 0, lead := 0xFFFF } }

/-- The header of the frame that ends (R562). -/
def State.wbHeader (s : State) : List Byte :=
  let d := s.dsp
  let b (c : Bool) (n : Nat) : Nat := if c then 2 ^ n else 0
  let static := s.on DSP_STATUS_STATIC
  let fl := b (d.pix && !static) 0 + b (d.und != 0) 1 + b d.lost 2 + b d.par 3 + b (s.on DSP_STATUS_BLANK) 4 + b static 5
  let layer (n : Nat) : List Byte :=
    let r := s.layerIf n
    let x := s.layer n
    leBytes 5 r.addr ++ [byte (b r.en 7 + b (s.on DSP_LSTAT_INFO_TRANSPARENT n) 6 + b (s.on DSP_LSTAT_INFO_SKIPPED n) 5 + b x.late 4 + b (s.on DSP_LSTAT_INFO_FETCH_ERR n) 3 + r.z), 0#8, 0#8] ++
      leBytes 4 (s.get DSP_LSTAT_CRC_CRC n) ++ leBytes 4 x.ret
  leBytes 4 (s.get DSP_FRAME_FRAME) ++ leBytes 8 d.tick ++ leBytes 2 fl ++ leBytes 2 (min d.und 0xFFFF) ++ leBytes 2 s.hActive ++ leBytes 2 s.vActive ++
    leBytes 4 (s.get DSP_TI7_BACKGROUND) ++ List.replicate 8 0#8 ++ (List.range 6).flatMap layer ++ List.replicate 128 0#8

/-- The frame in progress ends (R553, R555, R558, R563). -/
def State.frameEnd (s : State) : State :=
  if !s.dsp.live then s else
  let static := s.on DSP_STATUS_STATIC
  let blank := s.on DSP_STATUS_BLANK
  let s := if blank then
      forN 6 (fun n s => ((s.put DSP_LSTAT_CRC_CRC 0 n).put DSP_LSTAT_INFO_CRC_VALID 0 n).put DSP_LSTAT_INFO_FETCH_ERR 0 n) s
    else if static then s else
    let s := forN 6 (fun n s =>
      let x := s.layer n
      let ok := s.fetched n && !x.err && decide ((s.layerIf n).sh ≤ x.next)
      ((s.put DSP_LSTAT_CRC_CRC (if ok then x.crc ^^^ 0xFFFFFFFF else 0) n).put DSP_LSTAT_INFO_CRC_VALID (if ok then 1 else 0) n).put DSP_LSTAT_INFO_FETCH_ERR (if x.err then 1 else 0) n) s
    let equal := (List.range 6).all (fun n => !s.fetched n || (s.on DSP_LSTAT_INFO_CRC_VALID n && (s.layer n).prev == some (s.get DSP_LSTAT_CRC_CRC n)))
    let held := (List.range 6).any (fun n => (s.layer n).held.isSome)
    let same := if s.dsp.changed || held || s.dsp.ferr || s.dsp.und != 0 || !equal then 0 else s.dsp.same + 1
    let s := forN 6 (fun n s => s.setLayer n { s.layer n with prev := if s.on DSP_LSTAT_INFO_CRC_VALID n then some (s.get DSP_LSTAT_CRC_CRC n) else none }) s
    ({ s with dsp := { s.dsp with same := min same 256 } }).put DSP_LEAD_LEAD s.dsp.lead
  if (s.dspIf 0x200D0088).toNat.testBit 31 && (!static || s.dsp.par) then { s with dsp := { s.dsp with hdrs := s.dsp.hdrs ++ [s.wbHeader] } } else s

/-- A new frame begins: FRAME counts, from FFFF_FFFEh to 0, and the state of the frame is cleared (R539, R555, R733). -/
def State.frameBegin (s : State) : State :=
  let d := s.dsp
  let d := { d with live := true, tick := s.key.tick, beam := 0, und := 0, par := false }
  let d := { d with ferr := false, pix := false, lost := false, changed := false, blankNext := false }
  let s := { s with dsp := d }
  let s := (s.put DSP_FRAME_FRAME ((s.get DSP_FRAME_FRAME + 1) % 0xFFFFFFFF)).put DSP_STATUS_LINE s.vActive
  forN 6 (fun n s => s.setLayer n { s.layer n with ret := 0xFFFFFFFF }) s

/-- Scan-out stops (R543). -/
def State.scanStop (s : State) : State :=
  let s := { s with dsp := { s.dsp with run := false, live := false } }
  (((s.put DSP_STATUS_LINK_UP 0).put DSP_STATUS_TRAINING 0).put DSP_STATUS_STATIC 0).put DSP_STATUS_BLANK 0

/-- Whether the frame is static from here on: STATIC_FRAMES unchanged frames have passed (R558). -/
def State.staticEntry (s : State) (blank : Bool) : State :=
  let n := s.get DSP_TI6_STATIC_FRAMES
  if blank then ({ s with dsp := { s.dsp with same := 0 } }).put DSP_STATUS_STATIC 0
  else if n ≠ 0 ∧ n ≤ s.dsp.same ∧ s.dsp.changed = false then s.set1 DSP_STATUS_STATIC else s

/-- What a vsync does while scan-out goes on (R540, R542, R544, R549–R552, R558). -/
def State.vsyncRun (s : State) : State :=
  let s := if s.dsp.retrain then ({ s with dsp := { s.dsp with retrain := false } }).linkTrain else s
  let s := forN 6 (fun n s => s.fenceCheck n) s.snapInForce
  let blank := s.on DSP_STATUS_TRAINING || !s.on DSP_STATUS_LINK_UP || s.dsp.blankNext
  let s := (s.put DSP_STATUS_BLANK (if blank then 1 else 0)).staticEntry blank
  if s.on DSP_STATUS_STATIC then s else s.frameStart

/-- VSYNC (R539–R544, R549–R552, R558). -/
def State.vsync (s : State) : State :=
  if !s.dsp.run then s else
  let s := s.frameEnd.frameBegin
  if !s.on DSP_CTRL_SCAN_EN then s.scanStop else s.vsyncRun

/-- VSYNC. -/
def execVsync (s : State) : Out := .next s.vsync

/-- A GO that completes during the idle lines of a stretched porch acts at once (R559). -/
def State.porchGo (s : State) (porch : Bool) : State :=
  if porch && s.dsp.beam == 0 && s.on DSP_STATUS_STATIC && s.on DSP_TI6_VRR_OK && s.get DSP_TI6_STATIC_RATE != 0 then
    let s := s.snapInForce
    if s.on DSP_STATUS_STATIC then s
    else if s.dsp.blankNext || s.on DSP_STATUS_TRAINING then (forN 6 (fun n s => s.fenceCheck n) s).set1 DSP_STATUS_BLANK
    else (forN 6 (fun n s => s.fenceCheck n) s).frameStart
  else s

/-- DSP_COMMIT_GO (R540, R559): a write to DSP_COMMIT; `porch`: it completes during idle lines of a stretched porch. -/
def execDspCommitGo (v : Word) (porch : Bool) (s : State) : Out :=
  .next (if !v.toNat.testBit 31 then s
    else if v.toNat % 256 = 0 then s.reservedFault 13
    else (s.dspGo (v.toNat % 256)).porchGo porch)

/-! The link (R543, R544). -/

/-- SCAN_ENABLE (R543, R566): a write of DSP_CTRL.SCAN_EN. -/
def execScanEnable (en : Bool) (s : State) : Out :=
  .next (if en && s.on DSP_STATUS_ACC_BUSY then s.set1 DSP_FLAGS_WRITE_REFUSED
    else if en then
      let idle := !s.on DSP_CTRL_SCAN_EN || (!s.on DSP_STATUS_LINK_UP && !s.on DSP_STATUS_TRAINING)
      let s := s.set1 DSP_CTRL_SCAN_EN
      if idle && !s.dsp.hpdLost then ({ s with dsp := { s.dsp with run := true } }).linkTrain else s
    else s.put DSP_CTRL_SCAN_EN 0)

/-- LINK_TRAIN_DONE (R543): levels in force, or failure. -/
def execLinkTrainDone (ok : Bool) (vs pe : Fin 4) (s : State) : Out :=
  .next (if !s.on DSP_STATUS_TRAINING then s
    else
      let s := s.put DSP_STATUS_TRAINING 0
      if ok then
        let s := ((s.set1 DSP_STATUS_LINK_UP).put DSP_LINK_VS vs).put DSP_LINK_PE pe
        (s.put DSP_LINK_RATE (s.get DSP_TI5_RATE)).put DSP_LINK_LANES (s.get DSP_TI5_LANES)
      else (((s.set1 DSP_FLAGS_TRAIN_FAIL).incSat DSP_CNT_B_TRAIN_FAILS).set1 DSP_STATUS_BLANK).fault 13 3 2)

/-- IRQ_HPD (R544): `lost`: the panel's link status shows lost lock. -/
def execIrqHpd (lost : Bool) (s : State) : Out :=
  .next (if lost && s.on DSP_STATUS_LINK_UP then
    ((({ s with dsp := { s.dsp with retrain := true } }).incSat DSP_CNT_B_RETRAINS).set1 DSP_FLAGS_LINK_LOST).fault 13 4 3 else s)

/-- HPD_LOST (R544). -/
def execHpdLost (s : State) : Out :=
  let s := { s with dsp := { s.dsp with hpdLost := true, run := false, live := false, retrain := false } }
  .next (if s.on DSP_CTRL_SCAN_EN then (((s.put DSP_STATUS_LINK_UP 0).put DSP_STATUS_TRAINING 0).put DSP_STATUS_STATIC 0).set1 DSP_STATUS_BLANK else s)

/-- HPD_RESTORED (R544). -/
def execHpdRestored (s : State) : Out :=
  .next (if !s.dsp.hpdLost then s else
    let s := { s with dsp := { s.dsp with hpdLost := false } }
    if s.on DSP_CTRL_SCAN_EN then ({ s with dsp := { s.dsp with run := true } }).linkTrain else s)

/-! Composition (R546–R548, R553, R555–R557). -/

/-- A pixel: alpha, red, green, blue. -/
abbrev Argb := Nat × Nat × Nat × Nat

/-- Convert the source pixel in column `x` of a fetched row (R546); a pixel of a failed burst is transparent (R557). -/
def State.srcPixel (s : State) (n : Nat) (l : LayerRec) (row : List (Option Byte)) (x : Nat) : Argb :=
  let bs := (row.drop (x * l.bpp)).take l.bpp
  if bs.length < l.bpp ∨ bs.any (fun b => b == none) then (0, 0, 0, 0) else
  let v := leNat (bs.map (fun b => b.getD 0))
  let al (a : Nat) : Nat := if l.opaque_ then 255 else a
  let argb (w : Nat) : Argb := (al (w / 2 ^ 24 % 256), w / 2 ^ 16 % 256, w / 2 ^ 8 % 256, w % 256)
  match l.fmt with
  | 0 => argb v
  | 1 =>
    let r := v / 2 ^ 11
    let g := v / 2 ^ 5 % 64
    let b := v % 32
    (255, (r * 8) ||| (r / 4), (g * 4) ||| (g / 16), (b * 8) ||| (b / 4))
  | 2 => argb (s.dspIf (0x200D1000 + 0x400 * (n - 2) + 4 * v)).toNat
  | 3 => (255, v, v, v)
  | _ => let y := min 255 (v / 2 ^ l.yshift); (255, y, y, y)

/-- The scaler's source index and phase for output position `x` (R547). -/
def scalePos (src dst x : Nat) : Int × Nat :=
  let step : Int := (src * 65536 / dst : Nat)
  let p := x * step + (step - 65536) / 2
  (p / 65536, (p % 65536 / 1024).toNat)

/-- The source index of tap `k` (R547). -/
def tapIndex (src : Nat) (i : Int) (k : Nat) : Nat := (min ((src : Int) - 1) (max 0 (i - 1 + k))).toNat

/-- Coefficient `k` of phase `ph` of video layer `n` in force (R547). -/
def State.coef (s : State) (n ph k : Nat) : Int :=
  let w := s.dspIf (0x200D2000 + 0x200 * n + 8 * ph + (if k < 2 then 0 else 4))
  toSigned 12 (if k % 2 = 0 then wfield w 11 0 else wfield w 27 16)

/-- Four taps combined, each channel by itself and clamped (R547). -/
def State.taps (s : State) (n ph : Nat) (px : Nat → Argb) : Argb :=
  let ch (f : Argb → Nat) : Nat :=
    let v := (List.range 4).foldl (fun a k => a + s.coef n ph k * f (px k)) (512 : Int)
    (min 255 (max 0 (v / 1024))).toNat
  (ch (fun p => p.1), ch (fun p => p.2.1), ch (fun p => p.2.2.1), ch (fun p => p.2.2.2))

/-- The pixel of layer `n` at position (x, y) of its destination (R547). -/
def State.layerPixel (s : State) (n : Nat) (l : LayerRec) (x y : Nat) : Argb :=
  let row (j : Nat) : List (Option Byte) := Tab.get [] (s.layer n).rows j
  if !l.scaled then s.srcPixel n l (row y) x else
  let (ix, px) := scalePos l.sw l.dw x
  let (iy, py) := scalePos l.sh l.dh y
  let hor (j : Nat) : Argb := s.taps n px (fun k => s.srcPixel n l (row j) (tapIndex l.sw ix k))
  s.taps n py (fun k => hor (tapIndex l.sh iy k))

/-- One channel blended (R548). -/
def blend (a sv d : Nat) : Nat := (a * sv + (255 - a) * d + 127) / 255

/-- Fetch source line `j` of layer `n` in bursts of 64 bytes (R553, R557). -/
def State.fetchRow (s : State) (n : Nat) (l : LayerRec) (j : Nat) : State :=
  let len := l.sw * l.bpp
  let a := l.addr + j * l.pitch
  let (row, s) := (List.range ((len + 63) / 64)).foldl (fun (acc : List (Option Byte) × State) b =>
    let m := min 64 (len - 64 * b)
    let (res, bs, s) := acc.2.dramRead 5 (a + 64 * b) m
    if res = .ok then (acc.1 ++ bs.map some, s)
    else
      let s := s.fetchFault n
      (acc.1 ++ List.replicate m none, (s.setLayer n { s.layer n with err := true }).set1 DSP_FLAGS_FETCH_ERR)) ([], s)
  let x := s.layer n
  let crc := row.foldl (fun c b => crc32Bits 8 (c ^^^ (b.getD 0).toNat)) x.crc
  s.setLayer n { x with crc := crc, next := j + 1, rows := Tab.put x.rows j row, last := s.get DSP_FRAME_FRAME }

/-- Fetch what line `y` of the screen needs of layer `n`. -/
def State.fetchFor (s : State) (n y : Nat) : State :=
  let l := s.layerIf n
  if !s.fetched n ∨ y < l.dy ∨ l.dy + l.dh ≤ y then s else
  let v := y - l.dy
  let need := if !l.scaled then v else tapIndex l.sh (scalePos l.sh l.dh v).1 3
  let upto := if v + 1 = l.dh then l.sh - 1 else need
  let low := if !l.scaled then v else tapIndex l.sh (scalePos l.sh l.dh v).1 0
  let from_ := (s.layer n).next
  let s := (List.range (upto + 1 - from_)).foldl (fun s k => s.fetchRow n l (from_ + k)) s
  s.setLayer n { s.layer n with rows := (s.layer n).rows.filter (fun r => decide (low ≤ r.1)) }

/-- Layers from the bottom of the stack to its top (R548). -/
def State.stack (s : State) : List Nat := (List.range 8).flatMap (fun z => (List.range 6).filter (fun n => s.fetched n && (s.layerIf n).z == z))

/-- The composed pixel of the screen at (x, y) (R548). -/
def State.screenPixel (s : State) (stack : List Nat) (x y : Nat) : List Byte :=
  let bg := s.background.map BitVec.toNat
  let start := (bg.getD 0 0, bg.getD 1 0, bg.getD 2 0)
  let (r, g, b) := stack.foldl (fun (d : Nat × Nat × Nat) n =>
    let l := s.layerIf n
    if x < l.dx ∨ l.dx + l.dw ≤ x ∨ y < l.dy ∨ l.dy + l.dh ≤ y then d else
    let (pa, sr, sg, sb) := s.layerPixel n l (x - l.dx) (y - l.dy)
    let a := (pa * l.galpha + 127) / 255
    (blend a sr d.1, blend a sg d.2.1, blend a sb d.2.2)) start
  [byte r, byte g, byte b]

/-- Compose line `y`: its bytes, and the state after the fetches (R548, R555). A parity error in a compositor buffer
(`ue`, R48) leaves the line's pixels free. -/
def State.composed (s : State) (y : Nat) (ue : Bool) : List Byte × State :=
  let s := forN 6 (fun n s => s.fetchFor n y) s
  if ue then
    let k := 3 * s.hActive
    ((List.range k).map (fun i => byte (Config.freeNat (s.free + i))), (({ s with free := s.free + k }).set1 DSP_FLAGS_BUF_PARITY).fault 13 0xB 3)
  else ((List.range s.hActive).flatMap (fun x => s.screenPixel s.stack x y), s)

/-- Write bytes into line `y` of the frame store. -/
def State.fsWrite (s : State) (y : Nat) (bs : List Byte) : State :=
  { s with dsp := { s.dsp with fs := Memory.writeBytes 0 s.dsp.fs (y * s.hActive * 3) bs } }

/-- The compositor runs in the present frame. -/
def State.composing (s : State) : Bool := s.dsp.run && s.dsp.live && !s.on DSP_STATUS_STATIC && !s.on DSP_STATUS_BLANK && decide (s.dsp.comp < s.vActive)

/-- COMPOSE_LINE (R48, R555): `lead` whole lines before the beam reaches it the line is complete. -/
def execComposeLine (e : ComposeEv) (s : State) : Out :=
  .next (if !s.composing then s else
    let y := s.dsp.comp
    let (bs, s) := s.composed y e.ue
    let s := s.fsWrite y bs
    { s with dsp := { s.dsp with comp := y + 1, lead := min s.dsp.lead e.lead } })

/-- Bytes between lines of a writeback buffer, and bytes of a buffer (R561). -/
def State.wbPitch (s : State) : Nat := (s.hActive * 3 + 63) / 64 * 64
def State.wbBuf (s : State) : Nat := (256 + s.wbPitch * s.vActive + 4095) / 4096 * 4096

/-- The address of the writeback buffer of a frame that `ahead` headers precede (R561). -/
def State.wbAddr (s : State) (ahead : Nat) : Nat :=
  let base := wfield (s.dspIf 0x200D0080) 31 12 * 4096 + wfield (s.dspIf 0x200D0084) 7 0 * 2 ^ 32
  base + (s.get DSP_WB_WR_WR + ahead) % (max 1 (wfield (s.dspIf 0x200D0088) 4 0)) * s.wbBuf

/-- A writeback write fails (R563). -/
def State.wbFail (s : State) : State :=
  (({ s with dsp := { s.dsp with iff := Tab.put s.dsp.iff 0x200D0088 (s.dspIf 0x200D0088 &&& 0x3FFFFFFF) } }).set1 DSP_FLAGS_WB_ERR).fault 13 8 2

/-- Write a line as it was sent to the writeback buffer (R561, R563); `ok`: the write could be made in time. -/
def State.wbLine (s : State) (y : Nat) (bs : List Byte) (ok : Bool) : State :=
  if !(s.dspIf 0x200D0088).toNat.testBit 30 || s.on DSP_STATUS_STATIC || s.dsp.lost then s
  else if !ok then (({ s with dsp := { s.dsp with lost := true } }).set1 DSP_FLAGS_WB_LOST).fault 13 7 2
  else match s.dramWrite 5 (s.wbAddr s.dsp.hdrs.length + 256 + y * s.wbPitch) bs with
    | (.ok, s) => { s with dsp := { s.dsp with pix := true } }
    | (_, s) => s.wbFail

/-- An underrun in line `y` (R556). -/
def State.underrun (s : State) (y px : Nat) : List Byte × State :=
  let (bs, s) := s.composed y false
  let got := bs.take (3 * px)
  let s := s.fsWrite y got
  let first := s.dsp.und = 0
  let s := { s with dsp := { s.dsp with comp := y + 1, und := s.dsp.und + 1 } }
  let s := (s.incSat DSP_CNT_A_UNDERRUN_LINES).set1 DSP_FLAGS_UNDERRUN
  let s := if first then (s.incSat DSP_CNT_A_UNDERRUN_FRAMES).fault 13 1 3 else s
  (got ++ (List.replicate (s.hActive - px) s.background).flatten, s)

/-- SCANOUT_LINE (R48, R556, R557, R563): `px` pixels of a line the compositor is still working on have been written
when the beam reaches them; `par`: columns whose frame-store pixel fails parity; `wbOk`: writeback keeps up. -/
def execScanoutLine (px : Nat) (par : List Nat) (wbOk : Bool) (s : State) : Out :=
  .next (if !s.dsp.run || !s.dsp.live || decide (s.vActive ≤ s.dsp.beam) then s else
    let y := s.dsp.beam
    let s := (({ s with dsp := { s.dsp with beam := y + 1 } }).put DSP_STATUS_LINE y)
    if s.on DSP_STATUS_BLANK then { s with dsp := { s.dsp with sent := [] } } else
    let w := s.hActive
    let (bs, s) := if s.on DSP_STATUS_STATIC || decide (y < s.dsp.comp) then (Memory.readBytes 0 s.dsp.fs (y * w * 3) (w * 3), s)
      else if w ≤ px then
        let (bs, s) := s.composed y false
        (bs, { (s.fsWrite y bs) with dsp := { (s.fsWrite y bs).dsp with comp := y + 1, lead := 0 } })
      else s.underrun y px
    let bad := par.filter (fun x => decide (x < w))
    let bs := bad.foldl (fun bs x => bs.take (3 * x) ++ s.background ++ bs.drop (3 * x + 3)) bs
    let s := if bad = [] then s else
      let s := if s.dsp.par then s else s.fault 13 0xA 3
      ({ s with dsp := { s.dsp with par := true } }).set1 DSP_FLAGS_FS_PARITY
    ({ s with dsp := { s.dsp with sent := bs } }).wbLine y bs wbOk)

/-- WB_HEADER_WRITE (R562, R563): after every pixel write of its frame. -/
def execWbHeaderWrite (s : State) : Out :=
  .next (match s.dsp.hdrs with
    | [] => s
    | h :: t =>
      match s.dramWrite 5 (s.wbAddr 0) h with
      | (.ok, s) => ({ s with dsp := { s.dsp with hdrs := t } }).incWrap DSP_WB_WR_WR
      | (_, s) => ({ s with dsp := { s.dsp with hdrs := [] } }).wbFail)

/-! The AUX channel (R535, R569). -/

/-- AUX_TRANSACTION (R535, R569): a write of DSP_AUX_CTRL with GO = 1. -/
def execAuxTransaction (v : Word) (s : State) : Out :=
  .next (if s.on DSP_AUX_CTRL_BUSY then s.set1 DSP_FLAGS_WRITE_REFUSED
    else (s.wr 0x200D0C00 (v &&& 0x3F0FFFFF)).set1 DSP_AUX_CTRL_BUSY)

/-- AUX_DONE (R535): the result, and the bytes of a read that was acknowledged. -/
def execAuxDone (res : Fin 4) (bs : List Byte) (s : State) : Out :=
  .next (if !s.on DSP_AUX_CTRL_BUSY then s else
    let n := s.get DSP_AUX_CTRL_LEN + 1
    let rd := s.get DSP_AUX_CTRL_CMD % 2 = 1 ∧ res.val = 0
    let s := if rd then (bs.take n).zipIdx.foldl (fun s (b, i) =>
        let a := 0x200D0C04 + 4 * (i / 4)
        s.wr a (wset (s.rd a) (8 * (i % 4) + 7) (8 * (i % 4)) b.toNat)) s else s
    ((s.put DSP_AUX_CTRL_BUSY 0).set1 DSP_AUX_STAT_DONE).put DSP_AUX_STAT_RESULT res)

/-! Offline accumulation (R565, R566). -/

/-- An accumulation entry (R565). -/
structure AccEntry where
  src : Nat
  dst : Nat
  sp  : Nat
  dp  : Nat
  w   : Nat
  h   : Nat
  fmt : Nat
  weight : Nat
  deriving DecidableEq, Repr

/-- The entry in 32 bytes, if it holds no reserved value (R565). -/
def accEntry (b : List Byte) : Option AccEntry :=
  let f (i n : Nat) : Nat := leNat ((b.drop i).take n)
  let e : AccEntry := { src := f 0 8, dst := f 8 8, sp := f 16 2, dp := f 18 2, w := f 20 2, h := f 22 2, fmt := f 24 1, weight := f 26 2 }
  if e.src < 2 ^ 40 ∧ e.dst < 2 ^ 40 ∧ e.dst % 2 = 0 ∧ e.fmt ≤ 1 ∧ (e.fmt = 1 → e.src % 2 = 0) ∧ e.w * (e.fmt + 1) ≤ e.sp ∧ e.w * 2 ≤ e.dp ∧
      1 ≤ e.w ∧ 1 ≤ e.h ∧ e.w * e.h * 2 ≤ 262144 ∧ f 25 1 = 0 ∧ f 28 4 = 0 then some e else none

/-- Read `h` lines of `n` bytes at a pitch. -/
def State.readRect (s : State) (a pitch n : Nat) : Nat → Bool × List (List Byte) × State
  | 0 => (true, [], s)
  | h + 1 =>
    let (ok, rows, s) := s.readRect a pitch n h
    let (res, bs, s) := s.dramRead 5 (a + pitch * h) n
    (ok && res == .ok, rows ++ [bs], s)

/-- Carry out one entry: the state, and whether every access succeeded (R566). -/
def State.accRun (s : State) (e : AccEntry) : Bool × State :=
  let (ok1, drows, s) := s.readRect e.dst e.dp (2 * e.w) e.h
  if !ok1 then (false, s) else
  let (ok2, srows, s) := s.readRect e.src e.sp (e.w * (e.fmt + 1)) e.h
  if !ok2 then (false, s) else
  let px (rows : List (List Byte)) (n x y : Nat) : Nat := leNat (((rows.getD y []).drop (x * n)).take n)
  let sum (x y : Nat) : Nat := px drows 2 x y + (px srows (e.fmt + 1) x y * e.weight + 128) / 256
  let sat := (List.range e.h).foldl (fun a y => (List.range e.w).foldl (fun a x => if 65535 < sum x y then a + 1 else a) a) 0
  let (ok, s) := (List.range e.h).foldl (fun (acc : Bool × State) y =>
    let (res, s) := acc.2.dramWrite 5 (e.dst + e.dp * y) ((List.range e.w).flatMap (fun x => leBytes 2 (min 65535 (sum x y))))
    (acc.1 && res == .ok, s)) (true, s)
  (ok, s.incSat DSP_ACC_SAT_SAT 0 sat)

/-- Run entries from address `a`: the result code of DSP_ACC_DONE (R566). -/
def State.accList : Nat → Nat → State → Nat × State
  | 0, _, s => (0, s)
  | n + 1, a, s =>
    let (res, bs, s) := s.dramRead 5 a 32
    if res ≠ .ok then (2, s) else
    match accEntry bs with
    | none => (1, s)
    | some e => match s.accRun e with
      | (false, s) => (2, s)
      | (true, s) => State.accList n (a + 32) (s.put DSP_ACC_DONE_DONE (s.get DSP_ACC_DONE_DONE + 1))

/-- Start a run if scan-out is off and none is in progress (R565, R569). -/
def State.accStart (s : State) : State :=
  if s.on DSP_STATUS_ACC_BUSY then s.set1 DSP_FLAGS_WRITE_REFUSED
  else if s.on DSP_CTRL_SCAN_EN || s.dsp.run then s
  else ((s.set1 DSP_STATUS_ACC_BUSY).wr 0x200D0D0C 0).put DSP_ACC_SAT_SAT 0

/-- ACCUM_START (R565): a write of DSP_ACC_CTRL with START = 1; COUNT 0 or above 4,096 is reserved. -/
def execAccumStart (v : Word) (s : State) : Out :=
  .next (if s.on DSP_STATUS_ACC_BUSY then s.set1 DSP_FLAGS_WRITE_REFUSED
    else if wfield v 12 0 = 0 ∨ 4096 < wfield v 12 0 then s.reservedFault 13
    else (s.put DSP_ACC_CTRL_COUNT (wfield v 12 0)).accStart)

/-- ACCUM_RUN_DONE (R566): the entries run in order, and the run ends. -/
def execAccumRunDone (s : State) : Out :=
  .next (if !s.on DSP_STATUS_ACC_BUSY then s else
    let (r, s) := State.accList (s.get DSP_ACC_CTRL_COUNT) (s.get DSP_ACC_LIST_LO_LIST_LO + 2 ^ 32 * s.get DSP_ACC_LIST_HI_LIST_HI) s
    let s := (s.put DSP_ACC_DONE_RESULT r).put DSP_STATUS_ACC_BUSY 0
    let s := if r = 2 then (s.set1 DSP_FLAGS_ACC_FAIL).fault 13 0xC 3 else s
    s.endActions (fun a => a.op == 0x2403) (if r = 0 then stOk else if r = 1 then stBadParam else stHwFault))

/-! Mailbox commands of group 09h (R138). -/

/-- The refusal of a DISP command by the checks of R541; no rule names the word, p0 is 0 (log entry 60). -/
def dispRefusal (r : Nat × Nat) : Reply := { status := stBadParam, fault := if r.1 = 1 then 0x3405 else 0x3406, payload := [0] }

/-- DISP TIMING_SET (R538, R541). -/
def execDispTimingSet (porch : Bool) (s : State) : Out := runCmd 0x2400 s (fun q s =>
  let a (i : Nat) : Nat := 0x200D0040 + 4 * i
  let ok (i : Nat) : Bool := recordOk (a i) (word (q.w i)) && (i != 0 || wfield (word (q.w 0)) 15 0 % 4 == 0)
  match firstBad ((List.range 8).map (fun i => (i, ok i))) with
  | some i => (s, some (badParam i))
  | none => match dspCheck (fun i => word (q.w i)) s.layerIf with
    | some r => (s, some (dispRefusal r))
    | none => (((forN 8 (fun i s => s.wr (a i) (word (q.w i))) s).dspGo 0x40).porchGo porch, some (okReply [])))

/-- The field checks of a layer record, by word (R545). -/
def layerWordOk (q : Nat → Nat) (i : Nat) : Bool :=
  let r := layerRec (fun w => word (q w))
  match i with
  | 0 => decide (r.fmt ≤ 4 ∧ r.z ≤ 5) && wfield (word (q 0)) 15 4 == 0 && decide (r.yshift ≤ 8)
  | 1 => q 1 % 64 == 0
  | 2 => decide (q 2 < 256)
  | 3 => q 3 % 64 == 0 && decide (q 3 < 65536 ∧ r.sw * r.bpp ≤ r.pitch)
  | 4 => decide (1 ≤ r.sw ∧ r.sw ≤ 4096 ∧ 1 ≤ r.sh ∧ r.sh ≤ 4096)
  | 6 => decide (1 ≤ r.dw ∧ r.dw ≤ 1920 ∧ 1 ≤ r.dh ∧ r.dh ≤ 1920)
  | 7 => q 7 % 4 == 0
  | 8 => decide (q 8 % 2 ^ 31 < 256)
  | 10 => q 10 == 0
  | 11 => q 11 == 0
  | _ => true

/-- DISP LAYER_SET (R541, R545). -/
def execDispLayerSet (porch : Bool) (s : State) : Out := runCmd 0x2401 s (fun q s =>
  let n := q.w 0
  let p (i : Nat) : Nat := q.w (i + 1)
  let r := layerRec (fun w => word (p w))
  if r.en ∧ (!s.rangeAllowed r.addr (r.pitch * r.sh) ∨ (r.fen ∧ !s.rangeAllowed r.faddr 4)) then (s, some (failReply stDenied)) else
  match firstBad ((0, decide (n < 6)) :: (List.range 12).map (fun i => (i + 1, layerWordOk p i))) with
  | some i => (s, some (badParam i))
  | none =>
    match dspCheck (fun i => s.rd (0x200D0060 + 4 * i)) (fun m => if m = n then r else s.layerIf m) with
      | some e => (s, some (dispRefusal e))
      | none => (((forN 12 (fun i s => s.wr (0x200D0100 + 0x40 * n + 4 * i) (word (p i))) s).dspGo (2 ^ n)).porchGo porch, some (okReply [])))

/-- DISP WRITEBACK_SET (R561, R564). -/
def execDispWritebackSet (porch : Bool) (s : State) : Out := runCmd 0x2402 s (fun q s =>
  let base := q.addr 0
  match firstBad [(0, base % 4096 == 0), (1, decide (base < 2 ^ 40)), (2, decide (2 ≤ q.w 2 ∧ q.w 2 ≤ 16)), (3, decide (q.w 3 < 2))] with
  | some i => (s, some (badParam i))
  | none =>
    let old := s.rd 0x200D0088
    let moves := decide (base ≠ s.get DSP_WB_BASE_LO_BASE_LO * 4096 + 2 ^ 32 * s.get DSP_WB_BASE_HI_BASE_HI) || decide (wfield old 4 0 ≠ q.w 2)
    let clears := old.toNat.testBit 30 && q.w 3 == 0
    if (base ≠ 0 ∨ q.w 3 = 1) ∧ !s.rangeAllowed base (6914048 * q.w 2) then (s, some (failReply stDenied))
    else if s.lifecycle = 2 ∧ s.job.st ≠ 0 ∧ (moves ∨ clears) then (s, some (failReply stDenied))
    else
      let s := ((s.put DSP_WB_BASE_LO_BASE_LO (base / 4096)).put DSP_WB_BASE_HI_BASE_HI (base / 2 ^ 32)).put DSP_WB_CTRL_COUNT (q.w 2)
      let s := (s.put DSP_WB_CTRL_PIX_EN (q.w 3)).put DSP_WB_CTRL_HDR_EN (if base = 0 then 0 else 1)
      ((s.dspGo 0x80).porchGo porch, some (okReply [])))

/-- DISP ACCUM_RUN (R565). -/
def execDispAccumRun (s : State) : Out := runCmd 0x2403 s (fun q s =>
  if !s.rangeAllowed (q.addr 0) (32 * q.w 2) then (s, some (failReply stDenied)) else
  match firstBad [(0, q.addr 0 % 32 == 0), (1, decide (q.addr 0 < 2 ^ 40)), (2, decide (1 ≤ q.w 2 ∧ q.w 2 ≤ 4096))] with
  | some i => (s, some (badParam i))
  | none =>
    if s.noPlace then (s, some (failReply stNoSpace))
    else if s.on DSP_CTRL_SCAN_EN ∨ s.dsp.run = true ∨ s.on DSP_STATUS_ACC_BUSY then (s, some (failReply stBusy))
    else
      let s := ((s.put DSP_ACC_LIST_LO_LIST_LO (q.w 0)).put DSP_ACC_LIST_HI_LIST_HI (q.w 1)).put DSP_ACC_CTRL_COUNT (q.w 2)
      ((s.startAction q).accStart, some (okReply [])))

end Sys2Proof.Machine
end

