-- ==== Sys2Proof/Machine/Mbx.lean ====
section
/-! DEFINITION. Nagus and the mailbox exchange (spec/03_nagus_mailboxes.md, R98–R145). -/

namespace Sys2Proof.Machine

/-- Halt Nagus: NAGUS_DOWN within 1 µs, every moving axis stops (R98, R100, R105). -/
def State.haltNagus (s : State) : State :=
  { (s.set1 MBX_READY_HALTED).putBit MBX_SUMMARY_WORD 30 true with axesHalt := true }

/-- LOCKSTEP_MISMATCH (R98): MBX fault 001h, class F0. -/
def execLockstepMismatch (s : State) : Out :=
  let s := s.haltNagus
  .next (({ s with mbx := { s.mbx with cause := s.mbx.cause ||| 1 } }).fault 1 1 0)

/-- WDOG_KICK (R99): A5C3h restarts the interval; any other value is reserved (R11). -/
def execWdogKick (v : BitVec 16) (s : State) : Out :=
  .next (if v = 0xA5C3#16 then { s with mbx := { s.mbx with wdogKicks := s.mbx.wdogKicks + 1 } } else s.reservedFault 1)

/-- WDOG_EXPIRE (R99): 10 ms have passed since the kick numbered `since`; without a later kick, fault 002h, F0. -/
def execWdogExpire (since : Nat) (s : State) : Out :=
  .next (if s.on MBX_WDOG_EN && !s.halted && s.mbx.wdogKicks == since then
    let s := s.haltNagus
    ({ s with mbx := { s.mbx with cause := s.mbx.cause ||| 2 } }).fault 1 2 0
  else s)

/-- The hardware's own answer to a ring: NOT_READY or NAGUS_DOWN (R119, R147). -/
def State.hwReply (s : State) (m st : Nat) : State :=
  let q := s.request m
  let s := (s.writeReply m (failReply st)).put MBX_STATE_STATE 2 m
  if q.flags.testBit 0 then s.raise m else s

/-- The reply area of mailbox `m` while it is BUSY: undefined (R112), so free bytes (log entry 4). -/
def State.openReply (s : State) (m : Nat) : State :=
  let (b, s) := freeBytes 0x400 s
  { s with mbx := { s.mbx with mem := Memory.writeBytes 0 s.mbx.mem (m * 0x800 + 0x400) b } }

/-- DOORBELL_RING (R112, R113, R119). -/
def execDoorbellRing (m : Fin 8) (s : State) : Out :=
  .next (if s.get MBX_STATE_STATE m = 1 then s.hostErr MBX_HOST_ERR_RING_BUSY
    else
      let s := ((s.put MBX_STATE_TAG (s.request m).tag m).put MBX_STATE_ABORT_REQ 0 m).openReply m
      if s.on MBX_READY_HALTED then s.hwReply m stNagusDown
      else if !s.on MBX_READY_FW_READY || (s.mbx.recovery && m.val != 0) then s.hwReply m stNotReady
      else
        let s := { s with mbx := { s.mbx with order := s.mbx.order ++ [m.val] } }
        (s.put MBX_STATE_STATE 1 m).putBit MBX_PENDING_RUNG m true)

/-- DOORBELL_ABORT (R118): no effect while IDLE or DONE. -/
def execDoorbellAbort (m : Fin 8) (s : State) : Out :=
  .next (if s.get MBX_STATE_STATE m = 1 then s.put MBX_STATE_ABORT_REQ 1 m else s)

/-- The tag of a request is in use: BUSY on another mailbox, or an unfinished long action (R116). -/
def State.tagInUse (s : State) (m tag : Nat) : Bool :=
  (List.range 8).any (fun k => k != m && s.get MBX_STATE_STATE k == 1 && s.get MBX_STATE_TAG k == tag) ||
  s.unfinished.any (fun a => a.tag == tag)

/-- The mode accepts the command; in recovery the ROM serves four commands (R127, R147). -/
def State.modeOk (s : State) (i : CmdInfo) (q : Req) : Bool :=
  if s.mbx.recovery then [0x0001, 0x0006, 0x3803, 0x3804].contains q.op else (reqModes i q).testBit s.mode

/-- The first of the checks FLAGS, LENGTH, TAG, mode that fails (R111). -/
def State.takeCheck (s : State) (m : Nat) (q : Req) (i : CmdInfo) : Option Nat :=
  if q.flags / 4 ≠ 0 ∨ (q.defer ∧ !deferOk i q) then some stBadFlags
  else if !lenOk i q then some stBadLength
  else if s.tagInUse m (s.get MBX_STATE_TAG m) then some stTagInUse
  else if !s.modeOk i q then some stBadState
  else none

/-- MAILBOX_TAKE (R111, R115, R118): the oldest rung mailbox is taken; a failed check is answered at once. -/
def execMailboxTake (s : State) : Out :=
  .next (match s.mbx.order with
    | [] => s
    | m :: rest =>
      if s.halted || !s.on MBX_READY_FW_READY || s.mbx.taken.isSome then s else
      let aborted := s.on MBX_STATE_ABORT_REQ m
      let s := ({ s with mbx := { s.mbx with order := rest, taken := some m, begun := false, replied := false } }).putBit MBX_PENDING_RUNG m false
      let q := s.request m
      if aborted then s.finish m (failReply stAborted) else
      match cmdInfo q.op with
      | none => s
      | some i => match s.takeCheck m q i with
        | some st => s.finish m (failReply st)
        | none => s)

/-- UNKNOWN_OPCODE (R145). -/
def execUnknownOpcode (s : State) : Out :=
  .next (match s.mbx.taken with
    | none => s
    | some m => if (cmdInfo (s.request m).op).isNone && s.mayBegin then s.finish m (failReply stBadOpcode) else s)

/-- The mailbox that MBX_COMPLETE names moves from BUSY to DONE; vector m is raised if the request has IRQ (R114). -/
def State.complete (s : State) (m : Nat) : State :=
  if s.get MBX_STATE_STATE m = 1 then
    let s := s.put MBX_STATE_STATE 2 m
    if (s.request m).flags.testBit 0 then s.raise m else s
  else s

/-- Firmware has done with the request it took (R115). -/
def State.release (s : State) : State := { s with mbx := { s.mbx with taken := none, begun := false, replied := false } }

/-- MAILBOX_COMPLETE (R114, R115): firmware, not halted, completes the request it took once its reply is written. -/
def execMailboxComplete (m : Fin 8) (s : State) : Out :=
  .next (if s.mbx.taken = some m.val ∧ s.mbx.replied = true ∧ s.halted = false then (s.release).complete m else s)

/-- A write of `m` to MBX_COMPLETE, whoever makes it (R114): a request that was still waiting is no longer to be taken. -/
def State.completeWrite (s : State) (m : Nat) : State :=
  let s := if s.mbx.taken = some m then s.release else { s with mbx := { s.mbx with order := s.mbx.order.filter (fun k => k != m) } }
  s.complete m

/-- EVT_RD_WRITE (R106, R108). -/
def execEvtRdWrite (v : Word) (s : State) : Out :=
  .next (if 256 < (s.get MBX_EVT_WR_WR + 2 ^ 32 - v.toNat) % 2 ^ 32 then s.hostErr MBX_HOST_ERR_PROTO
    else
      let s := s.put MBX_EVT_RD_RD v.toNat
      if s.halted then s else s.postLost)

/-- EVENT_POST (R107, R108): firmware writes the oldest waiting event, or drops it when the ring is full; fault 004h
is recorded when OVERFLOW is first set. -/
def execEventPost (s : State) : Out :=
  .next (if s.halted then s else
    match s.mbx.evq with
    | [] => s
    | e :: rest =>
      let s := ({ s with mbx := { s.mbx with evq := rest } }).postLost
      if 256 ≤ s.evtFill then
        let s := { s with mbx := { s.mbx with evLost := s.mbx.evLost + 1 } }
        s.faultOnce MBX_EVT_STATUS_OVERFLOW 0 1 4 3
      else s.writeEvent e)

/-- SUMMARY_REFRESH (R105); s0.NAGUS_DOWN is the hardware's. -/
def execSummaryRefresh (s : State) : Out :=
  .next (if s.on MBX_READY_HALTED then s.putBit MBX_SUMMARY_WORD 30 true else if s.halted then s else s.putSummary)

/-- HOST_ERR_CLEAR (R151). -/
def execHostErrClear (s : State) : Out := .next (s.wr 0x20010030 0)

/-- VIA_ERR_CLEAR (R54, R55). -/
def execViaErrClear (s : State) : Out := .next ((s.wr 0x2001F000 0).put MBX_VIA_ERR_FIRST_VALID 0)

end Sys2Proof.Machine
end

