-- ==== Sys2Proof/Machine/RegWrite.lean ====
section
/-! DEFINITION. Accesses to the Nagus address map and to BAR0 (R8, R9, R11, R39–R47, R101, R102, R112): register
writes by the access types of their fields, and where a register has a behaviour of its own, that behaviour. A write made this
way completes before φ380 of the present tick (log entry 3). -/

namespace Sys2Proof.Machine

/-- The offset of address `a` in its 64 KiB register window. -/
def winOff (a : Nat) : Nat := a % 0x10000

/-- The register window of address `a` (R42). -/
def winOf (a : Nat) : Nat := a / 0x10000 % 0x1000

/-- The word in force after a write by access types: RW fields are set, W1C flags cleared, the others kept (R9). -/
def mergeWrite (r : RegDesc) (old v : Word) : Word :=
  r.flds.foldl (fun w f => match f.acc with
    | .rw => wset w f.hi f.lo (wfield v f.hi f.lo)
    | .w1c => wset w f.hi f.lo (wfield w f.hi f.lo - (wfield w f.hi f.lo &&& wfield v f.hi f.lo))
    | _ => w) old

/-- Write the RWS fields of register `r` at `a` (R9): the pending value, with DIRTY of their groups. -/
def State.pendWrite (s : State) (r : RegDesc) (a : Nat) (v : Word) : State :=
  r.flds.foldl (fun s f => if f.acc = .rws then
    let s := { s with pend := Tab.put s.pend a (wset (s.rdP a) f.hi f.lo (wfield v f.hi f.lo)) }
    if f.grp < 10 then s.putBit KEY_COMMIT_STATUS_DIRTY f.grp true else s
  else s) s

/-- The unit a reserved-value fault names: the pier, input, slot code, context, axis, channel, layer, port or window whose
register of an array is written, where the block's records name one (R226, R305, R361, R406, R445, R489, R533, R568, R588,
R650, R703; log entry 54), else FFh. -/
def reservedUnit (a : Nat) : Nat :=
  let o := winOff a
  let arr (b n st : Nat) (first : Nat := 0) : Nat := if b ≤ o ∧ o < b + n * st then first + (o - b) / st else 255
  match winOf a with
  | 3 => arr 0x100 16 0x40
  | 5 => arr 0x100 16 0x40
  | 7 => if o < 0x600 then arr 0x100 32 0x10 else arr 0x640 8 0x10
  | 8 => if o < 0x600 then arr 0x100 16 0x40 else arr 0x800 8 0x20 16
  | 9 => if o < 0x1800 then arr 0x1000 32 0x40 else arr 0x1800 32 0x10
  | 10 => arr 0x100 6 0x100
  | 12 => arr 0x100 32 0x20
  | 13 => arr 0x100 6 0x40
  | 14 => arr 0x100 16 0x20
  | 17 => arr 0x100 2 0x80
  | 18 => arr 0x100 16 0x10
  | _ => 255

/-- The constraints a table states on a value beyond the ranges of single fields, or on fields together (R11): SPN_GAS and
SPN_PATCH_THRESH (R263), LOP_PLAUS_ABS not negative (R407), the pairs of CAM_PORT_MAP, the DSP records (R538, R545), LIT_DERATE (R589),
and addresses that are multiples. -/
def State.listed (s : State) (a : Nat) (v : Word) : Bool :=
  let n := v.toNat
  if a = 0x20040008 then n != 0
  else if a = 0x20040030 then decide (n % 2 ^ 20 ≠ 0 ∧ n % 2 ^ 20 ≤ 2 ^ (7 + s.get SPN_PATCH_SIZE_SIZE))
  else if 0x20080100 ≤ a ∧ a < 0x20080500 ∧ a % 64 = 4 then !n.testBit 17
  else if 0x20090100 ≤ a ∧ a < 0x20090200 ∧ a % 64 = 4 then ([n % 4, n / 4 % 4, n / 16 % 4, n / 64 % 4] : List Nat).Nodup
  else if 0x200D0040 ≤ a ∧ a < 0x200D0060 then recordOk a v && (a != 0x200D0040 || n % 4 == 0)
  else if 0x200D0100 ≤ a ∧ a < 0x200D0280 then
    let w := (a - 0x200D0100) % 64 / 4
    layerWordOk (fun i => if i = w then n else (s.rd (a - 4 * w + 4 * i)).toNat) w
  else if 0x200E0100 ≤ a ∧ a < 0x200E0300 ∧ a % 32 = 20 then decide (toSigned 16 (n % 65536) < toSigned 16 (n / 65536))
  else if 0x20110100 ≤ a ∧ a < 0x20110200 ∧ (a % 128 = 16 ∨ a % 128 = 32) then n % 16 == 0
  else if a = 0x200D0D00 then n % 32 == 0
  else if a = 0x20130060 ∨ a = 0x201300A4 ∨ a = 0x20140198 ∨ a = 0x2014020C then n % 4 == 0
  else if a = 0x20140208 then n % 256 == 0
  else true

/-- A write of `v` to the register at `a` by the access types of its fields (R9); a reserved value is refused (R11). -/
def State.plainWrite (s : State) (a : Nat) (v : Word) : State := match regDesc a with
  | none => s
  | some r =>
    if !(fieldsOk a v && s.listed a v) then s.reservedFault (winOf a) (reservedUnit a)
    else (s.wr a (mergeWrite r (s.rd a) v)).pendWrite r a v

/-- A write accepted only under a condition; else it is ignored and the block's WRITE_REFUSED is set. -/
def State.gated (s : State) (ok : Bool) (flag : Fref) (a : Nat) (v : Word) : State :=
  if ok then s.plainWrite a v else s.set1 flag

/-! Block by block: `a` is the Nagus address, `v` the word. -/

/-- A write to KEY_SCHED_CTRL_k (R73–R75). On an armed slot a write with ARM = 1 is ignored, also with MASK = 000h, and records
nothing (log entry 59). -/
def State.schedCtrlWrite (s : State) (k : Nat) (v : Word) : State :=
  if v.toNat.testBit 31 ∧ s.on KEY_SCHED_CTRL_ARM k then s
  else if v.toNat.testBit 31 ∧ v.toNat % 1024 = 0 then s.reservedFault 0
  else
    let s := if v.toNat.testBit 30 then s.put KEY_SCHED_CTRL_FIRED 0 k else s
    let s := if v.toNat.testBit 29 then s.put KEY_SCHED_CTRL_LATE 0 k else s
    if v.toNat.testBit 31 then s.schedArm k (v.toNat % 1024) 0
    else ((s.put KEY_SCHED_CTRL_ARM 0 k).put KEY_SCHED_CTRL_MASK (v.toNat % 1024) k).showArmed

/-- The KEY window. -/
def State.keyWrite (s : State) (a : Nat) (v : Word) : State :=
  let o := winOff a
  if o = 0 then (if fieldsOk a v then (s.plainWrite a v).tickOutEn (v.toNat.testBit 8) else s.reservedFault 0)
  else if o = 0x10 then after (execKeyCommitWrite v.toNat 0) s
  else if 0x100 ≤ o ∧ o < 0x180 then
    let k := (o - 0x100) / 16
    if o % 16 = 8 then s.schedCtrlWrite k v else if s.on KEY_SCHED_CTRL_ARM k then s else s.plainWrite a v
  else if o = 0x280 then (if v.toNat % 2 = 1 then after execOvrClear s else s)
  else if o = 0x410 then (if v.toNat % 2 = 1 then s.snap else s)
  else if o = 0x440 then after (execIncFracWrite v) s
  else if o = 0x444 then after (execIncIntWrite (v &&& 1#32) 0) s
  else if o = 0x450 then after (execOfsLoWrite v) s
  else if o = 0x454 then after (execOfsHiWrite v 0 0 []) s
  else if 0x600 ≤ o ∧ o < 0x800 then
    let k := (o - 0x600) / 32
    if o % 32 = 12 then s.ttCtrlWrite k v else if o % 32 < 12 then s.ttRegWrite k a v else s.plainWrite a v
  else s.plainWrite a v

/-- The MBX window: the registers, and the mailbox memory and the event ring at 4000h and 8000h. -/
def State.mbxWrite (s : State) (a : Nat) (v : Word) : State :=
  let o := winOff a
  if o = 0x20 then s.completeWrite (v.toNat % 8)
  else if o = 0x34 then (if v.toNat % 2 = 1 then after execHostErrClear s else s)
  else if o = 0x200 then (if v.toNat % 2 = 1 then after execFwReadySet s else s.plainWrite a v)
  else if o = 0x204 then
    if v.toNat % 65536 = 0xA5C3 then after (execWdogKick 0xA5C3#16) (if v.toNat.testBit 31 then s.set1 MBX_WDOG_EN else s)
    else s.reservedFault 1
  else if o = 0xF00C then (if v.toNat % 2 = 1 then after execViaErrClear s else s)
  else if 0x4000 ≤ o ∧ o < 0x8000 then { s with mbx := { s.mbx with mem := Memory.writeBytes 0 s.mbx.mem (o - 0x4000) (leBytes 4 v.toNat) } }
  else if 0x8000 ≤ o ∧ o < 0x9000 then { s with mbx := { s.mbx with ring := Memory.writeBytes 0 s.mbx.ring (o - 0x8000) (leBytes 4 v.toNat) } }
  else s.plainWrite a v

/-- A write of SCN_CTRL.PIER_EN (R194, R201): accepted while every pier whose bit changes is OFF, IDLE or DONE. -/
def State.pierEnWrite (s : State) (v : Word) : State :=
  let old := s.get SCN_CTRL_PIER_EN
  let new := v.toNat % 65536
  let changed := (List.range 16).filter (fun p => old.testBit p != new.testBit p)
  if changed.any (fun p => !(s.pierState p == psOff || s.pierState p == psIdle || s.pierState p == psDone)) then s.scnRefuse
  else changed.foldl (fun s p => if new.testBit p then (if s.pierState p = psOff then s.setPierState p psIdle else s)
    else if s.pierState p = psIdle then s.setPierState p psOff else s) (s.put SCN_CTRL_PIER_EN new)

/-- The SCN window (R177, R184, R195, R201). -/
def State.scnWrite (s : State) (a : Nat) (v : Word) : State :=
  let o := winOff a
  if o = 0 then s.pierEnWrite v
  else if o = 4 then
    let m := BitVec.ofNat 16 v.toNat
    match wfield v 18 16 with
    | 1 => after (execScnCmdStart m) s
    | 2 => after (execScnCmdStop m) s
    | 3 => after (execScnCmdReset m) s
    | 4 => after (execScnCmdResume m) s
    | _ => s.reservedFault 2
  else if o = 8 then s.layerSet (v.toNat % 2 ^ 20)
  else if o = 0xC then (if v.toNat % 2 = 1 then after execLayerGoWrite s else s)
  else if o = 0x28 then after (execProfDataAccess (some (BitVec.ofNat 16 v.toNat))) s
  else if 0x100 ≤ o ∧ o < 0x100 + 16 * 0x80 ∧ (o % 0x80 < 0x10 ∨ o % 0x80 = 0x1C ∨ o % 0x80 = 0x20) then
    let p := (o - 0x100) / 0x80
    if s.pierState p ≤ 1 ∧ o % 0x80 = 0xC ∧ s.ringSlots p ≤ v.toNat % 2 ^ 23 then s.reservedFault 2
    else
      let s := s.gated (decide (s.pierState p ≤ 1)) SCN_ERR_WRITE_REFUSED a v
      if o % 0x80 = 0xC ∧ s.pierState p ≤ 1 then s.lwmSet p else s
  else s.plainWrite a v

/-- The COR window (R220, R225). -/
def State.corWrite (s : State) (a : Nat) (v : Word) : State :=
  let o := winOff a
  if o = 8 then
    if !v.toNat.testBit 31 then s.plainWrite a v
    else if s.on COR_CRC_CTRL_BUSY then s
    else after (execGridCrcStart (Fin.ofNat 2 (wfield v 8 8)) (Fin.ofNat 16 (wfield v 3 0))) (s.plainWrite a v)
  else if 0x100 ≤ o ∧ o % 0x40 = 0x1C ∧ o < 0x500 then
    let p := (o - 0x100) / 0x40
    let s := if v.toNat % 2 = 1 then s.set1 COR_BANK_READY p else s
    match wfield v 2 1 with
    | 1 => s.requestSwap p 1
    | 2 => s.requestSwap p 2
    | 3 => s.put COR_BANK_SWAP_PEND 0 p
    | _ => s
  else s.plainWrite a v

/-- The SPN window (R255, R263). -/
def State.spnWrite (s : State) (a : Nat) (v : Word) : State :=
  let o := winOff a
  if o = 0x20 then (if v.toNat.testBit 31 then s.patchOn else if s.on SPN_PATCH_CTRL_EN then s.patchOff else s)
  else if o = 0x24 ∨ o = 0x28 ∨ o = 0x2C then s.gated (!s.on SPN_PATCH_CTRL_EN) SPN_FLAGS_WRITE_REFUSED a v
  else if o = 0x400 then (s.plainWrite a v).showStitch
  else s.plainWrite a v

/-- The PLK window (R295, R301, R306). -/
def State.plkWrite (s : State) (a : Nat) (v : Word) : State :=
  let o := winOff a
  if 0x100 ≤ o ∧ o < 0x100 + 16 * 0x40 then
    let p := (o - 0x100) / 0x40
    if o % 0x40 = 0 then
      if v.toNat % 4 ≠ 3 ∧ !fieldsOk a v then s.reservedFault 5 p else if v.toNat % 4 = 3 then after (execPlkModeWrite (Fin.ofNat 16 p) 3) s else
      let keep := s.get PLK_CTRL_MODE p
      after (execPlkModeWrite (Fin.ofNat 16 p) (Fin.ofNat 4 v.toNat)) ((s.plainWrite a v).put PLK_CTRL_MODE keep p)
    else if o % 0x40 = 4 ∧ v.toNat.testBit 31 then s.trainStart p (v.toNat.testBit 30)
    else s.plainWrite a v
  else s.plainWrite a v

/-- The LSR window (R337, R339). -/
def State.lsrWrite (s : State) (a : Nat) (v : Word) : State :=
  let o := winOff a
  if 0x100 ≤ o ∧ o < 0x100 + 16 * 0x40 then
    let p := (o - 0x100) / 0x40
    if o % 0x40 = 0x18 then
      if v.toNat.testBit 31 then after (execTestFire (Fin.ofNat 16 p) (BitVec.ofNat 16 v.toNat)) s
      else s.gated (!s.on LSR_TEST_BUSY p) LSR_FLAGS_WRITE_REFUSED a v
    else if o % 0x40 = 0x1C then s.gated (!s.on LSR_TEST_BUSY p) LSR_FLAGS_WRITE_REFUSED a v
    else s.plainWrite a v
  else s.plainWrite a v

/-- The AFE window (R352, R353). -/
def State.afeWrite (s : State) (a : Nat) (v : Word) : State :=
  if a = 0x2007000C then
    let s := if v.toNat.testBit 29 then s.put AFE_CAL_CTRL_DONE 0 else s
    if v.toNat.testBit 31 then s.calStart (wfield v 3 0) else s.put AFE_CAL_CTRL_PIER (wfield v 3 0)
  else s.plainWrite a v

/-- The LOP window (R389, R394, R399): a write of LOP_FCTRL_p is a write of IMAGE by Nagus. -/
def State.lopWrite (s : State) (a : Nat) (v : Word) : State :=
  let o := winOff a
  if o = 8 then after (execLoopRearm v.toNat) s
  else if o = 0x24 then after (execImgDataAccess (some v)) s
  else if o = 0x28 then
    if v.toNat.testBit 31 then after (execImgMark (Fin.ofNat 64 v.toNat) (v.toNat.testBit 16)) s
    else if fieldsOk a v then s else s.reservedFault 8
  else if 0x100 ≤ o ∧ o < 0x500 ∧ o % 0x40 = 0 then
    { s.plainWrite a v with lop := { (s.plainWrite a v).lop with nagus := setBit (s.plainWrite a v).lop.nagus ((o - 0x100) / 0x40) true } }
  else s.plainWrite a v

/-- A write of CAM_PORT_CTRL_n or CAM_PORT_MAP_n (R411): while EN is 1 only EN may change. -/
def State.camPortWrite (s : State) (n a : Nat) (v : Word) (map : Bool) : State :=
  if !s.on CAM_PORT_CTRL_EN n then s.plainWrite a v
  else
    let m := fieldMask a &&& (if map then 0xFFFFFFFF#32 else 0x7FFFFFFF#32)
    let s := if s.rd a &&& m = v &&& m then s else s.set1 CAM_FLAGS_WRITE_REFUSED
    if map ∨ v.toNat.testBit 31 then s else s.camPortOff n

/-- The CAM window (R411, R415, R428, R434, R436, R444). -/
def State.camWrite_ (s : State) (a : Nat) (v : Word) : State :=
  let o := winOff a
  if o = 0xC then after (execCtxApply v) s
  else if o = 0x20 then s.camLogEn (v.toNat.testBit 31)
  else if o = 0x24 ∨ o = 0x28 ∨ o = 0x2C then s.gated (!s.on CAM_DLOG_CTRL_EN) CAM_FLAGS_WRITE_REFUSED a v
  else if o = 0x40 then (s.plainWrite a v).camShowDef
  else if o = 0x44 then after (execDefDataAccess (some v)) s
  else if 0x100 ≤ o ∧ o < 0x200 ∧ o % 0x40 = 0 then s.camPortWrite ((o - 0x100) / 0x40) a v false
  else if 0x100 ≤ o ∧ o < 0x200 ∧ o % 0x40 = 4 then s.camPortWrite ((o - 0x100) / 0x40) a v true
  else if 0x100 ≤ o ∧ o < 0x200 ∧ o % 0x40 = 0x1C then (s.plainWrite a v).cciStart ((o - 0x100) / 0x40)
  else if 0x1000 ≤ o ∧ o < 0x1800 then
    let c := (o - 0x1000) / 64
    let w := o % 64 / 4
    if camReserved ((s.camReg c).set w v) w then s.reservedFault 9 c else s.plainWrite a v
  else if 0x1800 ≤ o ∧ o < 0x1800 + 32 * 16 then
    let c := (o - 0x1800) / 16
    if o % 16 = 0 ∨ o % 16 = 4 then s.gated (!s.on CAM_EXP_CTRL_ARM c) CAM_FLAGS_WRITE_REFUSED a v
    else if o % 16 = 8 ∧ v.toNat.testBit 31 then after (execExposureArm (Fin.ofNat 32 c) 0) (s.plainWrite a v)
    else s.plainWrite a v
  else s.plainWrite a v

/-- The AXS window (R452–R456, R461, R483, R490). -/
def State.axsWrite (s : State) (a : Nat) (v : Word) : State :=
  let o := winOff a
  if 0x1000 ≤ o ∧ o < 0x2000 then
    if (List.range 6).all (fun k => s.axState k == axDisabled) then s.plainWrite a v
    else forN 6 (fun k s => s.set1 AXS_FLAGS_WRITE_REFUSED k) s
  else if 0x100 ≤ o ∧ o < 0x700 then
    let k := (o - 0x100) / 0x100
    let w := o % 0x100
    let f := Fin.ofNat 6 k
    if w < 0x58 then
      let p := fun i => if i = w / 4 then v.toNat else (s.rd (a - w + 4 * i)).toNat
      let i := w / 4
      let bad := axReserved p i || (i == 0 && axReserved p 7) || (i == 11 && axReserved p 10)
      if fieldsOk a v && !bad then s.axWord k i v else s.reservedFault 10 k
    else if w = 0x60 then match v.toNat % 8 with
      | 1 => after (execAxsMovePosition f) s
      | 2 => after (execAxsMoveVelocity f) s
      | 3 => after (execAxsStop f) s
      | 4 => after (execAxsHomeSwitch f) s
      | 5 => after (execAxsHomeStall f) s
      | 6 => after (execAxsClear f) s
      | _ => s.reservedFault 10 k
    else if w = 0x6C then after (execAccWrite f v) s
    else if w = 0x9C then after (execCompareArm f v) s
    else s.plainWrite a v
  else s.plainWrite a v

/-- The DMC window (R499, R500, R517). -/
def State.dmcWrite (s : State) (a : Nat) (v : Word) : State :=
  let o := winOff a
  if o = 4 then (if v.toNat % 2 = 1 then after execDramTrainStart s else s)
  else if o = 0 ∨ (0x20 ≤ o ∧ o < 0x30) then s.gated (!s.on DMC_STATUS_READY && !s.on DMC_STATUS_TRAINING) DMC_FLAGS_WRITE_REFUSED a v
  else if o = 0x58 then (if v.toNat % 2 = 1 then after execEccClear s else s)
  else s.plainWrite a v

/-- The DMA window (R521, R528, R531). -/
def State.dmaWrite (s : State) (a : Nat) (v : Word) : State :=
  let o := winOff a
  if o = 8 then (if v.toNat % 2 = 1 then after execDmaHaltClear s else s)
  else if 0x100 ≤ o ∧ o < 0x100 + 32 * 0x20 ∧ o % 0x20 = 0x14 then
    let ch := Fin.ofNat 32 ((o - 0x100) / 0x20)
    if v.toNat.testBit 31 then after (execDmaStart ch v) s
    else if !fieldsOk a v then s.reservedFault 12 ch.val
    else if v.toNat.testBit 30 then after (execDmaStop ch) (s.plainWrite a v)
    else s.plainWrite a v
  else s.plainWrite a v

/-- The DSP window (R535, R540, R543, R566, R569). -/
def State.dspWrite (s : State) (a : Nat) (v : Word) : State :=
  let o := winOff a
  if o = 0 then after (execScanEnable (v.toNat.testBit 0)) (s.put DSP_CTRL_BL_EN (wfield v 1 1))
  else if o = 0x10 then after (execDspCommitGo v false) s
  else if o = 0xC00 then (if v.toNat.testBit 31 then after (execAuxTransaction v) s else s.gated (!s.on DSP_AUX_CTRL_BUSY) DSP_FLAGS_WRITE_REFUSED a v)
  else if 0xC04 ≤ o ∧ o < 0xC14 then s.gated (!s.on DSP_AUX_CTRL_BUSY) DSP_FLAGS_WRITE_REFUSED a v
  else if o = 0xD00 ∨ o = 0xD04 then s.gated (!s.on DSP_STATUS_ACC_BUSY) DSP_FLAGS_WRITE_REFUSED a v
  else if o = 0xD08 then (if v.toNat.testBit 31 then after (execAccumStart v) s else s.gated (!s.on DSP_STATUS_ACC_BUSY) DSP_FLAGS_WRITE_REFUSED a v)
  else s.plainWrite a v

/-- A zero that R587 calls reserved: the pending registers of channel `k` with `v` at `a` would have EN = 1 and a zero. -/
def State.litZero (s : State) (k a : Nat) (v : Word) : Bool :=
  let at_ (f : Fref) : Nat := if f.addr k = a then wfield v f.hi f.lo else s.getP f k
  at_ LIT_CFG_EN == 1 && (at_ LIT_CFG_IREF == 0 || at_ LIT_DET_OPEN_N == 0 || at_ LIT_DET_SHORT_N == 0 ||
    (at_ LIT_CFG_STROBE == 1 && at_ LIT_STROBE_STR_W == 0))

/-- The LIT window (R580, R584, R585, R587, R589); a write of RS changes the set in force (R624). -/
def State.litWrite (s : State) (a : Nat) (v : Word) : State :=
  let o := winOff a
  if o = 0 then (s.plainWrite a v).emitEval
  else if o = 0x18 then after (execLitClearWrite (BitVec.ofNat 16 v.toNat)) s
  else if 0x20 ≤ o ∧ o < 0x30 then s.groupWrite ((o - 0x20) / 4) v
  else if 0x100 ≤ o ∧ o < 0x300 then (if s.litZero ((o - 0x100) / 0x20) a v then s.reservedFault 14 ((o - 0x100) / 0x20) else s.plainWrite a v)
  else if 0x440 ≤ o ∧ o < 0x480 then { s.plainWrite a v with cal := { (s.plainWrite a v).cal with setId := 0xFFFF } }
  else s.plainWrite a v

/-- The THM window (R594, R597, R608). -/
def State.thmWrite (s : State) (a : Nat) (v : Word) : State :=
  let o := winOff a
  if o = 0xC then s.threshWrite false v
  else if o = 0x10 then s.threshWrite true v
  else if o = 0x20 then after (execSensorClear (BitVec.ofNat 12 v.toNat)) s
  else if o = 0x140 then (if v.toNat.testBit 31 then s.peakClear else s)
  else s.plainWrite a v

/-- The CAL window (R618, R620, R623, R630). -/
def State.calRegWrite (s : State) (a : Nat) (v : Word) : State :=
  let o := winOff a
  if o = 0x10 then after (execMcStart v) s
  else if o = 0x20 then s.sweepWrite v
  else if o = 0x30 then s.ltWrite v
  else s.plainWrite a v

/-- The NET window (R633, R634, R637). -/
def State.netWrite (s : State) (a : Nat) (v : Word) : State :=
  let o := winOff a
  if o = 0xC then after (execMdioFrame v) s
  else if 0x100 ≤ o ∧ o < 0x200 ∧ o % 0x80 = 0x1C then after (execTxKick (Fin.ofNat 2 ((o - 0x100) / 0x80)) v) s
  else if 0x100 ≤ o ∧ o < 0x200 ∧ o % 0x80 = 0x3C then after (execTxtsPop (Fin.ofNat 2 ((o - 0x100) / 0x80)) v) s
  else if 0x100 ≤ o ∧ o < 0x200 ∧ ([0x04, 0x08, 0x10, 0x14, 0x20, 0x24] : List Nat).contains (o % 0x80) ∧ s.on NET_CTRL_EN ((o - 0x100) / 0x80) then s
  else s.plainWrite a v

/-- The SEC window (R659, R665–R670, R673, R680, R681, R683). -/
def State.secWrite (s : State) (a : Nat) (v : Word) : State :=
  let o := winOff a
  if o = 4 then after (execModeWrite v) s
  else if o = 8 then (if v.toNat.testBit 31 then after execDebugClose s else s)
  else if o = 0x18 then after (execArbRaise v) s
  else if o = 0x64 then after (execTokenCheck v) s
  else if o = 0x68 then after (execChallengeNew v) s
  else if o = 0x8C then
    let s := if v.toNat.testBit 30 then s.measClear else s
    if v.toNat.testBit 31 then after execJobCheckStart s else s
  else if o = 0x90 then (if s.on SEC_LC_CTRL_BUSY then s.set1 SEC_FLAGS_WRITE_REFUSED else after (execLifecycleProgram v) s)
  else if o = 0xA0 then after (execAttStart v) s
  else s.plainWrite a v

/-- The VLT window (R606, R678, R690–R692, R696). -/
def State.vltWrite (s : State) (a : Nat) (v : Word) : State :=
  let o := winOff a
  if o = 4 then s.raiseCounter VLT_OPSEC_OPSEC v.toNat
  else if o = 8 then s.raiseCounter VLT_PCYCLE_PCYCLE (v.toNat % 2 ^ 24)
  else if o = 0x14 then after (execRtcSet v) s
  else if o = 0x1C then after (execSleepRequest v) s
  else if o = 0x24 then
    let s := if v.toNat.testBit 2 then after execVltClearLost s else s
    let s := if v.toNat.testBit 1 then s.clearTlog else s
    if v.toNat.testBit 0 then after execVltClearTrip s else s
  else s.plainWrite a v

/-- The FLU window (R707, R710, R712, R723, R728). -/
def State.fluWrite (s : State) (a : Nat) (v : Word) : State :=
  let o := winOff a
  if o = 0xC then after (execFluFlushWrite v) s
  else if o = 0x180 then after (execFluSubmitGo v) s
  else if o = 0x19C then after (execFluReadStart v) s
  else if o = 0x204 then
    if !fieldsOk a v then s.reservedFault 20 else
    let s := if v.toNat.testBit 29 then s.put FLU_XSPI_CMD_ERR 0 else s
    if v.toNat.testBit 31 then s.xspiGo (v.toNat % 8) else s.put FLU_XSPI_CMD_OP (v.toNat % 8)
  else s.plainWrite a v

/-- A 32-bit write that reaches the register window at `a` (R8, R9). -/
def State.regWrite (s : State) (a : Nat) (v : Word) : State := match winOf a with
  | 0 => s.keyWrite a v
  | 1 => s.mbxWrite a v
  | 2 => s.scnWrite a v
  | 3 => s.corWrite a v
  | 4 => s.spnWrite a v
  | 5 => s.plkWrite a v
  | 6 => s.lsrWrite a v
  | 7 => s.afeWrite a v
  | 8 => s.lopWrite a v
  | 9 => s.camWrite_ a v
  | 10 => s.axsWrite a v
  | 11 => s.dmcWrite a v
  | 12 => s.dmaWrite a v
  | 13 => s.dspWrite a v
  | 14 => s.litWrite a v
  | 15 => s.thmWrite a v
  | 16 => s.calRegWrite a v
  | 17 => s.netWrite a v
  | 19 => s.secWrite a v
  | 20 => s.fluWrite a v
  | 21 => s.vltWrite a v
  | _ => s.plainWrite a v

/-- A 32-bit read of the register at `a`: what it does to the state (R84, R177, R389, R428). -/
def State.regRead (s : State) (a : Nat) : State :=
  if isLatching a then after (execLatchingRead a 0) s
  else if a = 0x20020028 then after (execProfDataAccess none) s
  else if a = 0x20080024 then after (execImgDataAccess none) s
  else if a = 0x20090044 then after (execDefDataAccess none) s
  else s

/-- What a read of the register at `a` returns (R9): pending values for RWS fields, 0 for WO fields; `before` is the
state before the read's own effect, and `s` the one after it, which shows the latched halves and the selected entries (R84, R177, R389). The mailbox memory and the event ring stand in the MBX window. -/
def State.regValue (s before : State) (a : Nat) : Word := match regDesc a with
  | none =>
    if 0x20014000 ≤ a ∧ a < 0x20018000 then word (leNat (Memory.readBytes 0 s.mbx.mem (a - 0x20014000) 4))
    else if 0x20018000 ≤ a ∧ a < 0x20019000 then word (leNat (Memory.readBytes 0 s.mbx.ring (a - 0x20018000) 4))
    else 0
  | some r =>
    let v := if isLatching a ∨ a = 0x20020028 ∨ a = 0x20080024 then s.rd a else before.rd a
    r.flds.foldl (fun w f => match f.acc with
      | .wo => w
      | .rws => wset w f.hi f.lo (wfield (before.rdP a) f.hi f.lo)
      | _ => wset w f.hi f.lo (wfield v f.hi f.lo)) 0

/-! The Nagus address map (R42). -/

/-- The address an error capture shows (R54): the Nagus address for Nagus, the alias for a DMA channel. -/
def capAddr (req a : Nat) : Nat := if req = 0 then a else 0xFF00000000 + a

/-- [a, a + n) lies inside [lo, hi). -/
def within (a n lo hi : Nat) : Bool := decide (lo ≤ a ∧ a + n ≤ hi)

/-- The system address of an aperture access (R45); none where the aperture is disabled or it leaves the aperture. -/
def State.aperture (s : State) (a n : Nat) : Option Nat :=
  let k := a / 0x10000000 - 4
  if s.on MBX_VIA_APERTURE_EN k && a % 0x10000000 + n ≤ 0x10000000 then some (s.get MBX_VIA_APERTURE_BASE k * 0x10000000 + a % 0x10000000) else none

/-- A faulty access is counted and captured (R41). -/
def State.mapErr (s : State) (e : ViaErr) (req a n : Nat) (w : Bool) : List Byte × State := (List.replicate n 0#8, s.viaErr e req w (capAddr req a))

/-- The Viaduct error that an answer other than OK counts as (R41). -/
def BusRes.viaKind (r : BusRes) : ViaErr := match r with
  | .perm => .perm
  | .align => .align
  | .target => .target
  | _ => .decode

/-- An access to the grid slots of the correction banks (R209, R219). -/
def State.bankAccess (s : State) (req a n : Nat) (w : Option (List Byte)) : BusRes × List Byte × State :=
  match w with
  | none =>
    let r := s.bankRead (a % 0x200000) n
    if r.1 = .ok then (.ok, r.2, s) else (.decode, s.mapErr .decode req a n false)
  | some bs =>
    let r := s.bankWrite (a % 0x200000) (bs.take n)
    if r.1 = .ok then (.ok, [], r.2) else (r.1, r.2.mapErr r.1.viaKind req a n true)

/-- Whether the aligned address `a` of a register window is one its block's chapter lists (R42): a register, or a word
of the mailbox memory or the event ring. The other offsets are reserved, and an access to one is a decode error (R41). -/
def listedOffset (a : Nat) : Bool := (regDesc a).isSome || decide (0x20014000 ≤ a ∧ a < 0x20019000)

/-- An access of `n` bytes at Nagus address `a` by requester `req`, a read or a write of bytes (R39–R45): the answer,
what a read returns, and the state. In a register window an access of any other width than 32 bits, a wider one too, is an
alignment error (R8, R39; log entry 60). -/
def State.mapAccess (s : State) (req a n : Nat) (w : Option (List Byte)) : BusRes × List Byte × State :=
  if within a n 0 0x10000 then
    match w with
    | none => let (b, s) := freeBytes n s; (.ok, b, s)
    | some _ => (.perm, s.mapErr .perm req a n true)
  else if within a n 0x10000000 0x10100000 then
    match w with
    | none => (.ok, Memory.readBytes 0 s.sram a n, s)
    | some bs => (.ok, [], { s with sram := Memory.writeBytes 0 s.sram a (bs.take n) })
  else if within a 1 0x20000000 0x20160000 then
    if n ≠ 4 ∨ a % 4 ≠ 0 then (.align, s.mapErr .align req a n w.isSome)
    else if !listedOffset a then (.decode, s.mapErr .decode req a n w.isSome)
    else match w with
    | none => let s' := s.regRead a; (.ok, leBytes 4 (s'.regValue s a).toNat, s')
    | some bs => (.ok, [], s.regWrite a (word (leNat (bs.take 4))))
  else if within a n 0x30000000 0x30200000 then
    s.bankAccess req a n w
  else if within a n 0x34000000 0x34700000 then
    match w with
    | none => (.ok, Memory.readBytes 0 s.dsp.fs (a % 0x800000) n, s)
    | some bs => (.ok, [], { s with dsp := { s.dsp with fs := Memory.writeBytes 0 s.dsp.fs (a % 0x800000) (bs.take n) } })
  else (.decode, s.mapErr .decode req a n w.isSome)

/-- An access to DRAM at system address `a`. -/
def State.dramAccess (s : State) (req a n : Nat) (w : Option (List Byte)) : BusRes × List Byte × State := match w with
  | none => s.dramRead req a n
  | some bs => match s.dramWrite req a (bs.take n) with
    | (r, s) => (r, [], s)

/-- An access by Nagus at its own address `a` (R42, R45): an error in an aperture is captured at the Nagus address (R54). -/
def State.nagusAccess (s : State) (a n : Nat) (w : Option (List Byte)) : BusRes × List Byte × State :=
  if within a 1 0x40000000 0x140000000 then
    match s.aperture a n with
    | none => (.decode, s.mapErr .decode 0 a n w.isSome)
    | some sys =>
      let (r, b, t) := s.dramAccess 0 sys n w
      (r, b, t.captureAt s a)
  else s.mapAccess 0 a n w

/-- An access at system address `a` by a requester other than Nagus (R46, R47): DRAM, or for DMA channels 0 to 3 the
on-chip alias. -/
def State.sysAccess (s : State) (req a n : Nat) (w : Option (List Byte)) : BusRes × List Byte × State :=
  if within a 1 0 0x1000000000 then s.dramAccess req a n w
  else if within a 1 0xFF00000000 0xFF40000000 then
    if 0x20 ≤ req ∧ req < 0x24 then s.mapAccess req (a % 0x40000000) n w
    else (.perm, List.replicate n 0#8, s.busErr .perm req w.isSome a)
  else (.decode, List.replicate n 0#8, s.busErr .decode req w.isSome a)

/-! BAR0 (R101, R102, R106, R112). -/

/-- A host write of bytes into the mailboxes: one write to a BUSY request area or to a reply area counts once (R112). -/
def State.mailWrite (s : State) (o : Nat) (bs : List Byte) : State :=
  if 0x400 ≤ o % 0x800 then s.hostErr MBX_HOST_ERR_WR_REPLY
  else if s.get MBX_STATE_STATE (o / 0x800) = 1 then s.hostErr MBX_HOST_ERR_WR_BUSY
  else { s with mbx := { s.mbx with mem := Memory.writeBytes 0 s.mbx.mem o bs } }

/-- A host write of one word at offset `o` of BAR0, from 4000h on. -/
def State.bar0Word (s : State) (o : Nat) (v : Word) : State :=
  if 0x4000 ≤ o ∧ o < 0x4020 then
    let m := Fin.ofNat 8 ((o - 0x4000) / 4)
    if v.toNat.testBit 0 then after (execDoorbellRing m) s
    else if v.toNat.testBit 1 then after (execDoorbellAbort m) s else s
  else if o = 0x4204 then after (execEvtRdWrite v) s
  else if o = 0x4208 then (if v.toNat % 2 = 1 then s.put MBX_EVT_STATUS_OVERFLOW 0 else s)
  else if 0x4400 ≤ o ∧ o < 0x4440 then after (execRingIndexWrite (Fin.ofNat 16 ((o - 0x4400) / 4)) v) s
  else if 0x8000 ≤ o ∧ o < 0x8200 then
    ({ s with mbx := { s.mbx with msix := Memory.writeBytes 0 s.mbx.msix (o - 0x8000) (leBytes 4 v.toNat) } }).vecRelease
  else s

/-- What a host read of the word at offset `o` of BAR0 returns (R101, R105, R106, R112, R154, R648): the doorbells and the
reserved offsets read as zeros. -/
def State.bar0Read (s : State) (o : Nat) : List Byte :=
  if o < 0x4000 then Memory.readBytes 0 s.mbx.mem o 4
  else if 0x4020 ≤ o ∧ o < 0x4040 then leBytes 4 (s.rd (0x20010000 + (o - 0x4020))).toNat
  else if 0x4100 ≤ o ∧ o < 0x4120 then leBytes 4 (s.get MBX_SUMMARY_WORD ((o - 0x4100) / 4))
  else if o = 0x4200 then leBytes 4 (s.get MBX_EVT_WR_WR)
  else if o = 0x4204 then leBytes 4 (s.get MBX_EVT_RD_RD)
  else if o = 0x4208 then leBytes 4 (s.get MBX_EVT_STATUS_OVERFLOW)
  else if 0x4400 ≤ o ∧ o < 0x4440 then leBytes 4 (s.get SCN_RING_RD_RD ((o - 0x4400) / 4))
  else if 0x5000 ≤ o ∧ o < 0x6000 then Memory.readBytes 0 s.mbx.ring (o - 0x5000) 4
  else if 0x8000 ≤ o ∧ o < 0x8200 then Memory.readBytes 0 s.mbx.msix (o - 0x8000) 4
  else if o = 0x9000 then leBytes 4 (s.mbx.vecPend % 2 ^ 32)
  else leBytes 4 0

/-- A host access to BAR0: what a read returns, and the state. Aligned 32-bit or 64-bit, else a write has no effect, a read
returns zeros, and SIZE counts it (R102). -/
def State.bar0 (s : State) (o n : Nat) (w : Option (List Byte)) : List Byte × State :=
  if !((n == 4 && o % 4 == 0) || (n == 8 && o % 8 == 0)) then (List.replicate n 0#8, s.hostErr MBX_HOST_ERR_SIZE)
  else match w with
  | none => (s.bar0Read o ++ (if n = 8 then s.bar0Read (o + 4) else []), s)
  | some bs =>
    if o < 0x4000 then ([], s.mailWrite o (bs.take n)) else
    let s := s.bar0Word o (word (leNat (bs.take 4)))
    ([], if n = 8 then s.bar0Word (o + 4) (word (leNat ((bs.drop 4).take 4))) else s)

/-- REGISTER_WRITE (R8, R9, R11, R39–R47, R101, R102): one access to a register, or to another target of the map. An access to
the VLT window that fails on the vault link sets LINK_ERR and records fault 009h (R698). In D3hot a memory request of the host
completes with Unsupported Request (R649). -/
def execRegisterWrite (x : Access) (s : State) : Out :=
  .next (match x with
    | .vaultFail => (s.set1 VLT_FLAGS_LINK_ERR).fault 21 9 2
    | .via req a n w => if req = 0 then (s.nagusAccess a n w).2.2 else (s.sysAccess req.toNat a n w).2.2
    | .host o n w => if s.on PCI_STATUS_D3HOT then s else (s.bar0 o n w).2)

end Sys2Proof.Machine
end

