-- ==== Sys2Proof/Machine/DmaRun.lean ====
section
/-! DEFINITION. The accesses of the DMA engine: bursts issued and their responses (R520, R525–R530). -/

namespace Sys2Proof.Machine

/-- Bytes of the next access of one side at `a` with `n` bytes left (R520, R525): 4 on a fixed side and in the register
windows, else up to the BURST boundary. -/
def burstLen (x : DmaX) (fix : Bool) (a n : Nat) : Nat :=
  if fix ∨ (windowRange.1 ≤ a ∧ a < windowRange.2) then 4 else min n (x.burst - a % x.burst)

/-- The write that channel `ch` can issue: of bytes its reads have returned (R525). -/
def State.dmaWriteNext (s : State) (ch : Nat) : Option DmaAcc := match (s.dmaCh ch).act with
  | none => none
  | some x =>
    let a := if x.dfix then x.dst else x.dst + x.wr
    let n := burstLen x x.dfix a x.buf.length
    if x.buf = [] ∨ x.buf.length < n then none else some { ch := ch, id := x.id, write := true, addr := a, n := n, data := x.buf.take n }

/-- The read that channel `ch` can issue: fewer than 8 of its reads are outstanding, and it is not stopping (R525, R528). -/
def State.dmaReadNext (s : State) (ch : Nat) : Option DmaAcc := match (s.dmaCh ch).act with
  | none => none
  | some x =>
    if x.len ≤ x.rd ∨ (s.dmaCh ch).stop ∨ 8 ≤ (s.dma.out.filter (fun o => o.ch == ch && !o.write)).length then none else
    let a := if x.sfix then x.src else x.src + x.rd
    some { ch := ch, id := x.id, write := false, addr := a, n := burstLen x x.sfix a (x.len - x.rd) }

/-- The access channel `ch` issues next. -/
def State.dmaNext (s : State) (ch : Nat) : Option DmaAcc := (s.dmaWriteNext ch).or (s.dmaReadNext ch)

/-- The channel served next: 0 to 3 before 4 to 31, round robin within each class (R525). -/
def State.dmaTurn (s : State) : Option Nat :=
  let ready (ch : Nat) : Bool := (s.dmaNext ch).isSome
  match ((List.range 4).map (fun i => (s.dma.rr + 1 + i) % 4)).find? ready with
  | some ch => some ch
  | none => ((List.range 28).map (fun i => 4 + (s.dma.rr2 - 4 + 1 + i) % 28)).find? ready

/-- `n` bytes of the active transfer `id` of channel `ch` count as done (R526, R527). -/
def State.dmaDone (s : State) (ch id n : Nat) : State := match (s.dmaCh ch).act with
  | none => s
  | some x =>
    if x.id ≠ id then s else
    let h := x.len / 2
    let s := if x.half && decide (0 < h ∧ x.done < h ∧ h ≤ x.done + n) then s.putBit DMA_IRQ_HALF_HALF ch true else s
    let s := (s.setDmaCh ch { s.dmaCh ch with act := some { x with done := x.done + n } }).put DMA_DONE_DONE (x.done + n) ch
    s.dmaComplete 3 ch

/-- Show the accesses outstanding. -/
def State.dmaShow (s : State) : State := s.put DMA_STATUS_OUTSTANDING s.dma.out.length

/-- Issue one access of channel `ch` (R525, R526). -/
def State.dmaIssue (s : State) (ch : Nat) (o : DmaAcc) : State := match (s.dmaCh ch).act with
  | none => s
  | some x =>
    let x := if o.write then { x with wr := x.wr + o.n, buf := x.buf.drop o.n } else { x with rd := x.rd + o.n }
    let s := s.setDmaCh ch { s.dmaCh ch with act := some x }
    let s := { s with dma := { s.dma with out := s.dma.out ++ [o], rr := if ch < 4 then ch else s.dma.rr, rr2 := if ch < 4 then s.dma.rr2 else ch } }
    let s := if o.write ∧ 4 ≤ ch then s.dmaDone ch o.id o.n else s
    s.dmaShow

/-- DMA_BURST_ISSUE (R520, R525, R529): the next burst of the channel whose turn it is; `ue` names a channel whose state
gave an uncorrectable error (R48). -/
def execDmaBurstIssue (ue : Option (Fin 32)) (s : State) : Out :=
  .next (if s.on DMA_STATUS_HALTED then s else
    match ue with
    | some ch => s.dmaHalt ch.val 12 (((s.dmaCh ch.val).act.map (fun x => x.src + x.rd)).getD 0) 4 false
    | none => if 64 ≤ s.dma.out.length then s else
      match s.dmaTurn with
      | none => s
      | some ch => match s.dmaNext ch with
        | none => s
        | some o => s.dmaIssue ch o)

/-- The bytes of a read join the buffer of its transfer. -/
def State.dmaFill (s : State) (o : DmaAcc) (bs : List Byte) : State := match (s.dmaCh o.ch).act with
  | none => s
  | some x => if x.id = o.id then s.setDmaCh o.ch { s.dmaCh o.ch with act := some { x with buf := x.buf ++ bs } } else s

/-- The ERR code of an error response (R529). -/
def dmaErrCode (r : BusRes) : Nat := match r with
  | .decode => 8
  | .perm => 9
  | _ => 10

/-- An error response: the first stops the engine, further ones are only counted (R529, R530). -/
def State.dmaError (s : State) (o : DmaAcc) (r : BusRes) : State :=
  if s.on DMA_STATUS_HALTED then s else
  let live := match (s.dmaCh o.ch).act with
    | some x => x.id == o.id
    | none => false
  s.dmaHalt o.ch (dmaErrCode r) o.addr (if live then 1 else 2) (!live)

/-- The oldest access of channel `ch` that is outstanding, and the others. -/
def takeAcc (ch : Nat) : List DmaAcc → Option (DmaAcc × List DmaAcc)
  | [] => none
  | o :: t => if o.ch = ch then some (o, t) else match takeAcc ch t with
    | some (a, r) => some (a, o :: r)
    | none => none

/-- DMA_ACCESS_RESPONSE (R41, R526–R530): the oldest outstanding access of channel `ch` takes effect and is answered. -/
def execDmaAccessResponse (ch : Fin 32) (s : State) : Out :=
  .next (match takeAcc ch.val s.dma.out with
    | none => s
    | some (o, rest) =>
      let s := { s with dma := { s.dma with out := rest } }
      let (r, bs, s) := s.sysAccess (0x20 + ch.val) o.addr o.n (if o.write then some o.data else none)
      let s := if r ≠ .ok then s.dmaError o r
        else if o.write then (if ch.val < 4 then s.dmaDone ch.val o.id o.n else s)
        else s.dmaFill o bs
      (s.dmaStopped ch.val).dmaShow)

/-! COR GRID_LOAD (R47, R132, R219, R529): the command is carried out whole, with its transfer (log entry 61). -/

/-- The privileged channel firmware copies a grid with: the lowest one that has no transfer. -/
def State.gridCh (s : State) : Nat := ((List.range 4).find? (fun ch => (s.dmaCh ch).act.isNone)).getD 0

/-- The channel's registers describe the copy of a grid from system address `a` into a slot. -/
def State.gridRegs (s : State) (ch a b p : Nat) : State :=
  let d := 0xFF30000000 + slotBase b p
  let s := (s.put64 DMA_SRC_LO_SRC_LO DMA_SRC_HI_SRC_HI a ch).put64 DMA_DST_LO_DST_LO DMA_DST_HI_DST_HI d ch
  (((s.put DMA_LEN_LEN gridBytes ch).put DMA_CTRL_SRC_FIX 0 ch).put DMA_CTRL_DST_FIX 0 ch).put DMA_CTRL_ALLOW_OVERLAP 0 ch

/-- Read `n` bytes from `a` on by bursts of 64 bytes, up to the first error response: the answer and the address of the burst
that failed, and the bytes read before. -/
def State.burstsRead : Nat → Nat → Nat → Nat → State → Option (BusRes × Nat) × List Byte × State
  | 0, _, _, _, s => (none, [], s)
  | f + 1, req, a, n, s =>
    if n = 0 then (none, [], s) else
    let m := min n (64 - a % 64)
    match s.dramRead req a m with
    | (.ok, bs, s) =>
      let (e, t, s) := State.burstsRead f req (a + m) (n - m) s
      (e, bs ++ t, s)
    | (r, _, s) => (some (r, a), [], s)

/-- A grid load that an error response stops: how many bursts were written before it is free; READY is 0 (R219, R529). -/
def State.gridStop (s : State) (ch b p : Nat) (r : BusRes) (a : Nat) (data : List Byte) : State :=
  let (k, s) := s.fresh
  let s := ((s.bankWrite (slotBase b p) (data.take (64 * (k % (data.length / 64 + 1))))).2).slotWritten p
  s.dmaHalt ch (dmaErrCode r) a 1 false

/-- The transfer of channel `ch` has moved its last byte (R526, R527). -/
def State.gridMoved (s : State) (ch : Nat) : State := match (s.dmaCh ch).act with
  | none => s
  | some x => ((s.setDmaCh ch { s.dmaCh ch with act := some { x with done := x.len } }).put DMA_DONE_DONE x.len ch).dmaComplete 3 ch

/-- The grid is in its slot: its CRC runs, after one that is under way, and READY is marked (R224, R225). -/
def State.gridDone (s : State) (b p : Nat) : State :=
  let s := ((s.crcEnd).put COR_CRC_CTRL_BANK b).put COR_CRC_CTRL_PIER p
  ((s.wr 0x2003000C (word (s.slotCrc b p))).set1 COR_CRC_CTRL_DONE).set1 COR_BANK_READY p

/-- COR GRID_LOAD (R44, R47, R132): BUSY while a swap is pending; HW_FAULT with the DMA fault where the transfer is refused or
stopped (R531). -/
def execCorGridLoad (s : State) : Out := runCmd 0x0C00 s (fun q s =>
  if !s.rangeAllowed (q.addr 1) gridBytes then (s, some (failReply stDenied)) else
  match firstBad [(0, decide (q.w 0 < 16))] with
  | some i => (s, some (badParam i))
  | none =>
    let p := q.w 0
    if s.get COR_BANK_SWAP_PEND p ≠ 0 then (s, some (failReply stBusy))
    else
      let b := s.inactiveBank p
      let ch := s.gridCh
      let s := s.gridRegs ch (q.addr 1) b p
      if (s.dmaRefusal ch (s.dmaXfer ch)).isSome then (s.dmaStart ch, some (failReply stHwFault 0x3003)) else
      match State.burstsRead 1024 (0x20 + ch) (q.addr 1) gridBytes (s.dmaStart ch) with
      | (none, data, s) =>
        let s := (((s.bankWrite (slotBase b p) data).2).gridMoved ch).gridDone b p
        (s, some (okReply [b, s.slotCrc b p]))
      | (some (r, a), data, s) => (s.gridStop ch b p r a data, some (failReply stHwFault 0x3001)))

end Sys2Proof.Machine
end

