-- ==== Sys2Proof/Machine/Jtag.lean ====
section
/-! DEFINITION. The JTAG port (R336, R654, R679). -/

namespace Sys2Proof.Machine

/-- Whether a boundary cell may drive its ball: the cells of the xSPI balls never do (R707). -/
def Ball.drives (b : Ball) : Bool := match b with
  | .xspi _ => false
  | _ => true

/-- The level that EXTEST gives a ball, none where it drives nothing: the permit and the fault
network act after the cell of a gate pad (R311, R336). -/
def State.extestLevel (s : State) (b : Ball) : Option Bool :=
  if s.sec.jtag ≠ .extest then none else
  match s.sec.pads.find? (fun c => c.1 == b) with
  | none => none
  | some (.gate _, v) => some (v && s.permit && !s.lsr.permOff && !s.on LSR_PERMIT_DISCREP && !s.forced && s.mode != 7)
  | some (_, v) => some v

/-- Load a JTAG instruction: one that the debug level does not allow acts as BYPASS (R679). -/
def State.loadJtag (s : State) (j : JtagReg) (cells : List (Ball × Bool)) : State :=
  { s with sec := { s.sec with
      jtag := if j.level ≤ s.debug then j else .bypass
      pads := if j.level ≤ s.debug then cells.filter (fun c => Ball.drives c.1) else [] } }

/-- Release Nagus from a debug halt. -/
def State.debugResume (s : State) : State :=
  ({ s with sec := { s.sec with haltPend := false } }).put SEC_DEBUG_HALTED 0

/-- JTAG_INSTRUCTION (R654, R679, R684): reads of the Nagus map at OBSERVE and FULL, writes and control of Nagus at FULL.
Trace and a single step show or run program flow, which the block does not hold. -/
def execJtagInstruction (j : Jtag) (s : State) : Out :=
  .next (match j with
    | .bypass => s.loadJtag .bypass []
    | .idcode => s.loadJtag .idcode []
    | .sample => s.loadJtag .sample []
    | .extest cells => s.loadJtag .extest cells
    | .read a n => if 1 ≤ s.debug then ((s.loadJtag .memory []).nagusAccess a n none).2.2 else s.loadJtag .memory []
    | .write a bs => if 2 ≤ s.debug then ((s.loadJtag .memory []).nagusAccess a bs.length (some bs)).2.2 else s.loadJtag .bypass []
    | .trace => s.loadJtag .trace []
    | .step => s.loadJtag .control []
    | .resume => if 2 ≤ s.debug then (s.loadJtag .control []).debugResume else s.loadJtag .control [])

end Sys2Proof.Machine
end

