-- ==== Sys2Proof/Machine/Tick.lean ====
section
/-! DEFINITION. The Keystone tick: the phase schedule of the tick that ends, its deadlines and overruns, and the edge
(R36, R56–R66, R69–R72, R85–R91). -/

namespace Sys2Proof.Machine

/-! Uncorrectable errors (R48). -/

/-- An error in stitch entry `id`: fault 009h, the entry is free, its piers enter FAULT (R244). -/
def State.stitchError (s : State) (id : Nat) : State := match Tab.find s.spn.table id with
  | none => s
  | some e =>
    let ps := if e.state = 2 ∨ e.state = 5 ∨ e.joined then [e.pier, e.partner] else [e.pier]
    let s := (s.fault 4 9 1 e.pier).freeStitch id
    let s := { s with causes := ps.foldl (fun c p => if c.contains (0x1009, p) then c else c ++ [(0x1009, p)]) s.causes }
    ps.foldl (fun s p =>
      let q := s.pier p
      let moving : Bool := match q.mot with
        | some m => decide (m.i < m.plan.k)
        | none => false
      (s.setPier p { q with stitch := none, stop := if moving then 3 else 0, stopTick := s.key.tick }).setPierState p psFault) s

/-- The codes of class F3 of a block that has a link buffer (R739). -/
def linkCodes (src : Nat) : List Nat := match src with
  | 5 => [0x6, 0x10, 0x11]
  | 6 => [0x8, 0x9, 0xA]
  | 13 => [0x1, 0x2, 0x4, 0x5, 0x6, 0x9, 0xA, 0xB, 0xC]
  | 17 => [0x1, 0x2, 0x3, 0x6]
  | _ => [0x2, 0x3, 0x4]

/-- A parity error in a link buffer of block `src` (R48): its frame or packet is discarded, an uplink frame here, a power word in
`State.powerPart`; the fault is of class F3; which of the block's codes it takes the spec does not say, so a free value chooses (log
entry 63). -/
def State.linkParity (s : State) (src p : Nat) : State :=
  let s := if src = 5 then s.setLink p { s.link p with frame := none } else s
  let (v, s) := s.fresh
  s.fault src ((linkCodes src).getD (v % (linkCodes src).length) 0) 3 (if src = 5 ∨ src = 6 then p else 255)

/-- The SRAM errors found at φ0 (R48, R199, R244, R406): a FIFO word where the pier is due to take, an entry of a profile
in use. -/
def State.sramErrors (s : State) (i : TickIn) : State :=
  let s := if i.nagusUe then s.fault 1 3 0 else s
  let s := match i.stageUe with
    | some n => s.stageError n
    | none => s
  let s := i.linkUe.foldl (fun s c => s.linkParity c.1 c.2) s
  let s := i.stitchUe.foldl (fun s id => s.stitchError id) s
  let s := forN 16 (fun p s =>
    if i.fifoUe.contains p && s.pierState p == psRun && (s.pier p).due && !(s.pier p).fifo.isEmpty then s.enterFault p 4 else s) s
  forN 16 (fun p s => match (s.pier p).mot with
    | some m => if i.profUe.contains p && m.prof.isSome && decide (m.i < m.plan.k) && s.pierState p == psRun then s.enterFault p 5 else s
    | none => s) s

/-- A planned power computed from a profile entry in error is free. -/
def State.profError (s : State) (ps : List Nat) : State :=
  forN 16 (fun p s => match (s.pier p).mot with
    | some m => if ps.contains p && m.prof.isSome && decide ((s.pier p).hand.lit ≠ 0) then
        let (v, s) := s.fresh
        s.setPier p { s.pier p with hand := { (s.pier p).hand with planned := v % 65536 } }
      else s
    | none => s) s

/-! Deadlines (R59–R66). -/

/-- The piers whose result of block `src` is absent at its deadline (R61). -/
def lateOf (i : TickIn) (src : Nat) : List Nat := (List.range 16).filter (fun p => i.late.contains (src, p))

/-- Tick overruns of block `src` (R61, R64). -/
def State.overruns (s : State) (src : Nat) (ps : List Nat) : State := ps.foldl (fun s p => s.overrun src p) s

/-- The partner that slips with pier `p`: the other side of a paired stitch in execution (R243). -/
def State.slipPartner (s : State) (p : Nat) : Option Nat := match (s.pier p).mot with
  | some m => if m.kind = .stroke ∧ m.role = .paired ∧ (m.i < m.plan.k ∨ m.fresh) then some m.partner else none
  | none => none

/-- The work of the tick before the positions are handed (R164, R179–R184, R198, R235, R618). -/
def State.frontPart (s : State) (i : TickIn) : State :=
  let s := (s.layerStart).sramErrors i
  let s := forN 16 (fun p s => s.phi0 p s.linkFail) s
  (s.tickBarriers.tickStitches).gapOpen

/-- The positions handed by φ120, and the stroke engine's overruns (R61, R62, R166). -/
def State.handPart (s : State) (i : TickIn) : State :=
  let late := lateOf i 2
  ((forN 16 (fun p s => s.handPier p (late.contains p)) s).profError i.profUe).overruns 2 late

/-- The piers that slip in the tick: those late in SCN or COR, and the partners of paired ones (R62, R243). `s` is the
state before the positions were handed. -/
def State.slips (s : State) (i : TickIn) : List Nat × List Nat :=
  let own := (List.range 16).filter (fun p => i.late.contains (2, p) || i.late.contains (3, p))
  (own, ((own.filterMap s.slipPartner).filter (fun p => !own.contains p)))

/-- Corrected single-bit errors in correction points (R48). -/
def State.corCorrected (s : State) (ps : List Nat) : State :=
  ps.foldl (fun s p => if p < 16 then s.incSat COR_ECC_CORRECTED p else s) s

/-- Field correction up to φ200, after the slips of the tick are known; `before` are the piers as they stood before
their positions were handed (R62, R63, R202–R218, R230, R243). -/
def State.corPart (s : State) (i : TickIn) (before : Tab PierSt) (own forced : List Nat) : State :=
  let back := (own.filter (fun p => !i.late.contains (2, p))) ++ forced
  let s := back.foldl (fun s p => s.slipPier (Tab.get {} before p) p) s
  let s := forced.foldl (fun s p => s.incSat SPN_CNT_B_SLIP p) s
  let s := { s with spn := { s.spn with slip := (own ++ forced).foldl (fun m p => setBit m p true) 0 } }
  let s := (forN 16 (fun p s => s.corTick p (i.corUe.contains p) (back.contains p)) s).corCorrected i.corCe
  let s := forN 16 (fun p s => (s.finishStroke p (Tab.get {} before p)).showHand p) s
  s.overruns 3 (lateOf i 3)

/-- The piers whose φ0 results are not present at φ168 (R61, R349). -/
def State.afeLate (s : State) (i : TickIn) : List Nat :=
  (List.range 16).filter (fun p => i.late.contains (7, p) || !s.afePresent p)

/-- The samples of one sampling edge, and what counts them (R344, R618, R620). -/
def State.samplePart (s : State) (i : TickIn) (late : Bool) : State := ((s.afeSample i.afe late).gapCount).sweepSample late

/-- The power word of pier `p`; one hit by a parity error is discarded: the word sent before stays (R48, R318). -/
def State.powerPart (s : State) (p : Nat) (lost : Bool) : State :=
  let w := s.get LSR_WORD_WORD p
  let s := s.powerTick p (s.get LOP_FSTAT_WORD p)
  if lost then s.put LSR_WORD_WORD w p else s

/-- The gate decision, due by φ168, and the lag lines (R228, R229, R314). -/
def State.gatePart (s : State) (i : TickIn) : State :=
  forN 16 (fun p s => s.lagTick p) (s.decideGates (lateOf i 4))

/-- The downlink at φ240, with the span coordinator's overruns (R61, R274). -/
def State.linkPart (s : State) (i : TickIn) (was : Bool) : State :=
  forN 16 (fun p s => s.plkTick p was) (s.overruns 4 (lateOf i 4))

/-- The loop windows and the power words, φ168 to φ344 (R318, R363, R366): the even slots' window, the downlink, the odd slots'
window, the launch; the records of each enter in the order of R701. -/
def State.loopPart (s : State) (i : TickIn) (noRun mids : List Nat) (was : Bool) : State :=
  let skip := noRun ++ lateOf i 8
  let s := s.inOrder ((i.loopUe.foldl (fun s k => s.loopUe k) s).fastTick skip mids false)
  let s := s.inOrder (s.linkPart i was)
  let s := s.inOrder ((s.fastTick skip mids true).overruns 8 (lateOf i 8))
  s.inOrder (forN 16 (fun p s => s.powerPart p (i.linkUe.contains (6, p))) s)

/-- The work of the tick that ends, up to φ380 (R36, R59). -/
def State.tickWork (s : State) (i : TickIn) : State :=
  let was := s.forced
  let s := s.gapClose
  let s := s.ttTick ((s.key.frcEdge + 677) % 2 ^ 64) 0 i.aux
  let s := s.inOrder (s.frontPart i)
  let before := s.scn.piers
  let (own, forced) := s.slips i
  let mids := (List.range 32).map (fun k => (s.afeIn k).s200)
  let s := (s.inOrder (s.handPart i)).samplePart i false
  let noRun := s.afeLate i
  let s := s.overruns 7 noRun
  let s := s.inOrder (s.corPart i before own forced)
  let s := (s.inOrder (s.gatePart i)).loopPart i noRun mids was
  let s := ((s.inOrder s.slowTick).samplePart i true).overruns 7 i.late368
  let s := forN 16 (fun p s => s.plkRx p ((i.up.find? (fun c => c.1 == p)).map Prod.snd)) s
  s.ttTick (max s.key.frc ((s.key.frcEdge + i.dfrc - 3) % 2 ^ 64)) 399 i.aux

/-! Disciplining (R85–R90). -/

/-- `x` reduced to the nearest multiple of `m`: from −m/2, exclusive, to m/2 (R86). -/
def centred (x m : Int) : Int := if 2 * (x % m) ≤ m then x % m else x % m - m

/-- The distance in 1/16 ns from the nearest compensated TICK_IN edge to this tick edge: the latest edge, or the one that
follows, `next` (R88). -/
def State.wireError (s : State) (next : Option Nat) : Option Int :=
  let d (t16 : Nat) : Int := 16 * (s.frcNow : Int) - ((t16 : Int) - 16 * s.get KEY_WIRE_COMP_COMP)
  match s.key.tickIn, next with
  | 0, none => none
  | 0, some n => some (d n)
  | t + 1, none => some (d t)
  | t + 1, some n => some (if (d n).natAbs < (d t).natAbs then d n else d t)

/-- The phase error e at the edge in units of 2⁻³² ns, where the tick is slewed (R86–R88, R90). -/
def State.phaseError (s : State) (next : Option Nat) : Option Int :=
  let p : Int := s.periodNs * 2 ^ 32
  match s.get KEY_CTRL_DISC_MODE with
  | 1 => if s.on KEY_STATUS_TIME_PLL_LOCK then
      some (centred ((s.ntFixed s.frcNow : Int) - s.get64 KEY_DISC_ANCHOR_LO_ANCHOR_LO KEY_DISC_ANCHOR_HI_ANCHOR_HI * 2 ^ 32) p)
    else none
  | 2 => if s.key.tickInFailed then none else (s.wireError next).map (fun d => d * 2 ^ 28)
  | _ => none

/-- RT cycles by which the next tick differs from nominal (R86): 1.25 ns is 5 × 2³⁰ units. -/
def slewOf (e : Int) : Int := if 5 * 2 ^ 30 < e then -1 else if e < -(5 * 2 ^ 30) then 1 else 0

/-- At each tick edge in WIRE mode the ticks in a row with a bad interval are counted, and TICK_IN is declared failed
where R90 says so. -/
def State.wireCheck (s : State) : State :=
  if s.get KEY_CTRL_DISC_MODE = 2 ∧ !s.key.tickInFailed then
    after execTickInFail { s with key := { s.key with badRun := if s.key.wireBad then s.key.badRun + 1 else 0 } }
  else s

/-- The edge of a tick under disciplining (R86, R87): the next tick's length, the error, LOCKED and UNLOCK. -/
def State.discipline (s : State) (next : Option Nat) : State := match s.phaseError next with
  | none => { s with key := { s.key with slew := 0, lockRun := 0 } }
  | some e =>
    let n := e.natAbs
    let run := if n ≤ 10 * 2 ^ 30 then min (s.key.lockRun + 1) 1000 else 0
    let s := { s with key := { s.key with slew := slewOf e, lockRun := run } }
    let s := s.putS KEY_DISC_ERR_ERR (satSigned 32 (e / 2 ^ 28))
    if 40 * 2 ^ 30 < n then
      if s.on KEY_STATUS_LOCKED then ((s.put KEY_STATUS_LOCKED 0).set1 KEY_DISC_STATUS_UNLOCK).fault 0 0xA 3 else s
    else if 1000 ≤ run then s.set1 KEY_STATUS_LOCKED else s

/-! The edge. -/

/-- The last lit tick in force of pier `p` that this edge brings (R196, R316): the handed lit tick with C = 0, else what
leaves the lag line with G = 1. -/
def State.litNow (s : State) (p : Nat) : Option (Nat × Nat × Int × Int) :=
  if s.get LSR_DELAY_COARSE p = 0 then
    let h := (s.pier p).hand
    if h.gate && !h.hold then some (h.seq, h.lit, h.x, h.y) else none
  else
    let e := s.lagOut p
    if e.g then some (e.hand.seq, e.hand.lit, e.hand.x, e.hand.y) else none

/-- At the edge, what the lag line of pier `p` brings and still holds with G = 1: at the edge at which the gates are forced off it
is discarded (R315, R316). -/
def State.lagCut (s : State) (p : Nat) (forced : Bool) : State :=
  if s.get LSR_DELAY_COARSE p = 0 then s else
  let line := (Tab.get [] s.lsr.line p).filter (fun e => e.g)
  if !forced then s.keepPast p line
  else if s.lsr.forced then s
  else s.cutPast p (([s.lagOut p].filter (fun e => e.g)) ++ line)

/-- The swaps of the piers whose LAYER_END was accepted in the tick that ends (R221). -/
def State.layerSwaps (s : State) : State :=
  let s := forN 16 (fun p s => if s.cor.ends.testBit p && s.get COR_BANK_SWAP_PEND p == 1 && decide (Tab.get 0 s.cor.swapTick p < s.key.tick)
    then s.swapBank p else s) s
  { s with cor := { s.cor with ends := 0 } }

/-- What the tick prepared comes into force (R36): positions, gate decisions, swaps. -/
def State.inForce (s : State) : State :=
  let forced := s.forced
  let s := forN 16 (fun p s => s.lagCut p forced) s
  let s := forN 16 (fun p s => s.scnEdge p forced (s.litNow p)) s
  let s := { s with spn := { s.spn with force := s.spn.gate, slip := 0 } }
  s.layerSwaps

/-- The tick counter, the FRC and the RT cycle count at the edge (R56, R77, R78, R86). -/
def State.countEdge (s : State) (dfrc : Nat) : State :=
  let f := (s.key.frcEdge + dfrc) % 2 ^ 64
  let f := if f < s.key.frc ∧ dfrc < 2 ^ 32 then s.key.frc else f
  let c := (periodCycles (s.get KEY_CTRL_PERIOD) + s.key.slew) % 80
  { s with key := { s.key with tick := s.key.tick + 1, frc := f, frcEdge := f, cyc := ((s.key.cyc : Int) + c).toNat % 80 } }

/-- A debug halt takes effect at the first edge after the gates are off (R684): `off` before this edge. -/
def State.haltEdge (s : State) (off : Bool) : State :=
  if s.sec.haltPend && off then ({ s with sec := { s.sec with haltPend := false } }).set1 SEC_DEBUG_HALTED else s

/-- The tick edge (R36, R56, R70, R91, R291, R311, R431, R677); the records of one cycle enter in the order of R701. -/
def State.tickEdge (s₀ : State) (i : TickIn) : State :=
  let s₀ := s₀.fineTo s₀.tickLen
  let off := s₀.get LSR_IN_B_GATE_PAD == 0
  let s := (s₀.inForce).countEdge i.dfrc
  let s := (forN 16 (fun p s => s.plkCount p) s).commitEdge
  let s := (s.wireCheck).discipline i.wireNext
  let s := { s with key := { s.key with tickOut := s.on KEY_CTRL_TICK_OUT_EN } }
  let s := forN 16 (fun p s => s.plkEdge p) s
  let s := s.lsrEdge i.eperm (s.on LIT_STATUS_EMIT_EN)
  let s := s.put SEC_STATUS_MODE_ALLOW (s.get LSR_PERMIT_MODE_ALLOW)
  let s := ((s.afeEdge).gapEdge).camEdge
  let s := s.haltEdge off
  s₀.inOrder (after (execAuxTimerStart i.aux) ((((s.jobPoll).calPoll).calWrite).ttEdge i.aux))

/-- TICK_EDGE (R36, R57, R59): the work of the tick that ends, the capture at φ380, and the edge. Without the RT clock
there is no tick. -/
def execTickEdge (i : TickIn) (s : State) : Out :=
  .next (if s.on KEY_STATUS_RT_PLL_LOCK then ((s.tickWork i).phi380).tickEdge i else s)

end Sys2Proof.Machine
end

