-- ==== Sys2Proof/Machine/Dispatch.lean ====
section
/-! DEFINITION. One arm per command: the meaning each row of the opcode table has. -/

namespace Sys2Proof.Machine

/-- The effect of one command on everything but the queue. -/
def exec (i : Instr) (s : State) : Host.Outcome State Fault Refusal :=
  match i with
  | .tickEdge x => Sys2Proof.Machine.execTickEdge x s
  | .discLockGained => Sys2Proof.Machine.execDiscLockGained s
  | .keyCommitWrite groups phase => Sys2Proof.Machine.execKeyCommitWrite groups phase s
  | .schedArm k mask phase => Sys2Proof.Machine.execSchedArm k mask phase s
  | .schedDisarm k mask => Sys2Proof.Machine.execSchedDisarm k mask s
  | .schedCommitFire k => Sys2Proof.Machine.execSchedCommitFire k s
  | .incFracWrite v => Sys2Proof.Machine.execIncFracWrite v s
  | .incIntWrite v adv => Sys2Proof.Machine.execIncIntWrite v adv s
  | .ofsLoWrite v => Sys2Proof.Machine.execOfsLoWrite v s
  | .ofsHiWrite v adv phase aux => Sys2Proof.Machine.execOfsHiWrite v adv phase aux s
  | .snapCapture adv => Sys2Proof.Machine.execSnapCapture adv s
  | .ovrClear => Sys2Proof.Machine.execOvrClear s
  | .latchingRead a adv => Sys2Proof.Machine.execLatchingRead a adv s
  | .tickInEdge t16 => Sys2Proof.Machine.execTickInEdge t16 s
  | .tickInFail => Sys2Proof.Machine.execTickInFail s
  | .timePllUnlock => Sys2Proof.Machine.execTimePllUnlock s
  | .rtPllUnlock => Sys2Proof.Machine.execRtPllUnlock s
  | .triggerArm k v adv => Sys2Proof.Machine.execTriggerArm k v adv s
  | .triggerFire k adv phase aux => Sys2Proof.Machine.execTriggerFire k adv phase aux s
  | .lockstepMismatch => Sys2Proof.Machine.execLockstepMismatch s
  | .wdogKick v => Sys2Proof.Machine.execWdogKick v s
  | .wdogExpire since => Sys2Proof.Machine.execWdogExpire since s
  | .doorbellRing m => Sys2Proof.Machine.execDoorbellRing m s
  | .doorbellAbort m => Sys2Proof.Machine.execDoorbellAbort m s
  | .mailboxTake => Sys2Proof.Machine.execMailboxTake s
  | .mailboxComplete m => Sys2Proof.Machine.execMailboxComplete m s
  | .unknownOpcode => Sys2Proof.Machine.execUnknownOpcode s
  | .evtRdWrite v => Sys2Proof.Machine.execEvtRdWrite v s
  | .eventPost => Sys2Proof.Machine.execEventPost s
  | .summaryRefresh => Sys2Proof.Machine.execSummaryRefresh s
  | .hostErrClear => Sys2Proof.Machine.execHostErrClear s
  | .viaErrClear => Sys2Proof.Machine.execViaErrClear s
  | .registerWrite x => Sys2Proof.Machine.execRegisterWrite x s
  | .sysNop => Sys2Proof.Machine.execSysNop s
  | .sysInfo => Sys2Proof.Machine.execSysInfo s
  | .sysMode => Sys2Proof.Machine.execSysMode s
  | .sysResume => Sys2Proof.Machine.execSysResume s
  | .sysCommit => Sys2Proof.Machine.execSysCommit s
  | .sysDiscard => Sys2Proof.Machine.execSysDiscard s
  | .sysReset => Sys2Proof.Machine.execSysReset s
  | .commandResetDelay => Sys2Proof.Machine.execCommandResetDelay s
  | .sysActionStatus => Sys2Proof.Machine.execSysActionStatus s
  | .sysActionStop => Sys2Proof.Machine.execSysActionStop s
  | .sysWindowOpen => Sys2Proof.Machine.execSysWindowOpen s
  | .sysWindowClose => Sys2Proof.Machine.execSysWindowClose s
  | .jobOpen => Sys2Proof.Machine.execJobOpen s
  | .jobStart => Sys2Proof.Machine.execJobStart s
  | .jobStatus => Sys2Proof.Machine.execJobStatus s
  | .jobStop => Sys2Proof.Machine.execJobStop s
  | .jobClose => Sys2Proof.Machine.execJobClose s
  | .longActionFinish tag => Sys2Proof.Machine.execLongActionFinish tag s
  | .scnRingSet => Sys2Proof.Machine.execScnRingSet s
  | .scnRingStatus => Sys2Proof.Machine.execScnRingStatus s
  | .scnProfileLoad => Sys2Proof.Machine.execScnProfileLoad s
  | .scnDigest => Sys2Proof.Machine.execScnDigest s
  | .scnLimitsSet => Sys2Proof.Machine.execScnLimitsSet s
  | .scnBarrierSet => Sys2Proof.Machine.execScnBarrierSet s
  | .scnLimitsRead => Sys2Proof.Machine.execScnLimitsRead s
  | .corGridLoad => Sys2Proof.Machine.execCorGridLoad s
  | .corFieldSet => Sys2Proof.Machine.execCorFieldSet s
  | .corSwap => Sys2Proof.Machine.execCorSwap s
  | .corStatus => Sys2Proof.Machine.execCorStatus s
  | .corParamSet => Sys2Proof.Machine.execCorParamSet s
  | .spanMatrixSet => Sys2Proof.Machine.execSpanMatrixSet s
  | .spanGasSet => Sys2Proof.Machine.execSpanGasSet s
  | .spanPatchRing => Sys2Proof.Machine.execSpanPatchRing s
  | .spanStitchSet => Sys2Proof.Machine.execSpanStitchSet s
  | .spanStatus => Sys2Proof.Machine.execSpanStatus s
  | .spanGuardSet => Sys2Proof.Machine.execSpanGuardSet s
  | .lsrGateSet => Sys2Proof.Machine.execLsrGateSet s
  | .lsrPowerLimit => Sys2Proof.Machine.execLsrPowerLimit s
  | .lsrLaserCmd => Sys2Proof.Machine.execLsrLaserCmd s
  | .lsrStatus => Sys2Proof.Machine.execLsrStatus s
  | .lsrEmaSet => Sys2Proof.Machine.execLsrEmaSet s
  | .loopProgLoad => Sys2Proof.Machine.execLoopProgLoad s
  | .loopPlausSet => Sys2Proof.Machine.execLoopPlausSet s
  | .loopLoopMode => Sys2Proof.Machine.execLoopLoopMode s
  | .loopStatus => Sys2Proof.Machine.execLoopStatus s
  | .loopInputSet => Sys2Proof.Machine.execLoopInputSet s
  | .loopAuxSet => Sys2Proof.Machine.execLoopAuxSet s
  | .camPortSet => Sys2Proof.Machine.execCamPortSet s
  | .camContextSet => Sys2Proof.Machine.execCamContextSet s
  | .camExposureSet => Sys2Proof.Machine.execCamExposureSet s
  | .camStatsRead => Sys2Proof.Machine.execCamStatsRead s
  | .axisConfig => Sys2Proof.Machine.execAxisConfig s
  | .axisMove => Sys2Proof.Machine.execAxisMove s
  | .axisHome => Sys2Proof.Machine.execAxisHome s
  | .axisStop => Sys2Proof.Machine.execAxisStop s
  | .axisStatus => Sys2Proof.Machine.execAxisStatus s
  | .dispTimingSet porch => Sys2Proof.Machine.execDispTimingSet porch s
  | .dispLayerSet porch => Sys2Proof.Machine.execDispLayerSet porch s
  | .dispWritebackSet porch => Sys2Proof.Machine.execDispWritebackSet porch s
  | .dispAccumRun => Sys2Proof.Machine.execDispAccumRun s
  | .liteChannelSet => Sys2Proof.Machine.execLiteChannelSet s
  | .liteGroupSet => Sys2Proof.Machine.execLiteGroupSet s
  | .liteStatus => Sys2Proof.Machine.execLiteStatus s
  | .liteDerateSet => Sys2Proof.Machine.execLiteDerateSet s
  | .liteCurveSet => Sys2Proof.Machine.execLiteCurveSet s
  | .liteStrobeSet => Sys2Proof.Machine.execLiteStrobeSet s
  | .liteDriveSet => Sys2Proof.Machine.execLiteDriveSet s
  | .thrmStatus => Sys2Proof.Machine.execThrmStatus s
  | .thrmSensorRead => Sys2Proof.Machine.execThrmSensorRead s
  | .calRun => Sys2Proof.Machine.execCalRun s
  | .calTrimRead => Sys2Proof.Machine.execCalTrimRead s
  | .calTrimWrite => Sys2Proof.Machine.execCalTrimWrite s
  | .calStore => Sys2Proof.Machine.execCalStore s
  | .timeRead => Sys2Proof.Machine.execTimeRead s
  | .timeIncSet => Sys2Proof.Machine.execTimeIncSet s
  | .timeOfsSet aux => Sys2Proof.Machine.execTimeOfsSet aux s
  | .timeDiscSet => Sys2Proof.Machine.execTimeDiscSet s
  | .timeTriggerSet => Sys2Proof.Machine.execTimeTriggerSet s
  | .secAttest ok => Sys2Proof.Machine.execSecAttest ok s
  | .secDebugChallenge => Sys2Proof.Machine.execSecDebugChallenge s
  | .secDebugResponse => Sys2Proof.Machine.execSecDebugResponse s
  | .secFwWrite => Sys2Proof.Machine.execSecFwWrite s
  | .secFwActivate => Sys2Proof.Machine.execSecFwActivate s
  | .secFwConfirm => Sys2Proof.Machine.execSecFwConfirm s
  | .secProvision => Sys2Proof.Machine.execSecProvision s
  | .secSeal => Sys2Proof.Machine.execSecSeal s
  | .secRetire => Sys2Proof.Machine.execSecRetire s
  | .flueRead => Sys2Proof.Machine.execFlueRead s
  | .flueStatus => Sys2Proof.Machine.execFlueStatus s
  | .flueNote => Sys2Proof.Machine.execFlueNote s
  | .ringIndexWrite p v => Sys2Proof.Machine.execRingIndexWrite p v s
  | .fetchIssue p => Sys2Proof.Machine.execFetchIssue p s
  | .fetchComplete p => Sys2Proof.Machine.execFetchComplete p s
  | .descNop p => Sys2Proof.Machine.execDescNop p s
  | .descJump p => Sys2Proof.Machine.execDescJump p s
  | .descMark p => Sys2Proof.Machine.execDescMark p s
  | .descArc p => Sys2Proof.Machine.execDescArc p s
  | .descDwell p => Sys2Proof.Machine.execDescDwell p s
  | .descWaitTick p => Sys2Proof.Machine.execDescWaitTick p s
  | .waitTickExpire p => Sys2Proof.Machine.execWaitTickExpire p s
  | .descBarrier p => Sys2Proof.Machine.execDescBarrier p s
  | .barrierTimeout id mask => Sys2Proof.Machine.execBarrierTimeout id mask s
  | .descStitchOut p => Sys2Proof.Machine.execDescStitchOut p s
  | .descStitchIn p => Sys2Proof.Machine.execDescStitchIn p s
  | .descLayerEnd p => Sys2Proof.Machine.execDescLayerEnd p s
  | .descLoadLoop p => Sys2Proof.Machine.execDescLoadLoop p s
  | .descMarker p => Sys2Proof.Machine.execDescMarker p s
  | .descEnd p => Sys2Proof.Machine.execDescEnd p s
  | .layerGoWrite => Sys2Proof.Machine.execLayerGoWrite s
  | .layerStart => Sys2Proof.Machine.execLayerStart s
  | .digestTake p => Sys2Proof.Machine.execDigestTake p s
  | .scnCmdStart mask => Sys2Proof.Machine.execScnCmdStart mask s
  | .scnCmdStop mask => Sys2Proof.Machine.execScnCmdStop mask s
  | .scnCmdReset mask => Sys2Proof.Machine.execScnCmdReset mask s
  | .scnCmdResume mask => Sys2Proof.Machine.execScnCmdResume mask s
  | .profDataAccess v => Sys2Proof.Machine.execProfDataAccess v s
  | .bankReadyMark p => Sys2Proof.Machine.execBankReadyMark p s
  | .bankSwapRequest p layer ready => Sys2Proof.Machine.execBankSwapRequest p layer ready s
  | .bankSwapCancel p => Sys2Proof.Machine.execBankSwapCancel p s
  | .gridSlotWrite req off bs => Sys2Proof.Machine.execGridSlotWrite req off bs s
  | .gridCrcStart bank p => Sys2Proof.Machine.execGridCrcStart bank p s
  | .gridCrcDone => Sys2Proof.Machine.execGridCrcDone s
  | .bankInitDone => Sys2Proof.Machine.execBankInitDone s
  | .stitchSoloRelease id => Sys2Proof.Machine.execStitchSoloRelease id s
  | .patchRecordWrite => Sys2Proof.Machine.execPatchRecordWrite s
  | .patchIrqTimeout => Sys2Proof.Machine.execPatchIrqTimeout s
  | .patchEnWrite => Sys2Proof.Machine.execPatchEnWrite s
  | .uplinkFrame p before gs => Sys2Proof.Machine.execUplinkFrame p before gs s
  | .ulDeadlineCheck p => Sys2Proof.Machine.execUlDeadlineCheck p s
  | .legacyUplinkFrame p before gs => Sys2Proof.Machine.execLegacyUplinkFrame p before gs s
  | .legacyExchangeCheck p => Sys2Proof.Machine.execLegacyExchangeCheck p s
  | .symbolLockLost p gs => Sys2Proof.Machine.execSymbolLockLost p gs s
  | .trainStart p sweep => Sys2Proof.Machine.execTrainStart p sweep s
  | .trainAdvance p before after => Sys2Proof.Machine.execTrainAdvance p before after s
  | .plkModeWrite p v => Sys2Proof.Machine.execPlkModeWrite p v s
  | .statusInputAccept b level phase => Sys2Proof.Machine.execStatusInputAccept b level phase s
  | .permitPadRemoval => Sys2Proof.Machine.execPermitPadRemoval s
  | .permitDiscrepancy => Sys2Proof.Machine.execPermitDiscrepancy s
  | .discrepClear => Sys2Proof.Machine.execDiscrepClear s
  | .emaMissing p on100ns => Sys2Proof.Machine.execEmaMissing p on100ns s
  | .uncmdEmission p off100ns => Sys2Proof.Machine.execUncmdEmission p off100ns s
  | .testFire p width => Sys2Proof.Machine.execTestFire p width s
  | .testPulseEnd p => Sys2Proof.Machine.execTestPulseEnd p s
  | .inputOpenDeclare k => Sys2Proof.Machine.execInputOpenDeclare k s
  | .hearthLinkLost => Sys2Proof.Machine.execHearthLinkLost s
  | .hearthOkRestore => Sys2Proof.Machine.execHearthOkRestore s
  | .vaaLoss => Sys2Proof.Machine.execVaaLoss s
  | .offsetMeasStart p => Sys2Proof.Machine.execOffsetMeasStart p s
  | .offsetMeasDone => Sys2Proof.Machine.execOffsetMeasDone s
  | .auxTimerStart res => Sys2Proof.Machine.execAuxTimerStart res s
  | .ntcConvert j c => Sys2Proof.Machine.execNtcConvert j c s
  | .imgDataAccess v => Sys2Proof.Machine.execImgDataAccess v s
  | .imgMark count slow => Sys2Proof.Machine.execImgMark count slow s
  | .imgCheckDone => Sys2Proof.Machine.execImgCheckDone s
  | .loopRearm mask => Sys2Proof.Machine.execLoopRearm mask s
  | .csiFrameStart port vc w corr phase => Sys2Proof.Machine.execCsiFrameStart port vc w corr phase s
  | .csiLine port vc dt px corr crcOk phase => Sys2Proof.Machine.execCsiLine port vc dt px corr crcOk phase s
  | .csiFrameEnd port vc corr same phase => Sys2Proof.Machine.execCsiFrameEnd port vc corr same phase s
  | .csiOtherPacket port vc dt bs form crcOk phase => Sys2Proof.Machine.execCsiOtherPacket port vc dt bs form crcOk phase s
  | .frameOpenTimeout c phase => Sys2Proof.Machine.execFrameOpenTimeout c phase s
  | .frameAdmit ue phase => Sys2Proof.Machine.execFrameAdmit ue phase s
  | .frameDone c phase => Sys2Proof.Machine.execFrameDone c phase s
  | .triggerPulseEnd o => Sys2Proof.Machine.execTriggerPulseEnd o s
  | .ctxApply v => Sys2Proof.Machine.execCtxApply v s
  | .exposureArm c phase => Sys2Proof.Machine.execExposureArm c phase s
  | .cciWriteDone port ok => Sys2Proof.Machine.execCciWriteDone port ok s
  | .bufferHeaderWrite c => Sys2Proof.Machine.execBufferHeaderWrite c s
  | .dlogRecordWrite => Sys2Proof.Machine.execDlogRecordWrite s
  | .defDataAccess v => Sys2Proof.Machine.execDefDataAccess v s
  | .axisUpdate => Sys2Proof.Machine.execAxisUpdate s
  | .extStepEdge k dir cyc => Sys2Proof.Machine.execExtStepEdge k dir cyc s
  | .quadTransition k ab cyc => Sys2Proof.Machine.execQuadTransition k ab cyc s
  | .indexPulse k rising => Sys2Proof.Machine.execIndexPulse k rising s
  | .ssiReadStart k => Sys2Proof.Machine.execSsiReadStart k s
  | .ssiFrameDone k idle bits cyc => Sys2Proof.Machine.execSsiFrameDone k idle bits cyc s
  | .speedTimeout k => Sys2Proof.Machine.execSpeedTimeout k s
  | .switchTransition k sw level => Sys2Proof.Machine.execSwitchTransition k sw level s
  | .switchQualified k sw level => Sys2Proof.Machine.execSwitchQualified k sw level s
  | .axsMovePosition k => Sys2Proof.Machine.execAxsMovePosition k s
  | .axsMoveVelocity k => Sys2Proof.Machine.execAxsMoveVelocity k s
  | .axsStop k => Sys2Proof.Machine.execAxsStop k s
  | .axsHomeSwitch k => Sys2Proof.Machine.execAxsHomeSwitch k s
  | .axsHomeStall k => Sys2Proof.Machine.execAxsHomeStall k s
  | .axsClear k => Sys2Proof.Machine.execAxsClear k s
  | .accWrite k v => Sys2Proof.Machine.execAccWrite k v s
  | .compareArm k v => Sys2Proof.Machine.execCompareArm k v s
  | .dramTrainStart => Sys2Proof.Machine.execDramTrainStart s
  | .dramTrainDone e vals => Sys2Proof.Machine.execDramTrainDone e vals s
  | .dramRequest p0 p1 p2 p3 p4 p5 e => Sys2Proof.Machine.execDramRequest p0 p1 p2 p3 p4 p5 e s
  | .refreshDue c r busy => Sys2Proof.Machine.execRefreshDue c r busy s
  | .rhTableReset => Sys2Proof.Machine.execRhTableReset s
  | .evictPeriod => Sys2Proof.Machine.execEvictPeriod s
  | .caParityAlert c => Sys2Proof.Machine.execCaParityAlert c s
  | .zqCalibrate => Sys2Proof.Machine.execZqCalibrate s
  | .dqsTrack vals => Sys2Proof.Machine.execDqsTrack vals s
  | .scrubRead errs => Sys2Proof.Machine.execScrubRead errs s
  | .eccClear => Sys2Proof.Machine.execEccClear s
  | .powerDownEntry c r => Sys2Proof.Machine.execPowerDownEntry c r s
  | .dmaStart ch v => Sys2Proof.Machine.execDmaStart ch v s
  | .dmaStop ch => Sys2Proof.Machine.execDmaStop ch s
  | .dmaBurstIssue ue => Sys2Proof.Machine.execDmaBurstIssue ue s
  | .dmaAccessResponse ch => Sys2Proof.Machine.execDmaAccessResponse ch s
  | .dmaHaltClear => Sys2Proof.Machine.execDmaHaltClear s
  | .vsync => Sys2Proof.Machine.execVsync s
  | .dspCommitGo v porch => Sys2Proof.Machine.execDspCommitGo v porch s
  | .scanEnable en => Sys2Proof.Machine.execScanEnable en s
  | .linkTrainDone ok vs pe => Sys2Proof.Machine.execLinkTrainDone ok vs pe s
  | .irqHpd lost => Sys2Proof.Machine.execIrqHpd lost s
  | .hpdLost => Sys2Proof.Machine.execHpdLost s
  | .hpdRestored => Sys2Proof.Machine.execHpdRestored s
  | .composeLine e => Sys2Proof.Machine.execComposeLine e s
  | .scanoutLine px par wbOk => Sys2Proof.Machine.execScanoutLine px par wbOk s
  | .wbHeaderWrite => Sys2Proof.Machine.execWbHeaderWrite s
  | .auxTransaction v => Sys2Proof.Machine.execAuxTransaction v s
  | .auxDone res bs => Sys2Proof.Machine.execAuxDone res bs s
  | .accumStart v => Sys2Proof.Machine.execAccumStart v s
  | .accumRunDone => Sys2Proof.Machine.execAccumRunDone s
  | .switchPeriodStart k => Sys2Proof.Machine.execSwitchPeriodStart k s
  | .lightTrip k uv cyc => Sys2Proof.Machine.execLightTrip k uv cyc s
  | .dimOnStart k c => Sys2Proof.Machine.execDimOnStart k c s
  | .dimOnEnd k => Sys2Proof.Machine.execDimOnEnd k s
  | .strobeStart k => Sys2Proof.Machine.execStrobeStart k s
  | .strobeEnd k => Sys2Proof.Machine.execStrobeEnd k s
  | .litClearWrite mask => Sys2Proof.Machine.execLitClearWrite mask s
  | .groupWrite g v => Sys2Proof.Machine.execGroupWrite g v s
  | .thermalUpdate ts => Sys2Proof.Machine.execThermalUpdate ts s
  | .shutdownFlashEnd => Sys2Proof.Machine.execShutdownFlashEnd s
  | .damperRelax => Sys2Proof.Machine.execDamperRelax s
  | .sensorClear mask => Sys2Proof.Machine.execSensorClear mask s
  | .analogTrip => Sys2Proof.Machine.execAnalogTrip s
  | .gapPieceClose => Sys2Proof.Machine.execGapPieceClose s
  | .gapWaitTimeout => Sys2Proof.Machine.execGapWaitTimeout s
  | .mcStart v => Sys2Proof.Machine.execMcStart v s
  | .sweepStart v => Sys2Proof.Machine.execSweepStart v s
  | .sweepPulse => Sys2Proof.Machine.execSweepPulse s
  | .thresholdStart v => Sys2Proof.Machine.execThresholdStart v s
  | .thresholdStep trip => Sys2Proof.Machine.execThresholdStep trip s
  | .ethRxFrame n bs fcsOk adv => Sys2Proof.Machine.execEthRxFrame n bs fcsOk adv s
  | .ethTxFrame n ok adv => Sys2Proof.Machine.execEthTxFrame n ok adv s
  | .txKick n v => Sys2Proof.Machine.execTxKick n v s
  | .txtsPop n v => Sys2Proof.Machine.execTxtsPop n v s
  | .mdioFrame v => Sys2Proof.Machine.execMdioFrame v s
  | .mdioDone data answered => Sys2Proof.Machine.execMdioDone data answered s
  | .ethLinkChange n up => Sys2Proof.Machine.execEthLinkChange n up s
  | .ptpSyncExchange t1 t2 t3 t4 phase aux => Sys2Proof.Machine.execPtpSyncExchange t1 t2 t3 t4 phase aux s
  | .ptpAnnounce n ds => Sys2Proof.Machine.execPtpAnnounce n ds s
  | .ptpAnnounceTimeout => Sys2Proof.Machine.execPtpAnnounceTimeout s
  | .bar2Request a n w aer => Sys2Proof.Machine.execBar2Request a n w aer s
  | .pcieReset => Sys2Proof.Machine.execPcieReset s
  | .functionLevelReset => Sys2Proof.Machine.execFunctionLevelReset s
  | .d3hotEntry => Sys2Proof.Machine.execD3hotEntry s
  | .attStart v => Sys2Proof.Machine.execAttStart v s
  | .attDone ok => Sys2Proof.Machine.execAttDone ok s
  | .tokenCheck v => Sys2Proof.Machine.execTokenCheck v s
  | .challengeNew v => Sys2Proof.Machine.execChallengeNew v s
  | .challengeExpire => Sys2Proof.Machine.execChallengeExpire s
  | .jobCheckStart => Sys2Proof.Machine.execJobCheckStart s
  | .jobCheckDone => Sys2Proof.Machine.execJobCheckDone s
  | .jobMeasClear => Sys2Proof.Machine.execJobMeasClear s
  | .lifecycleProgram v => Sys2Proof.Machine.execLifecycleProgram v s
  | .arbRaise v => Sys2Proof.Machine.execArbRaise v s
  | .debugClose => Sys2Proof.Machine.execDebugClose s
  | .modeWrite v => Sys2Proof.Machine.execModeWrite v s
  | .debugHaltRequest => Sys2Proof.Machine.execDebugHaltRequest s
  | .jtagInstruction j => Sys2Proof.Machine.execJtagInstruction j s
  | .keyPairReady => Sys2Proof.Machine.execKeyPairReady s
  | .bootMeasureDone => Sys2Proof.Machine.execBootMeasureDone s
  | .fwReadySet => Sys2Proof.Machine.execFwReadySet s
  | .counterRestore => Sys2Proof.Machine.execCounterRestore s
  | .tamperSample lidIn tampA tampB adv => Sys2Proof.Machine.execTamperSample lidIn tampA tampB adv s
  | .vbatLow low mv adv => Sys2Proof.Machine.execVbatLow low mv adv s
  | .vaultClockFault adv => Sys2Proof.Machine.execVaultClockFault adv s
  | .vaultTempCheck t adv => Sys2Proof.Machine.execVaultTempCheck t adv s
  | .wakeRequest adv => Sys2Proof.Machine.execWakeRequest adv s
  | .rtcAlarm adv => Sys2Proof.Machine.execRtcAlarm adv s
  | .vbatInsert => Sys2Proof.Machine.execVbatInsert s
  | .rtcSet v => Sys2Proof.Machine.execRtcSet v s
  | .sleepRequest v => Sys2Proof.Machine.execSleepRequest v s
  | .psuEnDrop => Sys2Proof.Machine.execPsuEnDrop s
  | .vltClearLost => Sys2Proof.Machine.execVltClearLost s
  | .vltClearTlog => Sys2Proof.Machine.execVltClearTlog s
  | .vltClearTrip => Sys2Proof.Machine.execVltClearTrip s
  | .opsecSecond adv => Sys2Proof.Machine.execOpsecSecond adv s
  | .supplyRise => Sys2Proof.Machine.execSupplyRise s
  | .supplyMonitorTrip rail rising => Sys2Proof.Machine.execSupplyMonitorTrip rail rising s
  | .resetPin ns => Sys2Proof.Machine.execResetPin ns s
  | .porEnd => Sys2Proof.Machine.execPorEnd s
  | .dropFaultEntry => Sys2Proof.Machine.execDropFaultEntry s
  | .flushStart ue => Sys2Proof.Machine.execFlushStart ue s
  | .pageProgramDone ok ue => Sys2Proof.Machine.execPageProgramDone ok ue s
  | .blockCompact => Sys2Proof.Machine.execBlockCompact s
  | .eraseDone ok => Sys2Proof.Machine.execEraseDone ok s
  | .pfwAccept => Sys2Proof.Machine.execPfwAccept s
  | .pfwRelease => Sys2Proof.Machine.execPfwRelease s
  | .bootScanDone => Sys2Proof.Machine.execBootScanDone s
  | .fluFlushWrite v => Sys2Proof.Machine.execFluFlushWrite v s
  | .fluSubmitGo v => Sys2Proof.Machine.execFluSubmitGo v s
  | .fluReadStart v => Sys2Proof.Machine.execFluReadStart v s
  | .xspiRead => Sys2Proof.Machine.execXspiRead s
  | .xspiErase => Sys2Proof.Machine.execXspiErase s
  | .xspiProgram => Sys2Proof.Machine.execXspiProgram s
  | .xspiOpDone ok => Sys2Proof.Machine.execXspiOpDone ok s
  | .timePllRelock => Sys2Proof.Machine.execTimePllRelock s
  | .axisCoarseStep k cyc => Sys2Proof.Machine.execAxisCoarseStep k cyc s
  | .axisFineStep k => Sys2Proof.Machine.execAxisFineStep k s
  | .axisPwmPeriodStart k b => Sys2Proof.Machine.execAxisPwmPeriodStart k b s
  | .slowPwmPeriodStart k => Sys2Proof.Machine.execSlowPwmPeriodStart k s
  | .lightDmaxReached k => Sys2Proof.Machine.execLightDmaxReached k s
  | .caAlertRelease c ue => Sys2Proof.Machine.execCaAlertRelease c ue s
  | .caAlertTimeout c => Sys2Proof.Machine.execCaAlertTimeout c s
  | .csiLaneSyncError port lanes => Sys2Proof.Machine.execCsiLaneSyncError port lanes s
  | .symbolLockRegain p => Sys2Proof.Machine.execSymbolLockRegain p s
  | .pcieLinkUp speed width => Sys2Proof.Machine.execPcieLinkUp speed width s
  | .pcieConfigRequest r => Sys2Proof.Machine.execPcieConfigRequest r s

end Sys2Proof.Machine
end

