-- ==== Sys2Proof/Machine/Balls.lean ====
section
/-! DEFINITION. The levels of the balls (spec/22_balls_electrical.md R745–R748, R752, R763): each ball in its reset state from the
rise of its bank's supply until the owning block drives it otherwise. The DDR balls stand in Machine/Dmc.lean (R744). -/

namespace Sys2Proof.Machine

/-- The output balls of regions 3 to 7, by what drives them (R745–R747). -/
inductive Pin where
  | tdo | xspiCk | xspiCsN | xspiResetN
  | plDn (p : Fin 16)
  | lp (p : Fin 16)
  | lgP (p : Fin 16)
  | lgM (p : Fin 16)
  | pwm (k : Fin 6) (b : Bool)
  | sgn (k : Fin 6) (b : Bool)
  | qb (k : Fin 6)
  | ldg (k : Fin 16)
  | cci (n : Fin 4)
  | ctrg (o : Fin 17)
  | mdc | mdio | clkreqN | wakeN | blEn | blPwm | tickOut
  | slp (k : Fin 8)
  | faultN
  deriving DecidableEq, Repr

/-- RT cycles of one period of PNL_BLPWM, a whole number only where BL_FREQ divides the RT clock, and the high time in each,
truncated to whole RT cycles (R567, R763). -/
def State.blPwm (s : State) : Nat × Nat :=
  (400000000 / s.get DSP_BL_BL_FREQ, s.get DSP_BL_BL_DUTY * 400000000 / (65536 * s.get DSP_BL_BL_FREQ))

/-- A level of the one or the other kind. -/
def lowHigh (b : Bool) : BallLevel := if b then .high else .low

/-- The level of an output of the 1.8 V banks while their supply is present; of a pair, the level of _P (R745, R746): a downlink is
differential low in OFF (R294), a power link without LINK_EN (R322). -/
def State.pin18 (s : State) (b : Pin) : BallLevel := match b with
  | .xspiCk => if s.flu.xspi.isSome || s.flu.page.isSome || s.flu.erasing.isSome then .driven else .low
  | .xspiCsN => if s.flu.xspi.isSome || s.flu.page.isSome || s.flu.erasing.isSome then .driven else .high
  | .xspiResetN => lowHigh (!s.vlt.por)
  | .plDn p => if s.linkState p = 0 then .low else .driven
  | .lp p => if s.lsr.linkOn.testBit p then .driven else .low
  | _ => .z

/-- The level of an output of the 3.3 V bank while the bank is powered (R747, R748). A PWM output is driven where it is high for part
of its period. -/
def State.pin33 (s : State) (b : Pin) : BallLevel :=
  let pwm (n : Nat) : BallLevel := if n = 0 then .low else .driven
  match b with
  | .lgP p => lowHigh (match s.gatePins p with
    | some (v, _) => v
    | none => false)
  | .lgM p => lowHigh (match s.gatePins p with
    | some (_, v) => v
    | none => false)
  | .pwm k b => pwm (Tab.get 0 (s.axis k).high (if b then 1 else 0))
  | .sgn k b => lowHigh ((s.axis k).sgn.testBit (if b then 1 else 0))
  | .qb k => if s.axState k ≠ axDisabled ∧ 2 ≤ s.get AXS_CFG0_ENC k then .driven else .input
  | .ldg k => lowHigh (s.litCh k).ldg
  | .cci _ => .z
  | .ctrg o => lowHigh (s.ctrg o)
  | .mdc => if s.on NET_MDIO_BUSY then .driven else .low
  | .mdio => if s.on NET_MDIO_BUSY then .driven else .z
  | .clkreqN => .low
  | .wakeN => .z
  | .blEn => lowHigh (s.on DSP_CTRL_BL_EN)
  | .blPwm => pwm s.blPwm.2
  | .tickOut => lowHigh s.key.tickOut
  | .slp k => pwm (Tab.get 0 s.lop.high k)
  | .faultN => if s.faultN then .low else .z
  | _ => .z

/-- The level of a ball (R745–R748, R752): high impedance while its bank is unpowered, but for FAULT_N, which the analog trip holds
low (R748); a ball of the CCI ports between transfers, TDO between scans. -/
def State.pin (s : State) (b : Pin) : BallLevel := match b with
  | .tdo => .z
  | .xspiCk | .xspiCsN | .xspiResetN | .plDn _ | .lp _ => if s.vlt.main && s.vlt.rails.testBit 3 then s.pin18 b else .z
  | .faultN => if s.bank33 || !s.vlt.main then s.pin33 b else .z
  | _ => if s.bank33 then s.pin33 b else .z

end Sys2Proof.Machine
end

