-- ==== Sys2Proof/Safety.lean ====
section
/-! DEFINITION. What counts as safe, in the terms claims use: the laser gates, the one-time-programmable store, the
canonical form of the memories, and what it means for a command to complete. -/

namespace Sys2Proof.Machine

/-- Every gate pad is off. -/
abbrev State.dark (s : State) : Prop := s.get LSR_IN_B_GATE_PAD = 0

/-- No more fuses are burnt than the store has: three lifecycle fuses (R655, R656) and 63 anti-rollback fuses (R653, R665). -/
abbrev Otp.legal (o : Otp) : Prop := o.life ≤ 3 ∧ o.arb ≤ 63

/-- From store `a` to store `b` burnt fuses stay burnt (R656, R665), no more are burnt than there are, and the words the
vendor programmed are the same (R653). -/
def Otp.grows (a b : Otp) : Prop :=
  a.life ≤ b.life ∧ a.arb ≤ b.arb ∧ (a.legal → b.legal) ∧
  b.uid = a.uid ∧ b.fwHash = a.fwHash ∧ b.vndDbg = a.vndDbg ∧ b.mac0 = a.mac0

/-- A command's outcome is a next state that holds `P`. -/
def Completes (o : Out) (P : State → Prop) : Prop := ∃ t, o = .next t ∧ P t

/-- Firmware has taken request `q`, whose opcode is `op`, is not yet carrying it out, and can: Nagus is not halted (R98, R109,
R115, R654). -/
abbrev State.serving (s : State) (op : Nat) (q : Req) : Prop :=
  s.mbx.taken = some q.m ∧ s.mayBegin = true ∧ s.request q.m = q ∧ q.op = op

/-- Command `c` is the mailbox command `op`: where payload checks `bads` fail, it answers BAD_PARAM with the first bad
word's offset (R125) and changes nothing else; where they hold and so does `ok`, its effect is `post` and its reply `r`. -/
def Answers (c : Instr) (op : Nat) (bads : State → Req → List (Nat × Bool)) (ok : State → Req → Prop)
    (post : State → Req → State) (r : State → Req → Reply) : Prop :=
  (∀ s q i, s.serving op q → firstBad (bads s q) = some i → exec c s = .next (s.finish q.m (badParam i))) ∧
  (∀ s q, s.serving op q → firstBad (bads s q) = none → ok s q → exec c s = .next ((post s q).finish q.m (r s q)))

/-- Command `c` is the mailbox command `op` and writes RWS fields of the groups `g`: a bad word is BAD_PARAM (R125); a
request without DEFER is answered STAGED while one of its groups is staged (R122), and else writes and asks for the
commit of its groups (R123); a request with DEFER writes and stages them (R121). -/
def Stages (c : Instr) (op g : Nat) (bads : State → Req → List (Nat × Bool)) (write : State → Req → State) : Prop :=
  (∀ s q i, s.serving op q → firstBad (bads s q) = some i → exec c s = .next (s.finish q.m (badParam i))) ∧
  (∀ s q, s.serving op q → firstBad (bads s q) = none → q.defer = false → s.mbx.staged &&& g ≠ 0 →
    exec c s = .next (s.finish q.m (failReply stStaged))) ∧
  (∀ s q, s.serving op q → firstBad (bads s q) = none → q.defer = false → s.mbx.staged &&& g = 0 →
    exec c s = .next (((write s q).requestCommit g).finish q.m okReply)) ∧
  (∀ s q, s.serving op q → firstBad (bads s q) = none → q.defer = true →
    exec c s = .next (({ write s q with mbx := { (write s q).mbx with staged := (write s q).mbx.staged ||| g } }).finish q.m
      { okReply with deferred := true }))

/-- Pier `p`, in RUN and due, takes the front descriptor `d` of TYPE `t`: it passes the checks of R163 that need no plan,
and `m` is the motion it gives (R163, R164). -/
abbrev State.takes (s : State) (p t : Nat) (d : List Word) (m : Motion) : Prop :=
  s.pierState p = psRun ∧ (s.pier p).due = true ∧ (s.pier p).fifo.head? = some d ∧ dType d = t ∧ s.descFault p d = none ∧
    s.strokeOf p d = some m

/-- The Flue can take `n` records at once: it is ready, not sealed-full, and the ring, the main region and the SEQs have
room (R701, R712, R719, R721). -/
abbrev State.fluTakes (s : State) (n : Nat) : Prop :=
  s.on FLU_STATUS_READY = true ∧ s.on FLU_STATUS_SEALED_FULL = false ∧ s.flu.ring.length + n ≤ fluRingCap ∧
    s.fluMain + n ≤ s.fluRoom ∧ s.fluResv + 1 < fluResvCap ∧ s.flu.seqNext + n + 2050 ≤ 2 ^ 48

/-- Every memory of the state is in its canonical form. -/
def State.memoriesOk (s : State) : Bool :=
  Memory.wf 0 s.mbx.mem && Memory.wf 0 s.mbx.ring && Memory.wf 0 s.mbx.msix && Memory.wf 0 s.scn.prof && Memory.wf 0 s.cor.banks &&
  Memory.wf 0 s.lop.imgs && Memory.wf 0 s.dsp.fs && Memory.wf 0xFF s.flash && Memory.wf 0 s.dram && Memory.wf 0 s.sram

/-- Whether a command may store to DRAM, the SRAM, the flash, a correction bank or the frame store: accesses, transfers, records and
headers written to rings, the flash's own operations, and device reset. -/
def mayStore (c : Instr) : Bool := match c with
  | .registerWrite _ | .commandResetDelay | .corGridLoad | .calStore | .secFwWrite | .secFwActivate | .secFwConfirm
  | .gridSlotWrite _ _ _ | .bankInitDone | .patchRecordWrite | .frameDone _ _ | .bufferHeaderWrite _ | .dlogRecordWrite
  | .dramTrainDone _ _ | .dramRequest _ _ _ _ _ _ _ | .dmaAccessResponse _ | .composeLine _ | .scanoutLine _ _ _
  | .wbHeaderWrite | .accumRunDone | .shutdownFlashEnd | .analogTrip | .ethRxFrame _ _ _ _ | .ethTxFrame _ _ _
  | .bar2Request _ _ _ _ | .attDone _ | .jtagInstruction _ | .bootMeasureDone | .supplyRise | .supplyMonitorTrip _ _
  | .resetPin _ | .flushStart _ | .pageProgramDone _ _ | .blockCompact | .eraseDone _ | .bootScanDone | .fluReadStart _
  | .xspiOpDone _ => true
  | _ => false

/-- Whether a command may burn fuses: the lifecycle, the anti-rollback counter, and an access to the registers that start them. -/
def mayBurn (c : Instr) : Bool := match c with
  | .registerWrite _ | .secFwConfirm | .secProvision | .secSeal | .secRetire | .dmaAccessResponse _ | .lifecycleProgram _
  | .arbRaise _ | .jtagInstruction _ => true
  | _ => false

end Sys2Proof.Machine
end

