-- ==== Sys2Proof/Certificates/Slice0/Obligations.lean ====
section
/-! DEFINITION. The statements for the provers. -/

set_option linter.unusedVariables false

open Sys2Proof Sys2Proof.Machine

/-- A write of KEY_COMMIT asks for its groups at the next edge before φ380 and at the edge after it from φ380 on, and with
GROUPS 000h has no effect (R68); a slot armed in time is armed, a slot armed at or after φ380 of the tick before its
target is not armed, sets LATE and SCHED_LATE and records fault 007h (R74); an armed slot ignores a further arming write
(R75), and an arming write with MASK 000h on any other slot is a reserved value (R11, R75); a write with ARM 0 disarms (R75); a slot that has reached its target commits its groups from the values captured
at φ380, clears ARM and sets FIRED (R69, R73), and one that has not does nothing (log entry 13). -/
def Obligations.KeyCommits : Prop :=
  (∀ g ph s, g % 1024 = 0 → exec (.keyCommitWrite g ph) s = .next s) ∧
  (∀ g ph s, g % 1024 ≠ 0 → ph < 380 → exec (.keyCommitWrite g ph) s = .next (s.requestCommit (g % 1024))) ∧
  (∀ g ph s, g % 1024 ≠ 0 → 380 ≤ ph → Completes (exec (.keyCommitWrite g ph) s) (fun t =>
    t.key.next2 ||| t.key.nextK2 = s.key.next2 ||| s.key.nextK2 ||| (g % 1024) ∧
    t.key.next = s.key.next ∧ t.key.nextK = s.key.nextK ∧ t.pend = s.pend)) ∧
  (∀ (k : Fin 8) m ph s, s.on KEY_SCHED_CTRL_ARM k = false → m % 1024 ≠ 0 →
    s.key.tick + 1 < s.schedTarget k ∨ (s.schedTarget k = s.key.tick + 1 ∧ ph < 380) →
    exec (.schedArm k m ph) s =
      .next ((s.put KEY_SCHED_CTRL_MASK (m % 1024) k).set1 KEY_SCHED_CTRL_ARM k).showArmed) ∧
  (∀ (k : Fin 8) m ph s, s.on KEY_SCHED_CTRL_ARM k = false → m % 1024 ≠ 0 →
    s.schedTarget k ≤ s.key.tick ∨ (s.schedTarget k = s.key.tick + 1 ∧ 380 ≤ ph) →
    exec (.schedArm k m ph) s = .next (((((s.put KEY_SCHED_CTRL_MASK (m % 1024) k).put KEY_SCHED_CTRL_ARM 0 k).set1
      KEY_SCHED_CTRL_LATE k).set1 KEY_COMMIT_ERR_SCHED_LATE).fault 0 7 3)) ∧
  (∀ (k : Fin 8) m ph s, s.on KEY_SCHED_CTRL_ARM k = true → exec (.schedArm k m ph) s = .next s) ∧
  (∀ (k : Fin 8) m ph s, s.on KEY_SCHED_CTRL_ARM k = false → m % 1024 = 0 →
    exec (.schedArm k m ph) s = .next (s.reservedFault 0)) ∧
  (∀ (k : Fin 8) m s, exec (.schedDisarm k m) s =
    .next ((s.put KEY_SCHED_CTRL_ARM 0 k).put KEY_SCHED_CTRL_MASK m k).showArmed) ∧
  (∀ (k : Fin 8) s, s.on KEY_SCHED_CTRL_ARM k = true → s.schedTarget k ≤ s.key.tick →
    exec (.schedCommitFire k) s = .next ((((s.put KEY_SCHED_CTRL_ARM 0 k).set1 KEY_SCHED_CTRL_FIRED k).commit
      (s.get KEY_SCHED_CTRL_MASK k)).showArmed)) ∧
  (∀ (k : Fin 8) s, s.on KEY_SCHED_CTRL_ARM k = false ∨ s.key.tick < s.schedTarget k → exec (.schedCommitFire k) s = .next s)

/-- A write of KEY_INC_FRAC or KEY_OFS_LO holds the half written (R81, R82). An increment from 0.75 to 1.25 comes into force and
leaves network time at the instant of the change as it was; another is refused with INC_RANGE and fault 00Bh (R80, R81). Let d be
the new offset minus the offset in force, both signed. A write of KEY_OFS_HI with |d| beyond KEY_JUMP_LIMIT and JUMP_ARM 0 is
refused: JUMP_REFUSED and fault 005h, the offset is kept; any other is accepted, with JUMPED where |d| is beyond the limit; JUMP_ARM
returns to 0 either way (R82, R83). An accepted change forward fires, once and as jumped, each armed comparator whose target
network time has passed; one with ALIGN waits for a tick edge; a change backward, or one with no comparator armed, fires none (R95).
SNAP captures the tick count, the FRC and network time of one instant, and a read of a _LO register latches its _HI register and
changes no other register (R84). -/
def Obligations.KeyTime : Prop :=
  (∀ v s, exec (.incFracWrite v) s = .next { s with key := { s.key with fracHeld := v.toNat } }) ∧
  (∀ v s, exec (.ofsLoWrite v) s = .next { s with key := { s.key with ofsLoHeld := v.toNat } }) ∧
  (∀ v adv s, 0xC0000000 ≤ v.toNat * 2 ^ 32 + s.key.fracHeld → v.toNat * 2 ^ 32 + s.key.fracHeld ≤ 0x140000000 →
    s.key.fracHeld < 2 ^ 32 →
    Completes (exec (.incIntWrite v adv) s) (fun t =>
      t.key.inc = v.toNat * 2 ^ 32 + s.key.fracHeld ∧ t.nt = (s.advance adv).nt ∧ t.key.ofs = s.key.ofs ∧
      t.get KEY_INC_NOW_INT_INT = v.toNat ∧ t.get KEY_INC_NOW_FRAC_FRAC = s.key.fracHeld)) ∧
  (∀ v adv s, v.toNat * 2 ^ 32 + s.key.fracHeld < 0xC0000000 ∨ 0x140000000 < v.toNat * 2 ^ 32 + s.key.fracHeld →
    exec (.incIntWrite v adv) s = .next (((s.advance adv).set1 KEY_TIME_STATUS_INC_RANGE).fault 0 0xB 3)) ∧
  (∀ (v : Word) adv ph aux (s : State), s.get KEY_JUMP_LIMIT_LIMIT < (s.ofsDelta (v.toNat * 2 ^ 32 + s.key.ofsLoHeld)).natAbs →
    s.on KEY_TIME_CTRL_JUMP_ARM = false →
    exec (.ofsHiWrite v adv ph aux) s = .next ((((s.advance adv).put KEY_TIME_CTRL_JUMP_ARM 0).set1
      KEY_TIME_STATUS_JUMP_REFUSED).fault 0 5 3)) ∧
  (∀ (v : Word) adv ph aux (s : State), (s.ofsDelta (v.toNat * 2 ^ 32 + s.key.ofsLoHeld)).natAbs ≤ s.get KEY_JUMP_LIMIT_LIMIT →
    s.ofsDelta (v.toNat * 2 ^ 32 + s.key.ofsLoHeld) ≤ 0 →
    exec (.ofsHiWrite v adv ph aux) s =
      .next ((({ s.advance adv with key := { (s.advance adv).key with ofs := v.toNat * 2 ^ 32 + s.key.ofsLoHeld } }).setWide
        0x20000458 (v.toNat * 2 ^ 32 + s.key.ofsLoHeld)).put KEY_TIME_CTRL_JUMP_ARM 0).ttUnjump) ∧
  (∀ (v : Word) adv ph aux (s : State), s.get KEY_JUMP_LIMIT_LIMIT < (s.ofsDelta (v.toNat * 2 ^ 32 + s.key.ofsLoHeld)).natAbs →
    s.on KEY_TIME_CTRL_JUMP_ARM = true → s.ofsDelta (v.toNat * 2 ^ 32 + s.key.ofsLoHeld) ≤ 0 →
    exec (.ofsHiWrite v adv ph aux) s =
      .next (((({ s.advance adv with key := { (s.advance adv).key with ofs := v.toNat * 2 ^ 32 + s.key.ofsLoHeld } }).setWide
        0x20000458 (v.toNat * 2 ^ 32 + s.key.ofsLoHeld)).put KEY_TIME_CTRL_JUMP_ARM 0).set1 KEY_TIME_STATUS_JUMPED).ttUnjump) ∧
  (∀ (v : Word) adv ph aux (s : State), (s.ofsDelta (v.toNat * 2 ^ 32 + s.key.ofsLoHeld)).natAbs ≤ s.get KEY_JUMP_LIMIT_LIMIT ∨
      s.on KEY_TIME_CTRL_JUMP_ARM = true →
    0 < s.ofsDelta (v.toNat * 2 ^ 32 + s.key.ofsLoHeld) →
    exec (.ofsHiWrite v adv ph aux) s =
      .next (((List.range 16).filter (fun k => (s.advance adv).on KEY_TT_CTRL_EN k && !(s.advance adv).ttDue k)).foldl
        (fun t k => if t.ttDue k = false then t
          else if t.on KEY_TT_CTRL_ALIGN k = true ∧ ph ≠ 0 then { t with key := { t.key with ttJump := setBit t.key.ttJump k true } }
          else t.ttFire k ph aux true)
        ((s.advance adv).acceptOfs (v.toNat * 2 ^ 32 + s.key.ofsLoHeld)))) ∧
  (∀ (v : Word) adv ph aux (s : State), (s.ofsDelta (v.toNat * 2 ^ 32 + s.key.ofsLoHeld)).natAbs ≤ s.get KEY_JUMP_LIMIT_LIMIT ∨
      s.on KEY_TIME_CTRL_JUMP_ARM = true →
    0 < s.ofsDelta (v.toNat * 2 ^ 32 + s.key.ofsLoHeld) → (∀ k : Nat, k < 16 → s.on KEY_TT_CTRL_EN k = false) →
    Completes (exec (.ofsHiWrite v adv ph aux) s) (fun t =>
      t.key.ofs = v.toNat * 2 ^ 32 + s.key.ofsLoHeld ∧ t.on KEY_TIME_CTRL_JUMP_ARM = false ∧
      (s.get KEY_JUMP_LIMIT_LIMIT < (s.ofsDelta (v.toNat * 2 ^ 32 + s.key.ofsLoHeld)).natAbs →
        t.on KEY_TIME_STATUS_JUMPED = true))) ∧
  (∀ adv s, Completes (exec (.snapCapture adv) s) (fun t =>
    t.get KEY_SNAP_CAP_VAL 0 = s.key.tick % 2 ^ 32 ∧ t.get KEY_SNAP_CAP_VAL 1 = s.key.tick / 2 ^ 32 % 2 ^ 32 ∧
    t.get KEY_SNAP_CAP_VAL 2 = (s.advance adv).frcNow % 2 ^ 32 ∧ t.get KEY_SNAP_CAP_VAL 3 = (s.advance adv).frcNow / 2 ^ 32 % 2 ^ 32 ∧
    t.get KEY_SNAP_CAP_VAL 4 = (s.advance adv).nt % 2 ^ 32 ∧ t.get KEY_SNAP_CAP_VAL 5 = (s.advance adv).nt / 2 ^ 32 % 2 ^ 32)) ∧
  (∀ a adv s, isLatching a = true → Completes (exec (.latchingRead a adv) s) (fun t =>
    t.rd a = word ((s.advance adv).wideValue a) ∧ t.rd (a + 4) = word ((s.advance adv).wideValue a / 2 ^ 32) ∧
    (∀ b, b ≠ a → b ≠ a + 4 → t.rd b = s.rd b)))

/-- A TICK_IN edge sets its time. The first one is neither a good interval nor a bad one; a later one whose interval is off by more
than 5 ns is bad and ends the run of good ones; any other is good, and sixteen good ones in a row end a failure (R88, R90). In WIRE
mode, TICK_IN lost records fault 006h once and stops the slewing (R90). With a discipline mode, LOCKED is set after 1,000 good ticks
(R87). Loss of the time PLL's lock records fault 004h once and holds the FRC of that instant, and at its return the FRC goes on from
where it stands (R79). Loss of the RT PLL's lock is fault 003h, class F0 (R32). OVR_CLEAR zeroes the overrun counts and the VALID bit
and keeps the rest (R64). Where the occasion of DISC_LOCK_GAINED, TICK_IN_FAIL or TIME_PLL_UNLOCK has not arisen the command changes
nothing: the model's own reading, log entry 2. -/
def Obligations.KeyClocks : Prop :=
  (∀ (t16 : Nat) (s : State), s.key.tickIn = 0 → exec (.tickInEdge t16) s =
    .next (({ s with key := { s.key with tickIn := t16 + 1, wireFrom := t16, wireBad := false, goodRun := 0 } }).put
      KEY_STATUS_TICK_IN_OK (if s.get KEY_CTRL_DISC_MODE = 2 ∧ s.key.tickInFailed = false then 1 else 0))) ∧
  (∀ (t16 : Nat) (s : State), s.key.tickIn ≠ 0 → 80 < ((t16 : Int) - ((s.key.tickIn - 1 : Nat) : Int) - (16 * s.periodNs : Nat)).natAbs →
    Completes (exec (.tickInEdge t16) s) (fun t => t.key.tickIn = t16 + 1 ∧ t.key.wireFrom = t16 ∧ t.key.wireBad = true ∧
      t.key.goodRun = 0 ∧ t.key.tickInFailed = s.key.tickInFailed)) ∧
  (∀ (t16 : Nat) (s : State), s.key.tickIn ≠ 0 → ((t16 : Int) - ((s.key.tickIn - 1 : Nat) : Int) - (16 * s.periodNs : Nat)).natAbs ≤ 80 →
    Completes (exec (.tickInEdge t16) s) (fun t => t.key.tickIn = t16 + 1 ∧ t.key.wireFrom = t16 ∧ t.key.wireBad = false ∧
      t.key.goodRun = s.key.goodRun + 1 ∧ (16 ≤ s.key.goodRun + 1 → t.key.tickInFailed = false) ∧
      (s.key.goodRun + 1 < 16 → t.key.tickInFailed = s.key.tickInFailed))) ∧
  (∀ s, s.get KEY_CTRL_DISC_MODE = 2 → s.key.tickInFailed = false → s.wireLost = true → exec .tickInFail s =
    .next ((({ s with key := { s.key with tickInFailed := true, badRun := 0, goodRun := 0, slew := 0 } }).put
      KEY_STATUS_TICK_IN_OK 0).fault 0 6 2)) ∧
  (∀ s, s.get KEY_CTRL_DISC_MODE ≠ 2 ∨ s.key.tickInFailed = true ∨ s.wireLost = false → exec .tickInFail s = .next s) ∧
  (∀ s, s.get KEY_CTRL_DISC_MODE ≠ 0 → 1000 ≤ s.key.lockRun → exec .discLockGained s = .next (s.set1 KEY_STATUS_LOCKED)) ∧
  (∀ s, s.get KEY_CTRL_DISC_MODE = 0 ∨ s.key.lockRun < 1000 → exec .discLockGained s = .next s) ∧
  (∀ s, s.on KEY_STATUS_TIME_PLL_LOCK = true → exec .timePllUnlock s =
    .next ((({ s with key := { s.key with frcUnlock := s.key.frc } }).put KEY_STATUS_TIME_PLL_LOCK 0).fault 0 4 2)) ∧
  (∀ s, s.on KEY_STATUS_TIME_PLL_LOCK = false → exec .timePllUnlock s = .next s) ∧
  (∀ s, Completes (exec .timePllRelock s) (fun t => t.on KEY_STATUS_TIME_PLL_LOCK = true ∧ t.frcNow = s.frcNow)) ∧
  (∀ s, exec .rtPllUnlock s = .next ((s.put KEY_STATUS_RT_PLL_LOCK 0).fault 0 3 0)) ∧
  (∀ s, Completes (exec .ovrClear s) (fun t => (∀ p : Fin 16, t.rd (KEY_OVR_A_SCN.addr p) = 0 ∧ t.rd (KEY_OVR_B_AFE.addr p) = 0) ∧
    t.get KEY_OVR_LAST_VALID = 0 ∧ t.key = s.key))

/-- A control write that sets EN on a comparator that is not armed, with its fields legal and the target ahead of network time, arms
the comparator (R92, R93); with the target not ahead, a one-shot comparator sets MISSED, clears EN and records fault 009h naming it,
and a periodic one takes the first target ahead of network time and sets MISSED (R93, R94); a destination or index R96 does not list,
or a period below 1,000, is a reserved value (R11). A write with EN while EN is 1 is ignored and sets IGNORED (R93); a write without
EN writes the register, which disarms. A due comparator without ALIGN sets FIRED, captures the tick and, one-shot, clears EN;
periodic, its target moves on by PERIOD (R92, R93); its destination then acts (R96) and the synchronised sums are latched (R354).
These are its firings when no offset change has passed its target. A comparator that is not due does nothing but let time pass. -/
def Obligations.Triggers : Prop :=
  (∀ (k : Fin 16) v adv s, s.on KEY_TT_CTRL_EN k = false → v.toNat.testBit 31 = true →
    ttDestOk (wfield v 20 16) (wfield v 7 0) = true → (v.toNat.testBit 30 = true → 1000 ≤ s.get KEY_TT_PERIOD_PERIOD k) →
    exec (.triggerArm k v adv) s = .next (
      let u := (s.advance adv).wr (KEY_TT_CTRL_EN.addr k) (v &&& 0xE01F00FF#32)
      let u := { u with key := { u.key with ttJump := setBit u.key.ttJump k false } }
      if u.nt < u.ttTarget k then u
      else if u.on KEY_TT_CTRL_PERIODIC k = true then
        (u.putTarget k (pastNow (u.ttTarget k) (u.get KEY_TT_PERIOD_PERIOD k) u.nt)).set1 KEY_TT_STATUS_MISSED k
      else ((u.set1 KEY_TT_STATUS_MISSED k).put KEY_TT_CTRL_EN 0 k).fault 0 9 3 k)) ∧
  (∀ (k : Fin 16) v adv s, v.toNat.testBit 31 = false → ttDestOk (wfield v 20 16) (wfield v 7 0) = true →
    exec (.triggerArm k v adv) s = .next (
      let u := (s.advance adv).wr (KEY_TT_CTRL_EN.addr k) (v &&& 0xE01F00FF#32)
      { u with key := { u.key with ttJump := setBit u.key.ttJump k false } })) ∧
  (∀ (k : Fin 16) v adv s, s.on KEY_TT_CTRL_EN k = false → v.toNat.testBit 31 = true →
    ttDestOk (wfield v 20 16) (wfield v 7 0) = false ∨ (v.toNat.testBit 30 = true ∧ s.get KEY_TT_PERIOD_PERIOD k < 1000) →
    exec (.triggerArm k v adv) s = .next ((s.advance adv).reservedFault 0)) ∧
  (∀ (k : Fin 16) v adv s, s.on KEY_TT_CTRL_EN k = true → v.toNat.testBit 31 = true →
    exec (.triggerArm k v adv) s = .next ((s.advance adv).set1 KEY_TT_STATUS_IGNORED k)) ∧
  (∀ (k : Fin 16) adv ph aux s, (s.advance adv).ttDue k = true → s.on KEY_TT_CTRL_ALIGN k = false ∨ ph = 0 →
    s.key.ttJump.testBit k = false →
    exec (.triggerFire k adv ph aux) s = .next (
      let u := ((s.advance adv).set1 KEY_TT_STATUS_FIRED k).put64 KEY_TT_FIRE_LO_TICK KEY_TT_FIRE_HI_TICK (s.key.tick % 2 ^ 64) k
      let u := { u with key := { u.key with ttJump := setBit u.key.ttJump k false } }
      State.ttAction (if u.on KEY_TT_CTRL_PERIODIC k = true then u.putTarget k (s.ttTarget k + s.get KEY_TT_PERIOD_PERIOD k)
        else u.put KEY_TT_CTRL_EN 0 k) k ph aux)) ∧
  (∀ (k : Fin 16) adv ph aux s, (s.advance adv).ttDue k = false →
    exec (.triggerFire k adv ph aux) s = .next (s.advance adv)) ∧
  (∀ (k : Fin 16) ph aux (s : State), s.get KEY_TT_CTRL_DEST k = 0 → s.ttAction k ph aux = s.xsyncLatch k) ∧
  (∀ (k : Fin 16) ph aux (s : State), s.get KEY_TT_CTRL_DEST k = 2 →
    s.ttAction k ph aux = (s.camTrigger (s.get KEY_TT_CTRL_INDEX k)).xsyncLatch k) ∧
  (∀ (k : Fin 16) ph aux (s : State), s.get KEY_TT_CTRL_DEST k = 4 → s.ttAction k ph aux = s.layerGo.xsyncLatch k)

/-- A lockstep mismatch halts Nagus with fault 001h, class F0 (R98); A5C3h is a kick and any other value is a reserved
value (R99, R11); the watchdog, enabled, expires into fault 002h, class F0, and the same halt when no kick came since the
one it counts from, and does nothing otherwise (R99); NAGUS_DOWN is set while Nagus is down, the eight summary words are rewritten while it runs, and none while a debugger halts it
(R105); the clears of the host-error and Viaduct-error counts zero them (R151, R54); a request whose opcode has no row is
answered BAD_OPCODE (R145). -/
def Obligations.NagusHalts : Prop :=
  (∀ s, Completes (exec .lockstepMismatch s) (fun t =>
    ({ s.haltNagus with mbx := { s.haltNagus.mbx with cause := s.mbx.cause ||| 1 } }).fault 1 1 0 = t)) ∧
  (∀ s, exec (.wdogKick 0xA5C3#16) s = .next { s with mbx := { s.mbx with wdogKicks := s.mbx.wdogKicks + 1 } }) ∧
  (∀ v s, v ≠ 0xA5C3#16 → exec (.wdogKick v) s = .next (s.reservedFault 1)) ∧
  (∀ s, s.on MBX_WDOG_EN = true → s.halted = false → exec (.wdogExpire s.mbx.wdogKicks) s =
    .next (({ s.haltNagus with mbx := { s.haltNagus.mbx with cause := s.mbx.cause ||| 2 } }).fault 1 2 0)) ∧
  (∀ n s, s.on MBX_WDOG_EN = false ∨ s.halted = true ∨ s.mbx.wdogKicks ≠ n → exec (.wdogExpire n) s = .next s) ∧
  (∀ s, s.on MBX_READY_HALTED = true → exec .summaryRefresh s = .next (s.putBit MBX_SUMMARY_WORD 30 true)) ∧
  (∀ s, s.on MBX_READY_HALTED = false → s.halted = false → exec .summaryRefresh s = .next s.putSummary) ∧
  (∀ s, s.on MBX_READY_HALTED = false → s.halted = true → exec .summaryRefresh s = .next s) ∧
  (∀ s, exec .hostErrClear s = .next (s.wr 0x20010030 0)) ∧
  (∀ s, exec .viaErrClear s = .next ((s.wr 0x2001F000 0).put MBX_VIA_ERR_FIRST_VALID 0)) ∧
  (∀ m s, s.mbx.taken = some m → s.mayBegin = true → cmdInfo (s.request m).op = none → exec .unknownOpcode s = .next (s.finish m (failReply stBadOpcode)))

/-- A ring of a mailbox that is not BUSY makes it BUSY and queues it behind those rung before, its tag held, its abort mark cleared and
no byte outside its reply area changed (R113, R115); of a BUSY one it counts a host error (R113). The hardware answers itself, with
LENGTH 0, NAGUS_DOWN while Nagus is down and NOT_READY before FW_READY, and in recovery on every mailbox but 0 (R119, R147). An abort
marks a BUSY mailbox and has no effect otherwise (R118). Firmware that has no request in hand takes the oldest rung mailbox: aborted,
it is answered ABORTED; with flags the command does not allow BAD_FLAGS, with another length BAD_LENGTH, with a tag in use TAG_IN_USE,
in a mode that does not accept it BAD_STATE, in this order (R111, R115–R118); it is carried out otherwise. When the reply of the request
in hand is written, its mailbox goes from BUSY to DONE, with vector m when the request has IRQ (R114, R115). A write of EVT_RD that
claims no more than the ring holds frees the entries read, and one that claims more counts a protocol error (R106). With space in
the ring the oldest event is written, after an entry for the events lost before it, if any; with none it is lost, and fault 004h is
recorded when OVERFLOW is first set (R107, R108). -/
def Obligations.MailboxFlow : Prop :=
  (∀ (m : Fin 8) s, s.get MBX_STATE_STATE m ≠ 1 → s.on MBX_READY_HALTED = false → s.on MBX_READY_FW_READY = true →
    s.mbx.recovery = false ∨ m = 0 → Completes (exec (.doorbellRing m) s) (fun t =>
      t.mbx.order = s.mbx.order ++ [m.val] ∧ t.get MBX_STATE_STATE m = 1 ∧ t.get MBX_STATE_TAG m = (s.request m).tag % 65536 ∧
      t.get MBX_STATE_ABORT_REQ m = 0 ∧ (∀ a, a < m * 0x800 + 0x400 ∨ m * 0x800 + 0x800 ≤ a →
        Memory.read 0 t.mbx.mem a = Memory.read 0 s.mbx.mem a))) ∧
  (∀ (m : Fin 8) s, s.get MBX_STATE_STATE m ≠ 1 → s.on MBX_READY_HALTED = true → Completes (exec (.doorbellRing m) s) (fun t =>
      t.mbx.order = s.mbx.order ∧ t.get MBX_STATE_STATE m = 2 ∧ t.mbxNat (m * 0x800 + 0x404) 2 = 0 ∧
      t.mbxNat (m * 0x800 + 0x408) 2 = stNagusDown)) ∧
  (∀ (m : Fin 8) s, s.get MBX_STATE_STATE m ≠ 1 → s.on MBX_READY_HALTED = false →
    s.on MBX_READY_FW_READY = false ∨ (s.mbx.recovery = true ∧ m ≠ 0) →
    Completes (exec (.doorbellRing m) s) (fun t => t.mbx.order = s.mbx.order ∧ t.get MBX_STATE_STATE m = 2 ∧
      t.mbxNat (m * 0x800 + 0x404) 2 = 0 ∧ t.mbxNat (m * 0x800 + 0x408) 2 = stNotReady)) ∧
  (∀ (m : Fin 8) s, s.get MBX_STATE_STATE m = 1 → exec (.doorbellRing m) s = .next (s.hostErr MBX_HOST_ERR_RING_BUSY)) ∧
  (∀ (m : Fin 8) s, s.get MBX_STATE_STATE m = 1 → exec (.doorbellAbort m) s = .next (s.put MBX_STATE_ABORT_REQ 1 m)) ∧
  (∀ (m : Fin 8) s, s.get MBX_STATE_STATE m ≠ 1 → exec (.doorbellAbort m) s = .next s) ∧
  (∀ m rest s, s.mbx.order = m :: rest → s.halted = false → s.on MBX_READY_FW_READY = true → s.mbx.taken = none →
    exec .mailboxTake s = .next (
      let u := ({ s with mbx := { s.mbx with order := rest, taken := some m, begun := false, replied := false } }).putBit MBX_PENDING_RUNG m false
      if s.on MBX_STATE_ABORT_REQ m = true then u.finish m (failReply stAborted)
      else match cmdInfo (u.request m).op with
        | none => u
        | some i => match u.takeCheck m (u.request m) i with
          | some st => u.finish m (failReply st)
          | none => u)) ∧
  (∀ s, s.mbx.order = [] ∨ s.halted = true ∨ s.on MBX_READY_FW_READY = false ∨ s.mbx.taken ≠ none → exec .mailboxTake s = .next s) ∧
  (∀ (s : State) m q i, s.takeCheck m q i =
    if q.flags / 4 ≠ 0 ∨ (q.defer = true ∧ deferOk i q = false) then some stBadFlags
    else if lenOk i q = false then some stBadLength
    else if s.tagInUse m (s.get MBX_STATE_TAG m) = true then some stTagInUse
    else if s.modeOk i q = false then some stBadState else none) ∧
  (∀ (m : Fin 8) s, s.mbx.taken = some m.val → s.mbx.replied = true → s.halted = false → s.get MBX_STATE_STATE m = 1 →
    exec (.mailboxComplete m) s = .next (if (s.request m).flags.testBit 0 = true then (s.release.put MBX_STATE_STATE 2 m).raise m
      else s.release.put MBX_STATE_STATE 2 m)) ∧
  (∀ (m : Fin 8) s, s.mbx.taken ≠ some m.val ∨ s.mbx.replied = false ∨ s.halted = true → exec (.mailboxComplete m) s = .next s) ∧
  (∀ v s, (s.get MBX_EVT_WR_WR + 2 ^ 32 - v.toNat) % 2 ^ 32 ≤ 256 → s.halted = false →
    exec (.evtRdWrite v) s = .next (s.put MBX_EVT_RD_RD v.toNat).postLost) ∧
  (∀ v s, 256 < (s.get MBX_EVT_WR_WR + 2 ^ 32 - v.toNat) % 2 ^ 32 → exec (.evtRdWrite v) s = .next (s.hostErr MBX_HOST_ERR_PROTO)) ∧
  (∀ s : State, s.mbx.evLost = 0 → s.postLost = s) ∧
  (∀ e rest s, s.halted = false → s.mbx.evq = e :: rest → exec .eventPost s = .next (
    let u := State.postLost { s with mbx := { s.mbx with evq := rest } }
    if u.evtFill < 256 then u.writeEvent e
    else State.faultOnce { u with mbx := { u.mbx with evLost := u.mbx.evLost + 1 } } MBX_EVT_STATUS_OVERFLOW 0 1 4 3)) ∧
  (∀ s, s.halted = true ∨ s.mbx.evq = [] → exec .eventPost s = .next s)

/-- What each SYS command does to the request firmware has taken (R129). NOP answers OK. INFO answers the version, the mode, the
lifecycle, the debug level, the slot and the tick. MODE to another mode writes it where the mode's row lists it, no rule refuses it and
the device is not too hot, from IDLE to VAULT asks the vault die to sleep, and is else answered BAD_PARAM, BAD_STATE or, with SEC fault
004h, DENIED (R672–R675, R678). RESUME outside HOLD answers BAD_STATE, while a cause persists HW_FAULT with its code, and otherwise
drops the causes and enters the mode HOLD was entered from (R676, R740). COMMIT asks for the commit at once, its reply waiting for the
capture where group 0 is among the groups (R58, R123), or at a tick, with NO_SPACE where no slot is free and COMMIT_REFUSED where the
slot is armed late (R73, R74); it refuses no group and a group above 9. DISCARD; RESET, after whose reply the device resets;
ACTION_STATUS, p1 being 0 unless the action has finished (log entry 60); ACTION_STOP, NOT_FOUND where no unfinished action has the tag
(R117, R118). COMMAND_RESET_DELAY does nothing unless a RESET has been answered. -/
def Obligations.SysCommands : Prop :=
  (∀ s q, s.serving 0x0000 q → exec .sysNop s = .next (s.finish q.m okReply)) ∧
  (∀ s q, s.serving 0x0001 q → s.mbx.recovery = false → exec .sysInfo s = .next (s.finish q.m (okReply [0x0402, s.fw.version,
    s.mode + 16 * s.lifecycle + 64 * s.debug + 256 * s.get SEC_SLOT_SLOT +
      (if s.on SEC_STATUS_MEAS_DONE = true ∧ s.slotConfirmed (s.get SEC_SLOT_SLOT) = true then 512 else 0),
    s.key.tick % 2 ^ 32, s.key.tick / 2 ^ 32]))) ∧
  (∀ s q, s.serving 0x0001 q → s.mbx.recovery = true → Completes (exec .sysInfo s) (fun t => ∃ v,
    t = ({ s with free := s.free + 1 }).finish q.m (okReply [0x0402, v,
      s.mode + 16 * s.lifecycle + 64 * s.debug + 256 * s.get SEC_SLOT_SLOT +
        (if s.on SEC_STATUS_MEAS_DONE = true ∧ s.slotConfirmed (s.get SEC_SLOT_SLOT) = true then 512 else 0),
      s.key.tick % 2 ^ 32, s.key.tick / 2 ^ 32]))) ∧
  (∀ s q m l, s.serving 0x0002 q → q.w 0 = m + (if l then 256 else 0) → m ≠ 0 → (l = true → m = 6) →
    (modeTargets s.mode).contains m = true → (m = 4 → s.job.st = 2) → s.modeRefused m l = false →
    (s.modeAllow = true → allowOf m l = false → m ≠ 5 → s.anyRun = false) → s.tooHot m = false →
    exec .sysMode s = .next ((s.modeWrite m l).1.finish q.m (okReply [(s.modeWrite m l).1.mode]))) ∧
  (∀ s q, s.serving 0x0002 q → q.w 0 = 0 → s.mode = 2 → s.modeRefused 0 false = false → s.thm.after = false →
    exec .sysMode s = .next (({ s with flu := { s.flu with flushing := true }, vlt := { s.vlt with sleep := true } }).finish q.m (okReply [0]))) ∧
  (∀ s q, s.serving 0x0002 q → q.w 0 / 16 % 16 ≠ 0 ∨ q.w 0 / 512 ≠ 0 ∨ 7 < q.w 0 % 16 →
    exec .sysMode s = .next (s.finish q.m (badParam 0))) ∧
  (∀ s q m l, s.serving 0x0002 q → q.w 0 = m + (if l then 256 else 0) → m ≤ 7 → (l = true → m = 6) →
    (modeTargets s.mode).contains m = false ∨ (m = 4 ∧ s.job.st ≠ 2) → exec .sysMode s = .next (s.finish q.m (failReply stBadState))) ∧
  (∀ s q m l, s.serving 0x0002 q → q.w 0 = m + (if l then 256 else 0) → m ≤ 7 → (l = true → m = 6) →
    (modeTargets s.mode).contains m = true → (m = 4 → s.job.st = 2) → s.modeRefused m l = true →
    exec .sysMode s = .next ((s.fault 19 4 3).finish q.m (failReply stDenied))) ∧
  (∀ s q m l, s.serving 0x0002 q → q.w 0 = m + (if l then 256 else 0) → m ≤ 7 → (l = true → m = 6) →
    (modeTargets s.mode).contains m = true → (m = 4 → s.job.st = 2) → s.modeRefused m l = false →
    (s.modeAllow = true ∧ allowOf m l = false ∧ m ≠ 5 ∧ s.anyRun = true) ∨ s.tooHot m = true →
    exec .sysMode s = .next (s.finish q.m (failReply stBadState))) ∧
  (∀ s q, s.serving 0x0003 q → s.mode ≠ 5 → exec .sysResume s = .next (s.finish q.m (failReply stBadState))) ∧
  (∀ s q, s.serving 0x0003 q → s.mode = 5 → (∀ c, c ∈ s.causes → s.persists c.1 c.2 = false) →
    exec .sysResume s = .next (((({ s with causes := [] }).enterMode s.resumeMode).debugInBuild).finish q.m
      (okReply [((({ s with causes := [] }).enterMode s.resumeMode).debugInBuild).mode]))) ∧
  (∀ s q c, s.serving 0x0003 q → s.mode = 5 → s.causes.find? (fun c => s.persists c.1 c.2) = some c →
    exec .sysResume s = .next (s.finish q.m (failReply stHwFault c.1))) ∧
  (∀ s q, s.serving 0x0004 q → 0 < q.w 0 → q.w 0 ≤ 1023 → (q.w 0).testBit 0 = false → q.w64 1 = 0 →
    exec .sysCommit s = .next (((s.unstage (q.w 0)).requestCommit (q.w 0)).finish q.m
      (okReply [(s.key.tick + 1) % 2 ^ 32, (s.key.tick + 1) / 2 ^ 32]))) ∧
  (∀ s q, s.serving 0x0004 q → 0 < q.w 0 → q.w 0 ≤ 1023 → (q.w 0).testBit 0 = true → q.w64 1 = 0 →
    Completes (exec .sysCommit s) (fun t => t.mbx.waitKey = some (q.m, okReply [(s.key.tick + 1) % 2 ^ 32, (s.key.tick + 1) / 2 ^ 32]) ∧
      t.mbx.taken = some q.m ∧ t.mbx.begun = true ∧ t.mbx.replied = s.mbx.replied ∧ t.mbx.mem = s.mbx.mem ∧
      t.key.nextK = s.key.nextK ||| q.w 0)) ∧
  (∀ s q, s.serving 0x0004 q → q.w 0 = 0 ∨ 1023 < q.w 0 → exec .sysCommit s = .next (s.finish q.m (badParam 0))) ∧
  (∀ s q, s.serving 0x0004 q → 0 < q.w 0 → q.w 0 ≤ 1023 → q.w64 1 ≠ 0 → s.freeSlot = none →
    exec .sysCommit s = .next (s.finish q.m (failReply stNoSpace))) ∧
  (∀ s q k, s.serving 0x0004 q → 0 < q.w 0 → q.w 0 ≤ 1023 → q.w64 1 ≠ 0 → s.freeSlot = some k →
    let u := ((s.unstage (q.w 0)).put64 KEY_SCHED_TICK_LO_TICK_LO KEY_SCHED_TICK_HI_TICK_HI (q.w64 1) k).schedArm k (q.w 0) 0
    exec .sysCommit s = .next (u.finish q.m (if u.on KEY_SCHED_CTRL_ARM k then okReply [q.w 1, q.w 2] else failReply stCommitRefused 7))) ∧
  Answers .sysDiscard 0x0005 (fun _ q => [(0, decide (q.w 0 ≤ 1023))]) (fun _ _ => True)
    (fun s q => (s.unstage (q.w 0)).discard (q.w 0)) (fun _ _ => okReply) ∧
  Answers .sysReset 0x0006 (fun _ q => [(0, decide (q.w 0 = 1))]) (fun _ _ => True)
    (fun s _ => { s with mbx := { s.mbx with resetPend := true } }) (fun _ _ => okReply) ∧
  (∀ s, exec .commandResetDelay s = .next (if s.mbx.resetPend = true then s.deviceReset .command else s)) ∧
  Answers .sysActionStatus 0x0007 (fun _ q => [(0, decide (q.w 0 < 65536))]) (fun _ _ => True) (fun s _ => s)
    (fun s q => match s.mbx.actions.reverse.find? (fun a => a.tag == q.w 0) with
      | none => okReply [0, 0]
      | some a => if a.finished then okReply [2, a.status] else okReply [1, 0]) ∧
  (∀ s q a, s.serving 0x0008 q → q.w 0 < 65536 → s.unfinished.find? (fun a => a.tag == q.w 0) = some a →
    exec .sysActionStop s = .next ((s.stopAction a).finish q.m okReply)) ∧
  (∀ s q, s.serving 0x0008 q → q.w 0 < 65536 → s.unfinished.find? (fun a => a.tag == q.w 0) = none →
    exec .sysActionStop s = .next (s.finish q.m (failReply stNotFound))) ∧
  (∀ s q, s.serving 0x0008 q → 65536 ≤ q.w 0 → exec .sysActionStop s = .next (s.finish q.m (badParam 0)))

/-- JOB OPEN answers DENIED where the manifest lies outside the DRAM a command may name, BUSY where a job is open or a job image in
use, DENIED where the manifest or its signature does not check, and BAD_PARAM where its length, its period or one of its images is
not accepted; otherwise it loads the images from image 48 on and writes the job-open group (R103, R130, R392, R668, R669, R704). JOB
START needs PREP with a job open, and is refused with SEC fault 004h where BUILD is; it writes SCN_LAYER and enters BUILD (R120, R130,
R673). JOB STATUS reports the job. JOB STOP needs a running job and a free place; at once it stops the piers of the job; it ends, as
OK, when every pier of the job is stopped (R130, R676). JOB CLOSE, not while the job runs nor while the loop group is staged, takes
the job's images out of every slot, writes the close record and clears the measurement (R122, R130, R393, R670, R704).
WINDOW_OPEN answers the enabled window that covers the range, or else opens the lowest free one, NO_SPACE where none is free and
DENIED where R103 does not allow the range (R103, R732); WINDOW_CLOSE closes a window in which no active ring lies, BUSY where one
does, NOT_FOUND where it is not enabled (R775). RING_SET, BUSY while the pier is enabled, and PATCH_RING give a ring a window and its
registers, or answer why they cannot (R131, R133). -/
def Obligations.JobsAndRings : Prop :=
  (∀ s q u m v, s.serving 0x0400 q → s.rangeAllowed (q.addr 1) (q.w 3) = true → 64 ≤ q.w 3 → q.w 3 ≤ 65536 → s.job.st = 0 →
    (List.range 24).any s.jobImage = false →
    s.jobCheck (q.addr 1) (q.w 3) (some (q.w 0)) = (u, some m) → m.period = s.get KEY_CTRL_PERIOD →
    u.loadImages 48 m.images = (v, true) →
    exec .jobOpen s = .next ((State.jobOpenRecord { v with job := { st := 1, id := m.id, layers := m.layers, piers := m.piers } } m).finish
      q.m (okReply [m.layers, m.piers]))) ∧
  (∀ s q, s.serving 0x0400 q → s.rangeAllowed (q.addr 1) (q.w 3) = false →
    exec .jobOpen s = .next (s.finish q.m (failReply stDenied))) ∧
  (∀ s q, s.serving 0x0400 q → s.rangeAllowed (q.addr 1) (q.w 3) = true → q.w 3 < 64 ∨ 65536 < q.w 3 →
    exec .jobOpen s = .next (s.finish q.m (badParam 3))) ∧
  (∀ s q, s.serving 0x0400 q → s.rangeAllowed (q.addr 1) (q.w 3) = true → 64 ≤ q.w 3 → q.w 3 ≤ 65536 →
    s.job.st ≠ 0 ∨ (List.range 24).any s.jobImage = true → exec .jobOpen s = .next (s.finish q.m (failReply stBusy))) ∧
  (∀ s q u, s.serving 0x0400 q → s.rangeAllowed (q.addr 1) (q.w 3) = true → 64 ≤ q.w 3 → q.w 3 ≤ 65536 → s.job.st = 0 →
    (List.range 24).any s.jobImage = false → s.jobCheck (q.addr 1) (q.w 3) (some (q.w 0)) = (u, none) →
    exec .jobOpen s = .next (u.finish q.m (failReply stDenied))) ∧
  (∀ s q u m, s.serving 0x0400 q → s.rangeAllowed (q.addr 1) (q.w 3) = true → 64 ≤ q.w 3 → q.w 3 ≤ 65536 → s.job.st = 0 →
    (List.range 24).any s.jobImage = false → s.jobCheck (q.addr 1) (q.w 3) (some (q.w 0)) = (u, some m) →
    m.period ≠ s.get KEY_CTRL_PERIOD → exec .jobOpen s = .next (u.measClear.finish q.m (badParam 1))) ∧
  (∀ s q u m v, s.serving 0x0400 q → s.rangeAllowed (q.addr 1) (q.w 3) = true → 64 ≤ q.w 3 → q.w 3 ≤ 65536 → s.job.st = 0 →
    (List.range 24).any s.jobImage = false → s.jobCheck (q.addr 1) (q.w 3) (some (q.w 0)) = (u, some m) →
    m.period = s.get KEY_CTRL_PERIOD → u.loadImages 48 m.images = (v, false) →
    exec .jobOpen s = .next (v.measClear.finish q.m (badParam 1))) ∧
  Answers .jobStart 0x0401 (fun _ q => [(0, decide (q.w 0 < 2 ^ 20))])
    (fun s _ => s.mode = 3 ∧ s.job.st = 1 ∧ s.modeRefused 4 false = false)
    (fun s q => State.takeMode { s.layerSet (q.w 0) with job := { s.job with st := 2 } } 4 false) (fun _ _ => okReply) ∧
  (∀ s q, s.serving 0x0401 q → q.w 0 < 2 ^ 20 → s.mode ≠ 3 ∨ s.job.st ≠ 1 →
    exec .jobStart s = .next (s.finish q.m (failReply stBadState))) ∧
  (∀ s q, s.serving 0x0401 q → q.w 0 < 2 ^ 20 → s.mode = 3 → s.job.st = 1 → s.modeRefused 4 false = true →
    exec .jobStart s = .next ((s.fault 19 4 3).finish q.m (failReply stDenied))) ∧
  Answers .jobStatus 0x0402 (fun _ _ => []) (fun _ _ => True) (fun s _ => s)
    (fun s _ => okReply [s.job.st, s.get SCN_LAYER_LAYER, s.get SCN_STATUS_LAYER_DONE &&& s.job.piers]) ∧
  Answers .jobStop 0x0403 (fun _ q => [(0, decide (q.w 0 ≤ 1))])
    (fun s q => s.noPlace = false ∧ s.job.st = 2 ∧ q.w 0 = 0)
    (fun s q => State.jobPoll { s.startAction q with job := { s.job with st := 3, stopNow := false, ended1 := false } })
    (fun _ _ => okReply) ∧
  (∀ s q, s.serving 0x0403 q → s.noPlace = false → s.job.st = 2 → q.w 0 = 1 → exec .jobStop s = .next (
    (State.jobPoll (forPiers s.job.piers (fun p t => if psLayerWait ≤ t.pierState p ∧ t.pierState p ≤ psSync then t.stopPier p else t)
      { s.startAction q with job := { s.job with st := 3, stopNow := true, ended1 := true } })).finish q.m okReply)) ∧
  (∀ s q, s.serving 0x0403 q → s.noPlace = false → s.job.st = 2 → q.w 0 = 0 →
    (∀ p, p ∈ piersOf s.job.piers → s.pierState p ≤ psIdle) → exec .jobStop s = .next (
    (State.jobEnd { s.startAction q with job := { s.job with st := 3, stopNow := false, ended1 := false } }).finish q.m okReply)) ∧
  (∀ s q, s.serving 0x0403 q → q.w 0 ≤ 1 → s.noPlace = true → exec .jobStop s = .next (s.finish q.m (failReply stNoSpace))) ∧
  (∀ s q, s.serving 0x0403 q → q.w 0 ≤ 1 → s.noPlace = false → s.job.st ≠ 2 →
    exec .jobStop s = .next (s.finish q.m (failReply stBadState))) ∧
  (∀ s q, s.serving 0x0404 q → s.mbx.staged.testBit 7 = false → s.job.st = 1 ∨ s.job.st = 4 → s.fluTakes 1 →
    Completes (exec .jobClose s) (fun t => t.job = {} ∧ t.on SEC_STATUS_JOB_OK = false ∧ t.flu.seqNext = s.flu.seqNext + 1 ∧
      (∃ r, t.flu.ring = s.flu.ring ++ [r] ∧ r.code = 0x5102 ∧ r.sev = 4 ∧ r.seq = s.flu.seqNext ∧
        r.payload.take 4 = leBytes 4 s.job.id ∧ r.payload.drop 8 = leBytes 4 s.job.f1))) ∧
  (∀ s q, s.serving 0x0404 q → s.mbx.staged.testBit 7 = true → exec .jobClose s = .next (s.finish q.m (failReply stStaged))) ∧
  (∀ s q, s.serving 0x0404 q → s.mbx.staged.testBit 7 = false → s.job.st = 0 ∨ s.job.st = 2 ∨ s.job.st = 3 →
    exec .jobClose s = .next (s.finish q.m (failReply stBadState))) ∧
  Answers .sysWindowOpen 0x0009 (fun _ q => [(0, baseOk (q.addr 0)), (2, pow2In (q.w 2) 12 36), (3, decide (q.w 3 < 2))])
    (fun s q => ∃ k, (List.range 16).find? (s.winCovers (q.addr 0) (q.w 2) (q.w 3 == 1)) = some k) (fun s _ => s)
    (fun s q => okReply [((List.range 16).find? (s.winCovers (q.addr 0) (q.w 2) (q.w 3 == 1))).getD 0]) ∧
  (∀ s q k, s.serving 0x0009 q → baseOk (q.addr 0) = true → pow2In (q.w 2) 12 36 = true → q.w 3 < 2 →
    (List.range 16).find? (s.winCovers (q.addr 0) (q.w 2) (q.w 3 == 1)) = none →
    (List.range 16).find? (fun k => !s.on PCI_WIN_CTRL_EN k) = some k → s.rangeAllowed (q.addr 0) (q.w 2) = true →
    Completes (exec .sysWindowOpen s) (fun t => t.on PCI_WIN_CTRL_EN k = true ∧ t.winBase k = q.addr 0 ∧ t.winSize k = q.w 2 ∧
      t.get PCI_WIN_CTRL_WRITE k = q.w 3 ∧ t.dram = s.dram)) ∧
  (∀ s q, s.serving 0x0009 q → baseOk (q.addr 0) = true → pow2In (q.w 2) 12 36 = true → q.w 3 < 2 →
    (List.range 16).find? (s.winCovers (q.addr 0) (q.w 2) (q.w 3 == 1)) = none →
    (List.range 16).find? (fun k => !s.on PCI_WIN_CTRL_EN k) = none ∨ s.rangeAllowed (q.addr 0) (q.w 2) = false →
    exec .sysWindowOpen s = .next (s.finish q.m (failReply
      (if (List.range 16).find? (fun k => !s.on PCI_WIN_CTRL_EN k) = none then stNoSpace else stDenied)))) ∧
  Answers .sysWindowClose 0x000A (fun _ q => [(0, decide (q.w 0 ≤ 15))])
    (fun s q => s.on PCI_WIN_CTRL_EN (q.w 0) = true ∧ s.ringInside (s.winBase (q.w 0)) (s.winSize (q.w 0)) = false)
    (fun s q => s.put PCI_WIN_CTRL_EN 0 (q.w 0)) (fun _ _ => okReply) ∧
  (∀ s q, s.serving 0x000A q → q.w 0 ≤ 15 → s.on PCI_WIN_CTRL_EN (q.w 0) = false ∨
    s.ringInside (s.winBase (q.w 0)) (s.winSize (q.w 0)) = true → exec .sysWindowClose s = .next (s.finish q.m
      (failReply (if s.on PCI_WIN_CTRL_EN (q.w 0) = false then stNotFound else stBusy)))) ∧
  (∀ s q k, s.serving 0x0800 q → q.w 0 < 16 → baseOk (q.addr 1) = true → pow2In (q.w 3) 12 28 = true → 1 ≤ q.w 4 →
    q.w 4 + 1 ≤ q.w 3 / 32 → s.pierState (q.w 0) ≤ psIdle → (s.openWindow (q.addr 1) (q.w 3) 1 true).1 = .inl k →
    Completes (exec .scnRingSet s) (fun t => t.ringBase (q.w 0) = q.addr 1 ∧
      2 ^ (12 + t.get SCN_RING_SIZE_SIZE (q.w 0)) = q.w 3 ∧ t.get SCN_RING_LWM_LWM (q.w 0) = q.w 4 ∧ t.mbx.replied = true)) ∧
  (∀ s q i, s.serving 0x0800 q → firstBad [(0, decide (q.w 0 < 16)), (1, baseOk (q.addr 1)), (3, pow2In (q.w 3) 12 28),
      (4, decide (1 ≤ q.w 4 ∧ q.w 4 + 1 ≤ q.w 3 / 32))] = some i → exec .scnRingSet s = .next (s.finish q.m (badParam i))) ∧
  (∀ s q, s.serving 0x0800 q → q.w 0 < 16 → baseOk (q.addr 1) = true → pow2In (q.w 3) 12 28 = true → 1 ≤ q.w 4 →
    q.w 4 + 1 ≤ q.w 3 / 32 → psIdle < s.pierState (q.w 0) → exec .scnRingSet s = .next (s.finish q.m (failReply stBusy))) ∧
  (∀ s q st u, s.serving 0x0800 q → q.w 0 < 16 → baseOk (q.addr 1) = true → pow2In (q.w 3) 12 28 = true → 1 ≤ q.w 4 →
    q.w 4 + 1 ≤ q.w 3 / 32 → s.pierState (q.w 0) ≤ psIdle → s.openWindow (q.addr 1) (q.w 3) 1 true = (.inr st, u) →
    exec .scnRingSet s = .next (u.finish q.m (failReply st))) ∧
  (∀ s q k, s.serving 0x1002 q → baseOk (q.addr 0) = true → pow2In (q.w 2) 12 24 = true → 1 ≤ q.w 3 →
    q.w 3 ≤ q.w 2 / 32 → (s.openWindow (q.addr 0) (q.w 2) 2 true).1 = .inl k →
    Completes (exec .spanPatchRing s) (fun t => t.on SPN_PATCH_CTRL_EN = true ∧ t.get SPN_PATCH_WR_WR = 0 ∧
      t.get SPN_PATCH_THRESH_THRESH = q.w 3 ∧ 2 ^ (12 + t.get SPN_PATCH_SIZE_SIZE) = q.w 2 ∧
      t.get SPN_PATCH_BASE_LO_BASE_LO * 4096 + t.get SPN_PATCH_BASE_HI_BASE_HI * 2 ^ 32 = q.addr 0)) ∧
  (∀ s q i, s.serving 0x1002 q → firstBad [(0, baseOk (q.addr 0)), (2, pow2In (q.w 2) 12 24),
      (3, decide (1 ≤ q.w 3 ∧ q.w 3 ≤ q.w 2 / 32))] = some i → exec .spanPatchRing s = .next (s.finish q.m (badParam i))) ∧
  (∀ s q st u, s.serving 0x1002 q → baseOk (q.addr 0) = true → pow2In (q.w 2) 12 24 = true → 1 ≤ q.w 3 →
    q.w 3 ≤ q.w 2 / 32 → s.openWindow (q.addr 0) (q.w 2) 2 true = (.inr st, u) →
    exec .spanPatchRing s = .next (u.finish q.m (failReply st)))

/-- RING_STATUS and LIMITS_READ reply the ring and limit registers; LIMITS_SET and BARRIER_SET write the RWS fields of
group 1 and commit or stage them (R121, R123, R131, R191). PROFILE_LOAD answers DENIED where the 128 bytes lie outside the DRAM a
command may name (R103), BAD_PARAM for a pier mask of 0 or beyond the piers and for an index above 255, HW_FAULT with 0407h where the
read fails, and else copies the bytes into that profile of every pier of the mask (R177). DIGEST replies NOT_FOUND, or the twelve
words of the digest in the record's continuations and the SEQ of the record, its low word first (R704). -/
def Obligations.ScanCommands : Prop :=
  Answers .scnRingStatus 0x0801 (fun _ q => [(0, decide (q.w 0 < 16))]) (fun _ _ => True) (fun s _ => s)
    (fun s q => okReply [s.get SCN_RING_RD_RD (q.w 0), s.get SCN_RING_WR_WR (q.w 0), s.get SCN_SEQ_LAST_SEQ_LAST (q.w 0),
      s.get SCN_SEQ_LAST_EPOCH_EPOCH (q.w 0), s.get SCN_FIFO_FILL (q.w 0)]) ∧
  Answers .scnLimitsRead 0x0806 (fun _ q => [(0, decide (q.w 0 < 16))]) (fun _ _ => True) (fun s _ => s)
    (fun s q => okReply [s.get SCN_LIM_V_V (q.w 0), s.get SCN_LIM_A_A (q.w 0), s.get SCN_LIM_J_J (q.w 0),
      s.get SCN_LIM_AM_A (q.w 0), s.get SCN_BARRIER_WAIT_WAIT]) ∧
  Stages .scnLimitsSet 0x0804 2 (fun _ q => [(0, decide (0 < q.w 0 ∧ q.w 0 < 65536)), (1, decide (1 ≤ q.w 1 ∧ q.w 1 ≤ 20000000)),
      (2, decide (1 ≤ q.w 2 ∧ q.w 2 ≤ 1000000)), (3, decide (1 ≤ q.w 3 ∧ q.w 3 ≤ 4000000000)), (4, decide (1 ≤ q.w 4 ∧ q.w 4 ≤ 1000000))])
    (fun s q => forPiers (q.w 0) (fun p s => (((s.putP SCN_LIM_V_V (q.w 1) p).putP SCN_LIM_A_A (q.w 2) p).putP
      SCN_LIM_J_J (q.w 3) p).putP SCN_LIM_AM_A (q.w 4) p) s) ∧
  Stages .scnBarrierSet 0x0805 2 (fun _ q => [(0, q.w 0 != 0)]) (fun s q => s.putP SCN_BARRIER_WAIT_WAIT (q.w 0)) ∧
  (∀ s q, s.serving 0x0802 q → s.rangeAllowed (q.addr 2) 128 = false → exec .scnProfileLoad s = .next (s.finish q.m (failReply stDenied))) ∧
  (∀ s q, s.serving 0x0802 q → s.rangeAllowed (q.addr 2) 128 = true → q.w 0 = 0 ∨ 65536 ≤ q.w 0 →
    exec .scnProfileLoad s = .next (s.finish q.m (badParam 0))) ∧
  (∀ s q, s.serving 0x0802 q → s.rangeAllowed (q.addr 2) 128 = true → 0 < q.w 0 → q.w 0 < 65536 → 256 ≤ q.w 1 →
    exec .scnProfileLoad s = .next (s.finish q.m (badParam 1))) ∧
  (∀ s q bs u, s.serving 0x0802 q → s.rangeAllowed (q.addr 2) 128 = true → 0 < q.w 0 → q.w 0 < 65536 → q.w 1 < 256 →
    s.fwRead (q.addr 2) 128 = (.ok, bs, u) →
    exec .scnProfileLoad s = .next ((forPiers (q.w 0) (fun p s => { s with scn := { s.scn with
      prof := Memory.writeBytes 0 s.scn.prof ((p * 256 + q.w 1) * 128) bs } }) u).finish q.m okReply)) ∧
  (∀ s q c bs u, s.serving 0x0802 q → s.rangeAllowed (q.addr 2) 128 = true → 0 < q.w 0 → q.w 0 < 65536 → q.w 1 < 256 →
    s.fwRead (q.addr 2) 128 = (c, bs, u) → c ≠ .ok → exec .scnProfileLoad s = .next (u.finish q.m (failReply stHwFault 0x0407))) ∧
  Answers .scnDigest 0x0803 (fun _ q => [(0, decide (q.w 0 < 16)), (1, decide (q.w 1 < 2 ^ 20))])
    (fun s q => s.findDigest (q.w 0) (q.w 1) = none) (fun s _ => s) (fun _ _ => failReply stNotFound) ∧
  (∀ s q r, s.serving 0x0803 q → q.w 0 < 16 → q.w 1 < 2 ^ 20 → s.findDigest (q.w 0) (q.w 1) = some r →
    let part (k : Nat) : List Byte := ((s.fluAll.find? (fun t => t.seq == r.seq + k && t.code == 0x901)).map (·.payload)).getD []
    exec .scnDigest s = .next (s.finish q.m (okReply ((bytesWords (part 2 ++ part 3 ++ part 4 ++ part 5) 12).map (·.toNat) ++
      [r.seq % 2 ^ 32, r.seq / 2 ^ 32]))))

/-- A new WR within the ring is taken, one beyond it is refused with IDX_REFUSED and fault 00Ch, and the same WR again changes
nothing (R154). A fetch issues while the fetch side runs, fewer than four reads are outstanding and a descriptor and a place remain,
from the index after those outstanding, to the next multiple of eight at most; at its completion its data enters the FIFO and RD
moves past it, a failed one puts the pier in FAULT with code 006h, and one that completes where the fetch side does not run is
dropped with those behind it (R158–R160). A pier command acts on the piers of its mask in turn: START takes a pier from IDLE to LAYER_WAIT
with a fresh message; STOP takes a pier in LAYER_WAIT, RUN or SYNC to HALT, with a stop to begin; RESET takes a pier in IDLE, DONE or FAULT, or halted by
STOP, to IDLE with RD, WR and its count 0; RESUME takes a pier at rest that HOLD halted to its state before, with the move back to the
abandoned stroke's rest point where one was left, and waits for rest otherwise (R195–R197); in another state each sets WRITE_REFUSED
(R195). A layer start is kept with its tick, and one received in an earlier tick is evaluated: one that R184 accepts sets
SCN_LAYER_TICK, clears LAYER_DONE and takes the piers in LAYER_WAIT to RUN; one it refuses sets LAYER_EARLY with fault 00Bh. The
profile window writes or reads the entry selected and selects the next (R177). The FLU takes a digest set, which is VALID and not
TAKEN, where six ring slots are free and the region is not sealed (R191, R712). -/
def Obligations.PierCommands : Prop :=
  (∀ (p : Fin 16) (v : Word) (s : State), v.toNat = s.get SCN_RING_WR_WR p → exec (.ringIndexWrite p v) s = .next s) ∧
  (∀ (p : Fin 16) (v : Word) (s : State), (v.toNat + 2 ^ 32 - s.get SCN_RING_WR_WR p) % 2 ^ 32 ≠ 0 →
    (v.toNat + 2 ^ 32 - s.get SCN_RING_WR_WR p) % 2 ^ 32 ≤ s.ringSlots p - s.ringFill p →
    exec (.ringIndexWrite p v) s = .next ((s.put SCN_RING_WR_WR v.toNat p).lowWater p)) ∧
  (∀ (p : Fin 16) (v : Word) (s : State), s.ringSlots p - s.ringFill p < (v.toNat + 2 ^ 32 - s.get SCN_RING_WR_WR p) % 2 ^ 32 →
    exec (.ringIndexWrite p v) s = .next ((s.set1 SCN_FLAGS_IDX_REFUSED p).fault 2 0xC 3 p)) ∧
  (∀ (p : Fin 16) (s : State), let out := (s.pier p).reads.foldl (fun n r => n + r.2.1) 0
    let start := (s.get SCN_RING_RD_RD p + out) % 2 ^ 32
    let n := min (s.ringFill p - out) (min (8 - start % 8) (512 - (s.pier p).fifo.length - out))
    (s.fetchRuns p = true → (s.pier p).reads.length < 4 → 0 < n → exec (.fetchIssue p) s = .next ((s.setPier p { s.pier p with
      reads := (s.pier p).reads ++ [(start, n, s.ringBase p + 32 * (start % s.ringSlots p))] }).showFifo p)) ∧
    (s.fetchRuns p = false ∨ 4 ≤ (s.pier p).reads.length ∨ n = 0 → exec (.fetchIssue p) s = .next s)) ∧
  (∀ (p : Fin 16) (s : State), (s.pier p).reads = [] → exec (.fetchComplete p) s = .next s) ∧
  (∀ (p : Fin 16) (s : State), (s.pier p).reads ≠ [] → s.fetchRuns p = false →
    exec (.fetchComplete p) s = .next ((s.setPier p { s.pier p with reads := [] }).showFifo p)) ∧
  (∀ (p : Fin 16) (s u : State) st n a rest bs, (s.pier p).reads = (st, n, a) :: rest → s.fetchRuns p = true →
    (s.setPier p { s.pier p with reads := rest }).dramRead 2 a (32 * n) = (.ok, bs, u) →
    exec (.fetchComplete p) s = .next ((((u.setPier p { u.pier p with fifo := (u.pier p).fifo ++ descsOf n bs }).put
      SCN_RING_RD_RD ((st + n) % 2 ^ 32) p).lowWater p).showFifo p)) ∧
  (∀ (p : Fin 16) (s u : State) st n a rest r bs, (s.pier p).reads = (st, n, a) :: rest → s.fetchRuns p = true →
    (s.setPier p { s.pier p with reads := rest }).dramRead 2 a (32 * n) = (r, bs, u) → r ≠ .ok →
    exec (.fetchComplete p) s = .next ((u.showFifo p).enterFault p 6)) ∧
  (∀ (m : BitVec 16) (s : State), exec (.scnCmdStart m) s = .next (forPiers m.toNat (fun p u =>
    if u.pierState p = psIdle then (u.freshMessage p).setPierState p psLayerWait else u.set1 SCN_ERR_WRITE_REFUSED) s)) ∧
  (∀ (m : BitVec 16) (s : State), exec (.scnCmdStop m) s = .next (forPiers m.toNat (fun p u => u.stopPier p) s) ∧
    exec (.scnCmdReset m) s = .next (forPiers m.toNat (fun p u => u.resetPier p) s) ∧
    exec (.scnCmdResume m) s = .next (forPiers m.toNat (fun p u => u.resumePier p) s)) ∧
  (∀ (p : Fin 16) (s : State), (s.pierState p = psLayerWait ∨ s.pierState p = psRun ∨ s.pierState p = psSync) →
    Completes (exec (.scnCmdStop (BitVec.ofNat 16 (2 ^ p.val))) s) (fun t => t.pierState p = psHalt ∧ (t.pier p).stop = 1 ∧
      (t.pier p).byStop = true ∧ (t.pier p).atBar = false ∧ (t.pier p).fifo = (s.pier p).fifo)) ∧
  (∀ (p : Fin 16) (s : State), s.pierState p ≠ psLayerWait → s.pierState p ≠ psRun → s.pierState p ≠ psSync →
    exec (.scnCmdStop (BitVec.ofNat 16 (2 ^ p.val))) s = .next (s.set1 SCN_ERR_WRITE_REFUSED)) ∧
  (∀ (p : Fin 16) (s : State), (s.pierState p = psIdle ∨ (s.pierState p = psHalt ∧ (s.pier p).byStop = true) ∨ s.pierState p = psDone ∨
      s.pierState p = psFault) →
    Completes (exec (.scnCmdReset (BitVec.ofNat 16 (2 ^ p.val))) s) (fun t => t.pierState p = psIdle ∧ (t.pier p).fifo = [] ∧
      (t.pier p).mot = none ∧ t.get SCN_RING_RD_RD p = 0 ∧ t.get SCN_RING_WR_WR p = 0 ∧ t.get SCN_COUNT_COUNT p = 0)) ∧
  (∀ (p : Fin 16) (s : State), s.pierState p ≠ psIdle → ¬(s.pierState p = psHalt ∧ (s.pier p).byStop = true) → s.pierState p ≠ psDone →
    s.pierState p ≠ psFault → exec (.scnCmdReset (BitVec.ofNat 16 (2 ^ p.val))) s = .next (s.set1 SCN_ERR_WRITE_REFUSED)) ∧
  (∀ (p : Fin 16) (s : State), s.pierState p = psHalt → (s.pier p).byStop = false → (s.pier p).atRest = true → (s.pier p).stop = 0 →
    (s.pier p).back = none →
    exec (.scnCmdResume (BitVec.ofNat 16 (2 ^ p.val))) s =
      .next ((s.setPierState p (s.pier p).from_).setPier p { s.pier p with resume := false, stop := 0 })) ∧
  (∀ (p : Fin 16) (s : State) x y z, s.pierState p = psHalt → (s.pier p).byStop = false → (s.pier p).atRest = true → (s.pier p).stop = 0 →
    (s.pier p).back = some (x, y, z) →
    Completes (exec (.scnCmdResume (BitVec.ofNat 16 (2 ^ p.val))) s) (fun t => ∃ m, (t.pier p).mot = some m ∧ m.kind = .resume ∧
      m.plan.rx = x ∧ m.plan.ry = y ∧ m.plan.rz = z ∧ (t.pier p).back = none ∧ (t.pier p).resume = false ∧ (t.pier p).stop = 0 ∧
      t.pierState p = (s.pier p).from_ % 8)) ∧
  (∀ (p : Fin 16) (s : State), s.pierState p = psHalt → (s.pier p).byStop = false → (s.pier p).atRest = false ∨ (s.pier p).stop ≠ 0 →
    exec (.scnCmdResume (BitVec.ofNat 16 (2 ^ p.val))) s = .next (s.setPier p { s.pier p with resume := true })) ∧
  (∀ (p : Fin 16) (s : State), s.pierState p ≠ psHalt ∨ (s.pier p).byStop = true →
    exec (.scnCmdResume (BitVec.ofNat 16 (2 ^ p.val))) s = .next (s.set1 SCN_ERR_WRITE_REFUSED)) ∧
  (∀ s, exec .layerGoWrite s = .next (if s.key.tick ∈ s.scn.go then s else { s with scn := { s.scn with go := s.scn.go ++ [s.key.tick] } })) ∧
  (∀ s, (∀ n, n ∈ s.scn.go → s.key.tick ≤ n) → exec .layerStart s = .next s) ∧
  (∀ s, exec .layerStart s = .next ((s.scn.go.filter (fun n => decide (n < s.key.tick))).foldl (fun u _ => u.layerEval)
    { s with scn := { s.scn with go := s.scn.go.filter (fun n => decide (s.key.tick ≤ n)) } })) ∧
  (∀ s n, s.scn.go = [n] → n < s.key.tick → s.layerReady = true → Completes (exec .layerStart s) (fun t =>
    t.scn.go = [] ∧ t.get SCN_STATUS_LAYER_DONE = 0 ∧ t.rd 0x20020010 = word s.key.tick ∧
    (∀ p : Fin 16, s.pierState p = psLayerWait → t.pierState p = psRun) ∧
    (∀ p : Fin 16, s.pierState p ≠ psLayerWait → t.pierState p = s.pierState p))) ∧
  (∀ s n, s.scn.go = [n] → n < s.key.tick → s.layerReady = false → exec .layerStart s =
    .next ((State.set1 { s with scn := { s.scn with go := [] } } SCN_ERR_LAYER_EARLY).fault 2 0xB 2)) ∧
  (∀ s, exec (.profDataAccess none) s = .next ((s.put SCN_PROF_DATA_VALUE (leNat (Memory.readBytes 0 s.scn.prof
    ((s.get SCN_PROF_SEL_PIER * 256 + s.get SCN_PROF_SEL_PROFILE) * 128 + 2 * s.get SCN_PROF_SEL_ENTRY) 2))).incWrap SCN_PROF_SEL_ENTRY)) ∧
  (∀ v s, Completes (exec (.profDataAccess (some v)) s) (fun t => t.scn.prof = Memory.writeBytes 0 s.scn.prof
      ((s.get SCN_PROF_SEL_PIER * 256 + s.get SCN_PROF_SEL_PROFILE) * 128 + 2 * s.get SCN_PROF_SEL_ENTRY) (leBytes 2 v.toNat) ∧
    t.get SCN_PROF_SEL_ENTRY = (s.get SCN_PROF_SEL_ENTRY + 1) % 64 ∧ t.get SCN_PROF_SEL_PIER = s.get SCN_PROF_SEL_PIER)) ∧
  (∀ (p : Fin 16) (s : State), s.on SCN_DIG_STATUS_VALID p = true → s.on SCN_DIG_STATUS_TAKEN p = false → s.on FLU_STATUS_SEALED_FULL = false →
    s.flu.ring.length + 6 ≤ fluRingCap →
    Completes (exec (.digestTake p) s) (fun t => t.on SCN_DIG_STATUS_TAKEN p = true ∧ t.bit SCN_STATUS_DIGEST_PEND p = false ∧
      (s.on SCN_DIG_STATUS_INCOMPLETE p = true → t.job.incomplete = true))) ∧
  (∀ (p : Fin 16) (s : State), s.on SCN_DIG_STATUS_VALID p = true → s.on SCN_DIG_STATUS_TAKEN p = false → s.fluTakes 6 →
    Completes (exec (.digestTake p) s) (fun t => t.flu.ring.length = s.flu.ring.length + 6 ∧ t.flu.seqNext = s.flu.seqNext + 6)) ∧
  (∀ (p : Fin 16) (s : State), s.on SCN_DIG_STATUS_VALID p = false ∨ s.on SCN_DIG_STATUS_TAKEN p = true ∨ s.on FLU_STATUS_SEALED_FULL = true ∨
    fluRingCap < s.flu.ring.length + 6 → exec (.digestTake p) s = .next s)

/-- A pier in RUN that is due takes its front descriptor where it is of the command's TYPE (R164). A NOP, a JUMP, a MARK, an ARC and a
DWELL are consumed and their motion begins (R165, R169–R175), a MARK whose skywriting leaves no lit tick setting SKY_SHORT with fault
00Dh (R172); a LOAD_LOOP sends its image with the tick's values, and into the pending IMAGE unless Nagus has written that since the
last capture, and a MARKER notes itself, with a Flue record where RECORD is 1; each takes one tick (R185, R186). A stroke that has
ended leaves execution first (`retire`, R316). A descriptor of any TYPE that fails the checks of R163, or whose motion does, is
rejected: the pier is not due again in the tick and enters FAULT with the code the check names (R163). With no such descriptor due
the command changes nothing: the model's own reading, log entry 2. -/
def Obligations.Descriptors : Prop :=
  (∀ (p : Fin 16) d m (s : State), s.takes p 0 d m → exec (.descNop p) s = .next (((s.retire p).consume p d).runStroke p m)) ∧
  (∀ (p : Fin 16) d m (s : State), s.takes p 1 d m → exec (.descJump p) s = .next (((s.retire p).consume p d).runStroke p m)) ∧
  (∀ (p : Fin 16) d m (s : State), s.takes p 2 d m → s.skyShort p d (s.pier p).x (s.pier p).y (s.pier p).z = false ∨
      (ds d 2, ds d 3, ds d 4) = ((s.pier p).x, (s.pier p).y, (s.pier p).z) →
    exec (.descMark p) s = .next (((s.retire p).consume p d).runStroke p m)) ∧
  (∀ (p : Fin 16) d m (s : State), s.takes p 2 d m → s.skyShort p d (s.pier p).x (s.pier p).y (s.pier p).z = true →
    (ds d 2, ds d 3, ds d 4) ≠ ((s.pier p).x, (s.pier p).y, (s.pier p).z) →
    exec (.descMark p) s = .next (((((s.retire p).consume p d).runStroke p m).set1 SCN_FLAGS_SKY_SHORT p).fault 2 0xD 3 p)) ∧
  (∀ (p : Fin 16) d m (s : State), s.takes p 3 d m → exec (.descArc p) s = .next (((s.retire p).consume p d).runStroke p m)) ∧
  (∀ (p : Fin 16) d m (s : State), s.takes p 4 d m → exec (.descDwell p) s = .next (((s.retire p).consume p d).runStroke p m)) ∧
  (∀ (p : Fin 16) d m (s : State), s.takes p 10 d m → exec (.descLoadLoop p) s = .next (let u := (s.retire p).consume p d
    let u := u.setPier p { u.pier p with image := some (dParam d) }
    (if s.lop.nagus.testBit p = true then u else u.putP LOP_FCTRL_IMAGE (dParam d) p).runStroke p m)) ∧
  (∀ (p : Fin 16) d m (s : State), s.takes p 11 d m → dRecord d = false → Completes (exec (.descMarker p) s) (fun t =>
    t.get SCN_MARK_PARAM_PARAM p = dParam d ∧ t.get SCN_MARK_SEQ_SEQ p = s.get SCN_SEQ_NEXT_SEQ_NEXT p ∧
    t.get SCN_MARK_EPOCH_EPOCH p = s.get SCN_EPOCH_EPOCH p ∧ t.on SCN_MARK_EPOCH_VALID p = true ∧
    (t.pier p).fifo = (s.pier p).fifo.drop 1 ∧ t.flu = s.flu)) ∧
  (∀ (p : Fin 16) d m (s : State), s.takes p 11 d m → dRecord d = true → exec (.descMarker p) s = .next (
    let u := (s.retire p).consume p d
    let u := (((u.put SCN_MARK_PARAM_PARAM (dParam d) p).put SCN_MARK_SEQ_SEQ (u.lastSeq p % 2 ^ 32) p).put SCN_MARK_EPOCH_EPOCH
      (u.lastSeq p / 2 ^ 32) p).set1 SCN_MARK_EPOCH_VALID p
    let b := [byte p] ++ leBytes 6 (((s.retire p).consume p d).lastSeq p) ++ leBytes 4 (dParam d) ++ [0#8]
    (u.enterRecs [{ sev := 6, code := 0x900, payload := b }]).runStroke p m)) ∧
  (∀ (p : Fin 16) (x : Nat × Instr) d rest (s : State), x ∈ [(0, Instr.descNop p), (1, .descJump p), (2, .descMark p), (3, .descArc p),
      (4, .descDwell p), (5, .descWaitTick p), (6, .descBarrier p), (7, .descStitchOut p), (8, .descStitchIn p), (9, .descLayerEnd p),
      (10, .descLoadLoop p), (11, .descMarker p), (15, .descEnd p)] →
    (∀ c, s.pierState p = psRun → (s.pier p).due = true → (s.pier p).fifo = d :: rest → dType d = x.1 → s.descFault p d = some c →
      exec x.2 s = .next (State.enterFault (s.setPier p { s.pier p with took := true }) p c)) ∧
    (s.pierState p = psRun → (s.pier p).due = true → (s.pier p).fifo = d :: rest → dType d = x.1 → s.descFault p d = none →
      s.strokeOf p d = none → exec x.2 s = .next (State.enterFault (s.setPier p { s.pier p with took := true }) p 1)) ∧
    (s.pierState p ≠ psRun ∨ (s.pier p).due = false ∨ (s.pier p).fifo = [] ∨ ((s.pier p).fifo = d :: rest ∧ dType d ≠ x.1) →
      exec x.2 s = .next s))

/-- A WAIT_TICK puts the pier into SYNC until the later of the next tick and its target, with WAIT_LATE and fault 00Eh where the target
is past (R179); a BARRIER puts it into SYNC too: the first arrival is listed, and the last takes the barrier out and sets each pier of
the mask to go on in the next tick (R180). A STITCH whose ID no side has registered waits in SYNC with an entry of the stitch table
(R182, R232, R234); one that is accepted is consumed, with SKY_SHORT where its skywriting leaves no lit tick; one whose entry is taken,
or names other piers or the same side, records SPN fault 001h, and one of another geometry 002h, and is rejected (R232, R233). A
LAYER_END puts the pier into LAYER_WAIT and sets LAYER_DONE (R183); an END empties the FIFO and puts the pier into DONE (R187). A
wait whose target has come takes the pier back to RUN (R179, R180); a barrier that has waited BARRIER_WAIT ticks records fault 00Ah
once (R181); a wait or barrier of which that does not hold changes nothing: the model's own reading, log entry 2. -/
def Obligations.DescriptorWaits : Prop :=
  (∀ (p : Fin 16) d m (s : State), s.takes p 5 d m →
    s.key.tick < (s.get64 SCN_LAYER_TICK_LO_TICK_LO SCN_LAYER_TICK_HI_TICK_HI + dParam d) % 2 ^ 64 →
    Completes (exec (.descWaitTick p) s) (fun t => t.pierState p = psSync ∧ (t.pier p).mot = none ∧
      (t.pier p).waitTo = some (max (s.key.tick + 1) ((s.get64 SCN_LAYER_TICK_LO_TICK_LO SCN_LAYER_TICK_HI_TICK_HI + dParam d) % 2 ^ 64)) ∧
      (t.pier p).fifo = (s.pier p).fifo.drop 1)) ∧
  (∀ (p : Fin 16) d m (s : State), s.takes p 5 d m →
    (s.get64 SCN_LAYER_TICK_LO_TICK_LO SCN_LAYER_TICK_HI_TICK_HI + dParam d) % 2 ^ 64 ≤ s.key.tick →
    exec (.descWaitTick p) s = .next (let u := (s.retire p).consume p d
      (((u.setPier p { u.pier p with mot := none, waitTo := some (s.key.tick + 1) }).setPierState p psSync).set1
        SCN_FLAGS_WAIT_LATE p).fault 2 0xE 3 p)) ∧
  (∀ (p : Fin 16) d m (s : State), s.takes p 6 d m →
    exec (.descBarrier p) s = .next (((s.retire p).consume p d).arrive p (dParam d / 65536) (dParam d % 65536))) ∧
  (∀ (p : Fin 16) d m (s : State), s.takes p 6 d m → s.scn.bars.find? (fun b => b.id == dParam d / 65536 && b.mask == dParam d % 65536) = none →
    s.scn.bars.any (fun b => (b.id != dParam d / 65536 || b.mask != dParam d % 65536) && (b.mask &&& (dParam d % 65536)) != 0) = false →
    2 ^ p.val &&& (dParam d % 65536) ≠ dParam d % 65536 →
    Completes (exec (.descBarrier p) s) (fun t => t.pierState p = psSync ∧ (t.pier p).atBar = true ∧ (t.pier p).mot = none ∧
      t.scn.bars = s.scn.bars ++ [⟨dParam d / 65536, dParam d % 65536, p, 2 ^ p.val, 0, false⟩])) ∧
  (∀ (p : Fin 16) d m b (s : State), s.takes p 6 d m →
    s.scn.bars.find? (fun b => b.id == dParam d / 65536 && b.mask == dParam d % 65536) = some b →
    s.scn.bars.any (fun b => (b.id != dParam d / 65536 || b.mask != dParam d % 65536) && (b.mask &&& (dParam d % 65536)) != 0) = false →
    (b.came ||| 2 ^ p.val) &&& (dParam d % 65536) = dParam d % 65536 →
    Completes (exec (.descBarrier p) s) (fun t => t.pierState p = psSync ∧
      t.scn.bars = s.scn.bars.filter (fun a => a != { b with came := b.came ||| 2 ^ p.val }) ∧
      (∀ k : Fin 16, (dParam d % 65536).testBit k = true → (t.pier k).waitTo = some (s.key.tick + 1) ∧ (t.pier k).atBar = false))) ∧
  (∀ (p : Fin 16) d m (s : State), s.takes p 7 d m → s.skyShort p d (s.pier p).x (s.pier p).y (s.pier p).z = false →
    Tab.find s.spn.table (dAux d % 1024) = none →
    Completes (exec (.descStitchOut p) s) (fun t => t.pierState p = psSync ∧ (t.pier p).mot = none ∧
      (t.pier p).stitch = some { m with seq := s.expected p } ∧ (t.pier p).fifo = (s.pier p).fifo.drop 1 ∧
      (∃ e, Tab.find t.spn.table (dAux d % 1024) = some e ∧ e.state = 1 ∧ e.inside = false ∧ e.pier = p ∧
        e.partner = dAux d / 1024 % 16 ∧ e.left = s.get SPN_STITCH_WAIT_WAIT))) ∧
  (∀ (p : Fin 16) d m (s : State), s.takes p 8 d m → s.skyShort p d (s.pier p).x (s.pier p).y (s.pier p).z = false →
    Tab.find s.spn.table (dAux d % 1024) = none →
    Completes (exec (.descStitchIn p) s) (fun t => t.pierState p = psSync ∧ (t.pier p).mot = none ∧
      (t.pier p).stitch = some { m with seq := s.expected p } ∧ (t.pier p).fifo = (s.pier p).fifo.drop 1 ∧
      (∃ e, Tab.find t.spn.table (dAux d % 1024) = some e ∧ e.state = 1 ∧ e.inside = true ∧ e.pier = p ∧
        e.partner = dAux d / 1024 % 16 ∧ e.left = s.get SPN_STITCH_WAIT_WAIT))) ∧
  (∀ (p : Fin 16) d m (s : State), s.takes p 7 d m →
    let q := s.pier p
    let geo := [q.x, q.y, q.z, ds d 2, ds d 3, ds d 4, dw d 5, dParam d % 256, if dSky d then 1 else 0, s.get SCN_LIM_AM_A p]
    let r := ((s.retire p).setPier p { (s.retire p).pier p with mot := none }).registerStitch p { m with seq := s.expected p } false geo
    (r.1 = true → exec (.descStitchOut p) s = .next (if s.skyShort p d q.x q.y q.z = true then
      ((r.2.consume p d).set1 SCN_FLAGS_SKY_SHORT p).fault 2 0xD 3 p else r.2.consume p d)) ∧
    (∀ e, Tab.find s.spn.table (dAux d % 1024) = some e → (e.state = 2 ∨ e.state = 5) ∨ e.pier ≠ dAux d / 1024 % 16 ∨ e.partner ≠ p ∨
        e.inside = false →
      exec (.descStitchOut p) s = .next (State.reject (((s.retire p).setPier p { (s.retire p).pier p with mot := none }).fault 4 1 1 p) p 1)) ∧
    (∀ e, Tab.find s.spn.table (dAux d % 1024) = some e → e.state ≠ 2 → e.state ≠ 5 → e.pier = dAux d / 1024 % 16 → e.partner = p →
        e.inside = !false → e.geo ≠ geo →
      exec (.descStitchOut p) s = .next (State.reject (((s.retire p).setPier p { (s.retire p).pier p with mot := none }).fault 4 2 1 p) p 1))) ∧
  (∀ (p : Fin 16) d m (s : State), s.takes p 8 d m →
    let q := s.pier p
    let geo := [q.x, q.y, q.z, ds d 2, ds d 3, ds d 4, dw d 5, dParam d % 256, if dSky d then 1 else 0, s.get SCN_LIM_AM_A p]
    let r := ((s.retire p).setPier p { (s.retire p).pier p with mot := none }).registerStitch p { m with seq := s.expected p } true geo
    (r.1 = true → exec (.descStitchIn p) s = .next (if s.skyShort p d q.x q.y q.z = true then
      ((r.2.consume p d).set1 SCN_FLAGS_SKY_SHORT p).fault 2 0xD 3 p else r.2.consume p d)) ∧
    (∀ e, Tab.find s.spn.table (dAux d % 1024) = some e → (e.state = 2 ∨ e.state = 5) ∨ e.pier ≠ dAux d / 1024 % 16 ∨ e.partner ≠ p ∨
        e.inside = true →
      exec (.descStitchIn p) s = .next (State.reject (((s.retire p).setPier p { (s.retire p).pier p with mot := none }).fault 4 1 1 p) p 1)) ∧
    (∀ e, Tab.find s.spn.table (dAux d % 1024) = some e → e.state ≠ 2 → e.state ≠ 5 → e.pier = dAux d / 1024 % 16 → e.partner = p →
        e.inside = !true → e.geo ≠ geo →
      exec (.descStitchIn p) s = .next (State.reject (((s.retire p).setPier p { (s.retire p).pier p with mot := none }).fault 4 2 1 p) p 1))) ∧
  (∀ (p : Fin 16) d m (s : State), s.takes p 9 d m → exec (.descLayerEnd p) s = .next (((s.retire p).consume p d).layerEnd p)) ∧
  (∀ (p : Fin 16) d m (s : State), s.takes p 9 d m → s.job.st ≠ 2 → s.job.st ≠ 3 → Completes (exec (.descLayerEnd p) s) (fun t =>
    t.pierState p = psLayerWait ∧ t.bit SCN_STATUS_LAYER_DONE p = true ∧ (t.pier p).mot = none ∧ t.scn.ended = true ∧
    t.get SCN_COUNT_COUNT p = 0)) ∧
  (∀ (p : Fin 16) d m (s : State), s.takes p 15 d m → Completes (exec (.descEnd p) s) (fun t => t.pierState p = psDone ∧
    (t.pier p).fifo = [] ∧ (t.pier p).mot = none ∧ t.get SCN_FIFO_FILL p = 0)) ∧
  (∀ (p : Fin 16) w (s : State), (s.pier p).waitTo = some w → s.pierState p = psSync → w ≤ s.key.tick → exec (.waitTickExpire p) s =
    .next ((s.setPier p { s.pier p with waitTo := none, took := false }).setPierState p psRun)) ∧
  (∀ (p : Fin 16) (s : State), (∀ w, (s.pier p).waitTo = some w → s.pierState p ≠ psSync ∨ s.key.tick < w) →
    exec (.waitTickExpire p) s = .next s) ∧
  (∀ (id mask : BitVec 16) b s, s.scn.bars.find? (fun b => b.id == id.toNat && b.mask == mask.toNat) = some b → b.timed = false →
    s.get SCN_BARRIER_WAIT_WAIT ≤ b.ticks → exec (.barrierTimeout id mask) s =
      .next (State.fault { s with scn := { s.scn with bars := s.scn.bars.map (fun a => if a = b then { a with timed := true } else a) } }
        2 0xA 1 b.first)) ∧
  (∀ (id mask : BitVec 16) s, (∀ b, s.scn.bars.find? (fun b => b.id == id.toNat && b.mask == mask.toNat) = some b →
      b.timed = true ∨ b.ticks < s.get SCN_BARRIER_WAIT_WAIT) → exec (.barrierTimeout id mask) s = .next s)

/-- READY is set by the mark; a swap asked of a pier that is ready, the READY of the same write applying first, with none pending is
held pending, another is refused with SWAP_REFUSED and fault 004h; a cancel clears the request (R220). A write of the inactive slot by
Nagus or a privileged DMA channel stores the bytes, clears READY and cancels a pending swap (R219); before the initialisation of the
banks has ended it has no effect (R217); of the active slot, or by another requester, it is a permission error, and outside the slots a
decode error (R43, R44). A CRC run starts when none runs and answers the CRC of the slot, or a free value where the slot was written
meanwhile (R225); the initialisation of the banks ends. GRID_LOAD copies a grid into the inactive slot, marks it ready and answers its
bank and CRC, or DENIED, BAD_PARAM, BUSY while a swap is pending, and HW_FAULT where the transfer is refused or stopped (R132; carried
out whole, log entry 61); FIELD_SET and PARAM_SET write RWS fields of group 2 (R132, R121, R123); SWAP asks for the swap of the piers of
the mask, or replies NOT_FOUND where one is not ready; STATUS replies the pier's state (R132). -/
def Obligations.FieldCorrection : Prop :=
  (∀ (p : Fin 16) (s : State), exec (.bankReadyMark p) s = .next (s.set1 COR_BANK_READY p)) ∧
  (∀ (p : Fin 16) l r (s : State), let u := if r = true then s.set1 COR_BANK_READY p else s
    (u.on COR_BANK_READY p = true → u.get COR_BANK_SWAP_PEND p = 0 →
      Completes (exec (.bankSwapRequest p l r) s) (fun t => t.get COR_BANK_SWAP_PEND p = (if l then 1 else 2) ∧
        Tab.get 0 t.cor.swapTick p = s.key.tick ∧ t.get COR_BANK_ACTIVE p = s.get COR_BANK_ACTIVE p ∧ t.on COR_BANK_READY p = true)) ∧
    (u.on COR_BANK_READY p = false ∨ u.get COR_BANK_SWAP_PEND p ≠ 0 → exec (.bankSwapRequest p l r) s =
      .next ((u.set1 COR_FLAGS_SWAP_REFUSED p).fault 3 4 3 p))) ∧
  (∀ (p : Fin 16) (s : State), exec (.bankSwapCancel p) s = .next (s.put COR_BANK_SWAP_PEND 0 p)) ∧
  (∀ (p : Fin 16) req off bs (s : State), req = 0 ∨ (0x20 ≤ req ∧ req ≤ 0x23) → off % 0x10000 + bs.length ≤ gridBytes →
    off / 0x100000 = s.inactiveBank p → off % 0x100000 / 0x10000 = p → s.on COR_STATUS_INIT_DONE = true →
    Completes (exec (.gridSlotWrite req off bs) s) (fun t => t.cor.banks = Memory.writeBytes 0 s.cor.banks off bs ∧
      t.on COR_BANK_READY p = false ∧ t.get COR_BANK_SWAP_PEND p = 0 ∧
      (s.get COR_BANK_SWAP_PEND p ≠ 0 → t.on COR_FLAGS_SWAP_CANCELLED p = true))) ∧
  (∀ req off bs (s : State), req = 0 ∨ (0x20 ≤ req ∧ req ≤ 0x23) → let a := (if req = 0 then 0x30000000 else 0xFF30000000) + off
    (gridBytes < off % 0x10000 + bs.length ∨ 2 ≤ off / 0x100000 → exec (.gridSlotWrite req off bs) s = .next (s.viaErr .decode req true a)) ∧
    (off % 0x10000 + bs.length ≤ gridBytes → off / 0x100000 < 2 → off / 0x100000 = s.get COR_BANK_ACTIVE (off % 0x100000 / 0x10000) →
      exec (.gridSlotWrite req off bs) s = .next (s.viaErr .perm req true a)) ∧
    (off % 0x10000 + bs.length ≤ gridBytes → off / 0x100000 < 2 → off / 0x100000 ≠ s.get COR_BANK_ACTIVE (off % 0x100000 / 0x10000) →
      s.on COR_STATUS_INIT_DONE = false → exec (.gridSlotWrite req off bs) s = .next s)) ∧
  (∀ req off bs (s : State), req ≠ 0 → req < 0x20 ∨ 0x23 < req →
    exec (.gridSlotWrite req off bs) s = .next (s.viaErr .perm req true (0xFF30000000 + off))) ∧
  (∀ (b : Fin 2) (p : Fin 16) (s : State), s.on COR_CRC_CTRL_BUSY = false → Completes (exec (.gridCrcStart b p) s) (fun t =>
    t.on COR_CRC_CTRL_BUSY = true ∧ t.get COR_CRC_CTRL_BANK = b ∧ t.get COR_CRC_CTRL_PIER = p ∧
    t.cor = { s.cor with crcBank := b, crcPier := p, crcDirty := false })) ∧
  (∀ (b : Fin 2) (p : Fin 16) (s : State), s.on COR_CRC_CTRL_BUSY = true → exec (.gridCrcStart b p) s = .next s) ∧
  (∀ s, s.on COR_CRC_CTRL_BUSY = true → s.cor.crcDirty = false → exec .gridCrcDone s =
    .next (((s.wr 0x2003000C (word (s.slotCrc s.cor.crcBank s.cor.crcPier))).put COR_CRC_CTRL_BUSY 0).set1 COR_CRC_CTRL_DONE)) ∧
  (∀ s, s.on COR_CRC_CTRL_BUSY = true → s.cor.crcDirty = true → Completes (exec .gridCrcDone s) (fun t => ∃ v,
    t = ((State.wr { s with free := s.free + 1 } 0x2003000C v).put COR_CRC_CTRL_BUSY 0).set1 COR_CRC_CTRL_DONE)) ∧
  (∀ s, s.on COR_CRC_CTRL_BUSY = false → exec .gridCrcDone s = .next s) ∧
  (∀ s, s.on COR_STATUS_INIT_DONE = false → exec .bankInitDone s =
    .next (State.set1 { s with cor := { s.cor with banks := [] } } COR_STATUS_INIT_DONE)) ∧
  (∀ s, s.on COR_STATUS_INIT_DONE = true → exec .bankInitDone s = .next s) ∧
  (∀ (s : State) q, s.serving 0x0C00 q → let b := s.inactiveBank (q.w 0)
    let u := s.gridRegs s.gridCh (q.addr 1) b (q.w 0)
    (s.rangeAllowed (q.addr 1) gridBytes = false → exec .corGridLoad s = .next (s.finish q.m (failReply stDenied))) ∧
    (s.rangeAllowed (q.addr 1) gridBytes = true → 16 ≤ q.w 0 → exec .corGridLoad s = .next (s.finish q.m (badParam 0))) ∧
    (s.rangeAllowed (q.addr 1) gridBytes = true → q.w 0 < 16 → s.get COR_BANK_SWAP_PEND (q.w 0) ≠ 0 →
      exec .corGridLoad s = .next (s.finish q.m (failReply stBusy))) ∧
    (s.rangeAllowed (q.addr 1) gridBytes = true → q.w 0 < 16 → s.get COR_BANK_SWAP_PEND (q.w 0) = 0 →
      (u.dmaRefusal s.gridCh (u.dmaXfer s.gridCh)).isSome = true →
      exec .corGridLoad s = .next ((u.dmaStart s.gridCh).finish q.m (failReply stHwFault 0x3003))) ∧
    (∀ data v, s.rangeAllowed (q.addr 1) gridBytes = true → q.w 0 < 16 → s.get COR_BANK_SWAP_PEND (q.w 0) = 0 →
      (u.dmaRefusal s.gridCh (u.dmaXfer s.gridCh)).isSome = false →
      State.burstsRead 1024 (0x20 + s.gridCh) (q.addr 1) gridBytes (u.dmaStart s.gridCh) = (none, data, v) →
      let w := (State.gridMoved (v.bankWrite (slotBase b (q.w 0)) data).2 s.gridCh).gridDone b (q.w 0)
      exec .corGridLoad s = .next (w.finish q.m (okReply [b, w.slotCrc b (q.w 0)])) ∧ w.on COR_BANK_READY (q.w 0) = true) ∧
    (∀ r a data v, s.rangeAllowed (q.addr 1) gridBytes = true → q.w 0 < 16 → s.get COR_BANK_SWAP_PEND (q.w 0) = 0 →
      (u.dmaRefusal s.gridCh (u.dmaXfer s.gridCh)).isSome = false →
      State.burstsRead 1024 (0x20 + s.gridCh) (q.addr 1) gridBytes (u.dmaStart s.gridCh) = (some (r, a), data, v) →
      exec .corGridLoad s = .next ((v.gridStop s.gridCh b (q.w 0) r a data).finish q.m (failReply stHwFault 0x3001)))) ∧
  Stages .corFieldSet 0x0C01 4 (fun _ q => [(0, decide (q.w 0 < 16)), (3, (pitchOf (q.sw 1) (q.sw 3)).isSome),
      (4, (pitchOf (q.sw 2) (q.sw 4)).isSome)])
    (fun s q => (((s.putP COR_XMIN_XMIN (q.w 1) (q.w 0)).putP COR_YMIN_YMIN (q.w 2) (q.w 0)).putP COR_PITCH_X_PITCH
      ((pitchOf (q.sw 1) (q.sw 3)).getD 0) (q.w 0)).putP COR_PITCH_Y_PITCH ((pitchOf (q.sw 2) (q.sw 4)).getD 0) (q.w 0)) ∧
  Answers .corSwap 0x0C02 (fun _ q => [(0, decide (q.w 0 < 65536)), (1, decide (q.w 1 ≤ 1))])
    (fun s q => ∀ p, p ∈ piersOf (q.w 0) → s.on COR_BANK_READY p = true)
    (fun s q => forPiers (q.w 0) (fun p s => s.requestSwap p (q.w 1 + 1)) s) (fun _ _ => okReply) ∧
  (∀ (s : State) q, s.serving 0x0C02 q → q.w 0 < 65536 → q.w 1 ≤ 1 → (∃ p, p ∈ piersOf (q.w 0) ∧ s.on COR_BANK_READY p = false) →
    exec .corSwap s = .next (s.finish q.m (failReply stNotFound))) ∧
  Answers .corStatus 0x0C03 (fun _ q => [(0, decide (q.w 0 < 16))]) (fun _ _ => True) (fun s _ => s)
    (fun s q => okReply [s.get COR_BANK_ACTIVE (q.w 0), (s.rd (COR_CLAMP_CNT_LIT.addr (q.w 0))).toNat,
      (if s.on COR_BANK_ACTIVE_LOADED (q.w 0) then 2 ^ s.get COR_BANK_ACTIVE (q.w 0) else 0) +
        (if s.on COR_BANK_READY (q.w 0) then 2 ^ (1 - s.get COR_BANK_ACTIVE (q.w 0)) else 0),
      s.get COR_ZGAIN_ZGAIN (q.w 0), s.get COR_PCTRL_CLAMP_F1 (q.w 0)]) ∧
  Stages .corParamSet 0x0C04 4 (fun _ q => [(0, decide (0 < q.w 0 ∧ q.w 0 < 65536)), (2, decide (q.w 2 ≤ 1))])
    (fun s q => forPiers (q.w 0) (fun p s => (s.putP COR_ZGAIN_ZGAIN (q.w 1) p).putP COR_PCTRL_CLAMP_F1 (q.w 2) p) s)

/-- A waiting stitch whose pier is in SYNC and whose count has run out is released alone, not in HOLD or SAFE (R235). The oldest
staged patch record is written to the ring slot that WR names, WR advances, and vector 25 is raised once THRESH records wait (R255,
R259); where the write fails EN is cleared with RING_ERR and fault 008h, and the record and those staged are lost (R260, R261); where EN
is 0 all that are staged are lost (R260). The time-out raises vector 25 where any records wait (R259). Enabling the ring zeroes WR
(R255). MATRIX_SET, GAS_SET, STITCH_SET and GUARD_SET write the RWS fields of group 3; STATUS replies the counts and parameters (R133,
R121, R123). Without its occasion STITCH_SOLO_RELEASE, PATCH_RECORD_WRITE or PATCH_IRQ_TIMEOUT changes nothing: the model's own
reading, log entry 2. -/
def Obligations.SpanCoordination : Prop :=
  (∀ (id : Fin 1024) e s, Tab.find s.spn.table id = some e → e.state = 1 → e.tick < s.key.tick → e.left ≤ 1 → s.mode ≠ 5 → s.mode ≠ 7 →
    s.awaits e.pier id = true → exec (.stitchSoloRelease id) s = .next (s.soloRelease id e)) ∧
  (∀ (id : Fin 1024) e m s, Tab.find s.spn.table id = some e → e.state = 1 → e.tick < s.key.tick → e.left ≤ 1 → s.mode ≠ 5 → s.mode ≠ 7 →
    s.pierState e.pier = psSync → (s.pier e.pier).stitch = some m → m.sid = id.val →
    Completes (exec (.stitchSoloRelease id) s) (fun t => t.pierState e.pier = psRun ∧ (t.pier e.pier).stitch = none ∧
      (t.pier e.pier).mot = some { m with role := .solo, fresh := true } ∧
      Tab.find t.spn.table id = some { e with state := 3, solo := e.pier, left := 0 } ∧ t.on SPN_FLAGS_SOLO = true)) ∧
  (∀ (id : Fin 1024) (s : State), (∀ e, Tab.find s.spn.table id = some e →
      ¬(e.state = 1 ∧ e.tick < s.key.tick ∧ e.left ≤ 1 ∧ s.mode ≠ 5 ∧ s.mode ≠ 7 ∧ s.awaits e.pier id = true)) →
    exec (.stitchSoloRelease id) s = .next s) ∧
  (∀ s, s.spn.staged = [] → exec .patchRecordWrite s = .next s) ∧
  (∀ s, s.spn.staged ≠ [] → s.on SPN_PATCH_CTRL_EN = false → Completes (exec .patchRecordWrite s) (fun t =>
    t = s.loseStaged ∧ t.spn.staged = [] ∧ t.get SPN_PATCH_STAGE_STAGED = 0)) ∧
  (∀ b rest s r u, s.spn.staged = b :: rest → s.on SPN_PATCH_CTRL_EN = true →
    (State.put { s with spn := { s.spn with staged := rest } } SPN_PATCH_STAGE_STAGED rest.length).dramWrite 3
      (s.get SPN_PATCH_BASE_LO_BASE_LO * 4096 + s.get SPN_PATCH_BASE_HI_BASE_HI * 2 ^ 32 +
        32 * (s.get SPN_PATCH_WR_WR % (2 ^ (12 + s.get SPN_PATCH_SIZE_SIZE) / 32))) b = (r, u) →
    let v := { u.incWrap SPN_PATCH_WR_WR with spn := { u.spn with unsig := u.spn.unsig + 1 } }
    (r = .ok → u.spn.unsig + 1 < v.get SPN_PATCH_THRESH_THRESH → exec .patchRecordWrite s = .next v) ∧
    (r = .ok → v.get SPN_PATCH_THRESH_THRESH ≤ u.spn.unsig + 1 →
      exec .patchRecordWrite s = .next { v.raise 25 with spn := { (v.raise 25).spn with unsig := 0 } }) ∧
    (r ≠ .ok → exec .patchRecordWrite s = .next
      (((((u.put SPN_PATCH_CTRL_EN 0).set1 SPN_FLAGS_RING_ERR).fault 4 8 2 (recPier b)).loseRecord (recPier b)).loseStaged))) ∧
  (∀ s, s.spn.unsig ≠ 0 → exec .patchIrqTimeout s = .next { s.raise 25 with spn := { (s.raise 25).spn with unsig := 0 } }) ∧
  (∀ s, s.spn.unsig = 0 → exec .patchIrqTimeout s = .next s) ∧
  (∀ s, s.on SPN_PATCH_CTRL_EN = false → exec .patchEnWrite s = .next ((s.put SPN_PATCH_WR_WR 0).set1 SPN_PATCH_CTRL_EN)) ∧
  (∀ s, s.on SPN_PATCH_CTRL_EN = true → exec .patchEnWrite s = .next s) ∧
  Stages .spanMatrixSet 0x1000 8 (fun _ q => matrixBad q)
    (fun s q => forN 64 (fun k s => (((s.putP SPN_MATRIX_E0 (q.byteAt (4 * k)) k).putP SPN_MATRIX_E1 (q.byteAt (4 * k + 1)) k).putP
      SPN_MATRIX_E2 (q.byteAt (4 * k + 2)) k).putP SPN_MATRIX_E3 (q.byteAt (4 * k + 3)) k) s) ∧
  Stages .spanGasSet 0x1001 8 (fun _ q => [(0, decide (-32768 ≤ q.sw 0 ∧ q.sw 0 ≤ 32767)),
      (1, decide (-32768 ≤ q.sw 1 ∧ q.sw 1 ≤ 32767)), (0, !(q.w 0 == 0 && q.w 1 == 0))])
    (fun s q => (s.putPS SPN_GAS_GX (q.sw 0)).putPS SPN_GAS_GY (q.sw 1)) ∧
  Stages .spanStitchSet 0x1003 8 (fun _ q => [(0, decide (0 < q.w 0 ∧ q.w 0 < 65536))])
    (fun s q => s.putP SPN_STITCH_WAIT_WAIT (q.w 0)) ∧
  Stages .spanGuardSet 0x1005 8 (fun _ q => [(0, decide (q.w 0 ≤ 1))]) (fun s q => s.putP SPN_CTRL_GUARD_EN (q.w 0)) ∧
  Answers .spanStatus 0x1004 (fun _ _ => []) (fun _ _ => True) (fun s _ => s)
    (fun s _ => okReply [s.get SPN_STATUS_OUTSTANDING, s.get SPN_PATCH_WR_WR, s.get SPN_PATCH_LOST_LOST,
      s.get SPN_CTRL_GUARD_EN, s.get SPN_STITCH_WAIT_WAIT])

/-- The code groups of a frame pass the receiver of a link that is not OFF; one received whole under lock awaits the check of its tick or
exchange, another is discarded, and the groups in error count in SYM_ERR (R286, R293, R303). A tick of an UP link is good when its
frame is good and reports no downlink error: CONSEC returns to 0, STATUS takes effect and LINK_OK is handed (R286, R291); with no frame
or a bad one it has failed: UL_BAD counts and CONSEC grows, with a downlink error DL_BAD does (R287), and the third failed tick in a row
takes the link to FAILED with fault 012h (R288). In ALIGN a tick of the identity window without a good reply fails training with REASON
4, in VERIFY a failed tick does with REASON 7 (R297, R298). A tick is checked once, and a legacy link not so. Four groups in error in a
row, or two tick periods with no K28.5, lose symbol lock, in UP with LOCK_LOST and fault 001h, and the next K28.5 regains it (R293). A
training start is taken in OFF, UP and FAILED with a mode set and is else refused (R295); past its boundaries training goes from WAKE to
SWEEP where a K28.5 has come, from SWEEP to ALIGN where the taps pass, to VERIFY with the head's identity loaded, and UP, or it fails with
REASON 1, 2 or 3 (R295–R298); a legacy link goes from WAKE to ALIGN and VERIFY, where eight good exchanges in a row bring it UP and the
thirty-second without that fails it (R304). MODE 0 turns the link off; MODE 1 or 2 is taken in OFF only; MODE 3 is a reserved value
(R301). Without its occasion each of these commands changes nothing: the model's own reading, log entry 2. -/
def Obligations.PierLinks : Prop :=
  (∀ (p : Fin 16) bf gs (s : State) (x : Instr × Bool), x ∈ [(.uplinkFrame p bf gs, !(s.link p).checked),
      (.legacyUplinkFrame p bf gs, s.legacy p && (s.link p).outst)] →
    let v := s.heard p bf
    let r := (v.link p).rxRun gs
    let u := (v.incSat PLK_CNT_B_SYM_ERR p r.errs).setLink p r.l
    (s.linkState p = lsOff → exec x.1 s = .next s) ∧
    (v.linkState p ≠ lsOff → x.2 = true → (v.link p).locked = true → r.lost = false →
      exec x.1 s = .next (u.setLink p { r.l with frame := some (frameOf r.syms) })) ∧
    (v.linkState p ≠ lsOff → x.2 = false ∨ (v.link p).locked = false → r.lost = false → exec x.1 s = .next u) ∧
    (v.linkState p = lsUp → r.lost = true → exec x.1 s = .next ((u.set1 PLK_FLAGS_LOCK_LOST p).fault 5 1 2 p)) ∧
    (v.linkState p ≠ lsOff → v.linkState p ≠ lsUp → r.lost = true → exec x.1 s = .next u)) ∧
  (∀ (p : Fin 16) gs (s : State),
    let r := (s.link p).rxRun gs
    let u := (s.incSat PLK_CNT_B_SYM_ERR p r.errs).setLink p r.l
    (s.linkState p = lsOff → s.heard p gs = s) ∧
    (s.linkState p ≠ lsOff → r.lost = false → s.heard p gs = u.setLink p { u.link p with k28 := (u.link p).k28 || (u.link p).comma }) ∧
    (s.linkState p = lsUp → r.lost = true → (s.heard p gs).on PLK_FLAGS_LOCK_LOST p = true ∧
      (s.heard p gs).get PLK_FAULT_LAST_CODE = 1 ∧ (s.heard p gs).linkState p = lsUp)) ∧
  (∀ (p : Fin 16) f (s : State), (s.link p).checked = false → s.legacy p = false → s.linkState p = lsUp → (s.link p).frame = some f →
    frameGood 13 f = true → (beNat ((f.1.drop 9).take 2)).testBit 12 = false →
    Completes (exec (.ulDeadlineCheck p) s) (fun t => t.get PLK_STATE_CONSEC p = 0 ∧ t.linkState p = lsUp ∧
      t.get PLK_UL_STATUS_STATUS p = beNat ((f.1.drop 9).take 2) ∧ (t.link p).frame = none ∧ (t.link p).checked = true ∧
      (s.get PLK_CTRL_UL_DEADLINE p ≤ 240 →
        t.get PLK_STATE_LINK_OK p = if beNat ((f.1.drop 9).take 2) / 2 ^ 14 = 2 then 1 else 0))) ∧
  (∀ (p : Fin 16) (s : State), (s.link p).checked = false → s.legacy p = false → s.linkState p = lsUp →
    (∀ f, (s.link p).frame = some f → frameGood 13 f = false) → s.get PLK_STATE_CONSEC p < 2 →
    Completes (exec (.ulDeadlineCheck p) s) (fun t => t.get PLK_STATE_CONSEC p = s.get PLK_STATE_CONSEC p + 1 ∧
      t.linkState p = lsUp ∧ t.on PLK_FLAGS_UL_BAD p = true ∧ (t.link p).checked = true ∧
      t.get PLK_CNT_A_UL_BAD p = min (s.get PLK_CNT_A_UL_BAD p + 1) (2 ^ PLK_CNT_A_UL_BAD.width - 1))) ∧
  (∀ (p : Fin 16) f (s : State), (s.link p).checked = false → s.legacy p = false → s.linkState p = lsUp → (s.link p).frame = some f →
    frameGood 13 f = true → (beNat ((f.1.drop 9).take 2)).testBit 12 = true → s.get PLK_STATE_CONSEC p < 2 →
    Completes (exec (.ulDeadlineCheck p) s) (fun t => t.get PLK_STATE_CONSEC p = s.get PLK_STATE_CONSEC p + 1 ∧
      t.linkState p = lsUp ∧ t.on PLK_FLAGS_DL_BAD p = true ∧ t.get PLK_UL_STATUS_STATUS p = beNat ((f.1.drop 9).take 2))) ∧
  (∀ (p : Fin 16) (s : State), (s.link p).checked = false → s.legacy p = false → s.linkState p = lsUp →
    (∀ f, (s.link p).frame = some f → frameGood 13 f = false) → 2 ≤ s.get PLK_STATE_CONSEC p →
    Completes (exec (.ulDeadlineCheck p) s) (fun t => t.linkState p = lsFailed ∧ t.get PLK_STATE_CONSEC p = 3 ∧
      t.get PLK_FAULT_LAST_CODE = 0x12)) ∧
  (∀ (p : Fin 16) (s : State), (s.link p).checked = false → s.legacy p = false → (∀ f, (s.link p).frame = some f → frameGood 13 f = false) →
    (s.linkState p = lsAlign → 52 ≤ (s.link p).train → (s.link p).train ≤ 55 → Completes (exec (.ulDeadlineCheck p) s) (fun t =>
      t.linkState p = lsFailed ∧ t.get PLK_STATE_REASON p = 4)) ∧
    (s.linkState p = lsVerify → Completes (exec (.ulDeadlineCheck p) s) (fun t =>
      t.linkState p = lsFailed ∧ t.get PLK_STATE_REASON p = 7))) ∧
  (∀ (p : Fin 16) (s : State), ((s.link p).checked = true → exec (.ulDeadlineCheck p) s = .next s) ∧
    (s.legacy p = true → Completes (exec (.ulDeadlineCheck p) s) (fun t => t.linkState p = s.linkState p ∧
      (t.link p).frame = (s.link p).frame ∧ t.get PLK_STATE_CONSEC p = s.get PLK_STATE_CONSEC p))) ∧
  (∀ (p : Fin 16) gs (s : State),
    let r := (s.link p).rxRun gs
    let u := (s.incSat PLK_CNT_B_SYM_ERR p r.errs).setLink p r.l
    (s.linkState p = lsOff → exec (.symbolLockLost p gs) s = .next s) ∧
    (s.linkState p ≠ lsOff → r.lost = false → r.l.locked = false ∨ r.l.quiet < 2 → exec (.symbolLockLost p gs) s = .next u) ∧
    (s.linkState p = lsUp → r.lost = true → r.l.locked = false → exec (.symbolLockLost p gs) s =
      .next ((u.set1 PLK_FLAGS_LOCK_LOST p).fault 5 1 2 p)) ∧
    (s.linkState p = lsUp → r.lost = false → r.l.locked = true → 2 ≤ r.l.quiet → exec (.symbolLockLost p gs) s =
      .next (((u.setLink p { r.l with locked := false }).set1 PLK_FLAGS_LOCK_LOST p).fault 5 1 2 p)) ∧
    (s.linkState p ≠ lsOff → s.linkState p ≠ lsUp → r.l.locked = true → 2 ≤ r.l.quiet → exec (.symbolLockLost p gs) s =
      .next (u.setLink p { r.l with locked := false }))) ∧
  (∀ (p : Fin 16) (s : State), s.linkState p ≠ lsOff → (s.link p).locked = false → exec (.symbolLockRegain p) s =
    .next (s.setLink p { s.link p with locked := true, urd := none, errRun := 0, quiet := 0, comma := true })) ∧
  (∀ (p : Fin 16) (s : State), s.linkState p = lsOff ∨ (s.link p).locked = true → exec (.symbolLockRegain p) s = .next s) ∧
  (∀ (p : Fin 16) sw (s : State), (s.linkState p = lsOff ∨ s.linkState p = lsUp ∨ s.linkState p = lsFailed) → s.get PLK_CTRL_MODE p ≠ 0 →
    exec (.trainStart p sw) s = .next ((s.put PLK_TRAIN_SWEEP (if sw then 1 else 0) p).setLink p { s.link p with start := true })) ∧
  (∀ (p : Fin 16) sw (s : State), (s.linkState p ≠ lsOff ∧ s.linkState p ≠ lsUp ∧ s.linkState p ≠ lsFailed) ∨ s.get PLK_CTRL_MODE p = 0 →
    exec (.trainStart p sw) s = .next ((s.put PLK_TRAIN_SWEEP (if sw then 1 else 0) p).set1 PLK_ERR_WRITE_REFUSED)) ∧
  (∀ (p : Fin 16) bf af (s : State), let v := s.heard p bf
    v.legacy p = false →
    (v.linkState p = lsWake → 16 ≤ (v.link p).train → (v.link p).k28 = true → exec (.trainAdvance p bf af) s = .next ((v.setLinkState p lsSweep).heard p af)) ∧
    (v.linkState p = lsWake → 16 ≤ (v.link p).train → (v.link p).k28 = false → exec (.trainAdvance p bf af) s = .next ((v.failTraining p 1).heard p af)) ∧
    (v.linkState p = lsSweep → v.on PLK_TRAIN_SWEEP p = false → (v.link p).taps.any not = true →
      exec (.trainAdvance p bf af) s = .next ((v.failTraining p 3).heard p af)) ∧
    (v.linkState p = lsSweep → v.on PLK_TRAIN_SWEEP p = false → (v.link p).taps.any not = false → 48 ≤ (v.link p).train →
      exec (.trainAdvance p bf af) s = .next ((v.setLinkState p lsAlign).heard p af)) ∧
    (v.linkState p = lsSweep → v.on PLK_TRAIN_SWEEP p = true → 48 ≤ (v.link p).train → (eyeOf (v.link p).taps).1 < 8 →
      exec (.trainAdvance p bf af) s = .next (((v.put PLK_TRAIN_EYE (eyeOf (v.link p).taps).1 p).failTraining p 2).heard p af)) ∧
    (v.linkState p = lsSweep → v.on PLK_TRAIN_SWEEP p = true → 48 ≤ (v.link p).train → 8 ≤ (eyeOf (v.link p).taps).1 →
      ∃ t : State, exec (.trainAdvance p bf af) s = .next (t.heard p af) ∧ t.linkState p = lsAlign ∧ t.get PLK_TRAIN_EYE p = (eyeOf (v.link p).taps).1 % 64 ∧
        t.get PLK_TRAIN_BEST p = ((eyeOf (v.link p).taps).2 + ((eyeOf (v.link p).taps).1 - 1) / 2) % 32) ∧
    (v.linkState p = lsAlign → 56 ≤ (v.link p).train → exec (.trainAdvance p bf af) s = .next (((v.loadHead p).setLinkState p lsVerify).heard p af)) ∧
    (v.linkState p = lsVerify → 64 ≤ (v.link p).train →
      ∃ t : State, exec (.trainAdvance p bf af) s = .next (t.heard p af) ∧ t.linkState p = lsUp ∧ t.get PLK_STATE_REASON p = 0 ∧
        t.bit PLK_STATUS_UP p = true ∧ t.bit PLK_STATUS_TRAINING p = false) ∧
    ((v.link p).train < 16 → v.linkState p ≠ lsSweep → exec (.trainAdvance p bf af) s = .next (v.heard p af))) ∧
  (∀ (p : Fin 16) bf af (s : State), let v := s.heard p bf
    v.legacy p = true →
    (v.linkState p = lsWake → 16 ≤ (v.link p).train →
      exec (.trainAdvance p bf af) s = .next (((v.setLink p { v.link p with k28 := false }).setLinkState p lsAlign).heard p af)) ∧
    (v.linkState p = lsAlign → (v.link p).k28 = true → (v.link p).locked = true → exec (.trainAdvance p bf af) s = .next ((v.setLinkState p lsVerify).heard p af)) ∧
    (v.linkState p = lsAlign → (v.link p).k28 = false ∨ (v.link p).locked = false → exec (.trainAdvance p bf af) s = .next (v.heard p af))) ∧
  (∀ (p : Fin 16) (s : State), s.legacy p = true → (s.link p).outst = true → (s.link p).frame = none → s.linkState p = lsVerify →
    (s.link p).exch < 31 → Completes (exec (.legacyExchangeCheck p) s) (fun t => (t.link p).exch = (s.link p).exch + 1 ∧
      (t.link p).good = 0 ∧ (t.link p).outst = false ∧ t.linkState p = lsVerify)) ∧
  (∀ (p : Fin 16) (s : State), s.legacy p = true → (s.link p).outst = true → (s.link p).frame = none → s.linkState p = lsVerify →
    31 ≤ (s.link p).exch → Completes (exec (.legacyExchangeCheck p) s) (fun t => t.linkState p = lsFailed ∧
      t.get PLK_STATE_REASON p = 7)) ∧
  (∀ (p : Fin 16) f (s : State), s.legacy p = true → (s.link p).outst = true → (s.link p).frame = some f → frameGood 4 f = true →
    (beNat (f.1.take 2)).testBit 12 = false → s.linkState p = lsVerify → 7 ≤ (s.link p).good →
    Completes (exec (.legacyExchangeCheck p) s) (fun t => t.linkState p = lsUp ∧ (t.link p).outst = false ∧
      t.get PLK_UL_STATUS_STATUS p = beNat (f.1.take 2))) ∧
  (∀ (p : Fin 16) (s : State), s.legacy p = true → (s.link p).outst = true → (s.link p).frame = none → s.linkState p = lsUp →
    s.get PLK_STATE_CONSEC p < 2 → Completes (exec (.legacyExchangeCheck p) s) (fun t => t.linkState p = lsUp ∧
      t.get PLK_STATE_CONSEC p = s.get PLK_STATE_CONSEC p + 1 ∧ (t.link p).outst = false)) ∧
  (∀ (p : Fin 16) (s : State), s.legacy p = false ∨ (s.link p).outst = false → exec (.legacyExchangeCheck p) s = .next s) ∧
  (∀ (p : Fin 16) (s : State), Completes (exec (.plkModeWrite p 0) s) (fun t => t.linkState p = lsOff ∧ t.get PLK_CTRL_MODE p = 0 ∧
    t.on PLK_STATE_LINK_OK p = false ∧ t.link p = {})) ∧
  (∀ (p : Fin 16) (s : State), s.linkState p = lsOff →
    exec (.plkModeWrite p 1) s = .next (s.put PLK_CTRL_MODE 1 p) ∧ exec (.plkModeWrite p 2) s = .next ((s.noHead p).put PLK_CTRL_MODE 2 p)) ∧
  (∀ (p : Fin 16) (s : State), s.linkState p ≠ lsOff → exec (.plkModeWrite p 1) s = .next (s.set1 PLK_ERR_WRITE_REFUSED) ∧
    exec (.plkModeWrite p 2) s = .next (s.set1 PLK_ERR_WRITE_REFUSED)) ∧
  (∀ (p : Fin 16) (s : State), exec (.plkModeWrite p 3) s = .next ((s.set1 PLK_ERR_WRITE_REFUSED).reservedFault 5 p))

/-- A level accepted at a phase of the tick finds the fine delay lines run up to that phase (R312). An accepted READY or ALARM level is
shown and governs the gate from the next edge, from φ240 on from the edge after it (R326, R327); a fall of READY counts and sets
NOT_READY (R328); an alarm counts and records fault 001h, class F1 where the mode allows emission and else F3 (R327, R329); EMA is shown
and, with the gate pad on, noted as seen (R330). The permit is present when both channels are, and without one of them every gate pad
is off (R331, R333); its loss records fault 005h, with PERMIT_LOST where the mode allows emission (R335). A removal at the pads turns
them off (R331), as does a discrepancy of 10 ms, fault 006h, which clears when both channels are removed (R334). A gate on with no
emission for ON_MAX is fault 003h once per interval, emission with the gate off for OFF_MAX is fault 004h, class F0 (R330). A test pulse
fires only under the conditions of R337, else it is refused with fault 00Ah, while BUSY with WRITE_REFUSED too, a WIDTH below 10 being
reserved, and it ends with the pad off (R337, R339). The LSR commands write the RWS fields of group 5, and of group 9 for the gate delay
(R134, R121, R123). Without its occasion each of the event commands changes nothing: the model's own reading, log entry 2. -/
def Obligations.LaserChannels : Prop :=
  (∀ (p : Fin 16) v ph (s : State), let u := s.fineTo ph
    (u.bit LSR_IN_A_READY p = v → exec (.statusInputAccept (.lrdy p) v ph) s = .next u) ∧
    (u.bit LSR_IN_A_READY p = false → ph < 240 → exec (.statusInputAccept (.lrdy p) true ph) s = .next (let w := u.putBit LSR_IN_A_READY p true
      { w with lsr := { w.lsr with gov2 := setBit w.lsr.gov2 p true, gov := setBit w.lsr.gov p true } })) ∧
    (u.bit LSR_IN_A_READY p = false → 240 ≤ ph → exec (.statusInputAccept (.lrdy p) true ph) s = .next (let w := u.putBit LSR_IN_A_READY p true
      { w with lsr := { w.lsr with gov2 := setBit w.lsr.gov2 p true } })) ∧
    (u.bit LSR_IN_A_READY p = true → ph < 240 → Completes (exec (.statusInputAccept (.lrdy p) false ph) s) (fun t =>
      t.bit LSR_IN_A_READY p = false ∧ t.lsr = { u.lsr with gov2 := setBit u.lsr.gov2 p false, gov := setBit u.lsr.gov p false, fell := setBit u.lsr.fell p true } ∧
      t.on LSR_FLAGS_P_NOT_READY p = true ∧
      t.get LSR_CNT_B_NOT_READY p = min (s.get LSR_CNT_B_NOT_READY p + 1) (2 ^ LSR_CNT_B_NOT_READY.width - 1))) ∧
    (u.bit LSR_IN_A_READY p = true → 240 ≤ ph → Completes (exec (.statusInputAccept (.lrdy p) false ph) s) (fun t =>
      t.bit LSR_IN_A_READY p = false ∧ t.lsr = { u.lsr with gov2 := setBit u.lsr.gov2 p false, fell2 := setBit u.lsr.fell2 p true } ∧
      t.on LSR_FLAGS_P_NOT_READY p = true))) ∧
  (∀ (p : Fin 16) v ph (s : State), let u := s.fineTo ph
    (u.bit LSR_IN_A_ALARM p = !v → exec (.statusInputAccept (.lalmN p) v ph) s = .next u) ∧
    (u.bit LSR_IN_A_ALARM p = false → Completes (exec (.statusInputAccept (.lalmN p) false ph) s) (fun t =>
      t.bit LSR_IN_A_ALARM p = true ∧ t.on LSR_FLAGS_P_ALARM p = true ∧ t.get LSR_FAULT_LAST_CODE = 1 ∧
      t.lsr.gov2.testBit (16 + p.val) = true)) ∧
    (u.bit LSR_IN_A_ALARM p = true → exec (.statusInputAccept (.lalmN p) true ph) s =
      .next (((u.putBit LSR_IN_A_ALARM p false).govern (16 + p.val) false (decide (ph < 240))).dropCause 0x1801 p))) ∧
  (∀ (p : Fin 16) v ph (s : State), let u := (s.fineTo ph).putBit LSR_IN_B_EMA p v
    (v = false ∨ u.bit LSR_IN_B_GATE_PAD p = false → exec (.statusInputAccept (.lema p) v ph) s = .next u) ∧
    (v = true → u.bit LSR_IN_B_GATE_PAD p = true → exec (.statusInputAccept (.lema p) v ph) s =
      .next { u with lsr := { u.lsr with seen := setBit u.lsr.seen p true } })) ∧
  (∀ (x : LsrBall × Fref × Fref × Bool) v ph (s : State), x ∈ [(.epermA, LSR_PERMIT_CH_A, LSR_PERMIT_CH_B, v), (.epermBN, LSR_PERMIT_CH_B, LSR_PERMIT_CH_A, !v)] →
    let u := s.fineTo ph
    (x.2.2.2 = true → u.on x.2.2.1 = true → exec (.statusInputAccept x.1 v ph) s = .next (((u.put x.2.1 1).put LSR_PERMIT_PERMIT 1).dropCause 0x1805)) ∧
    (x.2.2.2 = false ∨ u.on x.2.2.1 = false → Completes (exec (.statusInputAccept x.1 v ph) s) (fun t => t.permit = false ∧ t.dark ∧
      t.lsr.permOff = true ∧ t.on x.2.1 = x.2.2.2 ∧ (u.permit = true → t.get LSR_FAULT_LAST_CODE = 5) ∧
      (u.permit = true → u.on LSR_PERMIT_MODE_ALLOW = true → t.on LSR_FLAGS_PERMIT_LOST = true)))) ∧
  (∀ s, Completes (exec .permitPadRemoval s) (fun t => t.dark ∧ t.lsr.permOff = true ∧ t.permit = s.permit)) ∧
  (∀ s, s.get LSR_PERMIT_CH_A ≠ s.get LSR_PERMIT_CH_B → s.on LSR_PERMIT_DISCREP = false →
    Completes (exec .permitDiscrepancy s) (fun t => t.dark ∧ t.on LSR_PERMIT_DISCREP = true ∧ t.on LSR_FLAGS_DISCREP = true ∧
      t.get LSR_FAULT_LAST_CODE = 6)) ∧
  (∀ s, s.get LSR_PERMIT_CH_A = s.get LSR_PERMIT_CH_B ∨ s.on LSR_PERMIT_DISCREP = true → exec .permitDiscrepancy s = .next s) ∧
  (∀ s, s.on LSR_PERMIT_CH_A = false → s.on LSR_PERMIT_CH_B = false → exec .discrepClear s =
    .next ((s.put LSR_PERMIT_DISCREP 0).dropCause 0x1806)) ∧
  (∀ s, s.on LSR_PERMIT_CH_A = true ∨ s.on LSR_PERMIT_CH_B = true → exec .discrepClear s = .next s) ∧
  (∀ (p : Fin 16) n (s : State), s.on LSR_CTRL_EMA_CHECK p = true → s.bit LSR_IN_B_GATE_PAD p = true → s.get LSR_EMA_WIN_ON_MAX p ≤ n →
    s.lsr.seen.testBit p = false → s.lsr.missed.testBit p = false → exec (.emaMissing p n) s =
      .next (((State.incSat { s with lsr := { s.lsr with missed := setBit s.lsr.missed p true } } LSR_CNT_B_EMA_MISS p).set1
        LSR_FLAGS_P_EMA_MISSING p).fault 6 3 1 p)) ∧
  (∀ (p : Fin 16) n (s : State), s.on LSR_CTRL_EMA_CHECK p = false ∨ s.bit LSR_IN_B_GATE_PAD p = false ∨ n < s.get LSR_EMA_WIN_ON_MAX p ∨
    s.lsr.seen.testBit p = true ∨ s.lsr.missed.testBit p = true → exec (.emaMissing p n) s = .next s) ∧
  (∀ (p : Fin 16) n (s : State), s.on LSR_CTRL_EMA_CHECK p = true → s.bit LSR_IN_B_GATE_PAD p = false → s.get LSR_EMA_WIN_OFF_MAX p ≤ n →
    s.bit LSR_IN_B_EMA p = true → s.lsr.uncmd.testBit p = false → 2 ≤ s.mode →
    Completes (exec (.uncmdEmission p n) s) (fun t => t.dark ∧ t.mode = 7 ∧ t.on LSR_FLAGS_P_UNCMD_EMIT p = true ∧
      t.get LSR_FAULT_LAST_CODE = 4 ∧ t.lsr.uncmd.testBit p = true)) ∧
  (∀ (p : Fin 16) n (s : State), s.on LSR_CTRL_EMA_CHECK p = false ∨ s.bit LSR_IN_B_GATE_PAD p = true ∨ n < s.get LSR_EMA_WIN_OFF_MAX p ∨
    s.bit LSR_IN_B_EMA p = false ∨ s.lsr.uncmd.testBit p = true ∨ s.mode < 2 → exec (.uncmdEmission p n) s = .next s) ∧
  (∀ (p : Fin 16) (w : BitVec 16) (s : State), s.testOk p = true → 10 ≤ w.toNat → Completes (exec (.testFire p w) s) (fun t =>
    t.on LSR_TEST_BUSY p = true ∧ t.get LSR_TEST_WIDTH p = w.toNat ∧ Tab.get 0 t.lsr.test p = 1 ∧
    t.get LSR_IN_B_GATE_PAD = s.get LSR_IN_B_GATE_PAD)) ∧
  (∀ (p : Fin 16) (w : BitVec 16) (s : State), s.on LSR_TEST_BUSY p = false → s.testOk p = false → 10 ≤ w.toNat → exec (.testFire p w) s =
    .next (((s.put LSR_TEST_WIDTH w.toNat p).set1 LSR_FLAGS_P_TEST_REFUSED p).fault 6 0xA 3 p)) ∧
  (∀ (p : Fin 16) (w : BitVec 16) (s : State), s.on LSR_TEST_BUSY p = true → exec (.testFire p w) s =
    .next (((s.set1 LSR_FLAGS_WRITE_REFUSED).set1 LSR_FLAGS_P_TEST_REFUSED p).fault 6 0xA 3 p)) ∧
  (∀ (p : Fin 16) (w : BitVec 16) (s : State), s.on LSR_TEST_BUSY p = false → w.toNat < 10 →
    exec (.testFire p w) s = .next (s.reservedFault 6)) ∧
  (∀ (p : Fin 16) (s : State), Tab.get 0 s.lsr.test p = 3 → Completes (exec (.testPulseEnd p) s) (fun t => t.on LSR_TEST_BUSY p = false ∧
    t.bit LSR_IN_B_GATE_PAD p = false ∧ Tab.get 0 t.lsr.test p = 0)) ∧
  (∀ (p : Fin 16) (s : State), Tab.get 0 s.lsr.test p ≠ 3 → exec (.testPulseEnd p) s = .next s) ∧
  Stages .lsrGateSet 0x1400 0x220 (fun _ q => [(0, decide (q.w 0 < 16)), (1, decide (q.w 1 < 256)), (2, decide (q.w 2 < 2000)),
      (3, decide (q.w 3 < 2))])
    (fun s q => ((s.putP LSR_DELAY_COARSE (q.w 1) (q.w 0)).putP LSR_DELAY_FINE (q.w 2) (q.w 0)).putP LSR_CTRL_DIFF (q.w 3) (q.w 0)) ∧
  Stages .lsrPowerLimit 0x1401 0x20 (fun _ q => [(0, decide (0 < q.w 0 ∧ q.w 0 < 65536)), (1, decide (0 < q.w 1 ∧ q.w 1 < 65536))])
    (fun s q => forPiers (q.w 0) (fun p s => s.putP LSR_LIMIT_LIMIT (q.w 1) p) s) ∧
  Stages .lsrLaserCmd 0x1402 0x20 (fun _ q => [(0, decide (q.w 0 < 16)), (1, decide (q.w 1 < 256) && !(q.w 1).testBit 6)])
    (fun s q => (s.putP LSR_CMD_ENABLE_REQ (q.w 1 / 128) (q.w 0)).putP LSR_CMD_USER (q.w 1 % 64) (q.w 0)) ∧
  Stages .lsrEmaSet 0x1404 0x20 (fun _ q => [(0, decide (0 < q.w 0 ∧ q.w 0 < 65536)), (1, decide (q.w 1 < 2)),
      (2, decide (0 < q.w 2 ∧ q.w 2 < 65536)), (3, decide (0 < q.w 3 ∧ q.w 3 < 65536))])
    (fun s q => forPiers (q.w 0) (fun p s => ((s.putP LSR_CTRL_EMA_CHECK (q.w 1) p).putP LSR_EMA_WIN_ON_MAX (q.w 2) p).putP
      LSR_EMA_WIN_OFF_MAX (q.w 3) p) s) ∧
  Answers .lsrStatus 0x1403 (fun _ _ => []) (fun _ _ => True) (fun s _ => s)
    (fun s _ => okReply [s.get LSR_PERMIT_CH_B * 2 + s.get LSR_PERMIT_CH_A, s.get LSR_IN_A_READY, s.get LSR_IN_A_ALARM, s.get LSR_IN_B_EMA])

/-- An offset measurement starts when none is BUSY, and is refused with CAL_REFUSED and fault 008h, naming the pier's first input,
when one is (R352, R353); at its end MEAS takes the mean of the pier's two inputs, BUSY falls and DONE is set (R352). An input whose
results have reached 64 in a row at 8000h is declared open, fault 002h (R348). HEARTH_OK falls with fault 007h, class F1, when no result
has passed for four samples or VAA is lost, and rises after 64 good samples (R350, R752). The auxiliary timer latches the eight results
in a tick whose number is a multiple of 1 ms, once, a start within 1 ms of the last latching the same outputs again (R356). Without its
occasion each of the event commands changes nothing: the model's own reading, log entry 2. -/
def Obligations.FrontEnd : Prop :=
  (∀ (p : Fin 16) (s : State), s.on AFE_CAL_CTRL_BUSY = false → exec (.offsetMeasStart p) s =
    .next ((State.put { s with afe := { s.afe with calPier := p, calWait := true } } AFE_CAL_CTRL_PIER p).set1 AFE_CAL_CTRL_BUSY)) ∧
  (∀ (p : Fin 16) (s : State), s.on AFE_CAL_CTRL_BUSY = true → exec (.offsetMeasStart p) s =
    .next ((s.set1 AFE_FLAGS_CAL_REFUSED).fault 7 8 3 (2 * p.val))) ∧
  (∀ s, s.afe.calDue = true → s.afe.calPier < 16 → Completes (exec .offsetMeasDone s) (fun t =>
    t.getS AFE_OFS_MEAS (2 * s.afe.calPier) = satSigned 16 ((s.afeIn (2 * s.afe.calPier)).sum / 32) ∧
    t.getS AFE_OFS_MEAS (2 * s.afe.calPier + 1) = satSigned 16 ((s.afeIn (2 * s.afe.calPier + 1)).sum / 32) ∧
    t.on AFE_CAL_CTRL_BUSY = false ∧ t.on AFE_CAL_CTRL_DONE = true ∧ t.afe = { s.afe with calDue := false })) ∧
  (∀ s, s.afe.calDue = false → exec .offsetMeasDone s = .next s) ∧
  (∀ (k : Fin 32) (s : State), 64 ≤ (s.afeIn k).low → s.on AFE_IN_STAT_OPEN k = false → exec (.inputOpenDeclare k) s =
    .next (((s.set1 AFE_IN_STAT_OPEN k).set1 AFE_FLAGS_OPEN).fault 7 2 2 k)) ∧
  (∀ (k : Fin 32) (s : State), (s.afeIn k).low < 64 ∨ s.on AFE_IN_STAT_OPEN k = true → exec (.inputOpenDeclare k) s = .next s) ∧
  (∀ s, 4 ≤ s.afe.bad → s.afe.armed = true → s.on AFE_STATUS_HEARTH_OK = true → exec .hearthLinkLost s =
    .next (((s.put AFE_STATUS_HEARTH_OK 0).set1 AFE_FLAGS_LINK_LOST).fault 7 7 1)) ∧
  (∀ s, s.afe.bad < 4 ∨ s.afe.armed = false ∨ s.on AFE_STATUS_HEARTH_OK = false → exec .hearthLinkLost s = .next s) ∧
  (∀ s, 64 ≤ s.afe.good → s.on AFE_STATUS_HEARTH_OK = false → exec .hearthOkRestore s =
    .next ((State.set1 { s with afe := { s.afe with armed := true } } AFE_STATUS_HEARTH_OK).dropCause 0x1C07)) ∧
  (∀ s, s.afe.good < 64 ∨ s.on AFE_STATUS_HEARTH_OK = true → exec .hearthOkRestore s = .next s) ∧
  (∀ s, s.afe.armed = true → s.on AFE_STATUS_HEARTH_OK = true → exec .vaaLoss s =
    .next (((State.put { s with afe := { s.afe with good := 0 } } AFE_STATUS_HEARTH_OK 0).set1 AFE_FLAGS_LINK_LOST).fault 7 7 1)) ∧
  (∀ s, s.afe.armed = false ∨ s.on AFE_STATUS_HEARTH_OK = false → exec .vaaLoss s = .next { s with afe := { s.afe with good := 0 } }) ∧
  (∀ res (s : State), s.on AFE_AUX_CTRL_TIMER_EN = true → s.key.tick % (1000000 / s.periodNs) = 0 → s.afe.auxTick ≠ s.key.tick + 1 →
    let latch (r : List Nat) : State := forN 8 (fun k u => u.auxResult k (r.getD k 0))
      { s with afe := { s.afe with auxTick := s.key.tick + 1, auxAt := some s.key.frc, auxOut := r } }
    ((∀ t, s.afe.auxAt = some t → t + 1000000 ≤ s.key.frc) → exec (.auxTimerStart res) s = .next (latch res)) ∧
    (∀ t, s.afe.auxAt = some t → s.key.frc < t + 1000000 → exec (.auxTimerStart res) s = .next (latch s.afe.auxOut))) ∧
  (∀ res (s : State), s.on AFE_AUX_CTRL_TIMER_EN = false ∨ s.key.tick % (1000000 / s.periodNs) ≠ 0 ∨ s.afe.auxTick = s.key.tick + 1 →
    exec (.auxTimerStart res) s = .next s)

/-- The image window writes a word of an image that is not in force, marks it not loaded, and selects the next word; of an image in force
it writes nothing and sets WRITE_REFUSED; a read gives the word; past instruction 47 there is no word (R389). A mark starts the check of
the selected image, a COUNT outside 1 to 48 being reserved; its end loads the image or records the error, of image 63 always ERR 8
(R388–R390). A write of LOP_CLEAR re-arms slots at the next commit (R399). A PWM period of a slow output starts with the duty that
governs it, its latest run's while the slot is closed and not forced and the manual one else, high for DUTY × PERIOD of it, and low in
SAFE, BOOT and VAULT (R402, R403). PROG_LOAD writes, checks and selects the image of its slot that is not in force, staged with DEFER
and else committed, or answers BAD_PARAM, STAGED or, with both in force, BUSY (R135, R391, R392); PLAUS_SET, LOOP_MODE, INPUT_SET and
AUX_SET write RWS fields of groups 7 and 6; STATUS replies the slot's state (R135, R121, R123). -/
def Obligations.Loops : Prop :=
  (∀ (w : Word) s, s.imageInForce (s.get LOP_IMG_SEL_IMAGE) = false → s.get LOP_IMG_SEL_INDEX * 4 + s.get LOP_IMG_SEL_WORD < 192 →
    Completes (exec (.imgDataAccess (some w)) s) (fun t =>
      t.lop.imgs = Memory.writeBytes 0 s.lop.imgs (s.get LOP_IMG_SEL_IMAGE * 768 +
        4 * (s.get LOP_IMG_SEL_INDEX * 4 + s.get LOP_IMG_SEL_WORD)) (leBytes 4 w.toNat) ∧
      t.loaded (s.get LOP_IMG_SEL_IMAGE) = false ∧ t.get LOP_IMG_SEL_IMAGE = s.get LOP_IMG_SEL_IMAGE)) ∧
  (∀ (w : Word) s, s.imageInForce (s.get LOP_IMG_SEL_IMAGE) = false → 192 ≤ s.get LOP_IMG_SEL_INDEX * 4 + s.get LOP_IMG_SEL_WORD →
    exec (.imgDataAccess (some w)) s = .next ((s.put LOP_IMG_DATA_DATA w.toNat).imgAdvance)) ∧
  (∀ w s, s.imageInForce (s.get LOP_IMG_SEL_IMAGE) = true →
    exec (.imgDataAccess (some w)) s = .next ((s.set1 LOP_FLAGS_WRITE_REFUSED).imgAdvance)) ∧
  (∀ s, exec (.imgDataAccess none) s = .next ((s.put LOP_IMG_DATA_DATA (if s.get LOP_IMG_SEL_INDEX * 4 + s.get LOP_IMG_SEL_WORD < 192 then
      leNat (Memory.readBytes 0 s.lop.imgs (s.get LOP_IMG_SEL_IMAGE * 768 + 4 * (s.get LOP_IMG_SEL_INDEX * 4 + s.get LOP_IMG_SEL_WORD)) 4)
    else 0)).imgAdvance)) ∧
  (∀ (c : Fin 64) sl s, 1 ≤ c.val → c.val ≤ 48 → exec (.imgMark c sl) s = .next (State.set1 { s with lop := { s.lop with
    check := some (s.get LOP_IMG_SEL_IMAGE, c.val, if sl then 1 else 0) } } LOP_IMG_STATUS_BUSY)) ∧
  (∀ (c : Fin 64) sl s, c.val = 0 ∨ 48 < c.val → exec (.imgMark c sl) s = .next (s.reservedFault 8)) ∧
  (∀ i c k n s, s.lop.check = some (i, c, k) → i < 63 → checkImage (s.program i c) k (s.imageInForce i) = (0, n) →
    Completes (exec .imgCheckDone s) (fun t => t.loaded i = true ∧ t.on LOP_IMG_STATUS_BUSY = false ∧ t.get LOP_IMG_STATUS_ERR = 0 ∧
      Tab.find t.lop.counts i = some c ∧ t.lop.check = none ∧ t.lop.imgs = s.lop.imgs)) ∧
  (∀ i c k e n s, s.lop.check = some (i, c, k) → (if i = 63 then (8, 0) else checkImage (s.program i c) k (s.imageInForce i)) = (e, n) → e ≠ 0 →
    exec .imgCheckDone s = .next (State.fault (State.set1 { ((s.put LOP_IMG_STATUS_ERR e).put LOP_IMG_STATUS_ERR_INDEX n).put
      LOP_IMG_STATUS_BUSY 0 with lop := { s.lop with check := none } } LOP_FLAGS_IMG_REFUSED) 8 4 3)) ∧
  (∀ s, s.lop.check = none → exec .imgCheckDone s = .next s) ∧
  (∀ m s, exec (.loopRearm m) s = .next { s with lop := { s.lop with clear := s.lop.clear ||| m % 2 ^ 24 } }) ∧
  (∀ (k : Fin 8) (s : State),
    let d := if s.on LOP_SCTRL_MODE k && !s.bit LOP_FORCED_FORCED (16 + k.val) && (s.slot (16 + k.val)).primed then (s.slot (16 + k.val)).duty
      else s.get LOP_SLOW_MAN_DUTY k
    (2 ≤ s.mode → s.mode ≠ 7 → exec (.slowPwmPeriodStart k) s = .next (State.put { s with lop := { s.lop with
      high := Tab.put s.lop.high k (d * s.get LOP_SLOW_PWM_PERIOD k * 400 / 65536) } } LOP_SSTAT_DUTY d k)) ∧
    (s.mode < 2 ∨ s.mode = 7 → exec (.slowPwmPeriodStart k) s = .next (State.put { s with lop := { s.lop with
      high := Tab.put s.lop.high k 0 } } LOP_SSTAT_DUTY d k))) ∧
  (∀ (s : State) q, s.serving 0x1800 q →
    let img := if s.imageInForce (2 * q.w 0) = true then 2 * q.w 0 + 1 else 2 * q.w 0
    let r := (s.imageWrite img 0 ((q.p.drop 2).take (4 * q.w 1))).imageCheck img (q.w 1) (if q.w 0 < 16 then 0 else 1)
    let v := (r.2.2.putImage (q.w 0) img).setSlot (q.w 0) { r.2.2.slot (q.w 0) with loaded := some img }
    (24 ≤ q.w 0 → exec .loopProgLoad s = .next (s.finish q.m (badParam 0))) ∧
    (q.w 0 < 24 → q.w 1 = 0 ∨ 48 < q.w 1 → exec .loopProgLoad s = .next (s.finish q.m (badParam 1))) ∧
    (q.w 0 < 24 → 1 ≤ q.w 1 → q.w 1 ≤ 48 → q.defer = false → s.mbx.staged &&& 0x80 ≠ 0 →
      exec .loopProgLoad s = .next (s.finish q.m (failReply stStaged))) ∧
    (q.w 0 < 24 → 1 ≤ q.w 1 → q.w 1 ≤ 48 → q.defer = true ∨ s.mbx.staged &&& 0x80 = 0 → s.imageInForce img = true →
      exec .loopProgLoad s = .next (s.finish q.m (failReply stBusy))) ∧
    (q.w 0 < 24 → 1 ≤ q.w 1 → q.w 1 ≤ 48 → q.defer = true ∨ s.mbx.staged &&& 0x80 = 0 → s.imageInForce img = false → r.1 ≠ 0 →
      exec .loopProgLoad s = .next (r.2.2.finish q.m { status := stBadParam, payload := [word (8 + 16 * r.2.1)] })) ∧
    (q.w 0 < 24 → 1 ≤ q.w 1 → q.w 1 ≤ 48 → q.defer = false → s.mbx.staged &&& 0x80 = 0 → s.imageInForce img = false → r.1 = 0 →
      exec .loopProgLoad s = .next ((v.requestCommit 0x80).finish q.m okReply)) ∧
    (q.w 0 < 24 → 1 ≤ q.w 1 → q.w 1 ≤ 48 → q.defer = true → s.imageInForce img = false → r.1 = 0 →
      exec .loopProgLoad s = .next (State.finish { v with mbx := { v.mbx with staged := v.mbx.staged ||| 0x80 } } q.m
        { okReply with deferred := true }))) ∧
  Stages .loopPlausSet 0x1801 0x80 (fun _ q => [(0, decide (q.w 0 < 16)), (1, decide (q.w 1 < 2 ^ 24) && !(q.w 1).testBit 17),
      (2, decide (q.w 2 < 65536)), (3, decide (0 < q.w 3 ∧ q.w 3 < 65536)), (4, decide (q.w 4 < 2))])
    (fun s q => (((s.putP LOP_PLAUS_ABS_ABS (q.w 1) (q.w 0)).putP LOP_PLAUS_N_REL (q.w 2) (q.w 0)).putP LOP_PLAUS_N_N (q.w 3) (q.w 0)).putP
      LOP_FCTRL_PLAUS_F1 (q.w 4) (q.w 0)) ∧
  Stages .loopLoopMode 0x1802 0x80 (fun _ q => [(0, decide (0 < q.w 0 ∧ q.w 0 < 2 ^ 24)), (1, decide (q.w 1 < 2))])
    (fun s q => if q.w 1 = 1 then { forN 24 (fun k s => if (q.w 0).testBit k then
          (if k < 16 then s.putP LOP_FCTRL_MODE (q.w 1) k else s.putP LOP_SCTRL_MODE (q.w 1) (k - 16)) else s) s with
        lop := { (forN 24 (fun k s => if (q.w 0).testBit k then
          (if k < 16 then s.putP LOP_FCTRL_MODE (q.w 1) k else s.putP LOP_SCTRL_MODE (q.w 1) (k - 16)) else s) s).lop with
            clear := s.lop.clear ||| q.w 0 } }
      else forN 24 (fun k s => if (q.w 0).testBit k then
          (if k < 16 then s.putP LOP_FCTRL_MODE (q.w 1) k else s.putP LOP_SCTRL_MODE (q.w 1) (k - 16)) else s) s) ∧
  Answers .loopStatus 0x1803 (fun _ q => [(0, decide (q.w 0 < 24))]) (fun _ _ => True)
    (fun s _ => s) (fun s q => let st (n : Nat) : Nat := if n = 3 then 0 else n
      if q.w 0 < 16 then okReply [st (s.get LOP_FSTAT_STATE (q.w 0)),
        (s.rd (LOP_FFLAGS_PLAUS_TRIP.addr (q.w 0))).toNat % 1024, s.get LOP_FSTAT_WORD (q.w 0)]
      else okReply [st (s.get LOP_SSTAT_STATE (q.w 0 - 16)), (s.rd (LOP_SFLAGS_ESAT.addr (q.w 0 - 16))).toNat % 64,
        s.get LOP_SSTAT_DUTY (q.w 0 - 16)]) ∧
  Stages .loopInputSet 0x1804 0x40 (fun _ q => [(0, q.w 0 != 0), (1, decide (q.w 1 ≤ 6)), (2, decide (q.w 2 < 2))])
    (fun s q => forN 32 (fun i s => if (q.w 0).testBit i then (s.putP AFE_IN_CTRL_GAIN (q.w 1) i).putP AFE_IN_CTRL_OPEN_EN (q.w 2) i else s) s) ∧
  Stages .loopAuxSet 0x1805 0x40 (fun _ q => [(0, decide (q.w 0 < 256)), (1, decide (q.w 1 < 8)), (2, decide (q.w 2 < 4)),
      (3, decide (q.w 3 < 512) && !(q.w 3).testBit 3 && !(q.w 3).testBit 7 && decide (q.w 3 % 8 ≤ 4) && decide (q.w 3 / 16 % 8 ≤ 4))])
    (fun s q => (((forN 8 (fun k s => if (q.w 0).testBit k then ((s.putP AFE_AUX_CFG_GAIN (q.w 1) k).putP AFE_AUX_CFG_BIAS (q.w 2 % 2) k).putP
        AFE_AUX_CFG_BURNOUT_EN (q.w 2 / 2) k else s) s).putP AFE_AUX_CTRL_IEXC0 (q.w 3 % 8)).putP AFE_AUX_CTRL_IEXC1 (q.w 3 / 16 % 8)).putP
        AFE_AUX_CTRL_TIMER_EN (q.w 3 / 256))

/-- A port that is not enabled receives nothing (R411). A frame start loads the pending contexts of its port and channel and opens a frame
in each context that takes it (R413–R416): the frame has the next extended number and is counted, a repeated number is counted and
flagged (R414), the frame of a context with a trigger takes its oldest event or is counted without one (R433), and one that does not fit in
the port FIFO is dropped (R423). A line of the frame's width joins the open frame with its CRC result (R412, R413); one of another
width drops it as malformed, one that does not fit as an overflow, one with a bad CRC where CRC_DROP is 1; a line with no frame open is
counted malformed, one of a dropped frame is discarded, and one that no context takes is unsupported (R412, R413, R423). A frame end after
the last line closes the frame, a small one becoming eligible, a large one waiting for its lines; with another count of lines the frame is
dropped as malformed, and a dropped frame closes (R413, R418). A packet whose header cannot be corrected is discarded with ECC_UNCORR and
fault 004h; a line start or end or a generic short packet is ignored, an unsupported type counted, embedded data joins its frame; entry
into ULPS and exit show in the port status and other escape commands nothing (R409, R412); lost lane synchronisation is counted (R445). A frame open for 100 ms is dropped
as malformed (R413). With the pipeline idle the first eligible small frame is admitted and frees its FIFO bytes, else the next line of a
large one, an uncorrectable error dropping the frame (R48, R418, R419, R423); at a frame's end the pipeline is idle again and its
statistics are seen (R420). A trigger output's pulse ends (R432). Without its occasion each command changes nothing but the displayed
fill: the model's own reading, log entry 2. -/
def Obligations.Cameras : Prop :=
  (∀ (n : Fin 4) (s : State), s.on CAM_PORT_CTRL_EN n = false → (∀ vc w corr ph, exec (.csiFrameStart n vc w corr ph) s = .next s) ∧
    (∀ vc dt px corr ok ph, exec (.csiLine n vc dt px corr ok ph) s = .next s) ∧
    (∀ vc corr same ph, exec (.csiFrameEnd n vc corr same ph) s = .next s) ∧ (∀ vc dt bs form ok ph, exec (.csiOtherPacket n vc dt bs form ok ph) s = .next s) ∧
    (∀ l, exec (.csiLaneSyncError n l) s = .next s)) ∧
  (∀ (n : Fin 4) (vc : Fin 16) (w : BitVec 16) corr ph (s : State), s.on CAM_PORT_CTRL_EN n = true →
    let u := forN 32 (fun c u => if u.bit CAM_CTX_PEND_PEND c && camAt (u.camWork c) n vc.val then (u.abandonOpen c ph).camLoad c else u)
      ((s.camSync n).eccCorr n corr)
    exec (.csiFrameStart n vc w corr ph) s = .next (((u.camTakers n vc).foldl (fun v c => v.openFrame c w.toNat (decide (u.camFill n < 393216)) ph)
      (if u.camTakers n vc = [] ∧ u.camIgnored n vc = false then u.unsupported n else u)).camShow)) ∧
  (∀ (n : Fin 4) (vc : Fin 16) (w : BitVec 16) corr ph c d (s : State), s.on CAM_PORT_CTRL_EN n = true → s.get CAM_CTX_PEND_PEND = 0 →
    s.camTakers n vc = [c] → c < 32 → s.camFill n < 393216 → (s.camCtx c).opn = none → camF (s.camWork c) CAM_CTX8_TRIG = 31 →
    (s.camCtx c).evs = [] → frameStep (s.camCtx c).w w.toNat = some d →
    Completes (exec (.csiFrameStart n vc w corr ph) s) (fun t => (∃ f, (t.camCtx c).opn = some f ∧ f.cfg = s.camWork c ∧
        f.num = ((s.camCtx c).num + d) % 2 ^ 32 ∧ f.rows = [] ∧ f.drop = false ∧ f.ref = s.key.tick ∧ f.untrig = false) ∧
      t.get CAM_CCNT0_FRAMES c = (s.get CAM_CCNT0_FRAMES c + 1) % 2 ^ 32 ∧ (t.camCtx c).w = some w.toNat)) ∧
  (∀ (n : Fin 4) (vc : Fin 16) (w : BitVec 16) corr ph c (s : State), s.on CAM_PORT_CTRL_EN n = true → s.get CAM_CTX_PEND_PEND = 0 →
    s.camTakers n vc = [c] → c < 32 → s.camFill n < 393216 → (s.camCtx c).opn = none → frameStep (s.camCtx c).w w.toNat = none →
    Completes (exec (.csiFrameStart n vc w corr ph) s) (fun t => (∃ f, (t.camCtx c).opn = some f ∧ f.num = ((s.camCtx c).num + 1) % 2 ^ 32) ∧
      t.get CAM_CCNT3_FNUM_ERR c = min (s.get CAM_CCNT3_FNUM_ERR c + 1) (2 ^ CAM_CCNT3_FNUM_ERR.width - 1) ∧ t.on CAM_FLAGS_MALFORMED = true)) ∧
  (∀ (n : Fin 4) (vc : Fin 16) (w : BitVec 16) corr ph c (s : State), s.on CAM_PORT_CTRL_EN n = true → s.get CAM_CTX_PEND_PEND = 0 →
    s.camTakers n vc = [c] → c < 32 → s.camFill n < 393216 → (s.camCtx c).opn = none → camF (s.camWork c) CAM_CTX8_TRIG ≠ 31 →
    (∀ e es, (s.camCtx c).evs = e :: es → s.key.tick ≤ e.tick + camF (s.camWork c) CAM_CTX8_TRIG_AGE →
      Completes (exec (.csiFrameStart n vc w corr ph) s) (fun t => ∃ f, (t.camCtx c).opn = some f ∧ f.untrig = false ∧ f.ref = e.tick ∧ f.loc = e.loc)) ∧
    ((s.camCtx c).evs = [] → Completes (exec (.csiFrameStart n vc w corr ph) s) (fun t =>
      (∃ f, (t.camCtx c).opn = some f ∧ f.untrig = true ∧ f.ref = s.key.tick) ∧
      t.get CAM_CCNT2_UNTRIG c = min (s.get CAM_CCNT2_UNTRIG c + 1) (2 ^ CAM_CCNT2_UNTRIG.width - 1)))) ∧
  (∀ (n : Fin 4) (vc : Fin 16) (w : BitVec 16) corr ph c (s : State), s.on CAM_PORT_CTRL_EN n = true → s.get CAM_CTX_PEND_PEND = 0 →
    s.camTakers n vc = [c] → c < 32 → 393216 ≤ s.camFill n → (s.camCtx c).opn = none →
    Completes (exec (.csiFrameStart n vc w corr ph) s) (fun t => (∃ f, (t.camCtx c).opn = some f ∧ f.drop = true) ∧
      t.on CAM_FLAGS_OVF_DROP = true ∧ t.get CAM_CCNT1_DROPPED c = min (s.get CAM_CCNT1_DROPPED c + 1) (2 ^ CAM_CCNT1_DROPPED.width - 1))) ∧
  (∀ (n : Fin 4) (vc : Fin 16) dt px corr ok ph c f (s : State), s.on CAM_PORT_CTRL_EN n = true →
    (s.camTakers n vc).find? (fun c => camF (s.camWork c) CAM_CTX0_DT == dt.toNat) = some c → (s.camCtx c).opn = some f → f.drop = false →
    (s.camFill n + camBytes f.cfg px.length ≤ 393216 → px.length = camF f.cfg CAM_CTX1_FRAME_W → ok = true ∨ camF f.cfg CAM_CTX0_CRC_DROP ≠ 1 →
      Completes (exec (.csiLine n vc dt px corr ok ph) s) (fun t => (t.camCtx c).opn = some { f with
        rows := f.rows ++ [px], held := f.held + camBytes f.cfg px.length, crc := f.crc || !ok })) ∧
    (f.c = c → s.camFill n + camBytes f.cfg px.length ≤ 393216 → px.length ≠ camF f.cfg CAM_CTX1_FRAME_W →
      Completes (exec (.csiLine n vc dt px corr ok ph) s) (fun t => t.on CAM_FLAGS_MALFORMED = true ∧
        ∃ g, (t.camCtx c).opn = some g ∧ g.drop = true ∧ g.rows = [])) ∧
    (f.c = c → 393216 < s.camFill n + camBytes f.cfg px.length →
      Completes (exec (.csiLine n vc dt px corr ok ph) s) (fun t => t.on CAM_FLAGS_OVF_DROP = true ∧
        ∃ g, (t.camCtx c).opn = some g ∧ g.drop = true ∧ g.rows = [])) ∧
    (f.c = c → s.camFill n + camBytes f.cfg px.length ≤ 393216 → px.length = camF f.cfg CAM_CTX1_FRAME_W → ok = false →
      camF f.cfg CAM_CTX0_CRC_DROP = 1 → Completes (exec (.csiLine n vc dt px corr ok ph) s) (fun t => t.on CAM_FLAGS_LINK_ERR = true ∧
        ∃ g, (t.camCtx c).opn = some g ∧ g.drop = true ∧ g.rows = []))) ∧
  (∀ (n : Fin 4) (vc : Fin 16) dt px corr ok ph c (s : State), s.on CAM_PORT_CTRL_EN n = true →
    (s.camTakers n vc).find? (fun c => camF (s.camWork c) CAM_CTX0_DT == dt.toNat) = some c →
    let u := if ok = true then (s.camSync n).eccCorr n corr else ((s.camSync n).eccCorr n corr).crcErr n c
    ((s.camCtx c).opn = none → exec (.csiLine n vc dt px corr ok ph) s = .next ((u.incSat CAM_PORT_CNT_C_MALFORMED n).camShow)) ∧
    (∀ f, (s.camCtx c).opn = some f → f.drop = true → exec (.csiLine n vc dt px corr ok ph) s = .next u.camShow)) ∧
  (∀ (n : Fin 4) (vc : Fin 16) dt px corr ok ph (s : State), s.on CAM_PORT_CTRL_EN n = true →
    (s.camTakers n vc).find? (fun c => camF (s.camWork c) CAM_CTX0_DT == dt.toNat) = none →
    let u := (s.camSync n).eccCorr n corr
    let off := (List.range 32).any (fun c => !camOn (s.camWork c) && camAt (s.camWork c) n vc && camF (s.camWork c) CAM_CTX0_DT == dt.toNat)
    (off = true → exec (.csiLine n vc dt px corr ok ph) s = .next u) ∧
    (off = false → exec (.csiLine n vc dt px corr ok ph) s = .next ((if ok = true then u else u.crcErr n 255).unsupported n))) ∧
  (∀ (n : Fin 4) (vc : Fin 16) corr same ph c f (s : State), s.on CAM_PORT_CTRL_EN n = true → s.camTakers n vc = [c] → (s.camCtx c).opn = some f →
    let stamp := if same = true then s.cam.stamp else s.cam.stamp + 1
    (f.drop = false → f.rows.length = camF f.cfg CAM_CTX1_FRAME_H → camLarge f.cfg = false →
      Completes (exec (.csiFrameEnd n vc corr same ph) s) (fun t => (t.camCtx c).opn = none ∧
        t.cam.elig = insertElig { f with endTick := s.key.tick, stamp := stamp } s.cam.elig)) ∧
    (f.drop = false → f.rows.length = camF f.cfg CAM_CTX1_FRAME_H → camLarge f.cfg = true →
      Completes (exec (.csiFrameEnd n vc corr same ph) s) (fun t => (t.camCtx c).opn = none ∧ t.cam.elig = s.cam.elig ∧
        t.cam.large = s.cam.large ++ [{ f with endTick := s.key.tick, stamp := stamp }])) ∧
    (f.drop = false → f.c = c → f.rows.length ≠ camF f.cfg CAM_CTX1_FRAME_H →
      Completes (exec (.csiFrameEnd n vc corr same ph) s) (fun t => (t.camCtx c).opn = none ∧ t.cam.elig = s.cam.elig ∧
        t.cam.large = s.cam.large ∧ t.on CAM_FLAGS_MALFORMED = true)) ∧
    (f.drop = true → Completes (exec (.csiFrameEnd n vc corr same ph) s) (fun t => (t.camCtx c).opn = none ∧ t.cam.elig = s.cam.elig ∧
        t.cam.large = s.cam.large))) ∧
  (∀ (n : Fin 4) (vc : Fin 16) corr same ph (s : State), s.on CAM_PORT_CTRL_EN n = true → s.camTakers n vc = [] → s.camIgnored n vc = false →
    exec (.csiFrameEnd n vc corr same ph) s = .next (((s.camSync n).eccCorr n corr).unsupported n)) ∧
  (∀ (n : Fin 4) vc dt bs ok ph (s : State), s.on CAM_PORT_CTRL_EN n = true → exec (.csiOtherPacket n vc dt bs (.packet 2) ok ph) s =
    .next (((s.camSync n).incSat CAM_PORT_CNT_A_ECC_UNCORR n).faultOnce CAM_FLAGS_LINK_ERR 0 9 4 3 n)) ∧
  (∀ (n : Fin 4) (vc : Fin 16) (dt : BitVec 6) bs (h : Fin 3) ok ph (s : State), s.on CAM_PORT_CTRL_EN n = true → h.val ≠ 2 →
    let u := (s.camSync n).eccCorr n (h.val == 1)
    (dt.toNat = 2 ∨ dt.toNat = 3 ∨ (8 ≤ dt.toNat ∧ dt.toNat < 0x10) → exec (.csiOtherPacket n vc dt bs (.packet h) ok ph) s = .next u) ∧
    (dt.toNat = 0x12 → s.camTakers n vc ≠ [] → exec (.csiOtherPacket n vc dt bs (.packet h) ok ph) s =
      .next (((s.camTakers n vc).foldl (fun v c => v.embedded c n bs ok ph) u).camShow)) ∧
    (dt.toNat = 0x12 → s.camTakers n vc = [] → s.camIgnored n vc = true → exec (.csiOtherPacket n vc dt bs (.packet h) ok ph) s = .next u) ∧
    (dt.toNat = 0x12 → s.camTakers n vc = [] → s.camIgnored n vc = false → exec (.csiOtherPacket n vc dt bs (.packet h) ok ph) s =
      .next ((if ok = true then u else u.crcErr n 255).unsupported n)) ∧
    (dt.toNat < 2 ∨ (4 ≤ dt.toNat ∧ dt.toNat < 8) → exec (.csiOtherPacket n vc dt bs (.packet h) ok ph) s = .next (u.unsupported n)) ∧
    (0x10 ≤ dt.toNat → dt.toNat ≠ 0x12 → exec (.csiOtherPacket n vc dt bs (.packet h) ok ph) s =
      .next ((if ok = true then u else u.crcErr n 255).unsupported n))) ∧
  (∀ (n : Fin 4) vc dt bs ok ph (s : State), s.on CAM_PORT_CTRL_EN n = true → exec (.csiOtherPacket n vc dt bs .escape ok ph) s = .next s ∧
    (∀ e, exec (.csiOtherPacket n vc dt bs (.ulps e) ok ph) s =
      .next ((s.put CAM_PORT_STAT_HS_SYNC 0 n).put CAM_PORT_STAT_ULPS (if e then s.camLanes n else 0) n))) ∧
  (∀ (n : Fin 4) (l : BitVec 4) (s : State), s.on CAM_PORT_CTRL_EN n = true → exec (.csiLaneSyncError n l) s =
    .next (((s.incSat CAM_PORT_CNT_D_SYNC_ERR n).put CAM_PORT_STAT_HS_SYNC l.toNat n).faultOnce CAM_FLAGS_LINK_ERR 0 9 5 3 n)) ∧
  (∀ (c : Fin 32) ph f s, (s.camCtx c).opn = some f → f.drop = false → f.c = c.val → Completes (exec (.frameOpenTimeout c ph) s) (fun t =>
    (∃ g, (t.camCtx c).opn = some g ∧ g.drop = true ∧ g.rows = [] ∧ g.held = 0 ∧ g.num = f.num) ∧ t.on CAM_FLAGS_MALFORMED = true ∧
    (t.camCtx c).fresh = true)) ∧
  (∀ (c : Fin 32) ph s, (∀ f, (s.camCtx c).opn = some f → f.drop = true) → exec (.frameOpenTimeout c ph) s = .next s.camShow) ∧
  (∀ ue ph s, s.cam.cur ≠ none → exec (.frameAdmit ue ph) s = .next s) ∧
  (∀ ph f rest s, s.cam.cur = none → s.cam.elig = f :: rest → exec (.frameAdmit false ph) s =
    .next (State.camShow { s with cam := { s.cam with elig := rest, cur := some { f with held := 0 } } })) ∧
  (∀ ph f rest s, s.cam.cur = none → s.cam.elig = f :: rest → exec (.frameAdmit true ph) s =
    .next (State.camShow (State.camDrop { s with cam := { s.cam with elig := rest } } f 0xB CAM_FLAGS_OVF_DROP false ph))) ∧
  (∀ ue ph s, s.cam.cur = none → s.cam.elig = [] → (s.largeReady = [] → exec (.frameAdmit ue ph) s = .next s) ∧
    (∀ c cs, s.largeReady = c :: cs → exec (.frameAdmit ue ph) s =
      .next ((s.admitLine (((c :: cs).find? (fun d => decide (s.cam.lastLarge < d))).getD c) ue ph).camShow))) ∧
  (∀ (c : Fin 32) ph f s, s.cam.cur = some f → (f.c = c.val → Completes (exec (.frameDone c ph) s) (fun t => t.cam.cur = none ∧
    (t.camCtx c).seen = true ∧ (t.camCtx c).hist = some f.num)) ∧ (f.c ≠ c.val → exec (.frameDone c ph) s = .next s)) ∧
  (∀ (c : Fin 32) ph s, s.cam.cur = none →
    (∀ f, s.cam.large.find? (fun f => f.c == c.val && f.waiting == 0) = some f → Completes (exec (.frameDone c ph) s) (fun t =>
      t.cam.large = s.cam.large.filter (fun g => g.n != f.n) ∧ (t.camCtx c).seen = true ∧ (t.camCtx c).hist = some f.num)) ∧
    (s.cam.large.find? (fun f => f.c == c.val && f.waiting == 0) = none → exec (.frameDone c ph) s = .next s)) ∧
  (∀ (o : Fin 17) s, exec (.triggerPulseEnd o) s =
    .next (State.put { s with cam := { s.cam with width := Tab.put s.cam.width o 0 } } CAM_TRIG_ACTIVE 0 o))

/-- CTX_APPLY loads a context whose frame is not open and that conflicts with none, is pending while a frame is open, and on a conflict
sets CTX_CONFLICT and stays pending (R415, R416). An armed exposure set waits for its commit, one armed from φ380 on for the next (R434);
an acknowledged exposure write counts and its set waits SENSOR_LATENCY frames, a failed one sets CCI_FAIL and records fault 00Ah, and the
next write of the port can start (R436, R438). A buffer's header is written when its pixels are, an error clearing WR_EN with WR_ERR and
fault 00Ch (R442, R443); a log record at the place WR gives, which advances, an error clearing EN and losing the records staged (R444). An
access of DEF_DATA acts on the selected entry and advances INDEX (R428). PORT_SET stops and restarts the port (R411); CONTEXT_SET answers
DENIED where its buffers lie outside the DRAM a command may name (R103), BAD_PARAM for a record R416 does not allow, and else writes and
applies the record; EXPOSURE_SET arms the set, staged with DEFER and else committed, and answers BAD_PARAM, STAGED or, while one is armed,
BUSY (R440); STATS_READ replies the statistics, or NOT_FOUND before a frame has been processed (R136, R441). Without its occasion each of
the event commands changes nothing: the model's own reading, log entry 2. -/
def Obligations.CameraControl : Prop :=
  (∀ (v : Word) s, exec (.ctxApply v) s = .next (forN 32 (fun c u => if v.toNat.testBit c then u.camApply c else u) s)) ∧
  (∀ (c : Fin 32) (s : State), (s.camCtx c).opn = none → s.camConflict c (s.camReg c) = false →
    Completes (exec (.ctxApply (1#32 <<< c.val)) s) (fun t => t.camWork c = s.camReg c ∧ t.bit CAM_CTX_PEND_PEND c = false)) ∧
  (∀ (c : Fin 32) f (s : State), (s.camCtx c).opn = some f → Completes (exec (.ctxApply (1#32 <<< c.val)) s) (fun t =>
    t.camWork c = s.camWork c ∧ t.bit CAM_CTX_PEND_PEND c = true)) ∧
  (∀ (c : Fin 32) (s : State), (s.camCtx c).opn = none → s.camConflict c (s.camReg c) = true →
    Completes (exec (.ctxApply (1#32 <<< c.val)) s) (fun t => t.camWork c = s.camWork c ∧ t.bit CAM_CTX_PEND_PEND c = true ∧
      t.on CAM_FLAGS_CTX_CONFLICT = true)) ∧
  (∀ (c : Fin 32) ph (s : State), (ph < 380 → exec (.exposureArm c ph) s = .next (s.set1 CAM_EXP_CTRL_ARM c)) ∧
    (380 ≤ ph → exec (.exposureArm c ph) s = .next { s.set1 CAM_EXP_CTRL_ARM c with cam := { s.cam with late := setBit s.cam.late c true } })) ∧
  (∀ (n : Fin 4) ok (s : State), (List.range 32).find? (fun c => (s.camCtx c).started.isSome && camF (s.camWork c) CAM_CTX0_PORT == n) = none →
    exec (.cciWriteDone n ok) s = .next s) ∧
  (∀ (n : Fin 4) c e k (s : State), (List.range 32).find? (fun c => (s.camCtx c).started.isSome && camF (s.camWork c) CAM_CTX0_PORT == n) = some c →
    (s.camCtx c).started = some (e, k) →
    exec (.cciWriteDone n true) s = .next (State.cciStart (((s.put CAM_CCI_STAT_BUSY 0 n).incWrap CAM_CCI_STAT_WRITES n).setCamCtx c
      { s.camCtx c with started := none, wait := (s.camCtx c).wait ++ [(camF (s.camWork c) CAM_CTX0_SENSOR_LATENCY, e)] }) n) ∧
    exec (.cciWriteDone n false) s = .next (State.cciStart (((((s.put CAM_CCI_STAT_BUSY 0 n).setCamCtx c { s.camCtx c with started := none }).set1
      CAM_EXP_CTRL_CCI_FAIL c).set1 CAM_FLAGS_CCI_FAIL).fault 9 0xA 2 c) n)) ∧
  (∀ (n : Fin 4) c e k (s : State), (List.range 32).find? (fun c => (s.camCtx c).started.isSome && camF (s.camWork c) CAM_CTX0_PORT == n) = some c →
    (s.camCtx c).started = some (e, k) → s.on CAM_CCI_CTRL_EN n = false → Completes (exec (.cciWriteDone n true) s) (fun t =>
      t.on CAM_CCI_STAT_BUSY n = false ∧ t.get CAM_CCI_STAT_WRITES n = (s.get CAM_CCI_STAT_WRITES n + 1) % 2 ^ 16 ∧
      (t.camCtx c).started = none ∧ (t.camCtx c).wait = (s.camCtx c).wait ++ [(camF (s.camWork c) CAM_CTX0_SENSOR_LATENCY, e)])) ∧
  (∀ (c : Fin 32) (s : State), (s.camCtx c).headers = [] → exec (.bufferHeaderWrite c) s = .next s) ∧
  (∀ (c : Fin 32) a b rest r (s u : State), (s.camCtx c).headers = (a, b) :: rest →
    (s.setCamCtx c { s.camCtx c with headers := rest }).dramWrite 4 a b = (r, u) →
    (r = .ok → exec (.bufferHeaderWrite c) s = .next u) ∧
    (r ≠ .ok → exec (.bufferHeaderWrite c) s = .next (((u.setCamCtx c { u.camCtx c with
      work := (u.camWork c).set 0 (wset ((u.camWork c).getD 0 0) 3 3 0) }).set1 CAM_FLAGS_WR_ERR).fault 9 0xC 2 c))) ∧
  (∀ s, s.cam.staged = [] → exec .dlogRecordWrite s = .next s) ∧
  (∀ b rest r s u, s.cam.staged = b :: rest →
    State.dramWrite { s with cam := { s.cam with staged := rest } } 4 (s.get CAM_DLOG_BASE_LO_BASE_LO * 4096 + s.get CAM_DLOG_BASE_HI_BASE_HI * 2 ^ 32 +
      64 * (s.get CAM_DLOG_WR_WR % (2 ^ (12 + s.get CAM_DLOG_SIZE_SIZE) / 64))) b = (r, u) →
    (r = .ok → exec .dlogRecordWrite s = .next (u.incWrap CAM_DLOG_WR_WR)) ∧
    (r ≠ .ok → exec .dlogRecordWrite s = .next (((u.put CAM_DLOG_CTRL_EN 0).dlogLose ((b.getD 4 0).toNat % 32)).dlogLoseAll))) ∧
  (∀ w s, Completes (exec (.defDataAccess (some w)) s) (fun t => Tab.get 0 t.cam.defs (s.get CAM_DEF_SEL_INDEX) = w &&& 0x1FFF0FFF ∧
    t.get CAM_DEF_SEL_INDEX = (s.get CAM_DEF_SEL_INDEX + 1) % 16384 ∧ t.rd 0x20090044 = Tab.get 0 t.cam.defs (t.get CAM_DEF_SEL_INDEX))) ∧
  (∀ s, Completes (exec (.defDataAccess none) s) (fun t => t.cam.defs = s.cam.defs ∧
    t.get CAM_DEF_SEL_INDEX = (s.get CAM_DEF_SEL_INDEX + 1) % 16384 ∧ t.rd 0x20090044 = Tab.get 0 t.cam.defs (t.get CAM_DEF_SEL_INDEX))) ∧
  Answers .camPortSet 0x1C00 (fun _ q => [(0, decide (q.w 0 < 4)), (1, decide (1 ≤ q.w 1 ∧ q.w 1 ≤ 4)), (2, decide (80 ≤ q.w 2 ∧ q.w 2 ≤ 2500))])
    (fun _ _ => True)
    (fun s q => (((s.camPortOff (q.w 0)).put CAM_PORT_CTRL_LANES (q.w 1 - 1) (q.w 0)).put CAM_PORT_CTRL_RATE (q.w 2) (q.w 0)).set1 CAM_PORT_CTRL_EN (q.w 0))
    (fun _ _ => okReply) ∧
  (∀ (s : State) q, s.serving 0x1C01 q →
    (s.contextDest q = false → exec .camContextSet s = .next (s.finish q.m (failReply stDenied))) ∧
    (s.contextDest q = true → s.contextBad q = none → exec .camContextSet s = .next (((forN 15 (fun w s => s.wr
      (0x20091000 + 64 * q.w 0 + 4 * w) (word (q.w (w + 1)))) s).camApply (q.w 0)).finish q.m okReply)) ∧
    (∀ i, s.contextDest q = true → s.contextBad q = some i → exec .camContextSet s = .next (s.finish q.m (badParam i)))) ∧
  (∀ (s : State) q, s.serving 0x1C02 q →
    let bad := firstBad [(0, decide (q.w 0 < 32)), (1, decide (q.w 1 < 65536)), (2, decide (10 ≤ q.w 2)), (3, decide (1 ≤ q.w 3 ∧ q.w 3 < 65536))]
    let v := ((((s.put CAM_EXP_EXPOSURE (q.w 2) (q.w 0)).put CAM_EXP_ID_SETTINGS_ID (q.w 1) (q.w 0)).put CAM_EXP_ID_GAIN (q.w 3) (q.w 0)).set1
      CAM_EXP_CTRL_ARM (q.w 0)).putP AFE_XSYNC_SETTINGS_ID (q.w 1) (camF (s.camWork (q.w 0)) CAM_CTX9_PIER)
    (∀ i, bad = some i → exec .camExposureSet s = .next (s.finish q.m (badParam i))) ∧
    (bad = none → q.defer = false → s.mbx.staged &&& 0x40 ≠ 0 → exec .camExposureSet s = .next (s.finish q.m (failReply stStaged))) ∧
    (bad = none → q.defer = true ∨ s.mbx.staged &&& 0x40 = 0 → s.on CAM_EXP_CTRL_ARM (q.w 0) = true →
      exec .camExposureSet s = .next (s.finish q.m (failReply stBusy))) ∧
    (bad = none → q.defer = false → s.mbx.staged &&& 0x40 = 0 → s.on CAM_EXP_CTRL_ARM (q.w 0) = false →
      exec .camExposureSet s = .next ((v.requestCommit 0x40).finish q.m (okReply [(s.key.tick + 1) % 2 ^ 32, (s.key.tick + 1) / 2 ^ 32]))) ∧
    (bad = none → q.defer = true → s.on CAM_EXP_CTRL_ARM (q.w 0) = false → exec .camExposureSet s = .next (State.finish
      { v with mbx := { v.mbx with staged := v.mbx.staged ||| 0x40 } } q.m { okReply [0, 0] with deferred := true }))) ∧
  Answers .camStatsRead 0x1C03 (fun _ q => [(0, decide (q.w 0 < 32))]) (fun s q => (s.camCtx (q.w 0)).seen = true) (fun s _ => s)
    (fun s q => okReply ((List.range 32).map (fun i => s.get CAM_STATS_WORD (q.w 0) i))) ∧
  (∀ (s : State) q, s.serving 0x1C03 q → q.w 0 < 32 → (s.camCtx (q.w 0)).seen = false → exec .camStatsRead s = .next (s.finish q.m (failReply stNotFound)))

/-- Each operation of AXS_OP waits in its axis's queue for the next update, the moves with the registers' values, a move in progress being
replaced (R451, R452, R454, R485, R487). A write of ACC is the register's new value, queued as well in a motion; 0 is refused (R455, R490).
A coarse step moves POS by one towards the profile (R457); a fine step moves f by one, against DIR_INV, and leaves one less (R460); with none
owed neither changes anything. A PWM period has the high time that the sine table, the current level and PWM_PERIOD give, none in DISABLED
(R461, R462). An external step moves the position; it is dropped in FAULT, dropped with fault 002h at an active limit in its direction and
ignored without SRC or outside EXTERNAL (R458, R475, R477). A quadrature step of two is illegal, counted (R465); one faster than MIN_EDGE is
counted (R466); a step of one counts ENC (R464). The index pulse of the polarity latches ENC (R468). An SSI read starts after SSI_PERIOD
updates (R469); a frame without idle is discarded, the third one running halting the axis with fault 008h; the first good frame is the
position; a later one counts the difference, or is discarded beyond SSI_MAX_DELTA (R470, R471). SPEED times out to 0 (R472). A switch latches
at its first transition and acts when qualified, at once with DEBOUNCE = 0 (R476). Arming a comparator sets its value and, where the motion
leads away from it, COMPARE_BEHIND (R483, R484). An update takes the waiting operations (R451). The AXIS commands do as R137 and R487 say,
with their refusals in R111's order: BUSY of CONFIG in motion; NO_SPACE, BAD_STATE, BUSY in homing and HW_FAULT at a limit of MOVE. Where an event
has no occasion (a switch event for no change, an SSI frame with no read) nothing changes: the model's own reading, log entry 2. -/
def Obligations.AxisCommands : Prop :=
  (∀ (k : Fin 6) (s : State), exec (.axsMovePosition k) s = .next ((s.axReplaced k).axQueue k
      { op := 1, tgt := s.getS AXS_TGT_TGT k, spd := s.get AXS_SPD_SPD k, acc := s.get AXS_ACC_ACC k, jrk := s.get AXS_JRK_JRK k }) ∧
    exec (.axsMoveVelocity k) s = .next ((s.axReplaced k).axQueue k
      { op := 2, tgt := s.getS AXS_TGT_TGT k, spd := s.get AXS_SPD_SPD k, acc := s.get AXS_ACC_ACC k, jrk := s.get AXS_JRK_JRK k })) ∧
  (∀ (k : Fin 6) (s : State), exec (.axsStop k) s = .next (s.axQueue k { op := 3 }) ∧ exec (.axsHomeSwitch k) s = .next (s.axQueue k { op := 4 }) ∧
    exec (.axsHomeStall k) s = .next (s.axQueue k { op := 5 }) ∧ exec (.axsClear k) s = .next (s.axQueue k { op := 6 })) ∧
  (∀ (k : Fin 6) (v : Word) (s : State), exec (.accWrite k v) s = .next (if v = 0#32 then s.reservedFault 10 k
    else if s.axState k = axMoving ∨ s.axState k = axStopping then (s.put AXS_ACC_ACC v.toNat k).axQueue k { op := 7, acc := v.toNat }
    else s.put AXS_ACC_ACC v.toNat k)) ∧
  (∀ (k : Fin 6) cyc (s : State), s.stepsLeft k = 0 → exec (.axisCoarseStep k cyc) s = .next s) ∧
  (∀ (k : Fin 6) cyc (s : State), 0 < s.stepsLeft k → Completes (exec (.axisCoarseStep k cyc) s) (fun t =>
    t.get AXS_POS_POS k = (s.get AXS_POS_POS k + 1) % 2 ^ 32 ∧ (t.axis k).ext = (s.axis k).ext + 1 ∧ (t.axis k).p = (s.axis k).p)) ∧
  (∀ (k : Fin 6) cyc (s : State), s.stepsLeft k < 0 → Completes (exec (.axisCoarseStep k cyc) s) (fun t =>
    t.get AXS_POS_POS k = (s.get AXS_POS_POS k + (2 ^ 32 - 1)) % 2 ^ 32 ∧ (t.axis k).ext = (s.axis k).ext - 1 ∧ (t.axis k).p = (s.axis k).p)) ∧
  (∀ (k : Fin 6) (s : State), let n : Int := if s.on AXS_CFG0_DIR_INV k then -1 else 1
    ((s.axis k).owed = 0 → exec (.axisFineStep k) s = .next s) ∧
    (0 < (s.axis k).owed → exec (.axisFineStep k) s = .next (s.setAxis k { s.axis k with
      f := ((((s.axis k).f : Int) + n) % (2 ^ 32 : Nat)).toNat, owed := (s.axis k).owed - 1 })) ∧
    ((s.axis k).owed < 0 → exec (.axisFineStep k) s = .next (s.setAxis k { s.axis k with
      f := ((((s.axis k).f : Int) - n) % (2 ^ 32 : Nat)).toNat, owed := (s.axis k).owed + 1 }))) ∧
  (∀ (k : Fin 6) b (s : State), s.axState k = axDisabled → Completes (exec (.axisPwmPeriodStart k b) s) (fun t =>
    Tab.get 0 (t.axis k).high (if b then 1 else 0) = 0 ∧ t.regs = s.regs)) ∧
  (∀ (k : Fin 6) b (s : State), s.axState k ≠ axDisabled → Completes (exec (.axisPwmPeriodStart k b) s) (fun t =>
    Tab.get 0 (t.axis k).high (if b then 1 else 0) = min (s.getS AXS_SINE_S (((s.axis k).f + (if b then 256 else 0)) % 1024)).natAbs 32767 *
      [0, s.get AXS_CFG5_I_RUN k, s.get AXS_CFG5_I_HOLD k, s.get AXS_CFG5_I_HOME k].getD (s.get AXS_STAT_CUR k) 0 *
      s.get AXS_CFG6_PWM_PERIOD k / 2 ^ 23 ∧
    ((t.axis k).sgn.testBit (if b then 1 else 0) = true ↔ s.getS AXS_SINE_S (((s.axis k).f + (if b then 256 else 0)) % 1024) < 0) ∧ t.regs = s.regs)) ∧
  (∀ (k : Fin 6) cyc dir (s : State), s.on AXS_CFG0_SRC k = false ∨ (s.axState k ≠ axFault ∧ (s.axState k ≠ axExternal ∨ s.axesBlocked = true)) →
    exec (.extStepEdge k dir cyc) s = .next s) ∧
  (∀ (k : Fin 6) cyc dir (s : State), s.on AXS_CFG0_SRC k = true → s.axState k = axFault → exec (.extStepEdge k dir cyc) s =
    .next (s.incSat AXS_CNT_B_STEP_DROP k)) ∧
  (∀ (k : Fin 6) cyc dir (s : State), s.on AXS_CFG0_SRC k = true → s.axState k = axExternal → s.axesBlocked = false →
    s.on (if dir then AXS_STAT_LIMP_ACT else AXS_STAT_LIMN_ACT) k = true →
    exec (.extStepEdge k dir cyc) s = .next (((s.incSat AXS_CNT_B_STEP_DROP k).set1 AXS_FLAGS_LIMIT k).fault 10 0xA 2 k)) ∧
  (∀ (k : Fin 6) cyc dir (s : State), s.on AXS_CFG0_SRC k = true → s.axState k = axExternal → s.axesBlocked = false →
    s.on (if dir then AXS_STAT_LIMP_ACT else AXS_STAT_LIMN_ACT) k = false →
    Completes (exec (.extStepEdge k dir cyc) s) (fun t => t.get AXS_POS_POS k = (s.get AXS_POS_POS k + (if dir then 1 else 2 ^ 32 - 1)) % 2 ^ 32 ∧
      (t.axis k).ext = (s.axis k).ext + (if dir then 1 else -1) ∧ (t.axis k).still = 0)) ∧
  (∀ (k : Fin 6) ab cyc (s : State), s.get AXS_CFG0_ENC k ≠ 1 ∨ quadPos ab.toNat = quadPos (s.axis k).ab → exec (.quadTransition k ab cyc) s =
    .next (s.setAxis k { s.axis k with ab := ab.toNat, since := (s.axis k).since + cyc })) ∧
  (∀ (k : Fin 6) ab cyc (s : State), s.get AXS_CFG0_ENC k = 1 → (quadPos ab.toNat + 4 - quadPos (s.axis k).ab) % 4 = 2 → exec (.quadTransition k ab cyc) s =
    .next (((s.setAxis k { s.axis k with ab := ab.toNat, since := (s.axis k).since + cyc }).incSat AXS_CNT_A_ILLEGAL k).faultOnce AXS_FLAGS_ILLEGAL k 10 5 3 k)) ∧
  (∀ (k : Fin 6) ab cyc (s : State), s.get AXS_CFG0_ENC k = 1 →
    (let n := (quadPos ab.toNat + 4 - quadPos (s.axis k).ab) % 4
    n = 1 ∨ n = 3) → Completes (exec (.quadTransition k ab cyc) s) (fun t => (t.axis k).ab = ab.toNat ∧
      t.get AXS_ENC_ENC k = (s.get AXS_ENC_ENC k + (if ((quadPos ab.toNat + 4 - quadPos (s.axis k).ab) % 4 == 1) != s.on AXS_CFG0_ENC_INV k then 1 else 2 ^ 32 - 1)) % 2 ^ 32 ∧
      (cyc < (s.get AXS_CFG9_MIN_EDGE k + 1) * 4 → t.on AXS_FLAGS_EDGE_FAST k = true ∧
        t.get AXS_CNT_A_EDGE_FAST k = min (s.get AXS_CNT_A_EDGE_FAST k + 1) 65535))) ∧
  (∀ (k : Fin 6) b (s : State), s.get AXS_CFG0_ENC k ≠ 1 ∨ b ≠ s.on AXS_CFG0_Z_POL k → exec (.indexPulse k b) s = .next s) ∧
  (∀ (k : Fin 6) b (s : State), s.get AXS_CFG0_ENC k = 1 → s.on AXS_CFG0_Z_POL k = b → Completes (exec (.indexPulse k b) s) (fun t =>
    t.get AXS_ZLAT_ZLAT k = s.get AXS_ENC_ENC k ∧ t.on AXS_STAT_ZSEEN k = true ∧
    (t.axis k).edge = if (s.axis k).hom = 3 ∧ (s.axis k).edge = none then some (s.get AXS_POS_POS k, s.get AXS_ENC_ENC k) else (s.axis k).edge)) ∧
  (∀ (k : Fin 6) (s : State), exec (.ssiReadStart k) s = .next (if 2 ≤ s.get AXS_CFG0_ENC k ∧ s.axState k ≠ axDisabled ∧ (s.axis k).ssiBusy = false ∧
    s.get AXS_CFG10_SSI_PERIOD k ≤ (s.axis k).ssiCnt then s.setAxis k { s.axis k with ssiBusy := true, ssiCnt := 0 } else s)) ∧
  (∀ (k : Fin 6) i bits cyc (s : State), (s.axis k).ssiBusy = false → exec (.ssiFrameDone k i bits cyc) s = .next s) ∧
  (∀ (k : Fin 6) bits cyc (s : State), (s.axis k).ssiBusy = true → (s.axis k).ssi = none →
    let v := if s.get AXS_CFG0_ENC k = 3 then ofGray (bits.toNat % 2 ^ s.get AXS_CFG10_SSI_BITS k) else bits.toNat % 2 ^ s.get AXS_CFG10_SSI_BITS k
    exec (.ssiFrameDone k true bits cyc) s = .next (((s.setAxis k { s.axis k with
      ssiBusy := false, since := (s.axis k).since + cyc, ssi := some v, ssiBad := 0 }).put AXS_ENC_ENC v k).put AXS_ENC_H_ENC_H v k)) ∧
  (∀ (k : Fin 6) bits cyc u (s : State), (s.axis k).ssiBusy = true → (s.axis k).ssi = some u →
    let n := s.get AXS_CFG10_SSI_BITS k
    let v := if s.get AXS_CFG0_ENC k = 3 then ofGray (bits.toNat % 2 ^ n) else bits.toNat % 2 ^ n
    let d := toSigned n (v + 2 ^ n - u)
    let e : Int := if s.on AXS_CFG0_ENC_INV k then -d else d
    let w := s.setAxis k { s.axis k with ssiBusy := false, since := (s.axis k).since + cyc }
    (s.get AXS_CFG12_SSI_MAX_DELTA k < d.natAbs → exec (.ssiFrameDone k true bits cyc) s = .next (w.ssiDiscard k)) ∧
    (d.natAbs ≤ s.get AXS_CFG12_SSI_MAX_DELTA k → exec (.ssiFrameDone k true bits cyc) s =
      .next (((w.setAxis k { w.axis k with ssi := some v, ssiBad := 0 }).put AXS_ENC_ENC ((s.get AXS_ENC_ENC k + e) % (2 ^ 32 : Nat)).toNat k).encCount k e))) ∧
  (∀ (k : Fin 6) bits cyc (s : State), (s.axis k).ssiBusy = true → (s.axis k).ssiBad ≠ 2 → Completes (exec (.ssiFrameDone k false bits cyc) s) (fun t =>
    (t.axis k).ssiBusy = false ∧ (t.axis k).ssiBad = (s.axis k).ssiBad + 1 ∧ t.on AXS_FLAGS_SSI_ERR k = true ∧ t.get AXS_ENC_ENC k = s.get AXS_ENC_ENC k)) ∧
  (∀ (k : Fin 6) bits cyc (s : State), (s.axis k).ssiBusy = true → (s.axis k).ssiBad = 2 → Completes (exec (.ssiFrameDone k false bits cyc) s) (fun t =>
    (t.axis k).ssiBusy = false ∧ t.on AXS_FLAGS_SSI_ERR k = true ∧ t.axState k = axFault ∧ t.on AXS_STAT_REFERENCED k = false ∧ (t.axis k).v = 0 ∧
    (10 * 1024 + 8, k.val) ∈ t.causes)) ∧
  (∀ (k : Fin 6) (s : State), exec (.speedTimeout k) s = .next (s.put AXS_SPEED_SPEED 0 k)) ∧
  (∀ (k : Fin 6) (sw : Fin 3) l (s : State),
    let t := if (Tab.find (s.axis k).sw sw).isSome then s else
      s.setAxis k { s.axis k with sw := Tab.put (s.axis k).sw sw (s.get AXS_POS_POS k, s.get AXS_ENC_ENC k) }
    (s.get AXS_CFG18_DEBOUNCE k ≠ 0 → exec (.switchTransition k sw l) s = .next t) ∧
    (s.get AXS_CFG18_DEBOUNCE k = 0 → exec (.switchTransition k sw l) s = .next (t.qualify k sw l))) ∧
  (∀ (k : Fin 6) (sw : Fin 3) l (s : State), (l == s.on (swField sw).2 k) = s.on (swField sw).1 k → exec (.switchQualified k sw l) s =
    .next (s.setAxis k { s.axis k with sw := Tab.del (s.axis k).sw sw })) ∧
  (∀ (k : Fin 6) (sw : Fin 3) l p e (s : State), (l == s.on (swField sw).2 k) ≠ s.on (swField sw).1 k → Tab.find (s.axis k).sw sw = some (p, e) →
    Completes (exec (.switchQualified k sw l) s) (fun t => t.on (swField sw).1 k = !s.on (swField sw).1 k ∧ t.get AXS_LATCH_LATCH k = p % 2 ^ 32)) ∧
  (∀ (k : Fin 6) (v : Word) (s : State), Completes (exec (.compareArm k v) s) (fun t => t.get AXS_CMP_CMP k = v.toNat ∧ t.on AXS_CMP_CTRL_ARMED k = true ∧
    (t.axis k).s0 = (s.put AXS_CMP_CMP v.toNat k).cmpSign k ∧
    (t.on AXS_CMP_CTRL_COMPARE_BEHIND k = true ↔ s.on AXS_CMP_CTRL_COMPARE_BEHIND k = true ∨
      let m := if s.on AXS_CMP_CTRL_CMP_SRC k then (s.getS AXS_SPEED_SPEED k).sign else (s.axis k).v.sign
      m ≠ 0 ∧ (t.axis k).s0 = m))) ∧
  (∀ (s : State), Completes (exec .axisUpdate s) (fun t => t.axesHalt = false ∧ ∀ k, k < 6 → (t.axis k).ops = [])) ∧
  Answers .axisConfig 0x2000 (fun _ q => (((0, decide (q.w 0 < 6)) :: (List.range 22).map (fun w => (w + 1, recordOk (0x200A0100 + 0x100 * (q.w 0 % 6) + 4 * w) (word (q.w (w + 1))) &&
      !axReserved (fun w => q.w (w + 1)) w))) ++ [(23, q.w 23 == 0), (24, q.w 24 == 0)]))
    (fun s q => s.axState (q.w 0) = axDisabled ∨ s.axState (q.w 0) = axIdle ∨ s.axState (q.w 0) = axExternal ∨ s.axState (q.w 0) = axFault)
    (fun s q => (forN 21 (fun w s => s.axWord (q.w 0) (w + 1) (word (q.w (w + 2)))) s).axWord (q.w 0) 0 (word (q.w 1))) (fun _ _ => okReply) ∧
  (∀ (s : State) q, s.serving 0x2000 q → firstBad (((0, decide (q.w 0 < 6)) :: (List.range 22).map (fun w => (w + 1, recordOk (0x200A0100 + 0x100 * (q.w 0 % 6) + 4 * w) (word (q.w (w + 1))) &&
      !axReserved (fun w => q.w (w + 1)) w))) ++ [(23, q.w 23 == 0), (24, q.w 24 == 0)]) = none →
    s.axState (q.w 0) = axMoving ∨ s.axState (q.w 0) = axStopping ∨ s.axState (q.w 0) = axHoming →
    exec .axisConfig s = .next (s.finish q.m (failReply stBusy))) ∧
  (∀ (s : State) q, s.serving 0x2001 q →
    let k := q.w 0
    let bad := firstBad [(0, decide (q.w 0 < 6)), (1, decide (q.w 1 < 2)), (2, if q.w 1 = 1 then decide ((q.sw 2).natAbs ≤ s.get AXS_CFG1_V_MAX (q.w 0))
        else !(s.on AXS_CFG0_SOFT_EN (q.w 0) && q.w 1 == 0) || decide (s.getS AXS_CFG19_SOFT_MIN (q.w 0) ≤ q.sw 2 ∧ q.sw 2 ≤ s.getS AXS_CFG20_SOFT_MAX (q.w 0))),
      (3, decide (1 ≤ q.w 3 ∧ q.w 3 ≤ s.get AXS_CFG1_V_MAX (q.w 0))), (4, decide (1 ≤ q.w 4 ∧ q.w 4 ≤ s.get AXS_CFG2_A_MAX (q.w 0))),
      (5, decide (q.w 5 ≤ s.get AXS_CFG3_J_MAX (q.w 0)))]
    let able := ¬(s.axState k = axDisabled ∨ s.axState k = axExternal ∨ s.axState k = axFault ∨ s.axesBlocked = true)
    let first := (if (s.axis (q.w 0)).v ≠ 0 then (s.axis (q.w 0)).v.sign else (if q.w 1 = 0 then toSigned 32 (q.w 2 + 2 ^ 32 - s.get AXS_POS_POS (q.w 0)) else q.sw 2).sign)
    let u := (((s.put AXS_TGT_TGT (q.w 2) k).put AXS_SPD_SPD (q.w 3) k).put AXS_ACC_ACC (q.w 4) k).put AXS_JRK_JRK (q.w 5) k
    let v := (u.endAxis k stAborted).startAction q k
    (∀ i, bad = some i → exec .axisMove s = .next (s.finish q.m (badParam i))) ∧
    (bad = none → s.noPlace = true → exec .axisMove s = .next (s.finish q.m (failReply stNoSpace))) ∧
    (bad = none → s.noPlace = false → ¬able → exec .axisMove s = .next (s.finish q.m (failReply stBadState))) ∧
    (bad = none → s.noPlace = false → able → s.axSoon k = axHoming → exec .axisMove s = .next (s.finish q.m (failReply stBusy))) ∧
    (bad = none → s.noPlace = false → able → s.axSoon k ≠ axHoming → s.limAt k first = true →
      exec .axisMove s = .next (s.finish q.m (failReply stHwFault 0x2802))) ∧
    (bad = none → s.noPlace = false → able → s.axSoon k ≠ axHoming → s.limAt k first = false →
      exec .axisMove s = .next ((v.axQueue k (v.axRegs k (q.w 1 + 1))).finish q.m okReply))) ∧
  Answers .axisHome 0x2002 (fun s q => [(0, decide (q.w 0 < 6)), (1, decide (q.w 1 < 2 ∧ (q.w 1 = 1 → s.get AXS_CFG0_ENC (q.w 0) ≠ 0 ∧
      s.get AXS_CFG8_DEV_WIN (q.w 0) ≠ 0 ∧ s.get AXS_CFG16_HOME_BACKOFF (q.w 0) ≠ 0)))])
    (fun s q => s.noPlace = false ∧ s.axSoon (q.w 0) = axIdle ∧ s.axesBlocked = false)
    (fun s q => (s.startAction q (q.w 0)).axQueue (q.w 0) { op := q.w 1 + 4 }) (fun _ _ => okReply) ∧
  (∀ (s : State) q, s.serving 0x2002 q → firstBad [(0, decide (q.w 0 < 6)), (1, decide (q.w 1 < 2 ∧ (q.w 1 = 1 → s.get AXS_CFG0_ENC (q.w 0) ≠ 0 ∧
      s.get AXS_CFG8_DEV_WIN (q.w 0) ≠ 0 ∧ s.get AXS_CFG16_HOME_BACKOFF (q.w 0) ≠ 0)))] = none →
    (s.noPlace = true → exec .axisHome s = .next (s.finish q.m (failReply stNoSpace))) ∧
    (s.noPlace = false → s.axSoon (q.w 0) ≠ axIdle ∨ s.axesBlocked = true → exec .axisHome s = .next (s.finish q.m (failReply stBadState)))) ∧
  Answers .axisStop 0x2003 (fun _ q => [(0, decide (0 < q.w 0 ∧ q.w 0 < 64))]) (fun _ _ => True)
    (fun s q => forN 6 (fun k s => if !(q.w 0).testBit k then s else if s.axState k = axFault then s.axQueue k { op := 6 }
      else if s.axState k = axMoving ∨ s.axState k = axHoming then s.axQueue k { op := 3 } else s) s) (fun _ _ => okReply) ∧
  Answers .axisStatus 0x2004 (fun _ q => [(0, decide (q.w 0 < 6))]) (fun _ _ => True) (fun s _ => s)
    (fun s q => okReply [ofSigned 64 (s.axis (q.w 0)).ext % 2 ^ 32, ofSigned 64 (s.axis (q.w 0)).ext / 2 ^ 32, s.get AXS_VEL_VEL (q.w 0),
      (s.rd (AXS_STAT_STATE.addr (q.w 0))).toNat])

/-- DRAM training runs once, step by step, and ends with READY, no content and the size that CFG gives, or with the failed step (R499–R501).
With nothing queued a DRAM_REQUEST changes nothing but the clocks since the last activations; a request outside the fitted size is a decode
error; one of a lost channel a target error; a read that is served changes no byte of DRAM, a write writes its bytes and nothing else, at its
acceptance (R40, R515, R519); of two requests ready on a channel a stroke fetch goes first, then one of port 0, then the shared port with the
greater deficit counter (R51, R518; how the counters grow is log entry 27). A refresh is due on a rank that is ready, and is postponed while
the rank is busy and POSTPONE_MAX is not reached (R503); the row tables are emptied (R506); a period of evictions ends, each throttled
requester a period nearer its release (R508). A parity alert begins a replay, whose release counts the alert and the replay; after three
attempts, or an uncorrectable error of the retry buffer, the channel is lost, class F0 (R510–R512). A scrub read moves the position on, and
past the end to 0, a pass more (R516); clearing zeroes the counts (R517); ZQ calibration changes nothing, DQS tracking the delays it reports
(R502); an idle rank enters power-down, its owed refreshes issued (R503, R519). Without its occasion an event changes nothing: the model's
own reading, log entry 2. -/
def Obligations.Memory : Prop :=
  (∀ (s : State), s.on DMC_STATUS_READY = false → s.on DMC_STATUS_TRAINING = false → exec .dramTrainStart s =
    .next (((s.set1 DMC_STATUS_TRAINING).put DMC_STATUS_STEP 1).put DMC_STATUS_LANE 15 |>.put DMC_STATUS_CH 0)) ∧
  (∀ (s : State), s.on DMC_STATUS_READY = true ∨ s.on DMC_STATUS_TRAINING = true → exec .dramTrainStart s = .next s) ∧
  (∀ e v (s : State), s.on DMC_STATUS_TRAINING = false → exec (.dramTrainDone e v) s = .next s) ∧
  (∀ (n : Fin 10) v (s : State), s.on DMC_STATUS_TRAINING = true → exec (.dramTrainDone (.step n) v) s =
    .next (if s.get DMC_STATUS_STEP < n.val then s.put DMC_STATUS_STEP n else s)) ∧
  (∀ v (s : State), s.on DMC_STATUS_TRAINING = true → Completes (exec (.dramTrainDone .done v) s) (fun t => t.on DMC_STATUS_READY = true ∧
    t.on DMC_STATUS_TRAINING = false ∧ t.dram = [] ∧ t.get DMC_STATUS_SIZE = 16 * 2 ^ (s.get DMC_CFG_DENSITY + s.get DMC_CFG_RANKS))) ∧
  (∀ (st : Fin 10) (l : Fin 9) (c : Fin 2) v (s : State), s.on DMC_STATUS_TRAINING = true → Completes (exec (.dramTrainDone (.fail st l c) v) s)
    (fun t => t.on DMC_STATUS_TRAINING = false ∧ t.get DMC_STATUS_STEP = st ∧ t.get DMC_STATUS_LANE = l ∧ t.get DMC_STATUS_CH = c ∧
      t.on DMC_FLAGS_TRAIN_FAIL = true ∧ t.get DMC_FAULT_LAST_CODE = 7)) ∧
  (∀ clk (s : State), s.dmc.queue = [] → exec (.dramRequest [] [] [] [] [] [] { clk := clk }) s = .next { s with dmc := { s.dmc with
      gap := (s.dmc.gap.map (fun e => (e.1, e.2 - clk))).filter (fun e => e.2 != 0) } }) ∧
  (∀ (d : DReq) p0 p1 p2 p3 p4 p5 clk (s : State), p0 ++ p1 ++ p2 ++ p3 ++ p4 ++ p5 = [d] → s.dmc.queue = [] → s.dramFitted d.a d.n = true → s.dramDead d.a d.n = false → d.bs = none →
    Completes (exec (.dramRequest p0 p1 p2 p3 p4 p5 { clk := clk }) s) (fun t => t.dram = s.dram)) ∧
  (∀ (d : DReq) b p0 p1 p2 p3 p4 p5 clk (s : State), p0 ++ p1 ++ p2 ++ p3 ++ p4 ++ p5 = [d] → s.dmc.queue = [] → s.dramFitted d.a d.n = true → s.dramDead d.a d.n = false → d.bs = some b → b.length = d.n →
    Completes (exec (.dramRequest p0 p1 p2 p3 p4 p5 { clk := clk }) s) (fun t => t.dram = Memory.writeBytes 0 s.dram d.a b)) ∧
  (∀ (d : DReq) p0 p1 p2 p3 p4 p5 clk (s : State), p0 ++ p1 ++ p2 ++ p3 ++ p4 ++ p5 = [d] → s.dmc.queue = [] → s.dramFitted d.a d.n = true → s.dramDead d.a d.n = false → d.act = false →
    s.dmc.alert.testBit (dramChannel d.a) = false → Completes (exec (.dramRequest p0 p1 p2 p3 p4 p5 { clk := clk }) s) (fun t => t.dmc.queue = [])) ∧
  (∀ (d : DReq) p0 p1 p2 p3 p4 p5 clk (s : State), p0 ++ p1 ++ p2 ++ p3 ++ p4 ++ p5 = [d] → (∀ b, d.bs = some b → b.length = d.n) →
    let u : State := { s with dmc := { s.dmc with gap := (s.dmc.gap.map (fun e => (e.1, e.2 - clk))).filter (fun e => e.2 != 0) } }
    s.dmc.queue = [] →
    (s.dramFitted d.a d.n = false → exec (.dramRequest p0 p1 p2 p3 p4 p5 { clk := clk }) s = .next (u.busErr .decode d.req.toNat d.bs.isSome d.a)) ∧
    (s.dramFitted d.a d.n = true → s.dramDead d.a d.n = true → exec (.dramRequest p0 p1 p2 p3 p4 p5 { clk := clk }) s = .next (u.busErr .target d.req.toNat d.bs.isSome d.a))) ∧
  (∀ (a b : DReq) ta tb clk (s : State), s.dmc.queue = [(a, ta), (b, tb)] → dramChannel a.a = dramChannel b.a → a.act = false → b.act = false →
    s.dmc.alert.testBit (dramChannel b.a) = false →
    (a.req ≠ 2 ∧ b.req = 2) ∨ (a.req ≠ 2 ∧ portOf a.req.toNat ≠ 0 ∧ portOf b.req.toNat = 0) ∨
      (portOf a.req.toNat ≠ 0 ∧ portOf b.req.toNat ≠ 0 ∧ Tab.get 0 s.dmc.deficit (portOf a.req.toNat) < Tab.get 0 s.dmc.deficit (portOf b.req.toNat)) →
    Completes (exec (.dramRequest [] [] [] [] [] [] { clk := clk }) s) (fun t => t.dmc.queue = [(a, ta)])) ∧
  (∀ (c r : Fin 2) b (s : State), exec (.refreshDue c r b) s = .next (if s.on DMC_STATUS_READY = false ∨ s.on DMC_PAR_FATAL c = true then s
    else { s with dmc := { s.dmc with
      owed := Tab.put s.dmc.owed (c.val * 2 + r.val) (if (b = true ∨ s.dmc.queue.any (fun e => s.reqRank e.1 == c.val * 2 + r.val) = true) ∧
          Tab.get 0 s.dmc.owed (c.val * 2 + r.val) + 1 < s.get DMC_REF_CTRL_POSTPONE_MAX then Tab.get 0 s.dmc.owed (c.val * 2 + r.val) + 1 else 0) } })) ∧
  (∀ s, exec .rhTableReset s = .next { s with dmc := { s.dmc with rows := [] } }) ∧
  (∀ (s : State), Completes (exec .evictPeriod s) (fun t => t.dmc.evict = [] ∧
    t.dmc.thr = (s.dmc.thr.map (fun c => (c.1, c.2 - 1))).filter (fun c => c.2 != 0) ∧
    (t.on DMC_THROTTLE_LAST_ACTIVE = true ↔ s.on DMC_THROTTLE_LAST_VALID = true ∧ (Tab.find t.dmc.thr (s.get DMC_THROTTLE_LAST_REQ)).isSome = true))) ∧
  (∀ (c : Fin 2) (s : State), s.on DMC_CFG_CA_PAR_EN = false ∨ s.on DMC_PAR_FATAL c = true ∨ s.on DMC_STATUS_READY = false →
    exec (.caParityAlert c) s = .next s) ∧
  (∀ (c : Fin 2) n k (s : State), s.on DMC_CFG_CA_PAR_EN = true → s.on DMC_PAR_FATAL c = false → s.on DMC_STATUS_READY = true →
    Tab.get (0, 0) s.dmc.replay c = (n, k) →
    (n < 3 → exec (.caParityAlert c) s =
      .next { s with dmc := { s.dmc with replay := Tab.put s.dmc.replay c (n + 1, 16), alert := setBit s.dmc.alert c true } }) ∧
    (3 ≤ n → 2 ≤ s.mode → Completes (exec (.caParityAlert c) s) (fun t => t.on DMC_PAR_FATAL c = true ∧ t.dark ∧ t.mode = 7))) ∧
  (∀ (c : Fin 2) k (s : State), Tab.get (0, 0) s.dmc.replay c = (0, k) → exec (.caAlertTimeout c) s = .next s) ∧
  (∀ (c : Fin 2) n k (s : State), Tab.get (0, 0) s.dmc.replay c = (n, k) → 1 ≤ n → n < 3 → exec (.caAlertTimeout c) s =
    .next { s with dmc := { s.dmc with replay := Tab.put s.dmc.replay c (n + 1, 16) } }) ∧
  (∀ (c : Fin 2) k (s : State), Tab.get (0, 0) s.dmc.replay c = (3, k) → s.on DMC_PAR_FATAL c = false → 2 ≤ s.mode →
    Completes (exec (.caAlertTimeout c) s) (fun t => t.on DMC_PAR_FATAL c = true ∧ t.dark ∧ t.mode = 7)) ∧
  (∀ (c : Fin 2) u k (s : State), Tab.get (0, 0) s.dmc.replay c = (0, k) → exec (.caAlertRelease c u) s = .next s) ∧
  (∀ (c : Fin 2) n k (s : State), Tab.get (0, 0) s.dmc.replay c = (n, k) → 1 ≤ n → exec (.caAlertRelease c false) s =
    .next (((({ s with dmc := { s.dmc with alert := setBit s.dmc.alert c false } }.incSat DMC_PAR_ALERTS c).incSat DMC_PAR_REPLAYS c).set1
      DMC_FLAGS_PAR_ALERT).fault 11 1 3 c)) ∧
  (∀ (c : Fin 2) n k (s : State), Tab.get (0, 0) s.dmc.replay c = (n, k) → 1 ≤ n → s.on DMC_PAR_FATAL c = false → 2 ≤ s.mode →
    Completes (exec (.caAlertRelease c true) s) (fun t => t.on DMC_PAR_FATAL c = true ∧ t.dark ∧ t.mode = 7)) ∧
  (∀ s, exec .zqCalibrate s = .next s) ∧
  (∀ v (s : State), s.on DMC_STATUS_READY = false → exec (.dqsTrack v) s = .next s) ∧
  (∀ v (s : State), s.on DMC_STATUS_READY = true → Completes (exec (.dqsTrack v) s) (fun t => t.dram = s.dram ∧ t.on DMC_STATUS_READY = true ∧
    ∀ (c : Fin 2) (l : Fin 9), t.rd (0x200B0200 + 0x40 * c.val + 4 * l.val) = v.getD (10 * c.val + l.val) 0)) ∧
  (∀ errs (s : State), s.on DMC_SCRUB_CTRL_EN = false → exec (.scrubRead errs) s = .next (s.dramErrors errs)) ∧
  (∀ errs (s : State), let a := s.get DMC_SCRUB_POS_LO_POS_LO * 64 + s.get DMC_SCRUB_POS_HI_POS_HI * 2 ^ 32
    s.on DMC_SCRUB_CTRL_EN = true → s.dramFitted a 64 = true → s.dramDead a 64 = false → Completes (exec (.scrubRead errs) s) (fun t => t.dram = s.dram ∧
      (a + 64 < s.get DMC_STATUS_SIZE * 2 ^ 30 → t.get DMC_SCRUB_POS_LO_POS_LO = (a + 64) % 2 ^ 32 / 64 ∧ t.get DMC_SCRUB_POS_HI_POS_HI = (a + 64) / 2 ^ 32 ∧
        t.get DMC_SCRUB_PASS_PASSES = s.get DMC_SCRUB_PASS_PASSES) ∧
      (s.get DMC_STATUS_SIZE * 2 ^ 30 ≤ a + 64 → t.get DMC_SCRUB_POS_LO_POS_LO = 0 ∧ t.get DMC_SCRUB_POS_HI_POS_HI = 0 ∧
        t.get DMC_SCRUB_PASS_PASSES = (s.get DMC_SCRUB_PASS_PASSES + 1) % 2 ^ 32))) ∧
  (∀ s, Completes (exec .eccClear s) (fun t => ∀ c r, c < 2 → r < 2 → t.get DMC_ECC_CNT_CE c r = 0 ∧ t.get DMC_ECC_CNT_UE c r = 0)) ∧
  (∀ (c r : Fin 2) (s : State), exec (.powerDownEntry c r) s = .next (if s.get DMC_PD_PD_IDLE = 0 ∨ s.on DMC_STATUS_READY = false ∨
      s.dmc.queue.any (fun e => s.reqRank e.1 == c.val * 2 + r.val) = true then s
    else { s with dmc := { s.dmc with down := setBit s.dmc.down (c.val * 2 + r.val) true, owed := Tab.put s.dmc.owed (c.val * 2 + r.val) 0 } }))

/-- A START with STOP set or BURST 3 is a reserved value (R520); else the control word is stored and the transfer described by the
registers is refused with its reason and fault 003h, queued behind an active one, or begun, a LEN of 0 ending at once (R521, R522, R524). A
STOP of an idle channel does nothing; it drops the queued transfer of an active one (R528). A burst is issued for the channel whose turn it
is, unless the engine has stopped, 64 are outstanding or no channel has one to issue (R525, R529); an uncorrectable error in a channel's
state stops the engine (R48, R529). The oldest access outstanding of a channel is carried out and answered: a read's bytes join the
channel's buffer, a write of a privileged channel counts as done then, an error response stops the engine (R526–R530); with none
outstanding nothing changes (the model's own reading, log entry 2). The halt clears when no access is outstanding, else the write is
refused (R531). -/
def Obligations.DmaChannels : Prop :=
  (∀ (ch : Fin 32) (v : Word) (s : State), v.toNat.testBit 30 = true ∨ wfield v 9 8 = 3 → exec (.dmaStart ch v) s = .next (s.reservedFault 12 ch)) ∧
  (∀ (ch : Fin 32) (v : Word) e (s : State), v.toNat.testBit 30 = false → wfield v 9 8 ≠ 3 →
    (s.wr (DMA_CTRL_BURST.addr ch) (v &&& 0x36E)).dmaRefusal ch ((s.wr (DMA_CTRL_BURST.addr ch) (v &&& 0x36E)).dmaXfer ch) = some e →
    Completes (exec (.dmaStart ch v) s) (fun t => t.get DMA_STAT_ERR ch = e % 16 ∧ t.on DMA_STAT_REFUSED ch = true ∧
      t.bit DMA_IRQ_ERR_ERR ch = true ∧ t.get DMA_FAULT_LAST_CODE = 3 ∧ t.dma = s.dma)) ∧
  (∀ (ch : Fin 32) (v : Word) (s : State), v.toNat.testBit 30 = false → wfield v 9 8 ≠ 3 → (s.dmaCh ch).act = none → s.get DMA_LEN_LEN ch ≠ 0 →
    (s.wr (DMA_CTRL_BURST.addr ch) (v &&& 0x36E)).dmaRefusal ch ((s.wr (DMA_CTRL_BURST.addr ch) (v &&& 0x36E)).dmaXfer ch) = none →
    Completes (exec (.dmaStart ch v) s) (fun t => t.get DMA_STAT_STATE ch = 1 ∧ t.get DMA_DONE_DONE ch = 0 ∧ t.get DMA_STAT_ERR ch = 0 ∧
      t.bit DMA_ACTIVE_ACTIVE ch = true ∧ (∃ x, (t.dmaCh ch).act = some x ∧ x.len = s.get DMA_LEN_LEN ch ∧ x.done = 0 ∧
        x.src = s.get DMA_SRC_LO_SRC_LO ch + 2 ^ 32 * s.get DMA_SRC_HI_SRC_HI ch ∧
        x.dst = s.get DMA_DST_LO_DST_LO ch + 2 ^ 32 * s.get DMA_DST_HI_DST_HI ch))) ∧
  (∀ (ch : Fin 32) (v : Word) (s : State), v.toNat.testBit 30 = false → wfield v 9 8 ≠ 3 → (s.dmaCh ch).act = none → s.get DMA_LEN_LEN ch = 0 →
    (s.wr (DMA_CTRL_BURST.addr ch) (v &&& 0x36E)).dmaRefusal ch ((s.wr (DMA_CTRL_BURST.addr ch) (v &&& 0x36E)).dmaXfer ch) = none →
    Completes (exec (.dmaStart ch v) s) (fun t => t.get DMA_STAT_STATE ch = 2 ∧ t.get DMA_DONE_DONE ch = 0 ∧ t.get DMA_STAT_ERR ch = 0 ∧
      t.bit DMA_ACTIVE_ACTIVE ch = false ∧ (t.dmaCh ch).act = none ∧ (v.toNat.testBit 2 = true → t.bit DMA_IRQ_FULL_FULL ch = true))) ∧
  (∀ (ch : Fin 32) (v : Word) x (s : State), v.toNat.testBit 30 = false → wfield v 9 8 ≠ 3 → (s.dmaCh ch).act = some x →
    (s.wr (DMA_CTRL_BURST.addr ch) (v &&& 0x36E)).dmaRefusal ch ((s.wr (DMA_CTRL_BURST.addr ch) (v &&& 0x36E)).dmaXfer ch) = none →
    Completes (exec (.dmaStart ch v) s) (fun t => (t.dmaCh ch).act = some x ∧ (t.dmaCh ch).next.isSome = true ∧ t.on DMA_STAT_QUEUED ch = true)) ∧
  (∀ (ch : Fin 32) (s : State), (s.dmaCh ch).act = none → exec (.dmaStop ch) s = .next s) ∧
  (∀ (ch : Fin 32) x (s : State), (s.dmaCh ch).act = some x → Completes (exec (.dmaStop ch) s) (fun t => (t.dmaCh ch).next = none ∧
    t.on DMA_STAT_QUEUED ch = false ∧ t.dma.out = s.dma.out)) ∧
  (∀ (s : State), s.on DMA_STATUS_HALTED = false → exec .dmaHaltClear s = .next s) ∧
  (∀ (s : State), s.on DMA_STATUS_HALTED = true → s.dma.out = [] → exec .dmaHaltClear s = .next (s.put DMA_STATUS_HALTED 0)) ∧
  (∀ o rest (s : State), s.on DMA_STATUS_HALTED = true → s.dma.out = o :: rest → exec .dmaHaltClear s = .next (s.set1 DMA_FLAGS_WRITE_REFUSED)) ∧
  (∀ ch o (s : State), s.on DMA_STATUS_HALTED = false → s.dma.out.length < 64 → s.dmaTurn = some ch → s.dmaNext ch = some o →
    Completes (exec (.dmaBurstIssue none) s) (fun t => t.dma.out = s.dma.out ++ [o])) ∧
  (∀ u (s : State), s.on DMA_STATUS_HALTED = true → exec (.dmaBurstIssue u) s = .next s) ∧
  (∀ (s : State), 64 ≤ s.dma.out.length ∨ s.dmaTurn = none → exec (.dmaBurstIssue none) s = .next s) ∧
  (∀ (c : Fin 32) (s : State), s.on DMA_STATUS_HALTED = false → Completes (exec (.dmaBurstIssue (some c)) s) (fun t => t.on DMA_STATUS_HALTED = true ∧
    (∀ ch, ch < 32 → (t.dmaCh ch).act = none ∧ (t.dmaCh ch).next = none) ∧ t.dma.out = s.dma.out ∧ t.get DMA_FAULT_LAST_CODE = 4)) ∧
  (∀ (ch : Fin 32) o rest (s : State), takeAcc ch s.dma.out = some (o, rest) → o.write = false → o.ch = ch → (s.dmaCh ch).act = none →
    Completes (exec (.dmaAccessResponse ch) s) (fun t => t.dma.out = rest ∧ t.get DMA_STATUS_OUTSTANDING = rest.length % 128)) ∧
  (∀ (ch : Fin 32) o rest r bs (s u : State), takeAcc ch s.dma.out = some (o, rest) →
    State.sysAccess { s with dma := { s.dma with out := rest } } (0x20 + ch.val) o.addr o.n (if o.write then some o.data else none) = (r, bs, u) →
    (r = .ok → o.write = false → exec (.dmaAccessResponse ch) s = .next (((u.dmaFill o bs).dmaStopped ch).dmaShow)) ∧
    (r = .ok → o.write = true → exec (.dmaAccessResponse ch) s = .next (State.dmaShow ((if ch.val < 4 then u.dmaDone ch o.id o.n else u).dmaStopped ch))) ∧
    (r ≠ .ok → exec (.dmaAccessResponse ch) s = .next (((u.dmaError o r).dmaStopped ch).dmaShow))) ∧
  (∀ (ch : Fin 32) (s : State), takeAcc ch s.dma.out = none → exec (.dmaAccessResponse ch) s = .next s)

/-- A GO arms a snapshot of the units named, with the value of each of their registers; a mask of 0 is reserved and a write without GO does
nothing (R540); in the idle lines of a stretched porch the snapshot is checked at once (R559). Scan-out enabled on an idle link begins training
unless the panel is unplugged; it is refused while an accumulation runs (R543, R566). Training ends with the link up or failed, fault 003h
(R543, R544). A lost link is trained again at the next vsync, fault 004h (R544); hot-plug loss stops scan-out and its return trains again. A
vsync counts FRAME, which never reads FFFF_FFFFh (R733), samples the tick and starts the frame, blank unless the link is up and trained, or
stops scan-out when it is disabled (R539, R543). A composed line advances the compositor and stands in the frame store, BACKGROUND where no
layer is fetched (R548); a sent line advances the beam: nothing in a blank frame, the store's bytes where the line is complete, else what
the compositor writes in time, the rest of the line an underrun in BACKGROUND; a pixel that fails parity is counted (R48, R555, R556). A
frame's header is written and WR advances, a failing write ending writeback with fault 008h (R562, R563). An AUX transaction runs when none
does and ends with its result and the bytes read (R535). An accumulation starts when scan-out is off and ends with its result, a failed
access with fault 00Ch (R565, R566). Without its occasion an event changes nothing: the model's own reading, log entry 2. -/
def Obligations.DisplayLink : Prop :=
  (∀ (v : Word) p (s : State), v.toNat.testBit 31 = false → exec (.dspCommitGo v p) s = .next s) ∧
  (∀ (v : Word) p (s : State), v.toNat.testBit 31 = true → v.toNat % 256 = 0 → exec (.dspCommitGo v p) s = .next (s.reservedFault 13)) ∧
  (∀ (v : Word) p (s : State), v.toNat.testBit 31 = true → v.toNat % 256 ≠ 0 →
    p = false ∨ s.dsp.beam ≠ 0 ∨ s.on DSP_STATUS_STATIC = false ∨ s.on DSP_TI6_VRR_OK = false ∨ s.get DSP_TI6_STATIC_RATE = 0 →
    Completes (exec (.dspCommitGo v p) s) (fun t => t = s.dspGo (v.toNat % 256) ∧ t.on DSP_COMMIT_ARMED = true ∧
      t.dsp.mask = s.dsp.mask ||| (v.toNat % 256) ∧
      ∀ u a, u < 8 → v.toNat.testBit u = true → a ∈ dspUnit u → Tab.get 0 t.dsp.snap a = s.rd a)) ∧
  (∀ (v : Word) (s : State), v.toNat.testBit 31 = true → v.toNat % 256 ≠ 0 →
    s.dsp.beam = 0 → s.on DSP_STATUS_STATIC = true → s.on DSP_TI6_VRR_OK = true → s.get DSP_TI6_STATIC_RATE ≠ 0 →
    Completes (exec (.dspCommitGo v true) s) (fun t => t.on DSP_COMMIT_ARMED = false ∧ t.dsp.mask = 0 ∧ t.dsp.snap = [] ∧
      let u := s.dspGo (v.toNat % 256)
      (dspCheck u.snapTiming u.snapLayer ≠ none → t.on DSP_COMMIT_ERR_REFUSED = true ∧ t.on DSP_STATUS_STATIC = true))) ∧
  (∀ (s : State), s.on DSP_STATUS_ACC_BUSY = true → exec (.scanEnable true) s = .next (s.set1 DSP_FLAGS_WRITE_REFUSED)) ∧
  (∀ (s : State), s.on DSP_STATUS_ACC_BUSY = false →
    s.on DSP_CTRL_SCAN_EN = false ∨ (s.on DSP_STATUS_LINK_UP = false ∧ s.on DSP_STATUS_TRAINING = false) → s.dsp.hpdLost = false →
    Completes (exec (.scanEnable true) s) (fun t =>
    t.on DSP_CTRL_SCAN_EN = true ∧ t.on DSP_STATUS_TRAINING = true ∧ t.on DSP_STATUS_LINK_UP = false ∧ t.on DSP_STATUS_BLANK = true ∧ t.dsp.run = true)) ∧
  (∀ (s : State), s.on DSP_STATUS_ACC_BUSY = false →
    (s.on DSP_CTRL_SCAN_EN = true ∧ (s.on DSP_STATUS_LINK_UP = true ∨ s.on DSP_STATUS_TRAINING = true)) ∨ s.dsp.hpdLost = true →
    exec (.scanEnable true) s = .next (s.set1 DSP_CTRL_SCAN_EN)) ∧
  (∀ (s : State), exec (.scanEnable false) s = .next (s.put DSP_CTRL_SCAN_EN 0)) ∧
  (∀ ok vs pe (s : State), s.on DSP_STATUS_TRAINING = false → exec (.linkTrainDone ok vs pe) s = .next s) ∧
  (∀ (vs pe : Fin 4) (s : State), s.on DSP_STATUS_TRAINING = true → Completes (exec (.linkTrainDone true vs pe) s) (fun t =>
    t.on DSP_STATUS_TRAINING = false ∧ t.on DSP_STATUS_LINK_UP = true ∧ t.get DSP_LINK_VS = vs ∧ t.get DSP_LINK_PE = pe ∧
    t.get DSP_LINK_RATE = s.get DSP_TI5_RATE ∧ t.get DSP_LINK_LANES = s.get DSP_TI5_LANES)) ∧
  (∀ vs pe (s : State), s.on DSP_STATUS_TRAINING = true → Completes (exec (.linkTrainDone false vs pe) s) (fun t => t.on DSP_STATUS_TRAINING = false ∧
    t.on DSP_FLAGS_TRAIN_FAIL = true ∧ t.on DSP_STATUS_BLANK = true ∧ t.get DSP_FAULT_LAST_CODE = 3)) ∧
  (∀ (s : State), s.on DSP_STATUS_LINK_UP = true → Completes (exec (.irqHpd true) s) (fun t => t.dsp.retrain = true ∧ t.on DSP_FLAGS_LINK_LOST = true ∧
    t.get DSP_FAULT_LAST_CODE = 4)) ∧
  (∀ b (s : State), b = false ∨ s.on DSP_STATUS_LINK_UP = false → exec (.irqHpd b) s = .next s) ∧
  (∀ (s : State), Completes (exec .hpdLost s) (fun t => t.dsp.run = false ∧ t.dsp.hpdLost = true ∧
    (s.on DSP_CTRL_SCAN_EN = true → t.on DSP_STATUS_LINK_UP = false ∧ t.on DSP_STATUS_BLANK = true) ∧
    (s.on DSP_CTRL_SCAN_EN = false → t.regs = s.regs))) ∧
  (∀ (s : State), s.dsp.hpdLost = false → exec .hpdRestored s = .next s) ∧
  (∀ (s : State), s.dsp.hpdLost = true → s.on DSP_CTRL_SCAN_EN = true → Completes (exec .hpdRestored s) (fun t => t.dsp.hpdLost = false ∧
    t.dsp.run = true ∧ t.on DSP_STATUS_TRAINING = true)) ∧
  (∀ (s : State), s.dsp.hpdLost = true → s.on DSP_CTRL_SCAN_EN = false → exec .hpdRestored s = .next { s with dsp := { s.dsp with hpdLost := false } }) ∧
  (∀ (s : State), s.dsp.run = false → exec .vsync s = .next s) ∧
  (∀ (s : State), s.dsp.run = true → s.on DSP_CTRL_SCAN_EN = false → Completes (exec .vsync s) (fun t => t.dsp.run = false ∧ t.on DSP_STATUS_LINK_UP = false ∧
    t.get DSP_FRAME_FRAME = (s.get DSP_FRAME_FRAME + 1) % 0xFFFFFFFF)) ∧
  (∀ (s : State), s.dsp.run = true → s.on DSP_CTRL_SCAN_EN = true → Completes (exec .vsync s) (fun t =>
    t.get DSP_FRAME_FRAME = (s.get DSP_FRAME_FRAME + 1) % 0xFFFFFFFF ∧ t.dsp.beam = 0 ∧ t.dsp.live = true ∧ t.dsp.tick = s.key.tick ∧
    t.dsp.retrain = false ∧ t.on DSP_COMMIT_ARMED = false ∧ (t.on DSP_STATUS_STATIC = false → t.dsp.comp = 0))) ∧
  (∀ (s : State), s.dsp.run = true → s.on DSP_CTRL_SCAN_EN = true → s.on DSP_COMMIT_ARMED = false → s.dsp.retrain = false →
    s.on DSP_STATUS_STATIC = false → s.get DSP_TI6_STATIC_FRAMES = 0 → Completes (exec .vsync s) (fun t => t.dsp.comp = 0 ∧
      (t.on DSP_STATUS_BLANK = true ↔ s.on DSP_STATUS_TRAINING = true ∨ s.on DSP_STATUS_LINK_UP = false))) ∧
  (∀ e (s : State), s.composing = false → exec (.composeLine e) s = .next s) ∧
  (∀ ue lead bs (s u : State), s.composing = true → s.composed s.dsp.comp ue = (bs, u) → exec (.composeLine { ue := ue, lead := lead }) s =
    .next { u.fsWrite s.dsp.comp bs with
      dsp := { (u.fsWrite s.dsp.comp bs).dsp with comp := s.dsp.comp + 1, lead := min (u.fsWrite s.dsp.comp bs).dsp.lead lead } }) ∧
  (∀ ue lead (s : State), s.composing = true → Completes (exec (.composeLine { ue := ue, lead := lead }) s) (fun t => t.dsp.comp = s.dsp.comp + 1 ∧
    t.dsp.beam = s.dsp.beam ∧ t.dsp.lead = min s.dsp.lead lead ∧ (ue = true → t.on DSP_FLAGS_BUF_PARITY = true) ∧
    (ue = false → (∀ n, n < 6 → s.fetched n = false) →
      t.dsp.fs = Memory.writeBytes 0 s.dsp.fs (s.dsp.comp * s.hActive * 3) (List.replicate s.hActive s.background).flatten))) ∧
  (∀ px par wb (s : State), s.dsp.run = false ∨ s.dsp.live = false ∨ s.vActive ≤ s.dsp.beam → exec (.scanoutLine px par wb) s = .next s) ∧
  (∀ px par wb (s : State), s.dsp.run = true → s.dsp.live = true → s.dsp.beam < s.vActive → s.on DSP_STATUS_BLANK = true →
    Completes (exec (.scanoutLine px par wb) s) (fun t => t.dsp.beam = s.dsp.beam + 1 ∧ t.dsp.sent = [] ∧
      t.get DSP_STATUS_LINE = s.dsp.beam % 2 ^ 13)) ∧
  (∀ px wb (s : State), s.dsp.run = true → s.dsp.live = true → s.dsp.beam < s.vActive → s.on DSP_STATUS_BLANK = false →
    s.on DSP_STATUS_STATIC = true ∨ s.dsp.beam < s.dsp.comp → Completes (exec (.scanoutLine px [] wb) s) (fun t => t.dsp.beam = s.dsp.beam + 1 ∧
      t.dsp.sent = Memory.readBytes 0 s.dsp.fs (s.dsp.beam * s.hActive * 3) (s.hActive * 3) ∧ t.dsp.fs = s.dsp.fs)) ∧
  (∀ px wb bs (s u : State), s.dsp.run = true → s.dsp.live = true → s.dsp.beam < s.vActive → s.on DSP_STATUS_BLANK = false →
    s.on DSP_STATUS_STATIC = false → s.dsp.comp ≤ s.dsp.beam →
    State.composed ({ s with dsp := { s.dsp with beam := s.dsp.beam + 1 } }.put DSP_STATUS_LINE s.dsp.beam) s.dsp.beam false = (bs, u) →
    Completes (exec (.scanoutLine px [] wb) s) (fun t => t.dsp.beam = s.dsp.beam + 1 ∧ t.dsp.comp = s.dsp.beam + 1 ∧
      (s.hActive ≤ px → t.dsp.sent = bs ∧ t.dsp.lead = 0 ∧ t.dsp.und = s.dsp.und) ∧
      (px < s.hActive → t.dsp.sent = bs.take (3 * px) ++ (List.replicate (s.hActive - px) s.background).flatten ∧ t.dsp.und = s.dsp.und + 1 ∧
        t.on DSP_FLAGS_UNDERRUN = true))) ∧
  (∀ px par wb x (s : State), s.dsp.run = true → s.dsp.live = true → s.dsp.beam < s.vActive → s.on DSP_STATUS_BLANK = false → x ∈ par → x < s.hActive →
    Completes (exec (.scanoutLine px par wb) s) (fun t => t.dsp.beam = s.dsp.beam + 1 ∧ t.dsp.par = true ∧ t.on DSP_FLAGS_FS_PARITY = true)) ∧
  (∀ (s : State), s.dsp.hdrs = [] → exec .wbHeaderWrite s = .next s) ∧
  (∀ h rest r (s t : State), s.dsp.hdrs = h :: rest → s.dramWrite 5 (s.wbAddr 0) h = (r, t) →
    (r = .ok → exec .wbHeaderWrite s = .next (State.incWrap { t with dsp := { t.dsp with hdrs := rest } } DSP_WB_WR_WR)) ∧
    (r ≠ .ok → exec .wbHeaderWrite s = .next (State.wbFail { t with dsp := { t.dsp with hdrs := [] } }))) ∧
  (∀ (v : Word) (s : State), s.on DSP_AUX_CTRL_BUSY = false → exec (.auxTransaction v) s = .next ((s.wr 0x200D0C00 (v &&& 0x3F0FFFFF)).set1 DSP_AUX_CTRL_BUSY)) ∧
  (∀ (v : Word) (s : State), s.on DSP_AUX_CTRL_BUSY = true → exec (.auxTransaction v) s = .next (s.set1 DSP_FLAGS_WRITE_REFUSED)) ∧
  (∀ r bs (s : State), s.on DSP_AUX_CTRL_BUSY = false → exec (.auxDone r bs) s = .next s) ∧
  (∀ (r : Fin 4) bs (s : State), s.on DSP_AUX_CTRL_BUSY = true → s.get DSP_AUX_CTRL_CMD % 2 = 0 ∨ r ≠ 0 → exec (.auxDone r bs) s =
    .next (((s.put DSP_AUX_CTRL_BUSY 0).set1 DSP_AUX_STAT_DONE).put DSP_AUX_STAT_RESULT r)) ∧
  (∀ bs (s : State), s.on DSP_AUX_CTRL_BUSY = true → s.get DSP_AUX_CTRL_CMD % 2 = 1 → Completes (exec (.auxDone 0 bs) s) (fun t =>
    t.on DSP_AUX_CTRL_BUSY = false ∧ t.on DSP_AUX_STAT_DONE = true ∧ t.get DSP_AUX_STAT_RESULT = 0 ∧
    ∀ i b, i ≤ s.get DSP_AUX_CTRL_LEN → bs[i]? = some b → wfield (t.rd (0x200D0C04 + 4 * (i / 4))) (8 * (i % 4) + 7) (8 * (i % 4)) = b.toNat)) ∧
  (∀ (v : Word) (s : State), s.on DSP_STATUS_ACC_BUSY = true → exec (.accumStart v) s = .next (s.set1 DSP_FLAGS_WRITE_REFUSED)) ∧
  (∀ (v : Word) (s : State), s.on DSP_STATUS_ACC_BUSY = false → wfield v 12 0 = 0 ∨ 4096 < wfield v 12 0 → exec (.accumStart v) s = .next (s.reservedFault 13)) ∧
  (∀ (v : Word) (s : State), s.on DSP_STATUS_ACC_BUSY = false → 1 ≤ wfield v 12 0 → wfield v 12 0 ≤ 4096 → s.on DSP_CTRL_SCAN_EN = false → s.dsp.run = false →
    Completes (exec (.accumStart v) s) (fun t => t.on DSP_STATUS_ACC_BUSY = true ∧ t.get DSP_ACC_CTRL_COUNT = wfield v 12 0 ∧
      t.get DSP_ACC_DONE_DONE = 0 ∧ t.get DSP_ACC_SAT_SAT = 0)) ∧
  (∀ (v : Word) (s : State), s.on DSP_STATUS_ACC_BUSY = false → 1 ≤ wfield v 12 0 → wfield v 12 0 ≤ 4096 → s.on DSP_CTRL_SCAN_EN = true ∨ s.dsp.run = true →
    exec (.accumStart v) s = .next (s.put DSP_ACC_CTRL_COUNT (wfield v 12 0))) ∧
  (∀ (s : State), s.on DSP_STATUS_ACC_BUSY = false → exec .accumRunDone s = .next s) ∧
  (∀ r (s u : State), s.on DSP_STATUS_ACC_BUSY = true → State.accList (s.get DSP_ACC_CTRL_COUNT) (s.get DSP_ACC_LIST_LO_LIST_LO +
    2 ^ 32 * s.get DSP_ACC_LIST_HI_LIST_HI) s = (r, u) →
    let w := (u.put DSP_ACC_DONE_RESULT r).put DSP_STATUS_ACC_BUSY 0
    (r = 0 → exec .accumRunDone s = .next (w.endActions (fun a => a.op == 0x2403) stOk)) ∧
    (r = 1 → exec .accumRunDone s = .next (w.endActions (fun a => a.op == 0x2403) stBadParam)) ∧
    (r = 2 → exec .accumRunDone s = .next (((w.set1 DSP_FLAGS_ACC_FAIL).fault 13 0xC 3).endActions (fun a => a.op == 0x2403) stHwFault)))

/-- TIMING_SET and LAYER_SET write a record that passes the checks of R541 and arm its snapshot, and reply BAD_PARAM for a bad word, and with
the fault code of the check that fails otherwise, p0 being 0 as no rule names a word (R138, R541; log entry 60); LAYER_SET answers DENIED
where an enabled layer's buffer or fence lies outside the DRAM a command may name (R103); WRITEBACK_SET writes the writeback fields and arms
its unit, DENIED outside that DRAM, and in PRODUCTION while a job stands for a change of its buffers (R561, R564); ACCUM_RUN starts a run as
a long action (R566): NO_SPACE without a place, BUSY while scan-out or a run goes on. -/
def Obligations.DisplayCommands : Prop :=
  (∀ p, Answers (.dispTimingSet p) 0x2400 (fun _ q => (List.range 8).map (fun i => (i, recordOk (0x200D0040 + 4 * i) (word (q.w i)) && (i != 0 || wfield (word (q.w 0)) 15 0 % 4 == 0))))
    (fun s q => dspCheck (fun i => word (q.w i)) s.layerIf = none)
    (fun s q => ((forN 8 (fun i s => s.wr (0x200D0040 + 4 * i) (word (q.w i))) s).dspGo 0x40).porchGo p) (fun _ _ => okReply)) ∧
  (∀ p (s : State) q r, s.serving 0x2400 q → firstBad ((List.range 8).map (fun i => (i, recordOk (0x200D0040 + 4 * i) (word (q.w i)) && (i != 0 || wfield (word (q.w 0)) 15 0 % 4 == 0)))) = none →
    dspCheck (fun i => word (q.w i)) s.layerIf = some r → exec (.dispTimingSet p) s = .next (s.finish q.m (dispRefusal r))) ∧
  (∀ p (s : State) q, s.serving 0x2401 q →
    let denied := (layerRec (fun w => word (q.w (w + 1)))).en = true ∧ (s.rangeAllowed (layerRec (fun w => word (q.w (w + 1)))).addr
      ((layerRec (fun w => word (q.w (w + 1)))).pitch * (layerRec (fun w => word (q.w (w + 1)))).sh) = false ∨
      ((layerRec (fun w => word (q.w (w + 1)))).fen = true ∧ s.rangeAllowed (layerRec (fun w => word (q.w (w + 1)))).faddr 4 = false))
    let bad := firstBad ((0, decide (q.w 0 < 6)) :: (List.range 12).map (fun i => (i + 1, layerWordOk (fun i => q.w (i + 1)) i)))
    let check := dspCheck (fun i => s.rd (0x200D0060 + 4 * i)) (fun m => if m = q.w 0 then layerRec (fun w => word (q.w (w + 1))) else s.layerIf m)
    (denied → exec (.dispLayerSet p) s = .next (s.finish q.m (failReply stDenied))) ∧
    (∀ i, ¬denied → bad = some i → exec (.dispLayerSet p) s = .next (s.finish q.m (badParam i))) ∧
    (∀ r, ¬denied → bad = none → check = some r → exec (.dispLayerSet p) s = .next (s.finish q.m (dispRefusal r))) ∧
    (¬denied → bad = none → check = none → exec (.dispLayerSet p) s = .next (State.finish (((forN 12 (fun i s =>
      s.wr (0x200D0100 + 0x40 * q.w 0 + 4 * i) (word (q.w (i + 1)))) s).dspGo (2 ^ q.w 0)).porchGo p) q.m okReply))) ∧
  (∀ p, Answers (.dispWritebackSet p) 0x2402 (fun _ q => [(0, q.addr 0 % 4096 == 0), (1, decide (q.addr 0 < 2 ^ 40)), (2, decide (2 ≤ q.w 2 ∧ q.w 2 ≤ 16)), (3, decide (q.w 3 < 2))])
    (fun s q => ¬((q.addr 0 ≠ 0 ∨ q.w 3 = 1) ∧ s.rangeAllowed (q.addr 0) (6914048 * q.w 2) = false) ∧ ¬(s.lifecycle = 2 ∧ s.job.st ≠ 0 ∧ (q.addr 0 ≠ s.get DSP_WB_BASE_LO_BASE_LO * 4096 + 2 ^ 32 * s.get DSP_WB_BASE_HI_BASE_HI ∨
      wfield (s.rd 0x200D0088) 4 0 ≠ q.w 2 ∨ ((s.rd 0x200D0088).toNat.testBit 30 = true ∧ q.w 3 = 0))))
    (fun s q => ((((((s.put DSP_WB_BASE_LO_BASE_LO (q.addr 0 / 4096)).put DSP_WB_BASE_HI_BASE_HI (q.addr 0 / 2 ^ 32)).put DSP_WB_CTRL_COUNT
      (q.w 2)).put DSP_WB_CTRL_PIX_EN (q.w 3)).put DSP_WB_CTRL_HDR_EN (if q.addr 0 = 0 then 0 else 1)).dspGo 0x80).porchGo p) (fun _ _ => okReply)) ∧
  (∀ p (s : State) q, s.serving 0x2402 q → firstBad [(0, q.addr 0 % 4096 == 0), (1, decide (q.addr 0 < 2 ^ 40)), (2, decide (2 ≤ q.w 2 ∧ q.w 2 ≤ 16)), (3, decide (q.w 3 < 2))] = none →
    ((q.addr 0 ≠ 0 ∨ q.w 3 = 1) ∧ s.rangeAllowed (q.addr 0) (6914048 * q.w 2) = false) ∨ (s.lifecycle = 2 ∧ s.job.st ≠ 0 ∧ (q.addr 0 ≠ s.get DSP_WB_BASE_LO_BASE_LO * 4096 + 2 ^ 32 * s.get DSP_WB_BASE_HI_BASE_HI ∨
      wfield (s.rd 0x200D0088) 4 0 ≠ q.w 2 ∨ ((s.rd 0x200D0088).toNat.testBit 30 = true ∧ q.w 3 = 0))) →
    exec (.dispWritebackSet p) s = .next (s.finish q.m (failReply stDenied))) ∧
  (∀ (s : State) q, s.serving 0x2403 q →
    let bad := firstBad [(0, q.addr 0 % 32 == 0), (1, decide (q.addr 0 < 2 ^ 40)), (2, decide (1 ≤ q.w 2 ∧ q.w 2 ≤ 4096))]
    (s.rangeAllowed (q.addr 0) (32 * q.w 2) = false → exec .dispAccumRun s = .next (s.finish q.m (failReply stDenied))) ∧
    (s.rangeAllowed (q.addr 0) (32 * q.w 2) = true →
      (∀ i, bad = some i → exec .dispAccumRun s = .next (s.finish q.m (badParam i))) ∧
      (bad = none → s.noPlace = true → exec .dispAccumRun s = .next (s.finish q.m (failReply stNoSpace))) ∧
      (bad = none → s.noPlace = false → s.on DSP_CTRL_SCAN_EN = true ∨ s.dsp.run = true ∨ s.on DSP_STATUS_ACC_BUSY = true →
        exec .dispAccumRun s = .next (s.finish q.m (failReply stBusy))) ∧
      (bad = none → s.noPlace = false → s.on DSP_CTRL_SCAN_EN = false → s.dsp.run = false → s.on DSP_STATUS_ACC_BUSY = false →
        exec .dispAccumRun s = .next (State.finish ((((s.put DSP_ACC_LIST_LO_LIST_LO (q.w 0)).put DSP_ACC_LIST_HI_LIST_HI (q.w 1)).put
          DSP_ACC_CTRL_COUNT (q.w 2)).startAction q).accStart q.m okReply))))

/-- A period starts with the gate on in the on-interval of a channel that runs, with IEFF by IREF or the derating curve, and off outside
(R572, R576, R582); a comparator trip past the threshold, 8 cycles or more into the period, turns the gate off and in a checked period counts
toward SHORT by SHORT_T, latched at SHORT_N with fault 002h, and clears the counts after it (R573, R579); DMAX turns it off and a checked
period counts toward OPEN, latched at OPEN_N with fault 001h (R579). On-intervals begin and end as R575 says, under the new values or, until
then, the old; strobes as R577 says. Clearing a latch zeroes its counts (R580). A group write is refused while MODE_ALLOW is 1 or for a
second beacon, and a beacon without AON is a reserved value (R584). An NTC code gives the temperature of the curve (R582); one out of range is
OPEN or SHORT, fault 006h of AFE (R360). The LITE commands write RWS fields of group 8, the curve at once, and the groups, BAD_STATE while
MODE_ALLOW is 1 (R139). Without its occasion an event changes nothing: the model's own reading, log entry 2. -/
def Obligations.LightDrive : Prop :=
  (∀ (k : Fin 16) (s : State), (s.litCh k).ldg = false → exec (.lightDmaxReached k) s = .next s) ∧
  (∀ (k : Fin 16) (s : State), (s.litCh k).ldg = true → (s.litCh k).chk = false → exec (.lightDmaxReached k) s =
    .next (s.setLitCh k { s.litCh k with ldg := false })) ∧
  (∀ (k : Fin 16) (s : State), (s.litCh k).ldg = true → (s.litCh k).chk = true → (s.litCh k).openC + 1 < s.get LIT_DET_OPEN_N k →
    Completes (exec (.lightDmaxReached k) s) (fun t => t.regs = s.regs ∧
      t.litCh k = { s.litCh k with ldg := false, chk := false, openC := (s.litCh k).openC + 1, shortC := 0 })) ∧
  (∀ (k : Fin 16) (s : State), (s.litCh k).ldg = true → (s.litCh k).chk = true → s.get LIT_DET_OPEN_N k ≤ (s.litCh k).openC + 1 →
    Completes (exec (.lightDmaxReached k) s) (fun t => t.bit LIT_LATCH_OPEN k = true ∧ t.on LIT_FLAGS_OPEN = true ∧ (t.litCh k).ldg = false)) ∧
  (∀ (k : Fin 16) (s : State), s.litTrimming k = false → Completes (exec (.switchPeriodStart k) s) (fun t => t.get LIT_STAT_IEFF k =
    (if s.on LIT_CFG_NTC_EN k then derated (s.get LIT_CFG_IREF k) (s.getS LIT_NTC_T_T (s.get LIT_CFG_NTC k)) (s.getS LIT_DERATE_T_DERATE k)
      (s.getS LIT_DERATE_T_OFF k) else s.get LIT_CFG_IREF k) % 2 ^ 10)) ∧
  (∀ (k : Fin 16) (s : State), (s.litCh k).inOn = false ∨ s.on LIT_CFG_EN k = false ∨ s.litTrimming k = true ∨ s.litFailed k = true →
    Completes (exec (.switchPeriodStart k) s) (fun t => (t.litCh k).ldg = false)) ∧
  (∀ (k : Fin 16) (s : State), (s.litCh k).ldg = false → (s.litCh k).inOn = true → s.on LIT_CFG_EN k = true → s.litFailed k = false →
    s.litTrimming k = false → s.on LIT_CFG_GRP_EN k = false → s.on LIT_CFG_NTC_EN k = false → s.get LIT_CFG_IREF k ≠ 0 →
    Completes (exec (.switchPeriodStart k) s) (fun t => (t.litCh k).ldg = true ∧ (t.litCh k).n = (s.litCh k).n + 1 ∧
      t.get LIT_STAT_IEFF k = s.get LIT_CFG_IREF k ∧ t.bit LIT_STATUS_ON k = true)) ∧
  (∀ (k : Fin 16) (uv cyc : Nat) (s : State), (s.litCh k).ldg = false ∨ cyc < 8 ∨ (uv : Int) ≤ s.litThreshold k → exec (.lightTrip k uv cyc) s = .next s) ∧
  (∀ (k : Fin 16) (uv cyc : Nat) (s : State), (s.litCh k).ldg = true → 8 ≤ cyc → s.litThreshold k < (uv : Int) → (s.litCh k).chk = false →
    exec (.lightTrip k uv cyc) s = .next (s.setLitCh k { s.litCh k with ldg := false })) ∧
  (∀ (k : Fin 16) (uv cyc : Nat) (s : State), (s.litCh k).ldg = true → 8 ≤ cyc → s.litThreshold k < (uv : Int) → (s.litCh k).chk = true →
    (s.get LIT_DET_SHORT_T k < cyc → Completes (exec (.lightTrip k uv cyc) s) (fun t => t.regs = s.regs ∧
      t.litCh k = { s.litCh k with ldg := false, chk := false, openC := 0, shortC := 0 })) ∧
    (cyc ≤ s.get LIT_DET_SHORT_T k → (s.litCh k).shortC + 1 < s.get LIT_DET_SHORT_N k → Completes (exec (.lightTrip k uv cyc) s) (fun t => t.regs = s.regs ∧
      t.litCh k = { s.litCh k with ldg := false, chk := false, openC := 0, shortC := (s.litCh k).shortC + 1 })) ∧
    (cyc ≤ s.get LIT_DET_SHORT_T k → s.get LIT_DET_SHORT_N k ≤ (s.litCh k).shortC + 1 → Completes (exec (.lightTrip k uv cyc) s) (fun t =>
      t.bit LIT_LATCH_SHORT k = true ∧ t.on LIT_FLAGS_SHORT = true ∧ (t.litCh k).ldg = false))) ∧
  (∀ (k : Fin 16) c (s : State), s.on LIT_CFG_STROBE k = true ∨ (dimStarts (s.get LIT_DIM_DIM_PERIOD k) (s.get LIT_PHASE_PHASE k) c = false ∧
    dimStarts (s.litCh k).per (s.litCh k).phase c = false) → exec (.dimOnStart k c) s = .next s) ∧
  (∀ (k : Fin 16) c (s : State), s.on LIT_CFG_STROBE k = false → dimStarts (s.get LIT_DIM_DIM_PERIOD k) (s.get LIT_PHASE_PHASE k) c = true →
    Completes (exec (.dimOnStart k c) s) (fun t => ((t.litCh k).inOn = true ↔ s.get LIT_DIM_DUTY k ≠ 0) ∧
      (t.litCh k).duty = s.get LIT_DIM_DUTY k ∧ (t.litCh k).per = s.get LIT_DIM_DIM_PERIOD k ∧ (t.litCh k).phase = s.get LIT_PHASE_PHASE k ∧
      (t.litCh k).n = if (s.litCh k).inOn && (s.litCh k).cont && s.get LIT_DIM_DUTY k == 4095 then (s.litCh k).n else 0)) ∧
  (∀ (k : Fin 16) c (s : State), s.on LIT_CFG_STROBE k = false → dimStarts (s.get LIT_DIM_DIM_PERIOD k) (s.get LIT_PHASE_PHASE k) c = false →
    dimStarts (s.litCh k).per (s.litCh k).phase c = true →
    Completes (exec (.dimOnStart k c) s) (fun t => ((t.litCh k).inOn = true ↔ (s.litCh k).duty ≠ 0) ∧
      (t.litCh k).duty = (s.litCh k).duty ∧ (t.litCh k).per = (s.litCh k).per ∧ (t.litCh k).phase = (s.litCh k).phase)) ∧
  (∀ (k : Fin 16) (s : State), (s.litCh k).inOn = true → (s.litCh k).cont = false → s.on LIT_CFG_STROBE k = false → Completes (exec (.dimOnEnd k) s)
    (fun t => (t.litCh k).inOn = false ∧ (t.litCh k).ldg = false ∧ t.bit LIT_STATUS_ON k = false)) ∧
  (∀ (k : Fin 16) (s : State), (s.litCh k).inOn = false ∨ (s.litCh k).cont = true ∨ s.on LIT_CFG_STROBE k = true → exec (.dimOnEnd k) s = .next s) ∧
  (∀ (k : Fin 16) (s : State), (s.litCh k).strobe = 1 → Completes (exec (.strobeStart k) s) (fun t => (t.litCh k).strobe = 2 ∧ (t.litCh k).inOn = true)) ∧
  (∀ (k : Fin 16) (s : State), (s.litCh k).strobe ≠ 1 → exec (.strobeStart k) s = .next s) ∧
  (∀ (k : Fin 16) (s : State), (s.litCh k).strobe = 2 → Completes (exec (.strobeEnd k) s) (fun t => (t.litCh k).strobe = 0 ∧
    (t.litCh k).inOn = false ∧ (t.litCh k).ldg = false ∧ t.bit LIT_STATUS_ON k = false)) ∧
  (∀ (k : Fin 16) (s : State), (s.litCh k).strobe ≠ 2 → exec (.strobeEnd k) s = .next s) ∧
  (∀ (m : BitVec 16) (s : State), Completes (exec (.litClearWrite m) s) (fun t => ∀ k, k < 16 →
    (m.toNat.testBit k = true → t.bit LIT_LATCH_OPEN k = false ∧ t.bit LIT_LATCH_SHORT k = false ∧ (t.litCh k).openC = 0 ∧ (t.litCh k).shortC = 0) ∧
    (m.toNat.testBit k = false → t.bit LIT_LATCH_OPEN k = s.bit LIT_LATCH_OPEN k ∧ t.bit LIT_LATCH_SHORT k = s.bit LIT_LATCH_SHORT k ∧
      (t.litCh k).openC = (s.litCh k).openC ∧ (t.litCh k).shortC = (s.litCh k).shortC))) ∧
  (∀ (g : Fin 4) (v : Word) (s : State), s.on LSR_PERMIT_MODE_ALLOW = true → exec (.groupWrite g v) s = .next (s.set1 LIT_FLAGS_WRITE_REFUSED)) ∧
  (∀ (g : Fin 4) (v : Word) (s : State), s.on LSR_PERMIT_MODE_ALLOW = false → v.toNat % 4 = 2 → exec (.groupWrite g v) s = .next (s.reservedFault 14)) ∧
  (∀ (g : Fin 4) (v : Word) (s : State), s.on LSR_PERMIT_MODE_ALLOW = false → v.toNat % 4 = 3 →
    (List.range 4).any (fun h => h != g.val && s.on LIT_GROUP_BEACON h) = true → exec (.groupWrite g v) s = .next (s.set1 LIT_FLAGS_WRITE_REFUSED)) ∧
  (∀ (g : Fin 4) (v : Word) (s : State), s.on LSR_PERMIT_MODE_ALLOW = false → v.toNat % 4 < 2 ∨
    (v.toNat % 4 = 3 ∧ (List.range 4).any (fun h => h != g.val && s.on LIT_GROUP_BEACON h) = false) → Completes (exec (.groupWrite g v) s) (fun t =>
      t.get LIT_GROUP_AON g = v.toNat % 2 ∧ t.get LIT_GROUP_BEACON g = v.toNat / 2 % 2)) ∧
  (∀ (j : Fin 4) (c : BitVec 12) (s : State), Completes (exec (.ntcConvert j c) s) (fun t =>
    t.get AFE_NTC_CODE j = c.toNat ∧ (t.on AFE_NTC_OPEN j = true ↔ 4080 ≤ c.toNat) ∧ (t.on AFE_NTC_SHORT j = true ↔ c.toNat ≤ 15) ∧
    (t.bit AFE_STATUS_NTC_BAD j = true ↔ 4080 ≤ c.toNat ∨ c.toNat ≤ 15) ∧ t.get LIT_NTC_T_T j = ofSigned 16 (s.ntcTemp c.toNat) ∧
    (s.bit AFE_STATUS_NTC_BAD j = false → 4080 ≤ c.toNat ∨ c.toNat ≤ 15 → t.on AFE_FLAGS_NTC_BAD = true))) ∧
  Stages .liteChannelSet 0x2800 0x100 (fun s q => [(0, decide (q.w 0 < 16)), (1, decide (10 ≤ q.w 1 ∧ q.w 1 ≤ 1500 ∧
      1 ≤ (q.w 1 * s.get LIT_RS_RS (q.w 0 % 16) + 125) / 250 ∧ (q.w 1 * s.get LIT_RS_RS (q.w 0 % 16) + 125) / 250 ≤ 1023)),
      (2, decide (q.w 2 ≤ 4095)), (3, decide (1000 ≤ q.w 3 ∧ q.w 3 ≤ 25000)), (4, decide (q.w 4 < 4 ∨ q.w 4 = 0xFF))])
    (fun s q => let t := ((s.putP LIT_CFG_IREF ((q.w 1 * s.get LIT_RS_RS (q.w 0) + 125) / 250) (q.w 0)).putP LIT_DIM_DIM_PERIOD
        ((800000000 / q.w 3 + 1) / 2) (q.w 0)).putP LIT_DIM_DUTY (q.w 2) (q.w 0)
      if q.w 4 = 0xFF then t.putP LIT_CFG_GRP_EN 0 (q.w 0) else (t.putP LIT_CFG_GRP_EN 1 (q.w 0)).putP LIT_CFG_GROUP (q.w 4) (q.w 0)) ∧
  Answers .liteGroupSet 0x2801 (fun s q => [(0, decide (q.w 0 < 4)), (1, decide (q.w 1 < 4 ∧ q.w 1 ≠ 2 ∧ !(q.w 1 = 3 ∧
      (List.range 4).any (fun h => h != q.w 0 % 4 && s.on LIT_GROUP_BEACON h))))])
    (fun s _ => s.on LSR_PERMIT_MODE_ALLOW = false) (fun s q => s.groupWrite (q.w 0) (word (q.w 1))) (fun _ _ => okReply) ∧
  (∀ (s : State) q, s.serving 0x2801 q → firstBad [(0, decide (q.w 0 < 4)), (1, decide (q.w 1 < 4 ∧ q.w 1 ≠ 2 ∧ !(q.w 1 = 3 ∧
      (List.range 4).any (fun h => h != q.w 0 % 4 && s.on LIT_GROUP_BEACON h))))] = none → s.on LSR_PERMIT_MODE_ALLOW = true →
    exec .liteGroupSet s = .next ((s.set1 LIT_FLAGS_WRITE_REFUSED).finish q.m (failReply stBadState))) ∧
  Answers .liteStatus 0x2802 (fun _ _ => []) (fun _ _ => True) (fun s _ => s)
    (fun s _ => okReply [s.get LIT_STATUS_ON, s.get LIT_LATCH_OPEN, s.get LIT_LATCH_SHORT, s.get LIT_OT_OT]) ∧
  Stages .liteDerateSet 0x2803 0x100 (fun _ q => [(0, decide (q.w 0 < 16)), (1, decide (q.w 1 < 8)),
      (2, signed16 q 2 && decide (q.sw 2 < q.sw 3)), (3, signed16 q 3)])
    (fun s q => (((s.putP LIT_CFG_NTC_EN (q.w 1 % 2) (q.w 0)).putP LIT_CFG_NTC (q.w 1 / 2) (q.w 0)).putPS LIT_DERATE_T_DERATE (q.sw 2)
      (q.w 0)).putPS LIT_DERATE_T_OFF (q.sw 3) (q.w 0)) ∧
  Answers .liteCurveSet 0x2804 (fun _ q => (List.range 33).map (fun i => (i, signed16 q i))) (fun _ _ => True)
    (fun s q => forN 33 (fun i s => s.putS LIT_CURVE_T (q.sw i) i) s) (fun _ _ => okReply) ∧
  Stages .liteStrobeSet 0x2805 0x100 (fun _ q => [(0, decide (q.w 0 < 16)), (1, decide (q.w 1 < 2)), (2, decide (q.w 2 < 65536)),
      (3, decide (q.w 3 < 65536 ∧ !(q.w 1 = 1 ∧ q.w 3 = 0)))])
    (fun s q => ((s.putP LIT_CFG_STROBE (q.w 1) (q.w 0)).putP LIT_STROBE_STR_DLY (q.w 2) (q.w 0)).putP LIT_STROBE_STR_W (q.w 3) (q.w 0)) ∧
  Stages .liteDriveSet 0x2806 0x100 (fun _ q => [(0, decide (q.w 0 < 16)), (1, decide (200 ≤ q.w 1 ∧ q.w 1 ≤ 800)),
      (2, decide (1 ≤ q.w 2 ∧ q.w 2 ≤ 240)), (3, decide (1 ≤ q.w 3 ∧ q.w 3 ≤ 255)), (4, decide (1 ≤ q.w 4 ∧ q.w 4 ≤ 255)),
      (5, decide (9 ≤ q.w 5 ∧ q.w 5 ≤ 255)), (6, decide (q.w 6 ≤ 255))])
    (fun s q => (((((s.putP LIT_SW_SW_PERIOD (q.w 1) (q.w 0)).putP LIT_SW_DMAX (q.w 2) (q.w 0)).putP LIT_DET_OPEN_N (q.w 3) (q.w 0)).putP
      LIT_DET_SHORT_N (q.w 4) (q.w 0)).putP LIT_DET_SHORT_T (q.w 5) (q.w 0)).putP LIT_DET_SKIP (q.w 6) (q.w 0))

/-- An update makes each reading the sensor's result (R590); with every sensor at one temperature, none excluded, TMAX is that temperature, and
LEVEL stays 0 below WARN, while from SHUT on it is 3: the shutdown begins, with the gates off and, after boot, mode SAFE (R591, R596, R602). A
relax step lowers RED by one when RELAX ms have passed above its target, and else changes nothing (R598). The flash end acts only in step 3,
where it cuts off the program in progress, whose page fails (R602). A clear of sensors ends their exclusion and their runs and leaves the others
(R594). The THRM commands read (R140, R608). -/
def Obligations.Thermal : Prop :=
  (∀ (ts : List (BitVec 16)) (s : State), Completes (exec (.thermalUpdate ts) s) (fun t => ∀ i, i < 12 →
    t.get THM_T_T i = (ts.getD i 0).toNat ∧ t.on THM_T_VALID i = true)) ∧
  (∀ (v : BitVec 16) (s : State), s.get THM_BROKEN_BROKEN = 0 → s.get THM_STATUS_LEVEL = 0 → 0 < s.get THM_BRK_TIME → s.thm.low = false →
    v.toInt < s.getS THM_THRESH_A_WARN → v.toInt < s.getS THM_THRESH_A_THROT → v.toInt < s.getS THM_THRESH_B_SHUT →
    Completes (exec (.thermalUpdate (List.replicate 12 v)) s) (fun t => (∀ i, i < 12 → t.getS THM_T_T i = v.toInt ∧ t.on THM_T_VALID i = true) ∧
      t.getS THM_STATUS_TMAX = v.toInt ∧ t.get THM_STATUS_LEVEL = 0 ∧ t.mbx.lastFault = s.mbx.lastFault)) ∧
  (∀ (v : BitVec 16) (s : State), s.get THM_BROKEN_BROKEN = 0 → s.get THM_STATUS_LEVEL < 3 → 0 < s.get THM_BRK_TIME →
    s.getS THM_THRESH_B_SHUT ≤ v.toInt → Completes (exec (.thermalUpdate (List.replicate 12 v)) s) (fun t => t.getS THM_STATUS_TMAX = v.toInt ∧
      t.get THM_STATUS_LEVEL = 3 ∧ t.on THM_FLAGS_SHUTDOWN = true ∧ t.get THM_STATUS_RED = s.get THM_DAMP_MAX_RED ∧
      (2 ≤ s.mode → t.dark ∧ t.mode = 7))) ∧
  (∀ (s : State), s.redTarget < s.get THM_STATUS_RED → s.get THM_DAMP_RELAX ≤ s.thm.relax → exec .damperRelax s =
    .next (State.put { s with thm := { s.thm with relax := 0 } } THM_STATUS_RED (s.get THM_STATUS_RED - 1))) ∧
  (∀ (s : State), s.get THM_STATUS_RED ≤ s.redTarget ∨ s.thm.relax < s.get THM_DAMP_RELAX → exec .damperRelax s = .next s) ∧
  (∀ (s : State), s.get THM_SHUT_CTRL_STEP_NOW ≠ 3 → exec .shutdownFlashEnd s = .next s) ∧
  (∀ (s : State), s.get THM_SHUT_CTRL_STEP_NOW = 3 → (s.xspiCut 3).flu.page = none → exec .shutdownFlashEnd s = .next (s.xspiCut 3).shutFlush) ∧
  (∀ a rs (s : State), s.get THM_SHUT_CTRL_STEP_NOW = 3 → (s.xspiCut 3).flu.page = some (a, rs) →
    exec .shutdownFlashEnd s = .next ((s.xspiCut 3).failPage a rs).shutFlush) ∧
  (∀ (m : BitVec 12) (s : State), Completes (exec (.sensorClear m) s) (fun t => ∀ i, i < 12 →
    (m.toNat.testBit i = true → t.bit THM_BROKEN_BROKEN i = false ∧ t.on THM_T_BROKEN i = false ∧ Tab.get 0 t.thm.runs i = 0) ∧
    (m.toNat.testBit i = false → t.bit THM_BROKEN_BROKEN i = s.bit THM_BROKEN_BROKEN i ∧ Tab.get 0 t.thm.runs i = Tab.get 0 s.thm.runs i))) ∧
  Answers .thrmStatus 0x2C00 (fun _ _ => []) (fun _ _ => True) (fun s _ => s)
    (fun s _ => okReply [ofSigned 32 (s.getS THM_STATUS_TMAX), s.get THM_BROKEN_BROKEN, s.get THM_STATUS_LEVEL, s.get THM_STATUS_RED]) ∧
  Answers .thrmSensorRead 0x2C01 (fun _ _ => []) (fun _ _ => True) (fun s _ => s)
    (fun s _ => okReply ((List.range 12).map (fun i => ofSigned 32 (s.getS THM_T_T i))))

/-- A flush with nothing in the ring ends, with PF_DONE in a power failure and SHUT_DONE in a shutdown; with a page to program and the bus free it
starts that page, whose unreadable records are programmed as LOST (R602, R709, R710, R713, R714). A page that programmed well is in flash and
its records are live, in the main region or the reserve; a failed one takes its block out of use, fault 004h (R710, R727). A dropped group is
recorded when the ring has a place (R712). Compaction erases a block while fewer than four are erased (R711). Power failure aborts an erase,
flushes and records fault 007h; its end restarts the erase (R714). The scan ends with READY, that of an empty flash with one record (R701,
R716). A submitted group gets consecutive SEQs, or sets NOSPACE, and waits for the scan before READY (R712, R728); a read copies records to
SRAM, with a free SEQ returned where there are none (R723, R724). The xSPI controller runs one operation at a time on an aligned, permitted
address, and carries it out: a failed program or erase leaves free values (R707). The FLUE commands do as R144 says. Without its occasion an
event changes nothing but the MARKs that wait to be programmed: the model's own reading, log entry 2. -/
def Obligations.Recorder : Prop :=
  (∀ ue (s : State), s.flu.flushing = false → exec (.flushStart ue) s = .next s) ∧
  (∀ ue (s : State), s.flu.flushing = true → s.flu.page.isSome = true ∨ (s.flu.ring ≠ [] ∧ (s.mayProgram = false ∨ s.busFree = false ∨ s.nextPage = none)) →
    exec (.flushStart ue) s = .next s.programVoids) ∧
  (∀ ue (s : State), s.flu.flushing = true → s.flu.page = none → s.flu.ring = [] →
    Completes (exec (.flushStart ue) s) (fun t => t.flu.flushing = false ∧
      (t.on FLU_STATUS_PF_DONE = true ↔ s.on FLU_STATUS_PF = true ∨ s.on FLU_STATUS_PF_DONE = true) ∧
      (s.get THM_SHUT_CTRL_STEP_NOW = 4 → t.get THM_SHUT_CTRL_STEP_NOW = 5 ∧ t.on THM_STATUS_SHUT_DONE = true))) ∧
  (∀ ue a rs (s : State), s.flu.flushing = true → s.flu.page = none → s.flu.ring ≠ [] → s.mayProgram = true → s.busFree = true →
    s.nextPage = some (a, rs) → Completes (exec (.flushStart ue) s) (fun t => t.flash = s.programVoids.flash ∧
      t.flu.page = some (a, rs.zipIdx.map (fun x => if ue.contains x.2 then lostRec x.1 else x.1)))) ∧
  (∀ ok ue (s : State), s.flu.page = none → exec (.pageProgramDone ok ue) s = .next s) ∧
  (∀ a rs (s : State), s.flu.page = some (a, rs) → a < fluMain1 → s.flu.voids = [] → Completes (exec (.pageProgramDone true []) s) (fun t =>
    t.flash = Memory.writeBytes 0xFF s.flash a (rs.flatMap recBytes) ∧
    t.flu.live = s.flu.live ++ rs.zipIdx.map (fun x => (a + 32 * x.2, x.1)))) ∧
  (∀ a rs (s : State), s.flu.page = some (a, rs) → fluMain1 ≤ a → s.flu.voids = [] → Completes (exec (.pageProgramDone true []) s) (fun t =>
    t.flash = Memory.writeBytes 0xFF s.flash a (rs.flatMap recBytes) ∧
    t.flu.resv = s.flu.resv ++ rs.zipIdx.map (fun x => (a + 32 * x.2, x.1)) ∧ t.flu.wpR = a + 32 * rs.length)) ∧
  (∀ a rs ue (s : State), s.flu.page = some (a, rs) → Completes (exec (.pageProgramDone false ue) s) (fun t =>
    t.on FLU_FLAGS_FLASH_ERR = true ∧ a / 4096 * 4096 ∈ t.flu.bad)) ∧
  (∀ (s : State), s.flu.dropSince = 0 ∨ fluRingCap ≤ s.flu.ring.length ∨ s.on FLU_STATUS_SEALED_FULL = true → exec .dropFaultEntry s = .next s) ∧
  (∀ (s : State), s.flu.dropSince ≠ 0 → s.flu.ring.length < fluRingCap → s.on FLU_STATUS_SEALED_FULL = false → exec .dropFaultEntry s =
    .next (State.fault { s with flu := { s.flu with dropSince := 0 } } 20 1 2 255 (some 0) (some (min s.flu.dropSince 0xFFFFFFFF)))) ∧
  (∀ (v : Word) (s : State), exec (.fluFlushWrite v) s = .next (if v.toNat % 2 = 1 then { s with flu := { s.flu with flushing := true } } else s)) ∧
  (∀ b n (s : State), s.mayProgram = true → s.on FLU_STATUS_PF = false → s.flu.page = none → s.flu.erasing = none → s.flu.xspi = none → s.erasedBlocks < 4 →
    s.programVoids.compactChoice = some (b, n) → Completes (exec .blockCompact s) (fun t => t.flu.erasing = some b ∧ t.on FLU_STATUS_ERASING = true)) ∧
  (∀ (s : State), s.mayProgram = true → s.on FLU_STATUS_PF = false → s.flu.page = none → s.flu.erasing = none → s.flu.xspi = none → s.erasedBlocks < 4 →
    s.programVoids.compactChoice = none → exec .blockCompact s = .next s.programVoids) ∧
  (∀ (s : State), 4 ≤ s.erasedBlocks ∨ s.mayProgram = false ∨ s.on FLU_STATUS_PF = true ∨ s.flu.page.isSome = true ∨ s.flu.erasing.isSome = true ∨
    s.flu.xspi.isSome = true → exec .blockCompact s = .next s) ∧
  (∀ ok (s : State), s.flu.erasing = none ∨ s.flu.suspended = true ∨ s.on FLU_STATUS_PF = true → exec (.eraseDone ok) s = .next s) ∧
  (∀ ok b (s : State), s.flu.erasing = some b → s.flu.suspended = false → s.on FLU_STATUS_PF = false →
    let u := State.put { s with flu := { s.flu with erasing := none } } FLU_STATUS_ERASING 0
    let w := if ok then u.flashErase b else u.blockBad b
    exec (.eraseDone ok) s = .next (if w.flu.wp = 0 then { w with flu := { w.flu with wp := w.nextErased fluMain0 } } else w)) ∧
  (∀ (s : State), s.on FLU_STATUS_PF = true → exec .pfwAccept s = .next s) ∧
  (∀ (s : State), s.on FLU_STATUS_PF = false → Completes (exec .pfwAccept s) (fun t => t.on FLU_STATUS_PF = true ∧ t.on FLU_FLAGS_PFW = true ∧
    t.flu.erasing = none ∧ ∃ e ∈ t.mbx.evq, e.kind = 1 ∧ e.code = 20 * 1024 + 7)) ∧
  (∀ (s : State), s.on FLU_STATUS_PF = false → exec .pfwRelease s = .next s) ∧
  (∀ (s : State), s.on FLU_STATUS_PF = true → s.flu.aborted = none → exec .pfwRelease s = .next ((s.put FLU_STATUS_PF 0).put FLU_STATUS_PF_DONE 0)) ∧
  (∀ b (s : State), s.on FLU_STATUS_PF = true → s.flu.aborted = some b → Completes (exec .pfwRelease s) (fun t => t.on FLU_STATUS_PF = false ∧
    t.on FLU_STATUS_PF_DONE = false ∧ t.flu.erasing = some b ∧ t.flu.aborted = none ∧ t.on FLU_STATUS_ERASING = true)) ∧
  (∀ (s : State), s.on SEC_STATUS_MEAS_DONE = false ∨ s.on FLU_STATUS_READY = true → exec .bootScanDone s = .next s) ∧
  (∀ (s : State), s.on SEC_STATUS_MEAS_DONE = true → s.on FLU_STATUS_READY = false → Completes (exec .bootScanDone s) (fun t =>
    t.on FLU_STATUS_READY = true ∧ t.flu.submit = none)) ∧
  (∀ (s : State), s.on SEC_STATUS_MEAS_DONE = true → s.on FLU_STATUS_READY = false → s.flash = [] → s.flu.ring = [] → s.flu.bad = [] → s.flu.voids = [] →
    s.flu.submit = none → s.on FLU_STATUS_SEALED_FULL = false → Completes (exec .bootScanDone s) (fun t => t.on FLU_STATUS_READY = true ∧
      t.flu.live = [] ∧ t.flu.seqNext = 1 ∧ t.flu.ring.length = 1)) ∧
  (∀ (v : Word) (s : State), let u := if v.toNat.testBit 29 then s.put FLU_SUBMIT_NOSPACE 0 else s
    (v.toNat.testBit 31 = false → exec (.fluSubmitGo v) s = .next (u.put FLU_SUBMIT_PARTS (v.toNat % 8))) ∧
    (v.toNat.testBit 31 = true → s.on FLU_SUBMIT_BUSY = true → exec (.fluSubmitGo v) s = .next (u.set1 FLU_FLAGS_WRITE_REFUSED)) ∧
    (v.toNat.testBit 31 = true → s.on FLU_SUBMIT_BUSY = false → s.on FLU_STATUS_READY = false → Completes (exec (.fluSubmitGo v) s) (fun t =>
      t.on FLU_SUBMIT_BUSY = true ∧ t.flu.ring = s.flu.ring ∧ t.flu.submit = some (s.submitGroup (v.toNat % 8)))) ∧
    (v.toNat.testBit 31 = true → s.on FLU_SUBMIT_BUSY = false → s.on FLU_STATUS_READY = true → fluRingCap < s.flu.ring.length + (v.toNat % 8 + 1) →
      Completes (exec (.fluSubmitGo v) s) (fun t => t.on FLU_SUBMIT_NOSPACE = true ∧ t.flu = s.flu)) ∧
    (v.toNat.testBit 31 = true → s.on FLU_SUBMIT_BUSY = false → s.fluTakes (v.toNat % 8 + 1) →
      Completes (exec (.fluSubmitGo v) s) (fun t => t.get64 FLU_SUBMIT_SEQ_LO_SEQ_LO FLU_SUBMIT_SEQ_HI_SEQ_HI = s.flu.seqNext ∧
        t.flu.seqNext = s.flu.seqNext + (v.toNat % 8 + 1) ∧ t.flu.ring.length = s.flu.ring.length + (v.toNat % 8 + 1)))) ∧
  (∀ (v : Word) (s : State), v.toNat % 32 = 0 ∨ 30 < v.toNat % 32 → exec (.fluReadStart v) s = .next (s.reservedFault 20)) ∧
  (∀ (v : Word) (s : State), v.toNat.testBit 31 = false → 1 ≤ v.toNat % 32 → v.toNat % 32 ≤ 30 → exec (.fluReadStart v) s =
    .next (s.put FLU_RD_CTRL_COUNT (v.toNat % 32))) ∧
  (∀ (v : Word) (s : State), let l := s.fluFrom (s.get64 FLU_RD_FIRST_LO_FIRST_LO FLU_RD_FIRST_HI_FIRST_HI)
    v.toNat.testBit 31 = true → 1 ≤ v.toNat % 32 → v.toNat % 32 ≤ 30 → Completes (exec (.fluReadStart v) s) (fun t =>
      t.get FLU_RD_CTRL_RETURNED = min (v.toNat % 32) l.length ∧ (t.on FLU_RD_CTRL_MORE = true ↔ v.toNat % 32 < l.length) ∧
      t.sram = Memory.writeBytes 0 s.sram (s.get FLU_RD_ADDR_ADDR) ((l.take (v.toNat % 32)).flatMap recBytes))) ∧
  (∀ (s : State), s.on FLU_XSPI_CMD_BUSY = true → exec .xspiRead s = .next (s.set1 FLU_FLAGS_WRITE_REFUSED) ∧
    exec .xspiErase s = .next (s.set1 FLU_FLAGS_WRITE_REFUSED) ∧ exec .xspiProgram s = .next (s.set1 FLU_FLAGS_WRITE_REFUSED)) ∧
  (∀ (s : State), s.on FLU_XSPI_CMD_BUSY = false →
    (s.get FLU_XSPI_FADDR_FADDR % 256 ≠ 0 → exec .xspiRead s = .next ((s.put FLU_XSPI_CMD_OP 1).reservedFault 20) ∧
      exec .xspiProgram s = .next ((s.put FLU_XSPI_CMD_OP 3).reservedFault 20)) ∧
    (s.get FLU_XSPI_FADDR_FADDR % 4096 ≠ 0 → exec .xspiErase s = .next ((s.put FLU_XSPI_CMD_OP 2).reservedFault 20))) ∧
  (∀ (s : State), s.on FLU_XSPI_CMD_BUSY = false → s.get FLU_XSPI_FADDR_FADDR % 256 = 0 → Completes (exec .xspiRead s) (fun t =>
    t.on FLU_XSPI_CMD_BUSY = true ∧ t.flu.xspi = some (1, s.get FLU_XSPI_FADDR_FADDR, s.get FLU_XSPI_SADDR_SADDR))) ∧
  (∀ (s : State), s.on FLU_XSPI_CMD_BUSY = false → s.get FLU_XSPI_FADDR_FADDR % 4096 = 0 → xspiAllowed (s.get FLU_XSPI_FADDR_FADDR) 4096 = true →
    Completes (exec .xspiErase s) (fun t => t.on FLU_XSPI_CMD_BUSY = true ∧
      t.flu.xspi = some (2, s.get FLU_XSPI_FADDR_FADDR, s.get FLU_XSPI_SADDR_SADDR))) ∧
  (∀ (s : State), s.on FLU_XSPI_CMD_BUSY = false → s.get FLU_XSPI_FADDR_FADDR % 4096 = 0 → xspiAllowed (s.get FLU_XSPI_FADDR_FADDR) 4096 = false →
    Completes (exec .xspiErase s) (fun t => t.on FLU_XSPI_CMD_ERR = true ∧ t.on FLU_FLAGS_PROTECTED = true ∧ t.flash = s.flash)) ∧
  (∀ (s : State), s.on FLU_XSPI_CMD_BUSY = false → s.get FLU_XSPI_FADDR_FADDR % 256 = 0 → xspiAllowed (s.get FLU_XSPI_FADDR_FADDR) 256 = true →
    Completes (exec .xspiProgram s) (fun t => t.on FLU_XSPI_CMD_BUSY = true ∧
      t.flu.xspi = some (3, s.get FLU_XSPI_FADDR_FADDR, s.get FLU_XSPI_SADDR_SADDR))) ∧
  (∀ (s : State), s.on FLU_XSPI_CMD_BUSY = false → s.get FLU_XSPI_FADDR_FADDR % 256 = 0 → xspiAllowed (s.get FLU_XSPI_FADDR_FADDR) 256 = false →
    Completes (exec .xspiProgram s) (fun t => t.on FLU_XSPI_CMD_ERR = true ∧ t.on FLU_FLAGS_PROTECTED = true ∧ t.flash = s.flash)) ∧
  (∀ ok (s : State), s.flu.xspi = none → exec (.xspiOpDone ok) s = .next s) ∧
  (∀ ok op a m (s : State), s.flu.xspi = some (op, a, m) → s.xspiHeld op = true → exec (.xspiOpDone ok) s = .next s) ∧
  (∀ op a m (s : State), s.flu.xspi = some (op, a, m) → s.xspiHeld op = false → s.cal.store = none → s.fw.write = none →
    let u := State.put { s with flu := { s.flu with xspi := none } } FLU_XSPI_CMD_BUSY 0
    (op = 1 → inSram m 256 = true → exec (.xspiOpDone true) s = .next { u with sram := Memory.writeBytes 0 s.sram m (s.flashRead a 256) }) ∧
    (op = 2 → exec (.xspiOpDone true) s = .next (u.flashErase a)) ∧
    (op = 3 → inSram m 256 = true → exec (.xspiOpDone true) s =
      .next (u.flashWrite a (norBytes (s.flashRead a 256) (Memory.readBytes 0 s.sram m 256))).shutFlush) ∧
    (op = 1 → exec (.xspiOpDone false) s = .next (u.set1 FLU_XSPI_CMD_ERR)) ∧
    (op = 2 ∨ op = 3 → Completes (exec (.xspiOpDone false) s) (fun t => t.on FLU_XSPI_CMD_BUSY = false ∧ t.on FLU_XSPI_CMD_ERR = true ∧ t.flu.xspi = none))) ∧
  Answers .flueRead 0x3C00 (fun _ q => [(1, decide (q.w 1 < 65536)), (2, decide (1 ≤ q.w 2 ∧ q.w 2 ≤ 30))])
    (fun s q => s.fluFrom (q.w64 0) ≠ []) (fun s _ => s)
    (fun s q => { okReply ([s.fluOldest % 2 ^ 32, s.fluOldest / 2 ^ 32] ++
        [((s.fluFrom (q.w64 0)).head?.getD {}).seq % 2 ^ 32, ((s.fluFrom (q.w64 0)).head?.getD {}).seq / 2 ^ 32] ++
        [((s.fluFrom (q.w64 0)).take (q.w 2)).length] ++ [s.fluOldest % 2 ^ 32, s.fluOldest / 2 ^ 32] ++
        (bytesWords (((s.fluFrom (q.w64 0)).take (q.w 2)).flatMap recBytes) (8 * ((s.fluFrom (q.w64 0)).take (q.w 2)).length)).map (·.toNat)) with
      more := decide (q.w 2 < (s.fluFrom (q.w64 0)).length) }) ∧
  (∀ (s : State) q, s.serving 0x3C00 q → firstBad [(1, decide (q.w 1 < 65536)), (2, decide (1 ≤ q.w 2 ∧ q.w 2 ≤ 30))] = none → s.fluFrom (q.w64 0) = [] →
    exec .flueRead s = .next (s.fresh.2.finish q.m (okReply [s.fluOldest % 2 ^ 32, s.fluOldest / 2 ^ 32, s.fresh.1 % 2 ^ 48 % 2 ^ 32,
      s.fresh.1 % 2 ^ 48 / 2 ^ 32, 0, s.fluOldest % 2 ^ 32, s.fluOldest / 2 ^ 32]))) ∧
  Answers .flueStatus 0x3C01 (fun _ _ => []) (fun _ _ => True) (fun s _ => s)
    (fun s _ => okReply [(s.flu.seqNext + 2 ^ 48 - 1) % 2 ^ 48 % 2 ^ 32, (s.flu.seqNext + 2 ^ 48 - 1) % 2 ^ 48 / 2 ^ 32, s.fluOldest % 2 ^ 32,
      s.fluOldest / 2 ^ 32, s.get FLU_RESV_RESV, if s.on FLU_STATUS_SEALED_FULL then 1 else 0]) ∧
  Answers .flueNote 0x3C02 (fun _ q => [(0, decide (4 ≤ q.w 0 ∧ q.w 0 ≤ 7)), (1, decide (q.w 1 < 65536 ∧ 0x200 ≤ q.w 1 % 1024))])
    (fun s _ => s.fluTakes 1)
    (fun s q => s.enterRecs [{ sev := q.w 0, code := q.w 1, payload := leBytes 4 (q.w 2) ++ leBytes 4 (q.w 3) ++ leBytes 4 (q.w 4) }])
    (fun s _ => okReply [s.flu.seqNext % 2 ^ 32, s.flu.seqNext / 2 ^ 32]) ∧
  (∀ (s : State) q, s.serving 0x3C02 q → firstBad [(0, decide (4 ≤ q.w 0 ∧ q.w 0 ≤ 7)), (1, decide (q.w 1 < 65536 ∧ 0x200 ≤ q.w 1 % 1024))] = none →
    fluRingCap ≤ s.flu.ring.length → exec .flueNote s = .next (s.finish q.m (failReply stNoSpace)))

/-- A finished action is announced by an event of KIND 3 with its op, tag and status (R117), after firmware has looked after its runs: one whose
mode is left is aborted, fault 006h (R614). A gap piece closes when it is due, and with 512 results ends the measurement (R618); a measurement
starts unless one runs (R618, R630) and times out with fault 001h and its run (R619). A sweep starts with legal settings when its first pulse may
fire (R620, R630); each pulse is weighed GAP ticks later: the next one fires or the sweep ends, passed with ONSET or failed with fault 002h
(R621). The threshold procedure steps TRIM up until the comparator does not trip; it fails at either end of the range, fault 003h (R623). RUN
starts its procedure as a long action: STAGED, NO_SPACE, BAD_STATE outside the procedure's modes, BUSY beside another run (R612, R613, R615);
TRIM_READ replies the set in force, pending or stored (R624, R627); TRIM_WRITE writes a valid set as pending values (R625); STORE erases the block
of the older copy to write the set in force there (R626); BUSY also while an earlier one is unfinished (log entry 60). Without its occasion an
event changes nothing: the model's own reading, log entry 2. -/
def Obligations.Calibration : Prop :=
  (∀ tag (s : State), s.halted = true → exec (.longActionFinish tag) s = .next s) ∧
  (∀ (tag : BitVec 16) (s : State), s.halted = false → s.calPoll.halted = false →
    s.calPoll.mbx.actions.find? (fun a => a.finished && !a.posted && a.tag == tag.toNat) = none → exec (.longActionFinish tag) s = .next s.calPoll) ∧
  (∀ (tag : BitVec 16) a (s : State), s.halted = false → s.calPoll.halted = false →
    s.calPoll.mbx.actions.find? (fun a => a.finished && !a.posted && a.tag == tag.toNat) = some a →
    exec (.longActionFinish tag) s = .next (State.event { s.calPoll with mbx := { s.calPoll.mbx with
      actions := s.calPoll.mbx.actions.map (fun b => if b = a then { b with posted := true } else b) } } 3 a.op a.tag a.status)) ∧
  (∀ tag a (s : State), s.halted = false → s.calRuns = [a] → calModeOk a.arg s.mode = false →
    Completes (exec (.longActionFinish tag) s) (fun t => t.on CAL_FLAGS_MODE_END = true ∧ t.calRuns = [])) ∧
  (∀ (s : State), s.gapDue = false → exec .gapPieceClose s = .next s) ∧
  (∀ (s : State), s.gapDue = true → Completes (exec .gapPieceClose s) (fun t => t.cal.piece = none ∧ t.cal.pieceOn = false ∧
    (s.get CAL_MC_RESULTS < 512 → t.get CAL_MC_RESULTS = s.get CAL_MC_RESULTS ∧ t.on CAL_STATUS_MC_BUSY = s.on CAL_STATUS_MC_BUSY) ∧
    (512 ≤ s.get CAL_MC_RESULTS → t.on CAL_STATUS_MC_BUSY = false))) ∧
  (∀ (v : Word) (s : State), v.toNat.testBit 31 = false → exec (.mcStart v) s = .next (s.put CAL_MC_PIER (wfield v 19 16))) ∧
  (∀ (v : Word) (s : State), v.toNat.testBit 31 = true → s.on CAL_STATUS_MC_BUSY = true → exec (.mcStart v) s = .next (s.set1 CAL_FLAGS_WRITE_REFUSED)) ∧
  (∀ (v : Word) (s : State), v.toNat.testBit 31 = true → s.on CAL_STATUS_MC_BUSY = false → s.on AFE_CAL_CTRL_BUSY = true → exec (.mcStart v) s =
    .next ((s.put CAL_MC_PIER (wfield v 19 16)).calRefuse (2 * wfield v 19 16))) ∧
  (∀ (v : Word) (s : State), v.toNat.testBit 31 = true → s.on CAL_STATUS_MC_BUSY = false → s.on AFE_CAL_CTRL_BUSY = false → Completes (exec (.mcStart v) s) (fun t =>
    t.on CAL_STATUS_MC_BUSY = true ∧ t.get CAL_STATUS_MC_PIER = wfield v 19 16 ∧ t.get CAL_MC_RESULTS = 0 ∧ t.on AFE_CAL_CTRL_BUSY = true)) ∧
  (∀ (s : State), s.on CAL_STATUS_MC_BUSY = false → exec .gapWaitTimeout s = .next s) ∧
  (∀ (s : State), s.on CAL_STATUS_MC_BUSY = true → Completes (exec .gapWaitTimeout s) (fun t => t.on CAL_STATUS_MC_BUSY = false ∧
    t.on CAL_FLAGS_NO_GAP = true ∧ t.get CAL_FAULT_LAST_CODE = 1 ∧
    ∀ a ∈ s.mbx.actions, a.op = 0x3000 → a.arg = 4 → a.finished = false → { a with finished := true, status := stTimeout } ∈ t.mbx.actions)) ∧
  (∀ (v : Word) (s : State), v.toNat.testBit 31 = true → s.on CAL_STATUS_SWP_BUSY = true → exec (.sweepStart v) s = .next (s.set1 CAL_FLAGS_WRITE_REFUSED)) ∧
  (∀ (v : Word) (s : State), v.toNat.testBit 31 = false ∨ s.on CAL_STATUS_SWP_BUSY = false →
    wfield v 27 24 = 0 ∨ wfield v 5 0 < 4 ∨ (v.toNat.testBit 31 = true ∧ s.get CAL_SWP_CFG_POWER = 0) → exec (.sweepStart v) s = .next (s.reservedFault 16)) ∧
  (∀ (v : Word) (s : State), v.toNat.testBit 31 = false → wfield v 27 24 ≠ 0 → 4 ≤ wfield v 5 0 → Completes (exec (.sweepStart v) s) (fun t =>
    t.get CAL_SWP_CTRL_REPEAT = wfield v 27 24 ∧ t.get CAL_SWP_CTRL_INPUT = wfield v 20 20 ∧ t.get CAL_SWP_CTRL_PIER = wfield v 19 16 ∧
    t.get CAL_SWP_CTRL_WINDOW = wfield v 5 0 ∧ t.cal = s.cal)) ∧
  (∀ (v : Word) (s : State), v.toNat.testBit 31 = true → s.on CAL_STATUS_SWP_BUSY = false → wfield v 27 24 ≠ 0 → 4 ≤ wfield v 5 0 → s.get CAL_SWP_CFG_POWER ≠ 0 →
    s.testOk (wfield v 19 16) = true → Completes (exec (.sweepStart v) s) (fun t => t.on CAL_STATUS_SWP_BUSY = true ∧
      t.get CAL_STATUS_SWP_PIER = wfield v 19 16 ∧ t.on LSR_TEST_BUSY (wfield v 19 16) = true ∧ t.cal.swp.isSome = true)) ∧
  (∀ (v : Word) (s : State), v.toNat.testBit 31 = true → s.on CAL_STATUS_SWP_BUSY = false → wfield v 27 24 ≠ 0 → 4 ≤ wfield v 5 0 → s.get CAL_SWP_CFG_POWER ≠ 0 →
    s.testOk (wfield v 19 16) = false → Completes (exec (.sweepStart v) s) (fun t => t.on CAL_STATUS_SWP_BUSY = false ∧
      t.get CAL_SWP_RES_STATUS = 4 ∧ t.on CAL_FLAGS_SWP_FAIL = true ∧ t.cal.swp = none)) ∧
  (∀ (s : State), s.cal.swp = none → exec .sweepPulse s = .next s) ∧
  (∀ w (s : State), s.cal.swp = some w → s.key.tick < w.tick + s.get CAL_SWP_CFG_GAP → exec .sweepPulse s = .next s) ∧
  (∀ w w' (s : State), s.cal.swp = some w → w.tick + s.get CAL_SWP_CFG_GAP ≤ s.key.tick →
    sweepWeigh w (s.get CAL_SWP_LEVEL_LEVEL_MIN) = (w', some 0) → Completes (exec .sweepPulse s) (fun t => t.on CAL_STATUS_SWP_BUSY = false ∧
      t.on CAL_SWP_RES_VALID = true ∧ t.get CAL_SWP_RES_STATUS = 0 ∧ t.get CAL_SWP_RES_ONSET = (w'.s1 * 1000 - w'.lo) % 65536 ∧ t.cal.swp = none)) ∧
  (∀ w w' st (s : State), s.cal.swp = some w → w.tick + s.get CAL_SWP_CFG_GAP ≤ s.key.tick →
    sweepWeigh w (s.get CAL_SWP_LEVEL_LEVEL_MIN) = (w', some st) → 1 ≤ st → st ≤ 3 → Completes (exec .sweepPulse s) (fun t => t.on CAL_STATUS_SWP_BUSY = false ∧
      t.on CAL_SWP_RES_VALID = false ∧ t.get CAL_SWP_RES_STATUS = st ∧ t.on CAL_FLAGS_SWP_FAIL = true ∧ t.cal.swp = none)) ∧
  (∀ w w' (s : State), s.cal.swp = some w → w.tick + s.get CAL_SWP_CFG_GAP ≤ s.key.tick → sweepWeigh w (s.get CAL_SWP_LEVEL_LEVEL_MIN) = (w', none) →
    w'.pier = w.pier →
    let u := if Tab.get 0 s.lsr.test w.pier = 3 then s.testEnd w.pier else s
    (u.testOk w.pier = true → Completes (exec .sweepPulse s) (fun t => t.cal.swp = some { w' with tick := s.key.tick, smp := [] })) ∧
    (u.testOk w.pier = false → Completes (exec .sweepPulse s) (fun t => t.cal.swp = none ∧ t.on CAL_STATUS_SWP_BUSY = false ∧
      t.get CAL_SWP_RES_STATUS = 4 ∧ t.on CAL_FLAGS_SWP_FAIL = true))) ∧
  (∀ (v : Word) (s : State), v.toNat.testBit 31 = false → exec (.thresholdStart v) s = .next (s.put CAL_LT_CTRL_CHANNEL (wfield v 3 0))) ∧
  (∀ (v : Word) (s : State), v.toNat.testBit 31 = true → s.on CAL_STATUS_LT_BUSY = true → exec (.thresholdStart v) s = .next (s.set1 CAL_FLAGS_WRITE_REFUSED)) ∧
  (∀ (v : Word) (s : State), v.toNat.testBit 31 = true → s.on CAL_STATUS_LT_BUSY = false → Completes (exec (.thresholdStart v) s) (fun t =>
    t.on CAL_STATUS_LT_BUSY = true ∧ t.get CAL_STATUS_LT_CHAN = wfield v 3 0 ∧ t.cal.lt = -32)) ∧
  (∀ trip (s : State), s.on CAL_STATUS_LT_BUSY = false → exec (.thresholdStep trip) s = .next s) ∧
  (∀ (s : State), s.on CAL_STATUS_LT_BUSY = true → s.cal.lt ≠ 31 → exec (.thresholdStep true) s =
    .next { s with cal := { s.cal with lt := s.cal.lt + 1 } }) ∧
  (∀ (s : State), s.on CAL_STATUS_LT_BUSY = true → -32 < s.cal.lt → s.cal.lt ≤ 31 → Completes (exec (.thresholdStep false) s) (fun t =>
    t.on CAL_STATUS_LT_BUSY = false ∧ t.on CAL_LT_RES_VALID = true ∧ t.getS CAL_LT_RES_TRIM = s.cal.lt)) ∧
  (∀ trip (s : State), s.on CAL_STATUS_LT_BUSY = true → (trip = true ∧ s.cal.lt = 31) ∨ (trip = false ∧ s.cal.lt = -32) →
    Completes (exec (.thresholdStep trip) s) (fun t => t.on CAL_STATUS_LT_BUSY = false ∧ t.on CAL_LT_RES_VALID = false ∧ t.on CAL_LT_RES_RANGE = true ∧
      t.on CAL_FLAGS_LT_RANGE = true)) ∧
  (∀ (s : State) q, s.serving 0x3000 q →
    let bad := firstBad [(0, decide (q.w 0 < 4)), (1, decide (q.w 1 < 16))]
    let staged := q.w 0 ≠ 2 ∧ q.defer = false ∧ s.mbx.staged &&& 0x200 ≠ 0
    let kind := if q.w 0 = 1 ∧ s.mode = 4 then 4 else q.w 0
    (∀ i, bad = some i → exec .calRun s = .next (s.finish q.m (badParam i))) ∧
    (bad = none → staged → exec .calRun s = .next (s.finish q.m (failReply stStaged))) ∧
    (bad = none → ¬staged → s.noPlace = true → exec .calRun s = .next (s.finish q.m (failReply stNoSpace))) ∧
    (bad = none → ¬staged → s.noPlace = false → s.calAccept (q.w 0) (q.w 1) = false → exec .calRun s = .next (s.finish q.m (failReply stBadState))) ∧
    (bad = none → ¬staged → s.noPlace = false → s.calAccept (q.w 0) (q.w 1) = true → s.calBusy (q.w 0) (q.w 1) = true →
      exec .calRun s = .next (s.finish q.m (failReply stBusy))) ∧
    (bad = none → ¬staged → s.noPlace = false → s.calAccept (q.w 0) (q.w 1) = true → s.calBusy (q.w 0) (q.w 1) = false →
      exec .calRun s = .next (((s.startAction q kind (q.w 1 + if q.defer then 65536 else 0)).calDrive (q.w 0) (q.w 1)).finish q.m okReply))) ∧
  (∀ (s : State) q, s.serving 0x3000 q → q.w 0 = 3 → q.w 1 < 16 → s.calAccept 3 (q.w 1) = true → s.calBusy 3 (q.w 1) = false → q.defer = false →
    s.mbx.staged &&& 0x200 = 0 → s.noPlace = false → s.on CAL_STATUS_LT_BUSY = false → Completes (exec .calRun s) (fun t =>
      t.on CAL_STATUS_LT_BUSY = true ∧ t.get CAL_STATUS_LT_CHAN = q.w 1)) ∧
  (∀ (s : State) q, s.serving 0x3001 q → q.w 0 < 2 → exec .calTrimRead s = .next (s.finish q.m (okReply (s.trimSet (q.w 0 == 1) 0 0)))) ∧
  (∀ (s : State) q c ws, s.serving 0x3001 q → q.w 0 = 2 → s.trimStored = some (c, ws) → exec .calTrimRead s = .next (s.finish q.m (okReply ws))) ∧
  (∀ (s : State) q, s.serving 0x3001 q → q.w 0 = 2 → s.trimStored = none → exec .calTrimRead s = .next (s.finish q.m (failReply stNotFound))) ∧
  (∀ (s : State) q, s.serving 0x3001 q → 2 < q.w 0 → exec .calTrimRead s = .next (s.finish q.m (badParam 0))) ∧
  Stages .calTrimWrite 0x3002 0x200 (fun _ q => [(atByte 2, decide (q.w 0 / 2 ^ 16 = 1))] ++
      (List.range 16).map (fun p => (1 + p, decide (q.w (1 + p) / 32 % 2 ^ 11 ≤ 1999))) ++
      (List.range 16).map (fun k => (17 + k, decide (q.w (17 + k) / 64 % 1024 = 0))) ++ [(43, trimValid ((List.range 44).map q.w))])
    (fun s q => s.trimApply ((List.range 44).map q.w)) ∧
  (∀ (s : State) q, s.serving 0x3003 q → s.noPlace = true → exec .calStore s = .next (s.finish q.m (failReply stNoSpace))) ∧
  (∀ (s : State) q, s.serving 0x3003 q → s.noPlace = false → s.bit KEY_COMMIT_STATUS_DIRTY 9 = true ∨ s.mbx.staged.testBit 9 = true ∨ s.cal.store.isSome = true →
    exec .calStore s = .next (s.finish q.m (failReply stBusy))) ∧
  (∀ (s : State) q c gen, s.serving 0x3003 q → s.noPlace = false → s.bit KEY_COMMIT_STATUS_DIRTY 9 = false → s.mbx.staged.testBit 9 = false → s.cal.store = none →
    (∀ c' ws, s.trimStored = some (c', ws) → c = 1 - c' ∧ gen = (ws.getD 42 0 + 1) % 2 ^ 32) → (s.trimStored = none → c = 0 ∧ gen = 1) →
    Completes (exec .calStore s) (fun t => t.cal.store = some (trimBlock c, (s.trimSet false (s.get VLT_OPSEC_OPSEC) gen).flatMap (leBytes 4) ++
        List.replicate 80 0xFF#8, false) ∧
      (s.flu.xspi = none → t.on FLU_XSPI_CMD_BUSY = true ∧ t.flu.xspi = some (2, trimBlock c, 0x100FFF00)) ∧
      (s.flu.xspi.isSome = true → t.flu.xspi = s.flu.xspi) ∧
      ({ tag := q.tag, op := 0x3003 } : Action) ∈ t.mbx.actions))

/-- A frame that a linked, enabled port accepts goes to the next owned receive descriptor, which is counted and passed: the buffer holds its
bytes and the descriptor its length, its marks and its timestamp (R633–R635); with no descriptor it is counted and dropped with fault 003h; any
other frame changes nothing but the time that passes (R633). A transmitted frame returns its descriptor and is counted, a failed one, or one
whose buffer lies outside the SRAM, is returned but not counted; a descriptor that is not owned stops the port (R634). A kick starts it again
(R634). A pop removes the head timestamp (R637). An MDIO frame starts when none runs and its read data is stored; no PHY's answer sets MDIO_ERR
(R633). A lost link sets LINK_LOST, fault 001h. An event that finds nothing to do changes nothing: the model's own reading, log entry 2. -/
def Obligations.Network : Prop :=
  (∀ (n : Fin 2) bs ok adv (s : State), s.bit NET_STATUS_LINK n = false ∨ s.on NET_CTRL_EN n = false ∨ s.ethAccepts n bs = false →
    exec (.ethRxFrame n bs ok adv) s = .next (s.advance adv)) ∧
  (∀ (n : Fin 2) bs ok adv (s : State), s.bit NET_STATUS_LINK n = true → s.on NET_CTRL_EN n = true → s.ethAccepts n bs = true →
    (s.sramWord (s.get NET_RXR_BASE_RXR_BASE n + 16 * s.get NET_RXR_POS_POS n)).testBit 31 = false →
    Completes (exec (.ethRxFrame n bs ok adv) s) (fun t => t.on NET_FLAGS_RX_NOBUF = true ∧ t.get NET_FAULT_LAST_CODE = 3 ∧
      t.get NET_RXR_POS_POS n = s.get NET_RXR_POS_POS n)) ∧
  (∀ (n : Fin 2) bs ok adv (s : State), s.bit NET_STATUS_LINK n = true → s.on NET_CTRL_EN n = true → s.ethAccepts n bs = true →
    (s.sramWord (s.get NET_RXR_BASE_RXR_BASE n + 16 * s.get NET_RXR_POS_POS n)).testBit 31 = true → s.get NET_RXR_POS_POS n < s.get NET_RXR_SIZE_COUNT n →
    Completes (exec (.ethRxFrame n bs ok adv) s) (fun t => t.get NET_RXR_POS_POS n =
      ringNext (s.get NET_RXR_POS_POS n) (s.get NET_RXR_SIZE_COUNT n) % 2 ^ 7 ∧
      t.get NET_CNT_A_RX_FRAMES n = min 65535 (s.get NET_CNT_A_RX_FRAMES n + 1) ∧
      (ok = false → t.get NET_CNT_B_FCS_ERR n = min 65535 (s.get NET_CNT_B_FCS_ERR n + 1)))) ∧
  (∀ (n : Fin 2) bs ok adv (s : State), s.bit NET_STATUS_LINK n = true → s.on NET_CTRL_EN n = true → s.ethAccepts n bs = true →
    let d := s.get NET_RXR_BASE_RXR_BASE n + 16 * s.get NET_RXR_POS_POS n
    let a := s.sramWord (d + 4)
    (s.sramWord d).testBit 31 = true → 0x10000000 ≤ d → d + 16 ≤ 0x10100000 → 0x10000000 ≤ a → a + min 1536 bs.length ≤ 0x10100000 →
    Completes (exec (.ethRxFrame n bs ok adv) s) (fun t => t.sram = Memory.writeBytes 0 (Memory.writeBytes 0 (Memory.writeBytes 0 s.sram a (bs.take 1536))
      d (leBytes 4 (2 ^ 29 + (if ok then 0 else 2 ^ 28) + (if 1536 < bs.length then 2 ^ 27 else 0) + min bs.length 0x7FF)))
      (d + 8) (leBytes 8 ((s.advance adv).rxStamp n)))) ∧
  (∀ (n : Fin 2) ok adv (s : State), s.bit NET_STATUS_LINK n = false ∨ s.on NET_CTRL_EN n = false ∨ (s.port n).stop = true →
    exec (.ethTxFrame n ok adv) s = .next (s.advance adv)) ∧
  (∀ (n : Fin 2) ok adv (s : State), s.bit NET_STATUS_LINK n = true → s.on NET_CTRL_EN n = true → (s.port n).stop = false →
    (s.sramWord (s.get NET_TXR_BASE_TXR_BASE n + 16 * s.get NET_TXR_POS_POS n)).testBit 31 = false →
    exec (.ethTxFrame n ok adv) s = .next ((s.advance adv).setPort n { s.port n with stop := true })) ∧
  (∀ (n : Fin 2) ok adv (s : State), s.bit NET_STATUS_LINK n = true → s.on NET_CTRL_EN n = true → (s.port n).stop = false →
    let d := s.get NET_TXR_BASE_TXR_BASE n + 16 * s.get NET_TXR_POS_POS n
    let a := s.sramWord (d + 4)
    let good := ok = true ∧ 0x10000000 ≤ a ∧ a + s.sramWord d % 2048 ≤ 0x10100000
    (s.sramWord d).testBit 31 = true → Completes (exec (.ethTxFrame n ok adv) s) (fun t =>
      t.get NET_TXR_POS_POS n = ringNext (s.get NET_TXR_POS_POS n) (s.get NET_TXR_SIZE_COUNT n) % 2 ^ 7 ∧
      (good → t.get NET_CNT_B_TX_FRAMES n = min 65535 (s.get NET_CNT_B_TX_FRAMES n + 1)) ∧
      (¬good → t.get NET_CNT_B_TX_FRAMES n = s.get NET_CNT_B_TX_FRAMES n))) ∧
  (∀ (n : Fin 2) (v : Word) (s : State), exec (.txKick n v) s = .next (if v.toNat % 2 = 1 then s.setPort n { s.port n with stop := false } else s)) ∧
  (∀ (n : Fin 2) (v : Word) (s : State), v.toNat.testBit 31 = false ∨ (s.port n).queue = [] → exec (.txtsPop n v) s = .next s) ∧
  (∀ (n : Fin 2) (v : Word) e q (s : State), v.toNat.testBit 31 = true → (s.port n).queue = e :: q → Completes (exec (.txtsPop n v) s) (fun t =>
    (t.port n).queue = q ∧ t.get NET_TXTS_POP_FILL n = q.length % 16)) ∧
  (∀ (v : Word) (s : State), s.on NET_MDIO_BUSY = true → exec (.mdioFrame v) s = .next s) ∧
  (∀ (v : Word) (s : State), s.on NET_MDIO_BUSY = false → wfield v 29 28 = 1 ∨ wfield v 29 28 = 2 → Completes (exec (.mdioFrame v) s)
    (fun t => t.on NET_MDIO_BUSY = v.toNat.testBit 31 ∧ t.get NET_MDIO_OP = wfield v 29 28 ∧ t.get NET_MDIO_PHY = wfield v 25 21 ∧
      t.get NET_MDIO_REG = wfield v 20 16 ∧ t.get NET_MDIO_DATA = wfield v 15 0)) ∧
  (∀ (v : Word) (s : State), s.on NET_MDIO_BUSY = false → wfield v 29 28 = 0 ∨ wfield v 29 28 = 3 → exec (.mdioFrame v) s = .next (s.reservedFault 17)) ∧
  (∀ d a (s : State), s.on NET_MDIO_BUSY = false → exec (.mdioDone d a) s = .next s) ∧
  (∀ (d : BitVec 16) a (s : State), s.on NET_MDIO_BUSY = true → Completes (exec (.mdioDone d a) s) (fun t => t.on NET_MDIO_BUSY = false ∧
    t.get NET_MDIO_DATA = (if s.get NET_MDIO_OP = 2 then d.toNat else s.get NET_MDIO_DATA) ∧ (a = false → t.on NET_FLAGS_MDIO_ERR = true) ∧
    (a = true → t.on NET_FLAGS_MDIO_ERR = s.on NET_FLAGS_MDIO_ERR))) ∧
  (∀ (n : Fin 2) b (s : State), s.bit NET_STATUS_LINK n = b → exec (.ethLinkChange n b) s = .next s) ∧
  (∀ (n : Fin 2) (s : State), s.bit NET_STATUS_LINK n = false → exec (.ethLinkChange n true) s = .next (s.putBit NET_STATUS_LINK n true)) ∧
  (∀ (n : Fin 2) (s : State), s.bit NET_STATUS_LINK n = true → exec (.ethLinkChange n false) s =
    .next (((s.putBit NET_STATUS_LINK n false).set1 NET_FLAGS_LINK_LOST).fault 17 1 3 n))

/-- With no time transmitter in use, or in HOLDOVER, an Announce selects its sender and enters QUALIFY; otherwise a better one from another
sender replaces it and enters QUALIFY, a worse one changes nothing, and one from the same sender on the port in use, or a better one of it on the
other, is taken with the state kept (R641, R642). Its silence enters HOLDOVER from QUALIFY or LOCKED, with fault 004h (R642). In QUALIFY an
exchange adds an offset; the eighth starts again unless all lie within 100 ns of their mean, locks where that mean is within the jump limit, and
beyond it asks for a jump, records fault 006h and locks (R641). In LOCKED the increment stays within 500 ppm of 1 (R640). In FREE and HOLDOVER an
exchange changes nothing. TIME READ snapshots (R84). INC_SET and OFS_SET check their payload, are BUSY while the servo steers (R643), and else
write the increment and the offset (R81, R82), OFS_SET's with JUMP_ARM where its third word is 1, and DENIED where the jump is refused; that the
offset takes force at phase 399 is the model's choice, log entry 60. DISC_SET is STAGED while group 0 is staged, replies at the capture (R773),
and with DEFER at once. TRIGGER_SET denies the comparators 12 and above and writes the others; on an armed comparator its writes of TARGET and
PERIOD are ignored and IGNORED is set (R142, R93; the reading of R93 for the command is log entry 57). -/
def Obligations.PrecisionTime : Prop :=
  (∀ (n : Fin 2) ds (s : State), s.net.tx = none ∨ (s.net.tx.isSome = true ∧ s.get NET_PTP_STATE = ptpHoldover) →
    Completes (exec (.ptpAnnounce n ds) s) (fun t => t.net.tx = some ds ∧ t.get NET_PTP_PORT = n ∧ t.get NET_PTP_STATE = ptpQualify ∧ t.net.offs = [])) ∧
  (∀ (n : Fin 2) ds cur (s : State), s.net.tx = some cur → s.get NET_PTP_STATE ≠ ptpHoldover → (ds.getLast? == cur.getLast?) = false → dsLt ds cur = true →
    Completes (exec (.ptpAnnounce n ds) s) (fun t => t.net.tx = some ds ∧ t.get NET_PTP_PORT = n ∧ t.get NET_PTP_STATE = ptpQualify ∧ t.net.offs = [])) ∧
  (∀ (n : Fin 2) ds cur (s : State), s.net.tx = some cur → s.get NET_PTP_STATE ≠ ptpHoldover → (ds.getLast? == cur.getLast?) = true →
    n.val = s.get NET_PTP_PORT ∨ dsLt ds cur = true →
    Completes (exec (.ptpAnnounce n ds) s) (fun t => t.net.tx = some ds ∧ t.get NET_PTP_PORT = n ∧ t.get NET_PTP_STATE = s.get NET_PTP_STATE ∧
      t.net.offs = s.net.offs)) ∧
  (∀ (n : Fin 2) ds cur (s : State), s.net.tx = some cur → s.get NET_PTP_STATE ≠ ptpHoldover → dsLt ds cur = false →
    (ds.getLast? == cur.getLast?) = false ∨ n.val ≠ s.get NET_PTP_PORT → exec (.ptpAnnounce n ds) s = .next s) ∧
  (∀ (s : State), s.get NET_PTP_STATE = ptpQualify ∨ s.get NET_PTP_STATE = ptpLocked → Completes (exec .ptpAnnounceTimeout s)
    (fun t => t.get NET_PTP_STATE = ptpHoldover ∧ t.net.offs = [] ∧ t.get NET_FAULT_LAST_CODE = 4)) ∧
  (∀ (s : State), s.get NET_PTP_STATE = ptpFree ∨ s.get NET_PTP_STATE = ptpHoldover → exec .ptpAnnounceTimeout s = .next s) ∧
  (∀ t1 t2 t3 t4 ph aux (s : State), s.get NET_PTP_STATE = ptpFree ∨ s.get NET_PTP_STATE = ptpHoldover →
    exec (.ptpSyncExchange t1 t2 t3 t4 ph aux) s = .next s) ∧
  (∀ (t1 t2 t3 t4 : Nat) ph aux (s : State),
    let offs := s.net.offs ++ [(t2 : Int) - t1 - ((t2 : Int) - t1 + ((t4 : Int) - t3)).tdiv 2]
    let sum := offs.foldl (· + ·) 0
    let near := ∀ o ∈ offs, (8 * o - sum).natAbs ≤ 800
    let u := { s with net := { s.net with offs := [] } }
    s.get NET_PTP_STATE = ptpQualify →
    (s.net.offs.length < 7 → exec (.ptpSyncExchange t1 t2 t3 t4 ph aux) s = .next { s with net := { s.net with offs := offs } }) ∧
    (s.net.offs.length = 7 → ¬near → exec (.ptpSyncExchange t1 t2 t3 t4 ph aux) s = .next u) ∧
    (s.net.offs.length = 7 → near → (sum.tdiv 8).natAbs ≤ s.get KEY_JUMP_LIMIT_LIMIT →
      exec (.ptpSyncExchange t1 t2 t3 t4 ph aux) s = .next (u.put NET_PTP_STATE ptpLocked)) ∧
    (s.net.offs.length = 7 → near → s.get KEY_JUMP_LIMIT_LIMIT < (sum.tdiv 8).natAbs → exec (.ptpSyncExchange t1 t2 t3 t4 ph aux) s =
      .next ((((u.set1 KEY_TIME_CTRL_JUMP_ARM).ofsChange (ofSigned 64 (toSigned 64 s.key.ofs - sum.tdiv 8)) ph aux).fault 17 6 3
        (s.get NET_PTP_PORT) none (some (ofSigned 32 (sum.tdiv 8)))).put NET_PTP_STATE ptpLocked))) ∧
  (∀ t1 t2 t3 t4 ph aux (s : State), s.get NET_PTP_STATE = ptpLocked → ∃ v, 2 ^ 32 - 2147483 ≤ v ∧ v ≤ 2 ^ 32 + 2147483 ∧
    exec (.ptpSyncExchange t1 t2 t3 t4 ph aux) s = .next (s.fresh.2.applyInc v)) ∧
  Answers .timeRead 0x3400 (fun _ _ => []) (fun _ _ => True) (fun s _ => s.snap)
    (fun s _ => okReply ((List.range 6).map (fun i => s.snap.get KEY_SNAP_CAP_VAL i))) ∧
  Answers .timeIncSet 0x3401 (fun _ q => [(0, decide (¬(q.w 1 = 0 ∧ q.w 0 < 0xC0000000) ∧ ¬(q.w 1 = 1 ∧ 0x40000000 < q.w 0))),
      (1, decide (q.w 1 < 2))]) (fun _ _ => True)
    (fun s q => if s.steered then s else State.applyInc { s with key := { s.key with fracHeld := q.w 0 } } (q.w 1 * 2 ^ 32 + q.w 0))
    (fun s _ => if s.steered then failReply stBusy else okReply) ∧
  (∀ aux, Answers (.timeOfsSet aux) 0x3402 (fun _ q => [(2, decide (q.w 2 < 2))]) (fun s _ => s.steered = true) (fun s _ => s)
    (fun _ _ => failReply stBusy)) ∧
  (∀ aux (s : State) q, s.serving 0x3402 q → s.steered = false → q.w 2 < 2 →
    let u := { (if q.w 2 = 1 then s.set1 KEY_TIME_CTRL_JUMP_ARM else s) with key := { s.key with ofsLoHeld := q.w 0 } }
    (u.ofsRefused (q.w64 0) = true → exec (.timeOfsSet aux) s = .next (u.refuseOfs.finish q.m (failReply stDenied))) ∧
    (u.ofsRefused (q.w64 0) = false → exec (.timeOfsSet aux) s = .next ((u.ofsChange (q.w64 0) 399 aux).finish q.m
      (okReply [if u.get KEY_JUMP_LIMIT_LIMIT < (s.ofsDelta (q.w64 0)).natAbs then 1 else 0])))) ∧
  Answers .timeDiscSet 0x3403 (fun _ q => [(0, decide (q.w 0 ≤ 4)), (1, decide (q.w 1 ≤ 2)), (4, decide (q.w 4 < 256)), (5, decide (q.w 5 < 2))])
    (fun s q => q.defer = false ∧ s.mbx.staged &&& 1 ≠ 0) (fun s _ => s) (fun _ _ => failReply stStaged) ∧
  (∀ (s : State) q, s.serving 0x3403 q → q.w 0 ≤ 4 → q.w 1 ≤ 2 → q.w 4 < 256 → q.w 5 < 2 → (q.defer = true ∨ s.mbx.staged &&& 1 = 0) →
    Completes (exec .timeDiscSet s) (fun t => t.getP KEY_CTRL_PERIOD = q.w 0 ∧ t.getP KEY_CTRL_DISC_MODE = q.w 1 ∧
      t.getP KEY_DISC_ANCHOR_LO_ANCHOR_LO = q.w 2 % 2 ^ 32 ∧ t.getP KEY_DISC_ANCHOR_HI_ANCHOR_HI = q.w 3 % 2 ^ 32 ∧
      t.getP KEY_WIRE_COMP_COMP = q.w 4 ∧ t.on KEY_CTRL_TICK_OUT_EN = (q.w 5 == 1) ∧
      (q.defer = false → t.mbx.waitKey = some (q.m, okReply) ∧ t.mbx.begun = true))) ∧
  (∀ (s : State) q, s.serving 0x3404 q →
    let v := word (q.w 4)
    let small := v.toNat.testBit 31 && v.toNat.testBit 30 && decide (q.w 3 < 1000)
    let bads := [(0, decide (q.w 0 < 16)), (3, !small), (4, v &&& 0x1FE0FF00#32 == 0 && ttDestOk (wfield v 20 16) (wfield v 7 0))]
    (∀ i, firstBad bads = some i → exec .timeTriggerSet s = .next (s.finish q.m (badParam i))) ∧
    (firstBad bads = none → 12 ≤ q.w 0 → exec .timeTriggerSet s = .next (s.finish q.m (failReply stDenied))) ∧
    (firstBad bads = none → q.w 0 < 12 → s.on KEY_TT_CTRL_EN (q.w 0) = false → exec .timeTriggerSet s =
      .next ((((s.putTarget (q.w 0) (q.w64 1)).put KEY_TT_PERIOD_PERIOD (q.w 3) (q.w 0)).ttCtrlWrite (q.w 0) v).finish q.m okReply)) ∧
    (firstBad bads = none → q.w 0 < 12 → s.on KEY_TT_CTRL_EN (q.w 0) = true → exec .timeTriggerSet s =
      .next (((s.set1 KEY_TT_STATUS_IGNORED (q.w 0)).ttCtrlWrite (q.w 0) v).finish q.m okReply)))

/-- With the link up and out of D3hot, a BAR2 request that an enabled window covers, with WRITE for a write, goes to DRAM (R647); one that no window
allows, or beyond the DRAM fitted, is counted, and captured with fault 002h unless one stands captured already; DRAM is left alone. Poisoned read
data sets POISON, fault 003h (R647). An uncorrectable TLP records fault 004h (R651). With the link down, or in D3hot, a request does nothing: the
model's own reading, log entry 2. A reset of the link or of the function clears the configuration, the MSI-X table, masks and pending vectors
and sets RESET, fault 001h (R649); link reset also takes the link down. D3hot is entered by a configuration write (R649); the link comes up with a
speed and a width (R646). Configuration requests enable MSI-X and the bus master and leave D3hot, each of which sends what it no longer holds back,
and place the BARs (R646, R649). An event without occasion changes nothing: the model's own reading, log entry 2. -/
def Obligations.PciExpress : Prop :=
  (∀ a n w aer (s : State), s.on PCI_STATUS_LINK_UP = false ∨ (aer = false ∧ s.on PCI_STATUS_D3HOT = true) →
    exec (.bar2Request a n w aer) s = .next s) ∧
  (∀ a n w (s : State), s.on PCI_STATUS_LINK_UP = true → exec (.bar2Request a n w true) s = .next (s.fault 18 4 3)) ∧
  (∀ a n bs (s : State) t, s.on PCI_STATUS_LINK_UP = true → s.on PCI_STATUS_D3HOT = false → s.bar2Allowed a n true = true →
    (s.dramWrite 1 a (bs.take n) = (.ok, t) → exec (.bar2Request a n (some bs) false) s = .next t) ∧
    (s.dramWrite 1 a (bs.take n) = (.target, t) → exec (.bar2Request a n (some bs) false) s = .next t) ∧
    (s.dramWrite 1 a (bs.take n) = (.decode, t) → exec (.bar2Request a n (some bs) false) s = .next (t.bar2Deny a true))) ∧
  (∀ a n bs (s : State) t, s.on PCI_STATUS_LINK_UP = true → s.on PCI_STATUS_D3HOT = false → s.bar2Allowed a n false = true →
    (s.dramRead 1 a n = (.ok, bs, t) → exec (.bar2Request a n none false) s = .next t) ∧
    (s.dramRead 1 a n = (.target, bs, t) → exec (.bar2Request a n none false) s = .next ((t.set1 PCI_FLAGS_POISON).fault 18 3 3)) ∧
    (s.dramRead 1 a n = (.decode, bs, t) → exec (.bar2Request a n none false) s = .next (t.bar2Deny a false))) ∧
  (∀ a n (w : Option (List Byte)) (s : State), s.on PCI_STATUS_LINK_UP = true → s.on PCI_STATUS_D3HOT = false → s.bar2Allowed a n w.isSome = false →
    Completes (exec (.bar2Request a n w false) s) (fun t => t.on PCI_FLAGS_DENIED = true ∧ t.dram = s.dram ∧
      t.get PCI_DENY_WRITES = (if w.isSome then min 65535 (s.get PCI_DENY_WRITES + 1) else s.get PCI_DENY_WRITES) ∧
      t.get PCI_DENY_READS = (if w.isSome then s.get PCI_DENY_READS else min 65535 (s.get PCI_DENY_READS + 1)) ∧
      (s.on PCI_FLAGS_DENIED = false → t.get PCI_FAULT_LAST_CODE = 2 ∧ t.get PCI_DENY_ADDR_LO_ADDR_LO = a % 2 ^ 32) ∧
      (s.on PCI_FLAGS_DENIED = true → t.get PCI_DENY_ADDR_LO_ADDR_LO = s.get PCI_DENY_ADDR_LO_ADDR_LO))) ∧
  (∀ (s : State), Completes (exec .pcieReset s) (fun t => t.on PCI_STATUS_LINK_UP = false ∧ t.get PCI_STATUS_SPEED = 0 ∧ t.get PCI_STATUS_WIDTH = 0 ∧
    t.mbx.msix = [] ∧ t.mbx.vecPend = 0 ∧ t.pci = {} ∧ t.on PCI_STATUS_D3HOT = false ∧ t.on PCI_STATUS_MSIX_EN = false ∧
    t.on PCI_STATUS_FN_MASK = false ∧ t.on PCI_STATUS_BME = false ∧ t.on PCI_FLAGS_RESET = true ∧ t.get PCI_FAULT_LAST_CODE = 1)) ∧
  (∀ (s : State), s.on PCI_STATUS_LINK_UP = true → Completes (exec .functionLevelReset s) (fun t => t.on PCI_STATUS_LINK_UP = true ∧
    t.mbx.msix = [] ∧ t.mbx.vecPend = 0 ∧ t.pci = {} ∧ t.on PCI_STATUS_D3HOT = false ∧ t.on PCI_STATUS_MSIX_EN = false ∧
    t.on PCI_STATUS_FN_MASK = false ∧ t.on PCI_STATUS_BME = false ∧ t.on PCI_FLAGS_RESET = true ∧ t.get PCI_FAULT_LAST_CODE = 1)) ∧
  (∀ (s : State), s.on PCI_STATUS_LINK_UP = true → exec .d3hotEntry s = .next (s.set1 PCI_STATUS_D3HOT)) ∧
  (∀ (sp w : Fin 3) (s : State), s.on PCI_STATUS_LINK_UP = false → Completes (exec (.pcieLinkUp sp w) s) (fun t => t.on PCI_STATUS_LINK_UP = true ∧
    t.get PCI_STATUS_SPEED = sp.val + 1 ∧ t.get PCI_STATUS_WIDTH = 2 ^ w.val)) ∧
  (∀ (sp w : Fin 3) (s : State), s.on PCI_STATUS_LINK_UP = true → exec (.pcieLinkUp sp w) s = .next s) ∧
  (∀ r (s : State), s.on PCI_STATUS_LINK_UP = false → exec .functionLevelReset s = .next s ∧ exec .d3hotEntry s = .next s ∧
    exec (.pcieConfigRequest r) s = .next s) ∧
  (∀ a e m (v : Word) (s : State), s.on PCI_STATUS_LINK_UP = true →
    exec (.pcieConfigRequest (.read a)) s = .next s ∧
    exec (.pcieConfigRequest (.msix e m)) s =
      .next ((s.put PCI_STATUS_MSIX_EN (if e then 1 else 0)).put PCI_STATUS_FN_MASK (if m then 1 else 0)).vecRelease ∧
    exec (.pcieConfigRequest (.busMaster e)) s = .next (s.put PCI_STATUS_BME (if e then 1 else 0)).vecRelease ∧
    exec (.pcieConfigRequest .toD0) s = .next (s.put PCI_STATUS_D3HOT 0).vecRelease ∧
    exec (.pcieConfigRequest (.bar0 v)) s = .next { s with pci := { s.pci with bar0 := v.toNat / 65536 * 65536 } }) ∧
  (∀ (v : BitVec 64) (s : State), s.on PCI_STATUS_LINK_UP = true →
    exec (.pcieConfigRequest (.bar2 v)) s = .next { s with pci := { s.pci with bar2 := v.toNat / 2 ^ 36 * 2 ^ 36 } })

/-- A write of SEC_MODE with a reserved target, or with LASERS outside SERVICE, is a reserved value (R11); SAFE, BOOT, VAULT and HOLD are not left
by it (R672); a target that checks 3 and 4 refuse records fault 004h; another is entered and LASERS taken (R671, R673); the HOLD the host asks for
is fault 005h, whose cause does not persist (R675). A challenge is drawn for a level that may be opened and expires (R680); a four-byte token lowers
the level, a 196-byte token that verifies against the challenge opens its level, any other is refused with fault 003h and ends the challenge (R681).
Closing makes the level LOCKED; an instruction of the port the level no longer allows turns into BYPASS (R679, R683). A halt request acts at FULL
only, at once with lasers off, with MODE_ALLOW after fault 006h (R684). An instruction that the level does not allow acts as BYPASS; reads act from
OBSERVE on, writes and control at FULL (R679); trace and a single step change no other state, the program flow of Nagus being none of the block's. -/
def Obligations.ModesAndDebug : Prop :=
  (∀ (v : Word) (s : State), v.toNat % 16 < 2 ∨ 6 < v.toNat % 16 ∨ (v.toNat.testBit 8 = true ∧ v.toNat % 16 ≠ 6) →
    exec (.modeWrite v) s = .next (s.reservedFault 19)) ∧
  (∀ (v : Word) (s : State), 2 ≤ v.toNat % 16 → v.toNat % 16 ≤ 6 → (v.toNat.testBit 8 = true → v.toNat % 16 = 6) →
    (s.mode = 7 ∨ s.mode = 5 ∨ s.mode = 1 ∨ s.mode = 0 → exec (.modeWrite v) s = .next (s.set1 SEC_FLAGS_MODE_REFUSED)) ∧
    (2 ≤ s.mode → s.mode ≤ 6 → s.mode ≠ 5 → s.modeRefused (v.toNat % 16) (v.toNat.testBit 8) = true →
      exec (.modeWrite v) s = .next ((s.set1 SEC_FLAGS_MODE_REFUSED).fault 19 4 3)) ∧
    (2 ≤ s.mode → s.mode ≤ 6 → s.mode ≠ 5 → s.modeRefused (v.toNat % 16) (v.toNat.testBit 8) = false → v.toNat % 16 ≠ 5 →
      exec (.modeWrite v) s = .next (s.takeMode (v.toNat % 16) (v.toNat.testBit 8)) ∧
      (s.debug = 0 → Completes (exec (.modeWrite v) s) (fun t => t.mode = v.toNat % 16 ∧ t.on SEC_STATUS_LASERS = v.toNat.testBit 8 ∧ t.debug = 0)))) ∧
  (∀ (s : State), 2 ≤ s.mode → s.mode ≤ 6 → s.mode ≠ 5 → s.modeRefused 5 false = false → Completes (exec (.modeWrite 5) s) (fun t => t.mode = 5 ∧
    t.get SEC_MODE_RET = s.mode ∧ t.get SEC_FAULT_LAST_CODE = 5 ∧ (19 * 1024 + 5, 255) ∉ t.causes)) ∧
  (∀ (v : Word) (s : State), v.toNat % 4 = 0 ∨ v.toNat % 4 = 3 → exec (.challengeNew v) s = .next (s.reservedFault 19)) ∧
  (∀ (v : Word) (s : State), v.toNat % 4 = 1 ∨ v.toNat % 4 = 2 → v.toNat.testBit 31 = false ∨ s.mayChallenge (v.toNat % 4) = false →
    exec (.challengeNew v) s = .next (s.put SEC_CHAL_CTRL_LEVEL (v.toNat % 4))) ∧
  (∀ (v : Word) (s : State), v.toNat.testBit 31 = true → v.toNat % 4 = 1 ∨ v.toNat % 4 = 2 → s.mayChallenge (v.toNat % 4) = true →
    Completes (exec (.challengeNew v) s) (fun t => t.on SEC_CHAL_CTRL_VALID = true ∧ t.get SEC_CHAL_CTRL_LEVEL = v.toNat % 4 ∧
      t.sec.chal = v.toNat % 4 ∧ t.vlt.draws = s.vlt.draws + 1)) ∧
  (∀ (s : State), exec .challengeExpire s = .next (s.put SEC_CHAL_CTRL_VALID 0)) ∧
  (∀ (v : Word) (s : State), v.toNat % 1024 ≠ 4 → v.toNat % 1024 ≠ 196 → exec (.tokenCheck v) s = .next (s.reservedFault 19)) ∧
  (∀ (v : Word) (s : State), v.toNat % 1024 = 4 ∨ v.toNat % 1024 = 196 → v.toNat.testBit 31 = false →
    exec (.tokenCheck v) s = .next (s.put SEC_TOKEN_CTRL_LEN (v.toNat % 1024))) ∧
  (∀ (v : Word) (s : State), v.toNat % 1024 = 4 → v.toNat.testBit 31 = true → s.on SEC_STATUS_MEAS_DONE = true → s.debug = 2 →
    Memory.readBytes 0 s.sram (s.get SEC_TOKEN_ADDR_ADDR) 4 = [1#8, 0#8, 1#8, 0#8] → Completes (exec (.tokenCheck v) s) (fun t =>
      t.debug = 1 ∧ t.get SEC_TOKEN_CTRL_RESULT = 1)) ∧
  (∀ (v : Word) (s : State), v.toNat % 1024 = 4 → v.toNat.testBit 31 = true → s.debug = 0 → Completes (exec (.tokenCheck v) s) (fun t => t.debug = 0 ∧
    t.get SEC_TOKEN_CTRL_RESULT = 2 ∧ t.on SEC_FLAGS_TOKEN_REFUSED = true ∧ t.get SEC_FAULT_LAST_CODE = 3 ∧ t.on SEC_CHAL_CTRL_VALID = false)) ∧
  (∀ (v : Word) (s : State), v.toNat % 1024 = 196 → v.toNat.testBit 31 = true →
    let u := s.put SEC_TOKEN_CTRL_LEN 196
    let k := Memory.readBytes 0 u.sram (u.get SEC_TOKEN_ADDR_ADDR) 196
    let l := (k.getD 2 0).toNat
    let key := (k.drop 4).take 96
    s.on SEC_STATUS_MEAS_DONE = true → leNat (k.take 2) = 1 → l < 3 → k.getD 3 0 = 0 → s.on SEC_CHAL_CTRL_VALID = true → s.sec.chal = l →
    u.tokenKey = some (sha384 key) → u.mayOpen l = true →
    exec (.tokenCheck v) s = .next (if sigOk key (u.tokenMsg l) (k.drop 100) then u.grant l (sha384 key) else u.refuseToken.1)) ∧
  (∀ (s : State), Completes (exec .debugClose s) (fun t => t.debug = 0 ∧ t.sec.jtag.level = 0 ∧ t.sram = s.sram ∧
    t.sec.jtag = (if s.sec.jtag.level = 0 then s.sec.jtag else .bypass))) ∧
  (∀ (s : State), s.debug ≠ 2 ∨ s.on SEC_DEBUG_HALTED = true → exec .debugHaltRequest s = .next s) ∧
  (∀ (s : State), s.debug = 2 → s.on SEC_DEBUG_HALTED = false → s.on SEC_STATUS_MODE_ALLOW = false →
    exec .debugHaltRequest s = .next (s.set1 SEC_DEBUG_HALTED)) ∧
  (∀ (s : State), s.debug = 2 → s.on SEC_DEBUG_HALTED = false → s.on SEC_STATUS_MODE_ALLOW = true →
    Completes (exec .debugHaltRequest s) (fun t => t.sec.haltPend = true ∧ t.get SEC_FAULT_LAST_CODE = 6 ∧ t.on SEC_DEBUG_HALTED = false ∧
      (s.mode = 6 → t.mode = 5))) ∧
  (∀ (s : State) q, s.serving 0x3801 q → q.w 0 ≠ 1 → q.w 0 ≠ 2 → exec .secDebugChallenge s = .next (s.finish q.m (badParam 0))) ∧
  (∀ (s : State) q, s.serving 0x3801 q → q.w 0 = 1 ∨ q.w 0 = 2 → exec .secDebugChallenge s = .next (if s.mayChallenge (q.w 0) then
    (s.drawChallenge (q.w 0)).finish q.m (okReply ((List.range 8).map (fun i => ((s.drawChallenge (q.w 0)).rd (SEC_CHAL_BYTES.addr i)).toNat)))
    else s.finish q.m (failReply stDenied))) ∧
  (∀ (s : State) q, s.serving 0x3802 q → exec .secDebugResponse s = .next (if (s.tokenCheck (wordsBytes q.p)).2 then
    (s.tokenCheck (wordsBytes q.p)).1.finish q.m (okReply [(s.tokenCheck (wordsBytes q.p)).1.debug])
    else (s.tokenCheck (wordsBytes q.p)).1.finish q.m (failReply stDenied))) ∧
  (∀ (s : State) q, s.serving 0x3802 q → wordsBytes q.p = [1#8, 0#8, 0#8, 0#8] → s.on SEC_STATUS_MEAS_DONE = true → s.debug ≠ 0 → exec .secDebugResponse s =
    .next (((s.setDebug 0).put SEC_TOKEN_CTRL_RESULT 1).finish q.m (okReply [0]))) ∧
  (∀ (s : State) q, s.serving 0x3802 q → q.p = [] → exec .secDebugResponse s = .next (s.refuseToken.1.finish q.m (failReply stDenied))) ∧
  (∀ (s : State), exec (.jtagInstruction .bypass) s = .next { s with sec := { s.sec with jtag := .bypass, pads := [] } } ∧
    exec (.jtagInstruction .idcode) s = .next { s with sec := { s.sec with jtag := .idcode, pads := [] } } ∧
    exec (.jtagInstruction .sample) s = .next { s with sec := { s.sec with jtag := .sample, pads := [] } }) ∧
  (∀ a n bs (s : State),
    let b : State := { s with sec := { s.sec with jtag := .bypass, pads := [] } }
    (s.debug = 0 → exec (.jtagInstruction (.read a n)) s = .next b ∧ exec (.jtagInstruction .trace) s = .next b) ∧
    (s.debug < 2 → exec (.jtagInstruction (.write a bs)) s = .next b ∧ exec (.jtagInstruction .step) s = .next b ∧
      exec (.jtagInstruction .resume) s = .next b)) ∧
  (∀ cs (s : State), s.debug < 2 → Completes (exec (.jtagInstruction (.extest cs)) s) (fun t => t.sec.jtag = .bypass)) ∧
  (∀ cs (s : State), 2 ≤ s.debug → exec (.jtagInstruction (.extest cs)) s =
    .next { s with sec := { s.sec with jtag := .extest, pads := cs.filter (fun c => Ball.drives c.1) } }) ∧
  (∀ (s : State), 1 ≤ s.debug → exec (.jtagInstruction .trace) s = .next { s with sec := { s.sec with jtag := .trace, pads := [] } }) ∧
  (∀ (s : State), 2 ≤ s.debug → exec (.jtagInstruction .step) s = .next { s with sec := { s.sec with jtag := .control, pads := [] } }) ∧
  (∀ a n (s : State), 1 ≤ s.debug → exec (.jtagInstruction (.read a n)) s = .next ((s.loadJtag .memory []).nagusAccess a n none).2.2) ∧
  (∀ a bs (s : State), 2 ≤ s.debug → exec (.jtagInstruction (.write a bs)) s = .next ((s.loadJtag .memory []).nagusAccess a bs.length (some bs)).2.2) ∧
  (∀ (s : State), 2 ≤ s.debug → Completes (exec (.jtagInstruction .resume) s) (fun t => t.on SEC_DEBUG_HALTED = false ∧ t.sec.haltPend = false ∧
    t.sec.jtag = .control))

/-- A write of SEC_ATT_CTRL clears DONE and ERR where it says so; with START it composes a report, or is refused while one is being signed; the
report is written with its signature when the engine is done; a failed engine sets ERR and records fault 00Ah (R666, R667). SEC ATTEST replies the
report for its nonce, or HW_FAULT (R143). A check of a manifest starts for a legal length (R699); it ends with the measurement taken where the
manifest reads, and stands under the lifecycle, and else with fault 007h (R668, R669). The measurement is cleared (R670). An event without occasion
changes nothing: the model's own reading, log entry 2. -/
def Obligations.AttestationAndJobs : Prop :=
  (∀ (v : Word) (s : State),
    let u := if v.toNat.testBit 29 then s.put SEC_ATT_CTRL_DONE 0 else s
    let w := if v.toNat.testBit 28 then u.put SEC_ATT_CTRL_ERR 0 else u
    let a := s.get SEC_ATT_ADDR_ATT_ADDR
    let b := w.attBody (Memory.readBytes 0 s.sram (a + 24) 48) (Memory.readBytes 0 s.sram (a + 184) 48)
    (v.toNat.testBit 31 = false → exec (.attStart v) s = .next w) ∧
    (v.toNat.testBit 31 = true → s.on SEC_ATT_CTRL_BUSY = true → exec (.attStart v) s = .next (w.set1 SEC_FLAGS_WRITE_REFUSED)) ∧
    (v.toNat.testBit 31 = true → s.on SEC_ATT_CTRL_BUSY = false → exec (.attStart v) s = .next (State.set1 { w with sec := { w.sec with att := some (b, a) } }
      SEC_ATT_CTRL_BUSY))) ∧
  (∀ ok (s : State), s.sec.att = none → exec (.attDone ok) s = .next s) ∧
  (∀ body a (s : State), s.sec.att = some (body, a) → Completes (exec (.attDone true) s) (fun t => t.on SEC_ATT_CTRL_BUSY = false ∧
    t.on SEC_ATT_CTRL_DONE = true ∧ t.sram = Memory.writeBytes 0 s.sram a (s.attSign body) ∧ t.sec.att = none)) ∧
  (∀ body a (s : State), s.sec.att = some (body, a) → Completes (exec (.attDone false) s) (fun t => t.on SEC_ATT_CTRL_BUSY = false ∧
    t.on SEC_ATT_CTRL_ERR = true ∧ t.sram = s.sram ∧ t.get SEC_FAULT_LAST_CODE = 10 ∧ t.sec.att = none)) ∧
  (∀ (s : State) q, s.serving 0x3800 q →
    let b := s.attBody (wordsBytes q.p) (leBytes 4 s.fw.version ++ leBytes 2 0x0402 ++ [byte (s.get SEC_ARB_COUNT)])
    exec (.secAttest true) s = .next (s.finish q.m { payload := bytesWords (s.attSign b) 82 })) ∧
  (∀ (s : State) q, s.serving 0x3800 q → exec (.secAttest false) s =
    .next (((s.set1 SEC_ATT_CTRL_ERR).fault 19 10 2).finish q.m (failReply stHwFault 0x4C0A))) ∧
  (∀ (s : State), s.on SEC_JOB_CTRL_BUSY = true → exec .jobCheckStart s = .next (s.set1 SEC_FLAGS_WRITE_REFUSED)) ∧
  (∀ (s : State), s.on SEC_JOB_CTRL_BUSY = false → s.get SEC_JOB_LEN_LEN < 64 ∨ 65536 < s.get SEC_JOB_LEN_LEN → exec .jobCheckStart s =
    .next (s.reservedFault 19)) ∧
  (∀ (s : State), s.on SEC_JOB_CTRL_BUSY = false → 64 ≤ s.get SEC_JOB_LEN_LEN → s.get SEC_JOB_LEN_LEN ≤ 65536 → Completes (exec .jobCheckStart s) (fun t =>
    t.on SEC_JOB_CTRL_BUSY = true ∧ t.sec.job = some (s.get64 SEC_JOB_ADDR_LO_ADDR_LO SEC_JOB_ADDR_HI_ADDR_HI, s.get SEC_JOB_LEN_LEN))) ∧
  (∀ (s : State), s.sec.job = none → exec .jobCheckDone s = .next s) ∧
  (∀ a n bs m (s u : State), s.sec.job = some (a, n) → State.dramRead { s with sec := { s.sec with job := none } } 7 a n = (.ok, bs, u) →
    readManifest bs = some m → u.manifestOk m = true → exec .jobCheckDone s = .next (((((((u.put SEC_STATUS_JOB_OK 0).put SEC_STATUS_JOB_SIGNED 0).put
      SEC_JOB_CTRL_BUSY 0).set1 SEC_STATUS_JOB_OK).put SEC_STATUS_JOB_SIGNED (if m.signed then 1 else 0)).putBytes SEC_MEAS_JOB_BYTES (sha384 bs)))) ∧
  (∀ (m : Manifest) (u : State), u.lifecycle = 1 → m.signed = false → u.manifestOk m = true) ∧
  (∀ (m : Manifest) (u : State), u.lifecycle ≠ 1 → u.lifecycle ≠ 2 ∨ m.signed = false → u.manifestOk m = false) ∧
  (∀ a n r bs (s u : State), s.sec.job = some (a, n) → State.dramRead { s with sec := { s.sec with job := none } } 7 a n = (r, bs, u) →
    r ≠ .ok ∨ readManifest bs = none ∨ (∃ m, readManifest bs = some m ∧ u.manifestOk m = false) → Completes (exec .jobCheckDone s) (fun t =>
      t.on SEC_STATUS_JOB_OK = false ∧ t.on SEC_STATUS_JOB_SIGNED = false ∧ t.on SEC_JOB_CTRL_BUSY = false ∧ t.sec.job = none ∧
      t.get SEC_FAULT_LAST_CODE = 7)) ∧
  (∀ (s : State), Completes (exec .jobMeasClear s) (fun t => t.on SEC_STATUS_JOB_OK = false ∧ t.on SEC_STATUS_JOB_SIGNED = false ∧
    ∀ i, i < 12 → t.rd (SEC_MEAS_JOB_BYTES.addr i) = 0))

/-- A write of SEC_LC_CTRL without PROGRAM only stores the target. With it: from BLANK with a key pair ready, provisioning programs the pair as the
identity key, moves to PROVISIONED and locks debug (R656–R658); from PROVISIONED, sealing programs the owner's hashes and moves to SEALED (R659); an
accepted retire order moves to RETIRED (R660); any other order sets MODE_REFUSED. Each move records fault 008h (R656), and a burnt fuse stays
burnt (R656). SEC PROVISION, SEAL and RETIRE do the same, with BAD_PARAM for another record format, BAD_STATE in another lifecycle or with a job open, BUSY
without a key pair, DENIED for an order that does not verify (R658–R660). A key pair becomes ready once in BLANK (R657). The anti-rollback count rises to the
value asked for, at most 63, with fault 009h, and never falls (R653, R665). An event without occasion changes nothing: the model's own reading, log entry 2. -/
def Obligations.Lifecycle : Prop :=
  (∀ (v : Word) (s : State), v.toNat.testBit 31 = false → exec (.lifecycleProgram v) s = .next (s.put SEC_LC_CTRL_TARGET (v.toNat % 4))) ∧
  (∀ (v : Word) (s : State), v.toNat.testBit 31 = true → v.toNat % 4 = 1 → s.lifecycle = 0 → s.on SEC_STATUS_KEY_READY = true →
    let r := Memory.readBytes 0 s.sram (s.get SEC_LC_ADDR_LC_ADDR) 84
    Completes (exec (.lifecycleProgram v) s) (fun t => t.lifecycle = 1 ∧ t.otp.life = max s.otp.life 1 ∧ t.otp.key = some (s.sec.cand.getD 0) ∧
      t.otp.prov = sha384 r ∧ t.otp.intDbg = (r.drop 4).take 48 ∧ t.debug = 0 ∧ t.sec.cand = none ∧ t.get SEC_FAULT_LAST_CODE = 8)) ∧
  (∀ (v : Word) (s : State), v.toNat.testBit 31 = true → v.toNat % 4 = 2 → s.lifecycle = 1 →
    let r := Memory.readBytes 0 s.sram (s.get SEC_LC_ADDR_LC_ADDR) 132
    Completes (exec (.lifecycleProgram v) s) (fun t => t.lifecycle = 2 ∧ t.otp.life = max s.otp.life 2 ∧ t.debug = 0 ∧ t.otp.key = s.otp.key ∧
      t.otp.jobHash = (r.drop 4).take 48 ∧ t.otp.ownDbg = (r.drop 52).take 48 ∧ t.otp.ownHash = sha384 r ∧ t.get SEC_FAULT_LAST_CODE = 8)) ∧
  (∀ (v : Word) (s : State), v.toNat.testBit 31 = true → v.toNat % 4 = 0 ∨ (v.toNat % 4 = 1 ∧ ¬(s.lifecycle = 0 ∧ s.on SEC_STATUS_KEY_READY = true)) ∨
      (v.toNat % 4 = 2 ∧ s.lifecycle ≠ 1) →
    exec (.lifecycleProgram v) s = .next ((s.put SEC_LC_CTRL_TARGET (v.toNat % 4)).set1 SEC_FLAGS_MODE_REFUSED)) ∧
  (∀ (v : Word) (s : State), v.toNat.testBit 31 = true → v.toNat % 4 = 3 → exec (.lifecycleProgram v) s =
    .next (if (s.put SEC_LC_CTRL_TARGET 3).retireOk (Memory.readBytes 0 s.sram (s.get SEC_LC_ADDR_LC_ADDR) 196) then
      (s.put SEC_LC_CTRL_TARGET 3).lifeMove 3 else (s.put SEC_LC_CTRL_TARGET 3).set1 SEC_FLAGS_MODE_REFUSED)) ∧
  Answers .secProvision 0x3806 (fun _ q => [(0, decide (q.w 0 = 1))]) (fun s _ => s.lifecycle ≠ 0 ∨ s.job.st ≠ 0) (fun s _ => s) (fun _ _ => failReply stBadState) ∧
  (∀ (s : State) q, s.serving 0x3806 q → q.w 0 = 1 → s.lifecycle = 0 → s.job.st = 0 → s.on SEC_STATUS_KEY_READY = false → exec .secProvision s =
    .next (s.finish q.m (failReply stBusy))) ∧
  (∀ (s : State) q, s.serving 0x3806 q → q.w 0 = 1 → s.lifecycle = 0 → s.job.st = 0 → s.on SEC_STATUS_KEY_READY = true → exec .secProvision s =
    .next ((s.provision (wordsBytes q.p)).finish q.m { payload := bytesWords (s.provision (wordsBytes q.p)).otp.idPub 24 })) ∧
  Answers .secSeal 0x3807 (fun _ q => [(0, decide (q.w 0 = 1))]) (fun _ _ => True)
    (fun s q => if s.lifecycle ≠ 1 ∨ s.job.st ≠ 0 then s else s.sealOwner (wordsBytes q.p))
    (fun s _ => if s.lifecycle ≠ 1 ∨ s.job.st ≠ 0 then failReply stBadState else okReply) ∧
  Answers .secRetire 0x3808 (fun _ q => [(0, decide (q.w 0 = 0x00030001))]) (fun _ _ => True)
    (fun s q => if s.retireOk (wordsBytes q.p) then s.lifeMove 3 else s)
    (fun s q => if s.retireOk (wordsBytes q.p) then okReply else failReply stDenied) ∧
  (∀ (s : State), s.lifecycle = 0 → s.on SEC_STATUS_KEY_READY = false → Completes (exec .keyPairReady s) (fun t => t.on SEC_STATUS_KEY_READY = true ∧
    t.sec.cand = some s.vlt.keys ∧ t.vlt.keys = s.vlt.keys + 1)) ∧
  (∀ (s : State), s.lifecycle ≠ 0 ∨ s.on SEC_STATUS_KEY_READY = true → exec .keyPairReady s = .next s) ∧
  (∀ (v : Word) (s : State), v.toNat.testBit 31 = true → s.otp.arb < v.toNat % 64 → Completes (exec (.arbRaise v) s) (fun t => t.otp.arb = v.toNat % 64 ∧
    t.get SEC_ARB_COUNT = v.toNat % 64 ∧ t.otp.life = s.otp.life ∧ t.get SEC_FAULT_LAST_CODE = 9)) ∧
  (∀ (v : Word) (s : State), v.toNat.testBit 31 = false ∨ v.toNat % 64 ≤ s.otp.arb → exec (.arbRaise v) s = .next s)

/-- In BOOT with power stable, or in SAFE after an F0 fault in BOOT, the ROM runs the higher-ranked slot that verifies, else the other, with fault 006h where
the first is formatted, else recovers (R147, R148, R662); of equal activation numbers slot A is first, the model's choice, log entry 60. The counters
a lost vault forgot are raised to those of the newest record, with fault 008h (R692). Firmware becomes ready when training has ended, the slot is measured, the
Flue is ready and the counters stand; the tamper log is cleared; the mode goes from BOOT to IDLE, or to SAFE where the analog trip is recorded (R606, R663,
R696, R770); in recovery only training is waited for (R148). FW_WRITE checks its range, its payload, the place of its action, the running slot, the DRAM
in recovery and an unfinished write, in this order, and then starts the erase of the first block once the port is free (R143; the place of DENIED and BUSY
for a second write are the model's choices, log entry 60); FW_ACTIVATE writes the next activation number of a slot that verifies
(R149); FW_CONFIRM confirms the running slot once and raises the anti-rollback count (R150, R665). An event without occasion changes nothing: the
model's own reading, log entry 2. -/
def Obligations.BootAndSlots : Prop :=
  (∀ (s : State), s.mode = 1 ∨ s.mode = 7 → s.on SEC_STATUS_MEAS_DONE = false → s.mbx.recovery = false → s.vlt.por = false →
    s.on MBX_READY_HALTED = false → exec .bootMeasureDone s = .next (if s.slotRuns s.firstSlot then s.runSlot s.firstSlot
      else if s.slotRuns (1 - s.firstSlot) then (if (s.runSlot (1 - s.firstSlot)).slotFormat s.firstSlot then
        (s.runSlot (1 - s.firstSlot)).fault 1 6 2 else s.runSlot (1 - s.firstSlot))
      else s.recover)) ∧
  (∀ (s : State), s.mode = 1 ∨ s.mode = 7 → s.on SEC_STATUS_MEAS_DONE = false → s.mbx.recovery = false → s.vlt.por = false →
    s.on MBX_READY_HALTED = false → s.slotFormat 0 = false → s.slotFormat 1 = false →
    Completes (exec .bootMeasureDone s) (fun t => t.mbx.recovery = true ∧ t.on SEC_STATUS_MEAS_DONE = false)) ∧
  (∀ (s : State), (s.mode ≠ 1 ∧ s.mode ≠ 7) ∨ s.on SEC_STATUS_MEAS_DONE = true ∨ s.mbx.recovery = true ∨ s.vlt.por = true ∨ s.on MBX_READY_HALTED = true →
    exec .bootMeasureDone s = .next s) ∧
  (∀ (s : State), s.on FLU_STATUS_READY = false ∨ s.on VLT_STATUS_LOST = false ∨ s.on MBX_READY_FW_READY = true → exec .counterRestore s = .next s) ∧
  (∀ (s : State), s.on FLU_STATUS_READY = true → s.on VLT_STATUS_LOST = true → s.on MBX_READY_FW_READY = false →
    s.flu.scanHi = none ∨ (∃ h, s.flu.scanHi = some h ∧ (s.flu.live ++ s.flu.resv).find? (fun c => c.2.seq == h) = none) →
    exec .counterRestore s = .next ((s.put VLT_STATUS_LOST 0).fault 21 8 2)) ∧
  (∀ h c (s : State), s.on FLU_STATUS_READY = true → s.on VLT_STATUS_LOST = true → s.on MBX_READY_FW_READY = false → s.flu.scanHi = some h →
    (s.flu.live ++ s.flu.resv).find? (fun c => c.2.seq == h) = some c → c.2.opsec < 2 ^ 32 →
    Completes (exec .counterRestore s) (fun t => t.get VLT_OPSEC_OPSEC = max (s.get VLT_OPSEC_OPSEC) c.2.opsec ∧
      t.get VLT_PCYCLE_PCYCLE = max (s.get VLT_PCYCLE_PCYCLE) (min (c.2.pcycle + 1) 0xFFFFFF) ∧ t.on VLT_STATUS_LOST = false)) ∧
  (∀ (s : State), s.on MBX_READY_FW_READY = false → s.trainEnded = true → s.halted = false → s.mbx.recovery = false → s.on SEC_STATUS_MEAS_DONE = true →
    s.on FLU_STATUS_READY = true → s.on VLT_STATUS_LOST = false → s.mode = 1 ∨ s.mode = 7 →
    Completes (exec .fwReadySet s) (fun t => t.on MBX_READY_FW_READY = true ∧
      t.mode = (if s.mode = 7 ∨ s.on VLT_STATUS_TRIP = true then 7 else 2) ∧ t.on VLT_STATUS_TRIP = false ∧
      t.get VLT_STATUS_TLOG_FILL = 0 ∧ t.get VLT_STATUS_TLOG_OVF = 0)) ∧
  (∀ (s : State), s.on MBX_READY_FW_READY = false → s.trainEnded = true → s.halted = false → s.mbx.recovery = true → Completes (exec .fwReadySet s) (fun t =>
    t.on MBX_READY_FW_READY = true ∧ t.mode = s.mode ∧ (s.on DMC_STATUS_READY = true → t.on PCI_WIN_CTRL_EN 0 = true ∧ t.on PCI_WIN_CTRL_WRITE 0 = true ∧
      t.winBase 0 = 0x10000000 ∧ t.winSize 0 = 2 ^ 26))) ∧
  (∀ (s : State), s.on MBX_READY_FW_READY = true ∨ s.trainEnded = false ∨ s.halted = true ∨ (s.mbx.recovery = false ∧
      (s.on SEC_STATUS_MEAS_DONE = false ∨ s.on FLU_STATUS_READY = false ∨ s.on VLT_STATUS_LOST = true ∨ (s.mode ≠ 1 ∧ s.mode ≠ 7))) →
    exec .fwReadySet s = .next s) ∧
  (∀ (s : State) q, s.serving 0x3803 q →
    let blind := s.mbx.recovery && !s.on DMC_STATUS_READY
    let bads := [(0, decide (q.w 0 < 2)), (1, decide (q.w 1 % 4096 = 0 ∧ q.w 1 < 0x800000)),
      (4, decide (q.w 4 % 4096 = 0 ∧ q.w 4 ≠ 0 ∧ q.w 1 + q.w 4 ≤ 0x800000))]
    (blind = false → s.rangeAllowed (q.w64 2) (q.w 4) = false → exec .secFwWrite s = .next (s.finish q.m (failReply stDenied))) ∧
    (blind = true ∨ s.rangeAllowed (q.w64 2) (q.w 4) = true →
      (∀ i, firstBad bads = some i → exec .secFwWrite s = .next (s.finish q.m (badParam i))) ∧
      (firstBad bads = none → s.noPlace = true → exec .secFwWrite s = .next (s.finish q.m (failReply stNoSpace))) ∧
      (firstBad bads = none → s.noPlace = false → s.on SEC_STATUS_MEAS_DONE = true ∧ s.get SEC_SLOT_SLOT = q.w 0 →
        exec .secFwWrite s = .next (s.finish q.m (failReply stDenied))) ∧
      (firstBad bads = none → s.noPlace = false → ¬(s.on SEC_STATUS_MEAS_DONE = true ∧ s.get SEC_SLOT_SLOT = q.w 0) → blind = true →
        exec .secFwWrite s = .next (s.finish q.m (failReply stHwFault 0x2C07))) ∧
      (firstBad bads = none → s.noPlace = false → ¬(s.on SEC_STATUS_MEAS_DONE = true ∧ s.get SEC_SLOT_SLOT = q.w 0) → blind = false →
        s.fw.write.isSome = true → exec .secFwWrite s = .next (s.finish q.m (failReply stBusy))) ∧
      (firstBad bads = none → s.noPlace = false → ¬(s.on SEC_STATUS_MEAS_DONE = true ∧ s.get SEC_SLOT_SLOT = q.w 0) → blind = false →
        s.fw.write = none → Completes (exec .secFwWrite s) (fun t => t.fw.write.isSome = true ∧
          ({ tag := q.tag, op := q.op } : Action) ∈ t.mbx.actions ∧
          (s.flu.xspi = none → t.flu.xspi = some (2, slotAddr (q.w 0) + q.w 1, fwBuf) ∧ t.on FLU_XSPI_CMD_BUSY = true) ∧
          (s.flu.xspi.isSome = true → t.flu.xspi = s.flu.xspi))))) ∧
  Answers .secFwActivate 0x3804 (fun _ q => [(0, decide (q.w 0 ≤ 1))]) (fun _ _ => True)
    (fun s q => if s.slotOk (q.w 0) then s.flashWrite (slotAddr (q.w 0) + 16)
      (leBytes 4 ((if s.slotFormat (1 - q.w 0) then s.slotNat (1 - q.w 0) 16 4 + 1 else 1) % 2 ^ 32) ++ [0#8, 0#8]) else s)
    (fun s q => if s.slotOk (q.w 0) then okReply else failReply stDenied) ∧
  (∀ (s : State) q, s.serving 0x3805 q → s.slotConfirmed (s.get SEC_SLOT_SLOT) = true → exec .secFwConfirm s = .next (s.finish q.m (failReply stBadState))) ∧
  (∀ (s : State) q, s.serving 0x3805 q → s.slotConfirmed (s.get SEC_SLOT_SLOT) = false → exec .secFwConfirm s =
    .next (((s.flashWrite (slotAddr (s.get SEC_SLOT_SLOT) + 21) [1#8]).arbRaise s.fw.rollback).finish q.m
      (okReply [((s.flashWrite (slotAddr (s.get SEC_SLOT_SLOT) + 21) [1#8]).arbRaise s.fw.rollback).get SEC_ARB_COUNT])))

/-- The clock counts 1/32,768 s and takes a value written (R693); OPSEC counts seconds with the main supplies up (R692). WAKE_N and
the alarm raise PSU_EN where enabled, and record the cause where it ends VAULT (R691); a write of VLT_WAKE sets the enables and SLEEP, after which PSU_EN
drops (R678). LOST, the tamper log and TRIP are cleared by their commands (R606, R692, R696). Each source that trips is a tamper event (R694): of a disabled
source nothing; of an enabled one a log entry, a count on the source's newest entry of the last 60 s, or a lost event where the log is full, and it
marks a sealed device, except low VBAT (R695), and records its fault while the main supplies are up (R696). A battery inserted with no main supply
loses the vault's state and raises PSU_EN (R691, R692, R695). -/
def Obligations.Vault : Prop :=
  (∀ (v : Word) (s : State), exec (.rtcSet v) s = .next ((s.put VLT_RTC_SEC_SEC v.toNat).put VLT_RTC_SUB_SUB 0)) ∧
  (∀ adv (s : State), (s.vaultAdvance adv).get VLT_RTC_SEC_SEC * 32768 + (s.vaultAdvance adv).get VLT_RTC_SUB_SUB =
    (s.get VLT_RTC_SEC_SEC * 32768 + s.get VLT_RTC_SUB_SUB + adv) % 2 ^ 47) ∧
  (∀ adv (s : State), s.vlt.main = false → exec (.opsecSecond adv) s = .next (s.vaultAdvance adv)) ∧
  (∀ adv (s : State), s.vlt.main = true → Completes (exec (.opsecSecond adv) s) (fun t =>
    t.get VLT_OPSEC_OPSEC = min (2 ^ 32 - 1) (s.get VLT_OPSEC_OPSEC + 1) ∧ t.get VLT_RTC_SEC_SEC = (s.vaultAdvance adv).get VLT_RTC_SEC_SEC)) ∧
  (∀ adv (s : State), s.on VLT_WAKE_WAKE_EN = true → s.on VLT_STATUS_PSU_EN = false → Completes (exec (.wakeRequest adv) s) (fun t =>
    t.on VLT_STATUS_PSU_EN = true ∧ t.get VLT_WAKE_CAUSE = (if s.vlt.main then s.get VLT_WAKE_CAUSE else 1) ∧
    t.get VLT_RTC_SEC_SEC = (s.vaultAdvance adv).get VLT_RTC_SEC_SEC)) ∧
  (∀ adv (s : State), s.on VLT_WAKE_WAKE_EN = false ∨ s.on VLT_STATUS_PSU_EN = true → exec (.wakeRequest adv) s = .next (s.vaultAdvance adv)) ∧
  (∀ adv (s : State), s.on VLT_WAKE_ALARM_EN = true → s.on VLT_STATUS_PSU_EN = false → (s.vaultAdvance adv).get VLT_RTC_SEC_SEC = s.get VLT_ALARM_ALARM →
    Completes (exec (.rtcAlarm adv) s) (fun t => t.on VLT_STATUS_PSU_EN = true ∧
      t.get VLT_WAKE_CAUSE = (if s.vlt.main then s.get VLT_WAKE_CAUSE else 2))) ∧
  (∀ adv (s : State), s.on VLT_WAKE_ALARM_EN = false ∨ s.on VLT_STATUS_PSU_EN = true ∨ (s.vaultAdvance adv).get VLT_RTC_SEC_SEC ≠ s.get VLT_ALARM_ALARM →
    exec (.rtcAlarm adv) s = .next (s.vaultAdvance adv)) ∧
  (∀ (v : Word) (s : State), Completes (exec (.sleepRequest v) s) (fun t => t.vlt.sleep = (v.toNat.testBit 29 || s.vlt.sleep) ∧
    t.get VLT_WAKE_ALARM_EN = wfield v 31 31 ∧ t.get VLT_WAKE_WAKE_EN = wfield v 30 30 ∧ t.on VLT_STATUS_PSU_EN = s.on VLT_STATUS_PSU_EN)) ∧
  (∀ (s : State), s.vlt.sleep = true → exec .psuEnDrop s = .next (State.put { s with vlt := { s.vlt with sleep := false } } VLT_STATUS_PSU_EN 0)) ∧
  (∀ (s : State), s.vlt.sleep = false → exec .psuEnDrop s = .next s) ∧
  (∀ (s : State), exec .vltClearLost s = .next (s.put VLT_STATUS_LOST 0) ∧ exec .vltClearTrip s = .next (s.put VLT_STATUS_TRIP 0)) ∧
  (∀ (s : State), Completes (exec .vltClearTlog s) (fun t => t.get VLT_STATUS_TLOG_FILL = 0 ∧ t.get VLT_STATUS_TLOG_OVF = 0 ∧
    ∀ i, i < 16 → t.get VLT_TLOG_SEC_SEC i = 0 ∧ t.get VLT_TLOG_INFO_SOURCE i = 0)) ∧
  (∀ src d (s : State), s.bit VLT_TAMP_EN_EN (src - 1) = false → s.tamper src d = s) ∧
  (∀ src d (s : State), 1 ≤ src → src ≤ 6 → s.bit VLT_TAMP_EN_EN (src - 1) = true →
    (s.tamper src d).on VLT_STATUS_TAMPERED = (s.on VLT_STATUS_TAMPERED || (src != 4 && s.otp.life == 2)) ∧
    (s.tamper src d).get VLT_STATUS_TLOG_FILL = (s.tlogAdd src d).get VLT_STATUS_TLOG_FILL ∧
    (s.tamper src d).get VLT_FAULT_LAST_CODE = (if s.vlt.main then src else s.get VLT_FAULT_LAST_CODE)) ∧
  (∀ src d (s : State), src < 16 → d < 65536 → s.tlogMatch src = none → s.get VLT_STATUS_TLOG_FILL < 16 →
    let t := s.tlogAdd src d
    let n := s.get VLT_STATUS_TLOG_FILL
    t.get VLT_STATUS_TLOG_FILL = n + 1 ∧ t.get VLT_TLOG_SEC_SEC n = s.get VLT_RTC_SEC_SEC ∧ t.get VLT_TLOG_INFO_SOURCE n = src ∧
      t.get VLT_TLOG_INFO_COUNT n = 1 ∧ t.get VLT_TLOG_INFO_DETAIL n = d) ∧
  (∀ src d (s : State), s.tlogMatch src = none → 16 ≤ s.get VLT_STATUS_TLOG_FILL → s.tlogAdd src d = s.incSat VLT_STATUS_TLOG_OVF) ∧
  (∀ src d i (s : State), s.tlogMatch src = some i → s.tlogAdd src d = s.incSat VLT_TLOG_INFO_COUNT i) ∧
  (∀ l a b adv (s : State),
    let u := s.vaultAdvance adv
    let w := { u with vlt := { s.vlt with lid := !s.vlt.lid, aLow := !a, bLow := !b } }
    let x := if l = !s.vlt.lid then w else w.tamper 1 (if l then 1 else 0)
    let y := if s.vlt.aLow && !a then x.tamper 2 0 else x
    exec (.tamperSample l a b adv) s = .next (if s.vlt.bLow && !b then y.tamper 3 0 else y)) ∧
  (∀ (mv : BitVec 16) adv (s : State), exec (.vbatLow true mv adv) s = .next (((s.vaultAdvance adv).set1 VLT_STATUS_VBAT_LOW).tamper 4 mv.toNat)) ∧
  (∀ mv adv (s : State), exec (.vbatLow false mv adv) s = .next ((s.vaultAdvance adv).put VLT_STATUS_VBAT_LOW 0)) ∧
  (∀ adv (s : State), exec (.vaultClockFault adv) s = .next ((s.vaultAdvance adv).tamper 5 0)) ∧
  (∀ (t : BitVec 16) adv (s : State), -800 ≤ t.toInt → t.toInt ≤ 2080 → exec (.vaultTempCheck t adv) s = .next (s.vaultAdvance adv)) ∧
  (∀ (t : BitVec 16) adv (s : State), t.toInt < -800 ∨ 2080 < t.toInt →
    exec (.vaultTempCheck t adv) s = .next ((s.vaultAdvance adv).tamper 6 t.toNat)) ∧
  (∀ (s : State), s.vlt.main = true → exec .vbatInsert s = .next (s.set1 VLT_STATUS_PSU_EN)) ∧
  (∀ (s : State), s.vlt.main = false → Completes (exec .vbatInsert s) (fun t => t.on VLT_STATUS_LOST = true ∧ t.on VLT_STATUS_PSU_EN = true ∧
    t.get VLT_OPSEC_OPSEC = 0 ∧ t.get VLT_PCYCLE_PCYCLE = 0 ∧ t.get VLT_RTC_SEC_SEC = 0 ∧ t.get VLT_RTC_SUB_SUB = 0 ∧ t.get VLT_ALARM_ALARM = 0 ∧
    t.get VLT_TAMP_EN_EN = 0x3F ∧ t.get VLT_STATUS_TLOG_FILL = 0 ∧ (s.otp.life = 2 → t.on VLT_STATUS_TAMPERED = true)))

/-- RESET_N low for 1 µs resets the device, for less than 100 ns does nothing, and between resets it or not (R754). A power-on reset leaves the deck
and hearth at their reset values, tick 0, the gates off and FAULT_N driven, and keeps fuses, the flash that no operation was changing, and the vault's
counters (R748, R754); it ends when every rail is up (R57, R754). The main supplies rising count PCYCLE (R691, R692, R753). A rail that falls resets the device,
VAA takes the hearth's analog state away, and all of them down is VAULT (R752, R755). The analog trip latches TRIP and ends in VAULT with FAULT_N driven
(R25, R605, R748). With no supply, or for a rail that is already down, an event changes no more than the rail's own bit: the model's own reading, log entry 2. -/
def Obligations.SuppliesAndReset : Prop :=
  (∀ ns (s : State), ns < 100 ∨ s.vlt.main = false → exec (.resetPin ns) s = .next s) ∧
  (∀ ns (s : State), 1000 ≤ ns → s.vlt.main = true → exec (.resetPin ns) s = .next s.powerReset) ∧
  (∀ ns (s : State), 100 ≤ ns → ns < 1000 → s.vlt.main = true → exec (.resetPin ns) s =
    .next (if s.fresh.1 % 2 = 1 then s.fresh.2.powerReset else s.fresh.2)) ∧
  (∀ ns (s : State), 1000 ≤ ns → s.vlt.main = true → Completes (exec (.resetPin ns) s) (fun t =>
    t.key.tick = 0 ∧ t.mode = 1 ∧ t.dark ∧ t.vlt.por = true ∧ t.faultN = true ∧ t.job = {} ∧ t.dram = [] ∧ t.otp = s.otp ∧
    t.get VLT_OPSEC_OPSEC = s.get VLT_OPSEC_OPSEC ∧ t.get VLT_PCYCLE_PCYCLE = s.get VLT_PCYCLE_PCYCLE ∧
    (s.flu.page = none → s.flu.erasing = none → s.flu.xspi = none → t.flash = s.flash))) ∧
  (∀ (s : State), s.vlt.main = true → s.vlt.por = true → s.vlt.rails = 0x3F → exec .porEnd s =
    .next (State.put { s with vlt := { s.vlt with por := false } } KEY_STATUS_RT_PLL_LOCK 1)) ∧
  (∀ (s : State), s.vlt.main = false ∨ s.vlt.por = false ∨ s.vlt.rails ≠ 0x3F → exec .porEnd s = .next s) ∧
  (∀ (s : State), s.vlt.main = true → exec .supplyRise s = .next s) ∧
  (∀ (s : State), s.vlt.main = false → Completes (exec .supplyRise s) (fun t => t.vlt.main = true ∧ t.vlt.por = true ∧ t.vlt.rails = 0x3F ∧ t.mode = 1 ∧
    t.get VLT_PCYCLE_PCYCLE = min (2 ^ 24 - 1) (s.get VLT_PCYCLE_PCYCLE + 1))) ∧
  (∀ (r : Fin 6) (s : State), exec (.supplyMonitorTrip r true) s = .next { s with vlt := { s.vlt with rails := setBit s.vlt.rails r true } }) ∧
  (∀ (r : Fin 6) (s : State), s.vlt.rails.testBit r = false ∨ s.vlt.main = false →
    exec (.supplyMonitorTrip r false) s = .next { s with vlt := { s.vlt with rails := setBit s.vlt.rails r false } }) ∧
  (∀ (r : Fin 6) (s : State), s.vlt.rails.testBit r = true → s.vlt.main = true → r ≠ 5 → railsGone (setBit s.vlt.rails r false) = false →
    exec (.supplyMonitorTrip r false) s = .next (State.powerReset { s with vlt := { s.vlt with rails := setBit s.vlt.rails r false } })) ∧
  (∀ (r : Fin 6) (s : State), s.vlt.rails.testBit r = true → s.vlt.main = true → r ≠ 5 → railsGone (setBit s.vlt.rails r false) = true →
    Completes (exec (.supplyMonitorTrip r false) s) (fun t => t.mode = 0 ∧ t.vlt.main = false ∧ t.dark ∧
      t.get VLT_OPSEC_OPSEC = s.get VLT_OPSEC_OPSEC)) ∧
  (∀ (s : State), s.vlt.rails.testBit 5 = true → s.vlt.main = true → exec (.supplyMonitorTrip 5 false) s =
    .next (State.hearthLost { s with vlt := { s.vlt with rails := setBit s.vlt.rails 5 false }, afe := { s.afe with good := 0 } })) ∧
  (∀ (s : State), s.vlt.main = true → Completes (exec .analogTrip s) (fun t => t.on VLT_STATUS_TRIP = true ∧ t.mode = 0 ∧ t.vlt.main = false ∧ t.dark ∧
    t.faultN = true)) ∧
  (∀ (s : State), s.vlt.main = false → exec .analogTrip s = .next s)

/-- An aligned 32-bit access by Nagus to a listed register does what the register does, and a read returns its value (R8, R9). Another access to a register
window (one wider than 32 bits too, the model's choice, log entry 60), an access to a reserved range or offset or through a disabled aperture, a write to the
boot ROM, and an on-chip access by a requester other than DMA channels 0 to 3 count their error and capture the first (R8, R41, R42, R45–R47);
that a reserved offset of a window is a decode error is the model's reading (log entry 9). A write to SRAM or the frame store changes its bytes and no
others (R40); the correction banks answer as R43 and R44 say. An aperture reaches DRAM at its system address, an error shown at the Nagus address (R45,
R54). A host access to BAR0 other than an aligned 32-bit or 64-bit one counts SIZE and reads zeros; a write to a mailbox, doorbell, index or MSI-X entry
acts, a reserved offset does nothing, and reads return what the layout names (R101, R102, R112). An access that fails on the vault link records fault
009h (R698). A reserved value in a plain register leaves it as it was and records 3FFh (R11). A write of KEY_CTRL takes TICK_OUT_EN into force at
once and the period and mode pending, a read-only register is not changed by a write, and a W1C flag clears by writing 1 (R9). -/
def Obligations.AddressMaps : Prop :=
  (∀ a (v : Word) (s : State), listedOffset a = true → a % 4 = 0 → 0x20000000 ≤ a → a < 0x20160000 →
    exec (.registerWrite (.via 0 a 4 (some (leBytes 4 v.toNat)))) s = .next (s.regWrite a v) ∧
    exec (.registerWrite (.via 0 a 4 none)) s = .next (s.regRead a) ∧
    (s.nagusAccess a 4 none).2.1 = leBytes 4 ((s.regRead a).regValue s a).toNat) ∧
  (∀ a n w (s : State), 0x20000000 ≤ a → a < 0x20160000 → n ≠ 4 ∨ a % 4 ≠ 0 →
    exec (.registerWrite (.via 0 a n w)) s = .next (s.viaErr .align 0 w.isSome a) ∧ (s.nagusAccess a n w).2.1 = List.replicate n 0#8) ∧
  (∀ a w (s : State), 0x20000000 ≤ a → a < 0x20160000 → a % 4 = 0 → listedOffset a = false →
    exec (.registerWrite (.via 0 a 4 w)) s = .next (s.viaErr .decode 0 w.isSome a)) ∧
  (∀ a n bs (s : State), a + n ≤ 0x10000 → exec (.registerWrite (.via 0 a n (some bs))) s = .next (s.viaErr .perm 0 true a)) ∧
  (∀ a n w (s : State), 0x20160000 ≤ a → a < 0x30000000 → exec (.registerWrite (.via 0 a n w)) s = .next (s.viaErr .decode 0 w.isSome a)) ∧
  (∀ a n w (s : State), (0x10000 ≤ a ∧ a < 0x10000000) ∨ (0x10100000 ≤ a ∧ a < 0x20000000) ∨ (0x30200000 ≤ a ∧ a < 0x34000000) ∨
      (0x34700000 ≤ a ∧ a < 0x40000000) ∨ 0x140000000 ≤ a → 0 < n →
    exec (.registerWrite (.via 0 a n w)) s = .next (s.viaErr .decode 0 w.isSome a)) ∧
  (∀ k a n w (s : State), k < 16 → a < 0x10000000 → s.on MBX_VIA_APERTURE_EN k = false ∨ 0x10000000 < a + n →
    exec (.registerWrite (.via 0 (0x40000000 + k * 0x10000000 + a) n w)) s =
      .next (s.viaErr .decode 0 w.isSome (0x40000000 + k * 0x10000000 + a))) ∧
  (∀ k a (bs : List Byte) (s : State), k < 16 → a + bs.length ≤ 0x10000000 → 0 < bs.length → s.on MBX_VIA_APERTURE_EN k = true →
    exec (.registerWrite (.via 0 (0x40000000 + k * 0x10000000 + a) bs.length (some bs))) s =
      .next ((s.dramWrite 0 (s.get MBX_VIA_APERTURE_BASE k * 0x10000000 + a) bs).2.captureAt s (0x40000000 + k * 0x10000000 + a)) ∧
    exec (.registerWrite (.via 0 (0x40000000 + k * 0x10000000 + a) bs.length none)) s =
      .next ((s.dramRead 0 (s.get MBX_VIA_APERTURE_BASE k * 0x10000000 + a) bs.length).2.2.captureAt s (0x40000000 + k * 0x10000000 + a))) ∧
  (∀ (req : BitVec 6) a n w (s : State), req ≠ 0 → ¬ (0x20 ≤ req.toNat ∧ req.toNat < 0x24) → 0xFF00000000 ≤ a → a < 0xFF40000000 →
    exec (.registerWrite (.via req a n w)) s = .next (s.busErr .perm req.toNat w.isSome a)) ∧
  (∀ (req : BitVec 6) a n w (s : State), req ≠ 0 → 0x1000000000 ≤ a → a < 0xFF00000000 ∨ 0xFF40000000 ≤ a →
    exec (.registerWrite (.via req a n w)) s = .next (s.busErr .decode req.toNat w.isSome a)) ∧
  (∀ (req : BitVec 6) a (bs : List Byte) (s : State), req ≠ 0 → a < 0x1000000000 →
    exec (.registerWrite (.via req a bs.length (some bs))) s = .next (s.dramWrite req.toNat a bs).2 ∧
    exec (.registerWrite (.via req a bs.length none)) s = .next (s.dramRead req.toNat a bs.length).2.2) ∧
  (∀ (req : BitVec 6) a (v : Word) (s : State), 0x20 ≤ req.toNat → req.toNat < 0x24 → listedOffset a = true → a % 4 = 0 → 0x20000000 ≤ a → a < 0x20160000 →
    exec (.registerWrite (.via req (0xFF00000000 + a) 4 (some (leBytes 4 v.toNat)))) s = .next (s.regWrite a v)) ∧
  (∀ a (s : State), listedOffset a = true → a % 4 = 0 → 0x20000000 ≤ a → a < 0x20160000 → isLatching a = false →
    a ≠ 0x20020028 → a ≠ 0x20080024 → a ≠ 0x20090044 → exec (.registerWrite (.via 0 a 4 none)) s = .next s) ∧
  (∀ a (bs : List Byte) (s : State), 0x10000000 ≤ a → a + bs.length ≤ 0x10100000 → Completes (exec (.registerWrite (.via 0 a bs.length (some bs))) s) (fun t =>
    t = { s with sram := t.sram } ∧ (∀ i, i < bs.length → Memory.read 0 t.sram (a + i) = bs.getD i 0) ∧
    (∀ b, b < a ∨ a + bs.length ≤ b → Memory.read 0 t.sram b = Memory.read 0 s.sram b))) ∧
  (∀ o (bs : List Byte) (s : State), o + bs.length ≤ 0x700000 → 0 < bs.length →
    exec (.registerWrite (.via 0 (0x34000000 + o) bs.length (some bs))) s =
      .next { s with dsp := { s.dsp with fs := Memory.writeBytes 0 s.dsp.fs o bs } }) ∧
  (∀ o (bs : List Byte) (s : State), o + bs.length ≤ 0x200000 → 0 < bs.length →
    let r := s.bankWrite o bs
    exec (.registerWrite (.via 0 (0x30000000 + o) bs.length (some bs))) s =
      .next (if r.1 = .ok then r.2 else r.2.viaErr r.1.viaKind 0 true (0x30000000 + o))) ∧
  (∀ o bs (s : State), (gridBytes < o % 0x10000 + bs.length ∨ 2 ≤ o / 0x100000 → s.bankWrite o bs = (.decode, s)) ∧
    (o % 0x10000 + bs.length ≤ gridBytes → o / 0x100000 < 2 → o / 0x100000 = s.get COR_BANK_ACTIVE (o % 0x100000 / 0x10000) →
      s.bankWrite o bs = (.perm, s))) ∧
  (∀ (s : State), exec (.registerWrite .vaultFail) s = .next ((s.set1 VLT_FLAGS_LINK_ERR).fault 21 9 2)) ∧
  (∀ o n w (s : State), s.on PCI_STATUS_D3HOT = true → exec (.registerWrite (.host o n w)) s = .next s) ∧
  (∀ o n w (s : State), s.on PCI_STATUS_D3HOT = false → ¬ (n = 4 ∧ o % 4 = 0) → ¬ (n = 8 ∧ o % 8 = 0) →
    exec (.registerWrite (.host o n w)) s = .next (s.hostErr MBX_HOST_ERR_SIZE) ∧ (s.bar0 o n w).1 = List.replicate n 0#8) ∧
  (∀ o n (s : State), (n = 4 ∧ o % 4 = 0) ∨ (n = 8 ∧ o % 8 = 0) → exec (.registerWrite (.host o n none)) s = .next s ∧
    (s.bar0 o n none).1 = s.bar0Read o ++ (if n = 8 then s.bar0Read (o + 4) else [])) ∧
  (∀ i (s : State), i < 16 → s.bar0Read (0x4400 + 4 * i) = leBytes 4 (s.get SCN_RING_RD_RD i)) ∧
  (∀ i (s : State), i < 8 → s.bar0Read (0x4100 + 4 * i) = leBytes 4 (s.get MBX_SUMMARY_WORD i)) ∧
  (∀ o (s : State), (o < 0x4000 → s.bar0Read o = Memory.readBytes 0 s.mbx.mem o 4) ∧
    ((0x4000 ≤ o ∧ o < 0x4020) ∨ (0x6000 ≤ o ∧ o < 0x8000) ∨ (0x9004 ≤ o) → s.bar0Read o = [0#8, 0#8, 0#8, 0#8])) ∧
  (∀ o (bs : List Byte) (s : State), s.on PCI_STATUS_D3HOT = false → (bs.length = 4 ∧ o % 4 = 0) ∨ (bs.length = 8 ∧ o % 8 = 0) → o < 0x4000 →
    exec (.registerWrite (.host o bs.length (some bs))) s = .next (if 0x400 ≤ o % 0x800 then s.hostErr MBX_HOST_ERR_WR_REPLY
      else if s.get MBX_STATE_STATE (o / 0x800) = 1 then s.hostErr MBX_HOST_ERR_WR_BUSY
      else { s with mbx := { s.mbx with mem := Memory.writeBytes 0 s.mbx.mem o bs } })) ∧
  (∀ (m : Fin 8) (p : Fin 16) (v : Word) (s : State), s.on PCI_STATUS_D3HOT = false →
    (v.toNat.testBit 0 = true → exec (.registerWrite (.host (0x4000 + 4 * m.val) 4 (some (leBytes 4 v.toNat)))) s = exec (.doorbellRing m) s) ∧
    (v.toNat.testBit 0 = false → v.toNat.testBit 1 = true →
      exec (.registerWrite (.host (0x4000 + 4 * m.val) 4 (some (leBytes 4 v.toNat)))) s = exec (.doorbellAbort m) s) ∧
    exec (.registerWrite (.host 0x4204 4 (some (leBytes 4 v.toNat)))) s = exec (.evtRdWrite v) s ∧
    exec (.registerWrite (.host (0x4400 + 4 * p.val) 4 (some (leBytes 4 v.toNat)))) s = exec (.ringIndexWrite p v) s) ∧
  (∀ o bs (s : State), o % 4 = 0 → 0x5000 ≤ o → o < 0x8000 → exec (.registerWrite (.host o 4 (some bs))) s = .next s) ∧
  (∀ (v : Word) (s : State), 4 < v.toNat % 8 ∨ v.toNat / 16 % 4 = 3 →
    exec (.registerWrite (.via 0 0x20000000 4 (some (leBytes 4 v.toNat)))) s = .next (s.reservedFault 0)) ∧
  (∀ (v : Word) (s : State), v.toNat % 8 ≤ 4 → v.toNat / 16 % 4 ≠ 3 →
    Completes (exec (.registerWrite (.via 0 0x20000000 4 (some (leBytes 4 v.toNat)))) s) (fun t =>
      t.get KEY_CTRL_TICK_OUT_EN = v.toNat / 256 % 2 ∧ t.get KEY_CTRL_PERIOD = s.get KEY_CTRL_PERIOD ∧
      t.get KEY_CTRL_DISC_MODE = s.get KEY_CTRL_DISC_MODE ∧ t.getP KEY_CTRL_PERIOD = v.toNat % 8 ∧
      t.getP KEY_CTRL_DISC_MODE = v.toNat / 16 % 4 ∧ t.bit KEY_COMMIT_STATUS_DIRTY 0 = true ∧
      (∀ a, a ≠ 0x20000000 → a ≠ 0x20000014 → t.rd a = s.rd a))) ∧
  (∀ (v : Word) (s : State), Completes (exec (.registerWrite (.via 0 0x20000004 4 (some (leBytes 4 v.toNat)))) s) (fun t => ∀ a, t.rd a = s.rd a)) ∧
  (∀ (v : Word) (s : State), s.on KEY_DISC_STATUS_UNLOCK = true →
    Completes (exec (.registerWrite (.via 0 KEY_DISC_STATUS_UNLOCK.base 4 (some (leBytes 4 v.toNat)))) s) (fun t =>
      t.get KEY_DISC_STATUS_UNLOCK = (if v.toNat.testBit KEY_DISC_STATUS_UNLOCK.lo then 0 else 1)))

/-- A tick edge does the work of the tick that ends, takes the capture of φ380 and then brings what was prepared into force (R36, R59, R69,
R70); the next tick begins and is counted, and the queue of waiting commands and the fuses stay (R56, R57). Without the RT clock there is no
tick (R57). -/
def Obligations.TickEdge : Prop :=
  (∀ i (s : State), s.on KEY_STATUS_RT_PLL_LOCK = true → exec (.tickEdge i) s = .next (((s.tickWork i).phi380).tickEdge i)) ∧
  (∀ i (s : State), s.on KEY_STATUS_RT_PLL_LOCK = true → Completes (exec (.tickEdge i) s) (fun t =>
    t.key.tick = s.key.tick + 1 ∧ t.otp = s.otp ∧ t.pending = s.pending)) ∧
  (∀ i (s : State), s.on KEY_STATUS_RT_PLL_LOCK = false → exec (.tickEdge i) s = .next s)

/-- KEY_TICK counts tick edges: each adds one, in every state with the RT clock, whatever the period or slew (R77). No other command changes the
count; a device reset begins tick 0 again. Its two registers show 64 bits of it, which 1 MHz would exhaust only after 584,000 years. -/
def Obligations.TickCount : Prop :=
  (∀ i s, s.on KEY_STATUS_RT_PLL_LOCK = true → Completes (exec (.tickEdge i) s) (fun t => t.key.tick = s.key.tick + 1)) ∧
  (∀ c s t, exec c s = .next t → (∀ i, c ≠ .tickEdge i) → t.key.tick = s.key.tick ∨ t.key.tick = 0) ∧
  (∀ adv s, s.key.tick < 2 ^ 64 → Completes (exec (.latchingRead KEY_TICK_LO_TICK_LO.base adv) s) (fun t =>
    t.key.tick = s.key.tick ∧ t.get KEY_TICK_HI_TICK_HI * 2 ^ 32 + t.get KEY_TICK_LO_TICK_LO = s.key.tick)) ∧
  (∀ (v : Word) s, Completes (exec (.registerWrite (.via 0 KEY_TICK_LO_TICK_LO.base 4 (some (leBytes 4 v.toNat)))) s) (fun t =>
    t.key.tick = s.key.tick ∧ t.rd KEY_TICK_LO_TICK_LO.base = s.rd KEY_TICK_LO_TICK_LO.base)) ∧
  2 ^ 64 / 10 ^ 6 / (60 * 60 * 24 * 365) / 1000 = 584

/-- A step takes the command at the front of the queue and carries it out on the state with the queue's rest, and answers its outcome. That a step
on an empty queue changes nothing is the model's choice (log entry 1). -/
def Obligations.StepRunsFront : Prop :=
  (∀ c rest (s : State), step { s with pending := c :: rest } = exec c { s with pending := rest }) ∧
  (∀ s, s.pending = [] → step s = .next s)

/-- For every state with no more lifecycle and anti-rollback fuses burnt than the store has, a step that answers a next state leaves it so (R653, R656,
R665). -/
def Obligations.FusesStayLegal : Prop := ∀ s t, s.otp.legal → step s = .next t → t.otp.legal

/-- At reset the one-time-programmable store is legal: the lifecycle is BLANK and no anti-rollback fuse is burnt (R653, R655, R665). That the device starts its
life unprovisioned is the model's choice (log entry 10). -/
def Obligations.FusesLegalAtReset : Prop := State.reset.otp.legal ∧ State.reset.otp.life = 0 ∧ State.reset.otp.arb = 0

/-- Whatever step the block takes, the lifecycle only moves forward, the anti-rollback counter only rises, and what was programmed at
manufacture stays as it was (R653, R656, R665). -/
def Obligations.FusesOnlyBurn : Prop := ∀ s t, step s = .next t → Otp.grows s.otp t.otp

/-- A write of SEC_ARB_RAISE with GO = 1 raises the counter, the number of fuses burnt, to exactly TARGET and records fault 009h; a TARGET at or below the
counter, or GO = 0, has no effect; the counter stays within 0 to 63. SEC FW_CONFIRM raises it in this way to the running slot's ROLLBACK (R665). -/
def Obligations.AntiRollback : Prop :=
  (∀ v s, v.toNat.testBit 31 = true → s.otp.arb < v.toNat % 64 → Completes (exec (.arbRaise v) s) (fun t =>
    t.otp = { s.otp with arb := v.toNat % 64 } ∧ t.get SEC_ARB_COUNT = t.otp.arb ∧ t.otp.arb ≤ 63 ∧ t.get SEC_FAULT_LAST_CODE = 9 ∧
    Ev.mk 1 (0x13 * 1024 + 9) 0 0xFFFF s.key.tick ∈ t.mbx.evq)) ∧
  (∀ v s, v.toNat % 64 ≤ s.otp.arb ∨ v.toNat.testBit 31 = false → exec (.arbRaise v) s = .next s) ∧
  (∀ (v : Word) s, exec (.registerWrite (.via 0 0x20130018 4 (some (leBytes 4 v.toNat)))) s = exec (.arbRaise v) s) ∧
  (∀ s q, s.serving 0x3805 q → s.slotConfirmed (s.get SEC_SLOT_SLOT) = false → s.otp.arb ≤ 63 → Completes (exec .secFwConfirm s) (fun t =>
    t.otp = { s.otp with arb := max s.otp.arb (min s.fw.rollback 63) } ∧
    (s.otp.arb < min s.fw.rollback 63 → t.get SEC_FAULT_LAST_CODE = 9)))

/-- No command changes the queue of waiting commands, so a step on a queue leaves its rest: commands are carried out first in, first out. -/
def Obligations.QueueLeftAlone : Prop :=
  (∀ c s t, exec c s = .next t → t.pending = s.pending) ∧
  (∀ c rest s t, s.pending = c :: rest → step s = .next t → t.pending = rest)

/-- Every command, in every state, ends in a next state: the AP16 reports faults, refusals and faulty accesses in its own state (R16, R41, R125)
and nothing stops it. -/
def Obligations.EveryCommandAnswers : Prop := (∀ c s, ∃ t, exec c s = .next t) ∧ (∀ s, ∃ t, step s = .next t)

/-- Aperture k covers Nagus addresses 4000_0000h + k × 1000_0000h upward. With EN = 1 an access inside it answers, and acts on DRAM, as the
access at BASE × 1000_0000h plus its offset; with EN = 0 every access through it is a decode error; a write of its register decides for the accesses after
it (R45). -/
def Obligations.Apertures : Prop :=
  (∀ k a n w (s : State), k < 16 → a + n ≤ 0x10000000 → 0 < n → s.on MBX_VIA_APERTURE_EN k = true →
    let r := s.nagusAccess (0x40000000 + k * 0x10000000 + a) n w
    let d := s.dramAccess 0 (s.get MBX_VIA_APERTURE_BASE k * 0x10000000 + a) n w
    r.1 = d.1 ∧ r.2.1 = d.2.1 ∧ r.2.2.dram = d.2.2.dram ∧ r.2.2.get MBX_VIA_ERR_COUNT_DECODE = d.2.2.get MBX_VIA_ERR_COUNT_DECODE) ∧
  (∀ k a n w (s : State), k < 16 → a < 0x10000000 → s.on MBX_VIA_APERTURE_EN k = false →
    s.nagusAccess (0x40000000 + k * 0x10000000 + a) n w =
      (.decode, List.replicate n 0#8, s.viaErr .decode 0 w.isSome (0x40000000 + k * 0x10000000 + a))) ∧
  (∀ k (v : Word) s, k < 16 → fieldsOk (MBX_VIA_APERTURE_EN.addr k) v = true →
    Completes (exec (.registerWrite (.via 0 (MBX_VIA_APERTURE_EN.addr k) 4 (some (leBytes 4 v.toNat)))) s) (fun t =>
      t.on MBX_VIA_APERTURE_EN k = v.toNat.testBit 31 ∧ t.get MBX_VIA_APERTURE_BASE k = v.toNat % 4096))

/-- A byte written reads back, and a write changes no other byte (R40). Every write keeps the canonical form of a memory, whatever an unlisted address
reads as; and so does a write of a run of bytes. At reset every memory of the machine is in that form. A register
field written reads back, and writing it changes neither another register nor another field of its own (R9). -/
def Obligations.MemoryLaws : Prop :=
  (∀ d m a v, Memory.read d (Memory.write d m a v) a = v) ∧
  (∀ d m a b v, a ≠ b → Memory.read d (Memory.write d m a v) b = Memory.read d m b) ∧
  (∀ d m a v, Memory.wf d m = true → Memory.wf d (Memory.write d m a v) = true) ∧
  (∀ d m a bs, Memory.wf d m = true → Memory.wf d (Memory.writeBytes d m a bs) = true) ∧
  (∀ d m a bs i, i < bs.length → Memory.read d (Memory.writeBytes d m a bs) (a + i) = bs.getD i 0) ∧
  (∀ d m a bs b, b < a ∨ a + bs.length ≤ b → Memory.read d (Memory.writeBytes d m a bs) b = Memory.read d m b) ∧
  State.reset.memoriesOk = true ∧
  (∀ (s : State) (f : Fref) v i j, f.lo ≤ f.hi → f.hi < 32 → (s.put f v i j).get f i j = v % 2 ^ (f.hi + 1 - f.lo)) ∧
  (∀ (s : State) (f : Fref) v i j a, a ≠ f.addr i j → (s.put f v i j).rd a = s.rd a) ∧
  (∀ (s : State) (f g : Fref) v i j, f.addr i j = g.addr i j → g.hi < 32 → f.hi < g.lo ∨ g.hi < f.lo → (s.put f v i j).get g i j = s.get g i j)

/-- At reset the AP16 is in BOOT, debug level LOCKED, with every gate off, tick 0 and the FRC at 0 (R57, R78, R674), PERIOD 1 µs, FREE, every
mailbox IDLE with zeroed areas and firmware not ready (R119), nothing staged, no job and no waiting command. Every register, in force and pending,
holds the reset value of its table but the registers of the vault die that hold what the first supply of its life leaves there, which is the
model's choice (log entry 10). -/
def Obligations.ResetState : Prop :=
  State.reset.mode = 1 ∧ State.reset.debug = 0 ∧ State.reset.dark ∧ State.reset.key.tick = 0 ∧ State.reset.key.frc = 0 ∧
  State.reset.get KEY_CTRL_PERIOD = 0 ∧ State.reset.get KEY_CTRL_DISC_MODE = 0 ∧ State.reset.on MBX_READY_FW_READY = false ∧
  (∀ m, m < 8 → State.reset.get MBX_STATE_STATE m = 0) ∧ State.reset.mbx.mem = [] ∧ State.reset.mbx.staged = 0 ∧
  State.reset.pending = [] ∧ State.reset.job.st = 0 ∧ State.reset.on FLU_STATUS_READY = false ∧ State.reset.on DMC_STATUS_READY = false ∧
  (∀ p, p < 16 → State.reset.pierState p = 0 ∧ State.reset.get LSR_LIMIT_LIMIT p = 0xFFFF ∧ State.reset.linkState p = 0) ∧
  (∀ a, a ∉ [0x20150000, 0x20150008, 0x2015001C, 0x20150020] → State.reset.rd a = resetWord a) ∧
  (∀ a, State.reset.rdP a = resetWord a)

/-- A device reset by SYS RESET (R129) returns every register outside the vault die's window to the reset value of its table (R754, R773), but for the reset cause and
what the fuses show; tick 0 begins, the mode is BOOT, the gates are off, mailboxes, DRAM and the SRAM lose their contents and no command of the
queue is lost. The fuses, the free-running counter (R78), the vault die's counters and, where no flash operation was in progress, the
flash stay. That memories read 00h after a reset is the model's choice (log entry 8). -/
def Obligations.DeviceReset : Prop :=
  (∀ (s : State), s.mbx.resetPend = true → Completes (exec .commandResetDelay s) (fun t =>
    (∀ a, a < 0x20150000 → a ≠ 0x20010208 → ¬ (0x20130000 ≤ a ∧ a < 0x20130200) → t.rd a = resetWord a ∧ t.rdP a = resetWord a) ∧
    t.mode = 1 ∧ t.debug = 0 ∧ t.dark ∧ t.key.tick = 0 ∧ t.key.frc = s.key.frc ∧ t.get SEC_STATUS_LIFECYCLE = s.otp.life % 4 ∧
    t.get SEC_ARB_COUNT = s.otp.arb % 64 ∧ t.mbx.mem = [] ∧ t.mbx.staged = 0 ∧ t.mbx.taken = none ∧ t.dram = [] ∧ t.sram = [] ∧ t.job = {} ∧ t.causes = [] ∧
    t.otp = s.otp ∧ t.pending = s.pending ∧ t.vlt = s.vlt ∧ t.get VLT_OPSEC_OPSEC = s.get VLT_OPSEC_OPSEC ∧
    (s.flu.page = none → s.flu.erasing = none → s.flu.xspi = none → t.flash = s.flash))) ∧
  (∀ (s : State), s.mbx.resetPend = false → exec .commandResetDelay s = .next s)

/-- A fault recorded by a block, by the operation every block records it with, is told to the host (R107); while the Flue has room it is the latest fault, its record
carries the class, the code and the payload of R703 (the bytes that no rule names being free values, log entry 54) with the next SEQ (R701), and the block's FAULT_LAST shows it. Class F0 turns every gate off and enters SAFE (R16). Class F1
enters HOLD from IDLE, PREP, BUILD or SERVICE, stores the mode it left and latches the cause (R674, R740, R774); in BOOT, HOLD, SAFE and VAULT the mode
stays, so SAFE is not lowered (R18). Classes F2 and F3 change neither mode nor gates (R16). -/
def Obligations.FaultClasses : Prop :=
  (∀ (s : State) src code cls unit b1 x, s.fluTakes 1 → (s.fault src code cls unit b1 x).mbx.lastFault = src * 1024 + code) ∧
  (∀ (s : State) src code cls unit b1 x,
    Ev.mk 1 (src * 1024 + code) 0 (faultPier src code unit) s.key.tick ∈ (s.fault src code cls unit b1 x).mbx.evq) ∧
  (∀ (s : State) src code cls unit b1 x, s.fluTakes 1 → ∃ r ∈ (s.fault src code cls unit b1 x).flu.ring,
    r.sev = cls ∧ r.code = src * 1024 + code ∧ r.payload = s.faultBytes unit b1 x ∧ r.seq = s.flu.seqNext ∧ r.hasSeq = true) ∧
  (∀ (s : State) unit b1 x, s.faultBytes unit (some b1) (some x) = faultPayload unit b1 s.key.tick x) ∧
  (∀ (s : State) src code cls unit b1 x a, s.fluTakes 1 → faultLastAddr src = some a → unit < 32 → code < 1024 →
    (s.fault src code cls unit b1 x).rd a = word (2 ^ 31 + unit * 65536 + code)) ∧
  (∀ (s : State) src code unit b1 x, (s.fault src code 0 unit b1 x).mode = 7 ∧ (s.fault src code 0 unit b1 x).dark ∧
    (s.fault src code 0 unit b1 x).axesHalt = true) ∧
  (∀ (s : State) src code unit b1 x, s.mode ∈ [2, 3, 4, 6] → (s.fault src code 1 unit b1 x).mode = 5 ∧
    (s.fault src code 1 unit b1 x).get SEC_MODE_RET = s.mode ∧ (src * 1024 + code, unit) ∈ (s.fault src code 1 unit b1 x).causes) ∧
  (∀ (s : State) src code cls unit b1 x, s.mode ∉ [2, 3, 4, 6] → 1 ≤ cls → (s.fault src code cls unit b1 x).mode = s.mode ∧
    (s.fault src code cls unit b1 x).get LSR_IN_B_GATE_PAD = s.get LSR_IN_B_GATE_PAD) ∧
  (∀ (s : State) src code cls unit b1 x, s.fluTakes 1 → 2 ≤ cls → (s.fault src code cls unit b1 x).mode = s.mode ∧
    (s.fault src code cls unit b1 x).get LSR_IN_B_GATE_PAD = s.get LSR_IN_B_GATE_PAD ∧ (s.fault src code cls unit b1 x).causes = s.causes)

/-- At a tick edge the laser channel interface leaves a gate pad on only where all of these hold: the external permit, the light block's EMIT_EN, the
mode's MODE_ALLOW, no latched F0 or F1 fault, the pier's link good, its laser READY and not faulted, and no permit discrepancy (R311, R327, R677). With an
F0 or F1 fault latched every pad is off after the edge (R16, R37). -/
def Obligations.GateNeedsPermits : Prop :=
  (∀ (s : State) eperm emit p, p < 16 → (s.lsrEdge eperm emit).bit LSR_IN_B_GATE_PAD p = true →
    eperm = true ∧ emit = true ∧ s.modeAllow = true ∧ s.forced = false ∧ s.on PLK_STATE_LINK_OK p = true ∧ s.on LSR_PERMIT_DISCREP = false ∧
    s.lsr.gov.testBit p = true ∧ s.lsr.gov.testBit (16 + p) = false) ∧
  (∀ (s : State) eperm emit, s.forced = true → (s.lsrEdge eperm emit).dark)

/-- Every command but the ones named in mayStore (register and bus accesses, DMA and block transfers, records and headers written to their rings, the flash's own
operations, frames, firmware slots, and device reset) leaves every byte of DRAM, of the SRAM, of the flash, of the correction banks and of the frame
store as it was. What the named ones store, and where, their own statements say. -/
def Obligations.MemoryFrame : Prop :=
  (∀ c s t, mayStore c = false → exec c s = .next t →
    t.dram = s.dram ∧ t.sram = s.sram ∧ t.flash = s.flash ∧ t.cor.banks = s.cor.banks ∧ t.dsp.fs = s.dsp.fs) ∧
  (∀ c s t a, mayStore c = false → exec c s = .next t → Memory.read 0 t.dram a = Memory.read 0 s.dram a ∧
    Memory.read 0 t.sram a = Memory.read 0 s.sram a ∧ Memory.read 0xFF t.flash a = Memory.read 0xFF s.flash a)

/-- Only the lifecycle commands, the anti-rollback commands and an access to the registers that start them change the one-time-programmable store (R653,
R656, R658–R660, R665): every other command, in every mode and after every fault, leaves it as it was. -/
def Obligations.FuseFrame : Prop := ∀ c s t, mayBurn c = false → exec c s = .next t → t.otp = s.otp
end

