-- ==== Sys2Proof/Laws/Commands.lean ====
section
/-! SUPPORT. What carrying out a mailbox command comes to, once firmware has the request in hand (R109–R125). -/

namespace Sys2Proof.Machine

/-- The request in hand is the command's: the body decides what happens, and its reply, if it has one, ends it. -/
theorem runCmd_serving (op : Nat) (s : State) (q : Req) (body : Req → State → State × Option Reply) (h : s.serving op q) :
    runCmd op s body = .next (match (body q s).2 with
      | some r => (body q s).1.finish q.m r
      | none => { (body q s).1 with mbx := { (body q s).1.mbx with begun := true } }) := by
  obtain ⟨h1, h2, h3, h4⟩ := h
  unfold runCmd
  rw [h1]
  simp only [h3, h2, h4, and_self, if_true]
  split <;> rename_i e <;> simp [e]

/-- Without a request in hand, or with one that has begun, or while Nagus is halted, a mailbox command has no occasion. -/
theorem runCmd_idle (op : Nat) (s : State) (body : Req → State → State × Option Reply)
    (h : s.mbx.taken = none ∨ s.mayBegin = false) : runCmd op s body = .next s := by
  unfold runCmd
  rcases h with h | h
  · rw [h]
  · split
    · rfl
    · simp [h]

@[simp] theorem firstBad_nil : firstBad [] = none := rfl

@[simp] theorem firstBad_cons (i : Nat) (ok : Bool) (l : List (Nat × Bool)) :
    firstBad ((i, ok) :: l) = if ok = true then firstBad l else some i := by
  rw [firstBad]

end Sys2Proof.Machine
end

