-- ==== Sys2Proof/Laws/KeptOps.lean ====
section
/-! SUPPORT. What the operations of Machine/Ops.lean keep: the one-time-programmable store, the queue of commands and the tick count. -/

namespace Sys2Proof.Machine

/-- What hardly any command touches: the one-time-programmable store, the queue of commands and the tick count. -/
def State.kept (s : State) : Otp × List Instr × Nat := (s.otp, s.pending, s.key.tick)

@[simp] theorem kept_pair (s : State) : (s.otp, s.pending, s.key.tick) = s.kept := by
  unfold State.kept; exact Eq.trans rfl rfl

@[simp] theorem kept_mk (a1 a2 a3 key a5 a6 a7 a8 a9 a10 a11 a12 a13 a14 a15 a16 a17 a18 a19 a20 a21 otp a23 a24 a25 a26 a27 a28 a29
    a30 a31 a32 a33 a34 pending) : (State.mk a1 a2 a3 key a5 a6 a7 a8 a9 a10 a11 a12 a13 a14 a15 a16 a17 a18 a19 a20 a21 otp a23 a24 a25
    a26 a27 a28 a29 a30 a31 a32 a33 a34 pending).kept = (otp, pending, key.tick) := by
  unfold State.kept; exact Eq.trans rfl rfl

@[simp] theorem foldl_kept {α : Type} (l : List α) (f : State → α → State) (h : ∀ s x, (f s x).kept = s.kept) (s : State) :
    (l.foldl f s).kept = s.kept := by
  induction l generalizing s with
  | nil => rfl
  | cons a t ih => rw [List.foldl_cons, ih, h]

@[simp] theorem forN_kept (n : Nat) (f : Nat → State → State) (h : ∀ i s, (f i s).kept = s.kept) (s : State) :
    (forN n f s).kept = s.kept := by
  unfold forN
  exact foldl_kept _ _ (fun s x => h x s) s

@[simp] theorem kept_ite (c : Prop) {_ : Decidable c} (a b : State) : (if c then a else b).kept = if c then a.kept else b.kept := by
  split <;> rfl

/-- The state after a command: its next state, or the same state where it stops. -/
def resultOf (o : Out) (s : State) : State := match o with
  | .next t => t
  | _ => s

@[simp] theorem resultOf_next (t s : State) : resultOf (.next t) s = t := by
  unfold resultOf; exact Eq.trans rfl rfl

@[simp] theorem resultOf_ite (c : Prop) {_ : Decidable c} (a b : Out) (s : State) :
    resultOf (if c then a else b) s = if c then resultOf a s else resultOf b s := by
  split <;> rfl

@[simp] theorem snd_ite_kept {β : Type} (c : Prop) {_ : Decidable c} (p q : β × State) :
    (if c then p else q).2.kept = if c then p.2.kept else q.2.kept := by
  split <;> rfl

@[simp] theorem fst_ite_kept {β : Type} (c : Prop) {_ : Decidable c} (p q : State × β) :
    (if c then p else q).1.kept = if c then p.1.kept else q.1.kept := by
  split <;> rfl

@[simp] theorem fresh_kept (s : State) : s.fresh.2.kept = s.kept := by
  unfold State.fresh; exact Eq.trans rfl rfl

/-- From `s` to `t` the one-time-programmable store only grows, and the queue and the tick count are untouched. -/
def Grown (s t : State) : Prop := Otp.grows s.otp t.otp ∧ t.pending = s.pending ∧ t.key.tick = s.key.tick

theorem Grown.refl (s : State) : Grown s s := ⟨⟨Nat.le_refl _, Nat.le_refl _, id, rfl, rfl, rfl, rfl⟩, rfl, rfl⟩

theorem kept_otp {s t : State} (h : t.kept = s.kept) : t.otp = s.otp := congrArg Prod.fst h

theorem kept_pending {s t : State} (h : t.kept = s.kept) : t.pending = s.pending := congrArg (fun p => p.2.1) h

theorem kept_tick {s t : State} (h : t.kept = s.kept) : t.key.tick = s.key.tick := congrArg (fun p => p.2.2) h

theorem Grown.trans {s t u : State} (h : Grown s t) (g : Grown t u) : Grown s u := by
  obtain ⟨⟨a1, a2, a3, a4, a5, a6, a7⟩, a8, a9⟩ := h
  obtain ⟨⟨b1, b2, b3, b4, b5, b6, b7⟩, b8, b9⟩ := g
  exact ⟨⟨Nat.le_trans a1 b1, Nat.le_trans a2 b2, fun h => b3 (a3 h), b4.trans a4, b5.trans a5, b6.trans a6, b7.trans a7⟩, b8.trans a8, b9.trans a9⟩

theorem Grown.right {s t u : State} (h : u.kept = t.kept) (g : Grown s t) : Grown s u := by
  unfold Grown
  rw [kept_otp h, kept_pending h, kept_tick h]
  exact g

theorem Grown.left {s t u : State} (h : t.kept = s.kept) (g : Grown t u) : Grown s u := by
  unfold Grown at *
  rw [kept_otp h, kept_pending h, kept_tick h] at g
  exact g

theorem Grown.of {s t : State} (h : t.kept = s.kept) : Grown s t := Grown.right h (Grown.refl s)

@[simp] theorem after_kept (c : State → Out) (s : State) (h : (resultOf (c s) s).kept = s.kept) : (after c s).kept = s.kept := h

@[simp] theorem State.wr_kept (s : State) (a : Nat) (v : Word) : (@State.wr s a v).kept = s.kept := by
  unfold State.wr
  simp

@[simp] theorem State.put_kept (s : State) (f : Fref) (v : Nat) (i : Nat) (j : Nat) : (@State.put s f v i j).kept = s.kept := by
  unfold State.put
  simp

@[simp] theorem State.putS_kept (s : State) (f : Fref) (v : Int) (i : Nat) (j : Nat) : (@State.putS s f v i j).kept = s.kept := by
  unfold State.putS
  simp

@[simp] theorem State.putBit_kept (s : State) (f : Fref) (b : Nat) (v : Bool) (i : Nat) : (@State.putBit s f b v i).kept = s.kept := by
  unfold State.putBit
  simp

@[simp] theorem State.set1_kept (s : State) (f : Fref) (i : Nat) (j : Nat) : (@State.set1 s f i j).kept = s.kept := by
  unfold State.set1
  simp

@[simp] theorem State.incSat_kept (s : State) (f : Fref) (i : Nat) (n : Nat) : (@State.incSat s f i n).kept = s.kept := by
  unfold State.incSat
  simp

@[simp] theorem State.incWrap_kept (s : State) (f : Fref) (i : Nat) (n : Nat) : (@State.incWrap s f i n).kept = s.kept := by
  unfold State.incWrap
  simp

@[simp] theorem State.put64_kept (s : State) (lo : Fref) (hi : Fref) (v : Nat) (i : Nat) : (@State.put64 s lo hi v i).kept = s.kept := by
  unfold State.put64
  simp

@[simp] theorem State.putP_kept (s : State) (f : Fref) (v : Nat) (i : Nat) (j : Nat) : (@State.putP s f v i j).kept = s.kept := by
  unfold State.putP
  simp

@[simp] theorem State.putPS_kept (s : State) (f : Fref) (v : Int) (i : Nat) (j : Nat) : (@State.putPS s f v i j).kept = s.kept := by
  unfold State.putPS
  simp

@[simp] theorem State.transfer_kept (s : State) (mask : Nat) (capt : List (Nat × Word)) : (@State.transfer s mask capt).kept = s.kept := by
  unfold State.transfer
  exact foldl_kept _ _ (fun t x => by (repeat' split) <;> simp) s

@[simp] theorem State.requestCommit_kept (s : State) (mask : Nat) : (@State.requestCommit s mask).kept = s.kept := by
  unfold State.requestCommit
  simp

@[simp] theorem State.discard_kept (s : State) (mask : Nat) : (@State.discard s mask).kept = s.kept := by
  unfold State.discard
  simp

@[simp] theorem State.event_kept (s : State) (kind : Nat) (code : Nat) (tag : Nat) (arg : Nat) : (@State.event s kind code tag arg).kept = s.kept := by
  unfold State.event
  simp

@[simp] theorem State.setDebug_kept (s : State) (l : Nat) : (@State.setDebug s l).kept = s.kept := by
  unfold State.setDebug
  simp

@[simp] theorem State.enterMode_kept (s : State) (m : Nat) : (@State.enterMode s m).kept = s.kept := by
  unfold State.enterMode
  simp

@[simp] theorem State.raise_kept (s : State) (v : Nat) : (@State.raise s v).kept = s.kept := by
  unfold State.raise
  simp

@[simp] theorem freeBytes_kept (n : Nat) (s : State) : (@freeBytes n s).2.kept = s.kept := by
  unfold freeBytes
  simp

@[simp] theorem State.fluShow_kept (s : State) : (@State.fluShow s).kept = s.kept := by
  unfold State.fluShow
  simp

@[simp] theorem State.displace_kept (s : State) (v : Rec) : (@State.displace s v).kept = s.kept := by
  unfold State.displace
  simp

@[simp] theorem State.ringAppend_kept (s : State) (g : List Rec) (resv : Bool) : (@State.ringAppend s g resv).kept = s.kept := by
  unfold State.ringAppend
  simp

@[simp] theorem State.ringDrop_kept (s : State) (n : Nat) : (@State.ringDrop s n).kept = s.kept := by
  unfold State.ringDrop
  simp

@[simp] theorem State.f1Mode_kept (s : State) : (@State.f1Mode s).kept = s.kept := by
  unfold State.f1Mode
  simp

@[simp] theorem State.faultNote_kept (s : State) (src : Nat) (code : Nat) (cls : Nat) (unit : Nat) : (@State.faultNote s src code cls unit).kept = s.kept := by
  unfold State.faultNote
  repeat' first
    | (extract_lets +onlyGivenNames x; first
      | (have hx : State.kept x = State.kept s := (by first | (simp [x, *]; done) | (simp only [x]; (repeat' split) <;> simp [*]; done)); clear_value x)
      | (have hx : ∀ t : State, State.kept (x t) = State.kept t := (by intro t; first | (simp [x, *]; done) | (simp only [x]; (repeat' split) <;> simp [*]; done)); clear_value x)
      | (have hx := fun a => x a; clear hx)
      | clear_value x)
    | (simp [*]; done)
    | (split <;> try (rename_i heq; first
       | (have hk := congrArg (fun p => State.kept (Prod.snd p)) heq.symm; simp at hk)
       | (have hk := congrArg (fun p => State.kept (Prod.snd (Prod.snd p))) heq.symm; simp at hk)
       | (have hk := congrArg (fun p => State.kept (Prod.fst p)) heq.symm; simp at hk)))
    | (simp +zetaDelta [*]; done)

@[simp] theorem State.seal_kept (s : State) : (@State.seal s).kept = s.kept := by
  unfold State.seal
  simp

@[simp] theorem State.sealCheck_kept (s : State) : (@State.sealCheck s).kept = s.kept := by
  unfold State.sealCheck
  simp

@[simp] theorem State.toReserve_kept (s : State) (g : List Rec) : (@State.toReserve s g).kept = s.kept := by
  unfold State.toReserve
  simp

theorem makeRoom_kept (n sev k : Nat) (s t : State) (h : State.makeRoom n sev k s = some t) : t.kept = s.kept := by
  induction k generalizing s with
  | zero =>
    unfold State.makeRoom at h
    split at h <;> simp_all
  | succ k ih =>
    unfold State.makeRoom at h
    split at h
    · simp_all
    · split at h
      · rw [ih _ h, State.displace_kept]
      · simp at h

@[simp] theorem State.enterRecs_kept (s : State) (a1 : List Rec) : (@State.enterRecs s a1).kept = s.kept := by
  unfold State.enterRecs
  split
  · rfl
  · split
    · simp
    · split
      · rename_i h
        simp [makeRoom_kept _ _ _ _ _ h]
      · split <;> simp

@[simp] theorem State.inOrder_kept (s t : State) : (@State.inOrder s t).kept = t.kept := by
  unfold State.inOrder
  (repeat' split) <;> simp

@[simp] theorem State.gatesOff_kept (s : State) : (@State.gatesOff s).kept = s.kept := by
  unfold State.gatesOff
  simp

@[simp] theorem State.classAction_kept (s : State) (cls : Nat) : (@State.classAction s cls).kept = s.kept := by
  unfold State.classAction
  simp

@[simp] theorem State.faultWith_kept (s : State) (src : Nat) (code : Nat) (cls : Nat) (unit : Nat) (payload : List Byte) : (@State.faultWith s src code cls unit payload).kept = s.kept := by
  unfold State.faultWith
  cases faultLastAddr src <;> simp

@[simp] theorem State.fault_kept (s : State) (src : Nat) (code : Nat) (cls : Nat) (unit : Nat) (b1 : (Option Nat)) (x : (Option Nat)) : (@State.fault s src code cls unit b1 x).kept = s.kept := by
  unfold State.fault
  simp

@[simp] theorem State.dropCause_kept (s : State) (code : Nat) (unit : Nat) : (@State.dropCause s code unit).kept = s.kept := by
  unfold State.dropCause
  simp

@[simp] theorem State.reservedFault_kept (s : State) (src unit : Nat) : (@State.reservedFault s src unit).kept = s.kept := by
  unfold State.reservedFault
  simp

@[simp] theorem State.faultOnce_kept (s : State) (flag : Fref) (i : Nat) (src : Nat) (code : Nat) (cls : Nat) (unit : Nat) (b1 : (Option Nat)) (x : (Option Nat)) : (@State.faultOnce s flag i src code cls unit b1 x).kept = s.kept := by
  unfold State.faultOnce
  simp

end Sys2Proof.Machine
end

