-- ==== Sys2Proof/Laws/KeptKey.lean ====
section
/-! SUPPORT. What the operations of Machine/Key.lean keep: the one-time-programmable store, the queue of commands and the tick count. -/

namespace Sys2Proof.Machine

@[simp] theorem State.setWide_kept (s : State) (lo : Nat) (v : Nat) : (@State.setWide s lo v).kept = s.kept := by
  unfold State.setWide
  simp

@[simp] theorem State.advance_kept (s : State) (adv : Nat) : (@State.advance s adv).kept = s.kept := by
  unfold State.advance
  simp

@[simp] theorem State.tickOutEn_kept (s : State) (en : Bool) : (@State.tickOutEn s en).kept = s.kept := by
  unfold State.tickOutEn
  simp

@[simp] theorem State.showArmed_kept (s : State) : (@State.showArmed s).kept = s.kept := by
  unfold State.showArmed
  simp

@[simp] theorem execKeyCommitWrite_kept (groups : Nat) (phase : Nat) (s : State) : (resultOf (execKeyCommitWrite groups phase s) s).kept = s.kept := by
  unfold execKeyCommitWrite
  simp

@[simp] theorem State.schedArm_kept (s : State) (k : Nat) (mask : Nat) (phase : Nat) : (@State.schedArm s k mask phase).kept = s.kept := by
  unfold State.schedArm
  simp

@[simp] theorem execSchedArm_kept (k : Fin 8) (mask : Nat) (phase : Nat) (s : State) : (resultOf (execSchedArm k mask phase s) s).kept = s.kept := by
  unfold execSchedArm
  simp

@[simp] theorem execSchedDisarm_kept (k : Fin 8) (mask : Nat) (s : State) : (resultOf (execSchedDisarm k mask s) s).kept = s.kept := by
  unfold execSchedDisarm
  simp

@[simp] theorem execIncFracWrite_kept (v : Word) (s : State) : (resultOf (execIncFracWrite v s) s).kept = s.kept := by
  unfold execIncFracWrite
  simp

@[simp] theorem State.applyInc_kept (s : State) (inc : Nat) : (@State.applyInc s inc).kept = s.kept := by
  unfold State.applyInc
  simp

@[simp] theorem execIncIntWrite_kept (v : Word) (adv : Nat) (s : State) : (resultOf (execIncIntWrite v adv s) s).kept = s.kept := by
  unfold execIncIntWrite
  simp

@[simp] theorem execOfsLoWrite_kept (v : Word) (s : State) : (resultOf (execOfsLoWrite v s) s).kept = s.kept := by
  unfold execOfsLoWrite
  simp

@[simp] theorem State.acceptOfs_kept (s : State) (new : Nat) : (@State.acceptOfs s new).kept = s.kept := by
  unfold State.acceptOfs
  simp

@[simp] theorem State.refuseOfs_kept (s : State) : (@State.refuseOfs s).kept = s.kept := by
  unfold State.refuseOfs
  simp

@[simp] theorem State.snap_kept (s : State) : (@State.snap s).kept = s.kept := by
  unfold State.snap
  simp

@[simp] theorem execSnapCapture_kept (adv : Nat) (s : State) : (resultOf (execSnapCapture adv s) s).kept = s.kept := by
  unfold execSnapCapture
  simp

@[simp] theorem execOvrClear_kept (s : State) : (resultOf (execOvrClear s) s).kept = s.kept := by
  unfold execOvrClear
  simp

@[simp] theorem State.overrun_kept (s : State) (src : Nat) (p : Nat) : (@State.overrun s src p).kept = s.kept := by
  unfold State.overrun
  simp

@[simp] theorem execLatchingRead_kept (a : Nat) (adv : Nat) (s : State) : (resultOf (execLatchingRead a adv s) s).kept = s.kept := by
  unfold execLatchingRead
  simp

@[simp] theorem execTickInEdge_kept (t16 : Nat) (s : State) : (resultOf (execTickInEdge t16 s) s).kept = s.kept := by
  unfold execTickInEdge
  simp

@[simp] theorem execTickInFail_kept (s : State) : (resultOf (execTickInFail s) s).kept = s.kept := by
  unfold execTickInFail
  simp

@[simp] theorem execDiscLockGained_kept (s : State) : (resultOf (execDiscLockGained s) s).kept = s.kept := by
  unfold execDiscLockGained
  simp

@[simp] theorem execTimePllUnlock_kept (s : State) : (resultOf (execTimePllUnlock s) s).kept = s.kept := by
  unfold execTimePllUnlock
  simp

@[simp] theorem execTimePllRelock_kept (s : State) : (resultOf (execTimePllRelock s) s).kept = s.kept := by
  unfold execTimePllRelock
  simp

@[simp] theorem execRtPllUnlock_kept (s : State) : (resultOf (execRtPllUnlock s) s).kept = s.kept := by
  unfold execRtPllUnlock
  simp

end Sys2Proof.Machine
end

