-- ==== Sys2Proof/Laws/KeptOperands.lean ====
section
/-! SUPPORT. What the operations of Machine/Operands.lean keep: the one-time-programmable store, the queue of commands and the tick count. -/

namespace Sys2Proof.Machine

@[simp] theorem State.writeReply_kept (s : State) (m : Nat) (r : Reply) : (@State.writeReply s m r).kept = s.kept := by
  unfold State.writeReply
  simp

@[simp] theorem State.finish_kept (s : State) (m : Nat) (r : Reply) : (@State.finish s m r).kept = s.kept := by
  unfold State.finish
  simp

@[simp] theorem runCmd_kept (op : Nat) (s : State) (body : Req → State → State × Option Reply) (h : ∀ q t, (body q t).1.kept = t.kept) :
    (resultOf (runCmd op s body) s).kept = s.kept := by
  unfold runCmd
  cases s.mbx.taken with
  | none => simp
  | some m =>
    have e := h (s.request m) s
    cases hb : body (s.request m) s with
    | mk t r => cases r <;> simp_all

theorem runCmd_grown (op : Nat) (s : State) (body : Req → State → State × Option Reply) (h : ∀ q t, Grown t (body q t).1) :
    Grown s (resultOf (runCmd op s body) s) := by
  unfold runCmd
  cases s.mbx.taken with
  | none => simpa using Grown.refl s
  | some m =>
    have e := h (s.request m) s
    simp only []
    split
    · cases hb : body (s.request m) s with
      | mk t r =>
        rw [hb] at e
        cases r with
        | none => exact Grown.right (by simp) e
        | some r => exact Grown.right (by simp) e
    · simpa using Grown.refl s

@[simp] theorem reader_kept (bad : List (Nat × Bool)) (s : State) (r : State → Reply) : (@reader bad s r).1.kept = s.kept := by
  unfold reader
  (repeat' split) <;> simp

@[simp] theorem finishWrite_kept (q : Req) (g : Nat) (s : State) (p : (List Nat)) : (@finishWrite q g s p).1.kept = s.kept := by
  unfold finishWrite
  simp

@[simp] theorem writer_kept (q : Req) (g : Nat) (bad : List (Nat × Bool)) (s : State) (w : State → State) (h : (w s).kept = s.kept) :
    (writer q g bad s w).1.kept = s.kept := by
  unfold writer
  split
  · rfl
  · split <;> simp [h]

@[simp] theorem State.startAction_kept (s : State) (q : Req) (arg : Nat) (arg2 : Nat) : (@State.startAction s q arg arg2).kept = s.kept := by
  unfold State.startAction
  simp

@[simp] theorem State.endActions_kept (s : State) (sel : Action → Bool) (st : Nat) : (@State.endActions s sel st).kept = s.kept := by
  unfold State.endActions
  simp

@[simp] theorem forPiers_kept (n : Nat) (f : Nat → State → State) (h : ∀ i s, (f i s).kept = s.kept) (s : State) :
    (forPiers n f s).kept = s.kept := by
  unfold forPiers
  exact foldl_kept _ _ (fun s x => h x s) s

end Sys2Proof.Machine
end

