-- ==== Sys2Proof/Laws/KeptFlags.lean ====
section
/-! SUPPORT. What the operations of Machine/Flags.lean keep: the one-time-programmable store, the queue of commands and the tick count. -/

namespace Sys2Proof.Machine

@[simp] theorem State.hostErr_kept (s : State) (f : Fref) : (@State.hostErr s f).kept = s.kept := by
  unfold State.hostErr
  simp

@[simp] theorem State.viaErr_kept (s : State) (e : ViaErr) (req : Nat) (isWrite : Bool) (addr : Nat) : (@State.viaErr s e req isWrite addr).kept = s.kept := by
  unfold State.viaErr
  simp

@[simp] theorem State.putSummary_kept (s : State) : (@State.putSummary s).kept = s.kept := by
  unfold State.putSummary
  simp

@[simp] theorem State.writeEvent_kept (s : State) (e : Ev) : (@State.writeEvent s e).kept = s.kept := by
  unfold State.writeEvent
  simp

@[simp] theorem State.postLost_kept (s : State) : (@State.postLost s).kept = s.kept := by
  unfold State.postLost
  simp

end Sys2Proof.Machine
end

