-- ==== Sys2Proof/Laws/KeptBus.lean ====
section
/-! SUPPORT. What the operations of Machine/Bus.lean keep: the one-time-programmable store, the queue of commands and the tick count. -/

namespace Sys2Proof.Machine

@[simp] theorem State.ueFound_kept (s : State) (beat : Nat) (req : Nat) (syn : Nat) : (@State.ueFound s beat req syn).kept = s.kept := by
  unfold State.ueFound
  simp

@[simp] theorem State.ceFound_kept (s : State) (beat : Nat) (scrub : Bool) (req : Nat) : (@State.ceFound s beat scrub req).kept = s.kept := by
  unfold State.ceFound
  simp

@[simp] theorem State.readBeat_kept (s : State) (req : Nat) (beat : Nat) : (@State.readBeat s req beat).kept = s.kept := by
  unfold State.readBeat
  (repeat' split) <;> simp

@[simp] theorem State.busErr_kept (s : State) (e : ViaErr) (req : Nat) (isWrite : Bool) (a : Nat) : (@State.busErr s e req isWrite a).kept = s.kept := by
  unfold State.busErr
  simp

@[simp] theorem State.dramWake_kept (s : State) (a : Nat) (n : Nat) : (@State.dramWake s a n).kept = s.kept := by
  unfold State.dramWake
  simp

@[simp] theorem State.portCount_kept (s : State) (req : Nat) (a : Nat) (n : Nat) : (@State.portCount s req a n).kept = s.kept := by
  unfold State.portCount
  simp

@[simp] theorem State.dramRead_kept (s : State) (req : Nat) (a : Nat) (n : Nat) : (@State.dramRead s req a n).2.2.kept = s.kept := by
  unfold State.dramRead
  repeat' first
    | (extract_lets +onlyGivenNames x; first
      | (have hx : State.kept x = State.kept s := (by first | (simp [x, *]; done) | (simp only [x]; (repeat' split) <;> simp [*]; done)); clear_value x)
      | (have hx : ∀ t : State, State.kept (x t) = State.kept t := (by intro t; first | (simp [x, *]; done) | (simp only [x]; (repeat' split) <;> simp [*]; done)); clear_value x)
      | (have hx := fun a => x a; clear hx)
      | clear_value x)
    | (simp [*]; done)
    | (split <;> try (rename_i heq; first
       | (have hk := congrArg (fun p => State.kept (Prod.snd p)) heq.symm; simp at hk)
       | (have hk := congrArg (fun p => State.kept (Prod.snd (Prod.snd p))) heq.symm; simp at hk)
       | (have hk := congrArg (fun p => State.kept (Prod.fst p)) heq.symm; simp at hk)))
    | (simp +zetaDelta [*]; done)

@[simp] theorem State.writeBeat_kept (s : State) (req : Nat) (a : Nat) (n : Nat) (beat : Nat) : (@State.writeBeat s req a n beat).kept = s.kept := by
  unfold State.writeBeat
  (repeat' split) <;> simp

@[simp] theorem State.dramWrite_kept (s : State) (req : Nat) (a : Nat) (bs : List Byte) : (@State.dramWrite s req a bs).2.kept = s.kept := by
  unfold State.dramWrite
  simp

@[simp] theorem State.nagusAddr_kept (s : State) (a : Nat) : (@State.nagusAddr s a).2.kept = s.kept := by
  unfold State.nagusAddr
  (repeat' split) <;> simp

@[simp] theorem State.captureAt_kept (s : State) (before : State) (a : Nat) : (@State.captureAt s before a).kept = s.kept := by
  unfold State.captureAt
  simp

@[simp] theorem State.fwRead_kept (s : State) (a : Nat) (n : Nat) : (@State.fwRead s a n).2.2.kept = s.kept := by
  unfold State.fwRead
  repeat' first
    | (extract_lets +onlyGivenNames x; first
      | (have hx : State.kept x = State.kept s := (by first | (simp [x, *]; done) | (simp only [x]; (repeat' split) <;> simp [*]; done)); clear_value x)
      | (have hx : ∀ t : State, State.kept (x t) = State.kept t := (by intro t; first | (simp [x, *]; done) | (simp only [x]; (repeat' split) <;> simp [*]; done)); clear_value x)
      | (have hx := fun a => x a; clear hx)
      | clear_value x)
    | (simp [*]; done)
    | (split <;> try (rename_i heq; first
       | (have hk := congrArg (fun p => State.kept (Prod.snd p)) heq.symm; simp at hk)
       | (have hk := congrArg (fun p => State.kept (Prod.snd (Prod.snd p))) heq.symm; simp at hk)
       | (have hk := congrArg (fun p => State.kept (Prod.fst p)) heq.symm; simp at hk)))
    | (simp +zetaDelta [*]; done)

end Sys2Proof.Machine
end

