-- ==== Sys2Proof/Laws/KeptSpn.lean ====
section
/-! SUPPORT. What the operations of Machine/Spn.lean keep: the one-time-programmable store, the queue of commands and the tick count. -/

namespace Sys2Proof.Machine

@[simp] theorem State.setPier_kept (s : State) (p : Nat) (q : PierSt) : (@State.setPier s p q).kept = s.kept := by
  unfold State.setPier
  simp

@[simp] theorem State.setPierState_kept (s : State) (p : Nat) (st : Nat) : (@State.setPierState s p st).kept = s.kept := by
  unfold State.setPierState
  simp

@[simp] theorem State.loseRecord_kept (s : State) (p : Nat) : (@State.loseRecord s p).kept = s.kept := by
  unfold State.loseRecord
  simp

@[simp] theorem State.stageRecord_kept (s : State) (p : Nat) (b : List Byte) : (@State.stageRecord s p b).kept = s.kept := by
  unfold State.stageRecord
  simp

@[simp] theorem State.closeRun_kept (s : State) (p : Nat) : (@State.closeRun s p).kept = s.kept := by
  unfold State.closeRun
  (repeat' split) <;> simp

@[simp] theorem State.showStitch_kept (s : State) : (@State.showStitch s).kept = s.kept := by
  unfold State.showStitch
  simp

@[simp] theorem State.setStitch_kept (s : State) (id : Nat) (e : Stitch) : (@State.setStitch s id e).kept = s.kept := by
  unfold State.setStitch
  simp

@[simp] theorem State.freeStitch_kept (s : State) (id : Nat) : (@State.freeStitch s id).kept = s.kept := by
  unfold State.freeStitch
  simp

@[simp] theorem State.releaseStitch_kept (s : State) (p : Nat) (role : Role) : (@State.releaseStitch s p role).kept = s.kept := by
  unfold State.releaseStitch
  (repeat' split) <;> simp

@[simp] theorem State.stitchRecord_kept (s : State) (p : Nat) (cause : Nat) (m : Motion) : (@State.stitchRecord s p cause m).kept = s.kept := by
  unfold State.stitchRecord
  simp

@[simp] theorem State.checkFade_kept (s : State) (inSide : Nat) (m : Motion) : (@State.checkFade s inSide m).kept = s.kept := by
  unfold State.checkFade
  simp

@[simp] theorem State.soloRelease_kept (s : State) (id : Nat) (e : Stitch) : (@State.soloRelease s id e).kept = s.kept := by
  unfold State.soloRelease
  repeat' first
    | (extract_lets +onlyGivenNames x; first
      | (have hx : State.kept x = State.kept s := (by first | (simp [x, *]; done) | (simp only [x]; (repeat' split) <;> simp [*]; done)); clear_value x)
      | (have hx : ∀ t : State, State.kept (x t) = State.kept t := (by intro t; first | (simp [x, *]; done) | (simp only [x]; (repeat' split) <;> simp [*]; done)); clear_value x)
      | (have hx := fun a => x a; clear hx)
      | clear_value x)
    | (simp [*]; done)
    | (split <;> try (rename_i heq; first
       | (have hk := congrArg (fun p => State.kept (Prod.snd p)) heq.symm; simp at hk)
       | (have hk := congrArg (fun p => State.kept (Prod.snd (Prod.snd p))) heq.symm; simp at hk)
       | (have hk := congrArg (fun p => State.kept (Prod.fst p)) heq.symm; simp at hk)))
    | (simp +zetaDelta [*]; done)

@[simp] theorem State.releasePair_kept (s : State) (a : Nat) (b : Nat) (id : Nat) : (@State.releasePair s a b id).kept = s.kept := by
  unfold State.releasePair
  simp

@[simp] theorem State.tickStitch_kept (s : State) (id : Nat) (e : Stitch) : (@State.tickStitch s id e).kept = s.kept := by
  unfold State.tickStitch
  simp

@[simp] theorem State.tickStitches_kept (s : State) : (@State.tickStitches s).kept = s.kept := by
  unfold State.tickStitches
  simp

@[simp] theorem State.registerStitch_kept (s : State) (c : Nat) (m : Motion) (inside : Bool) (geo : List Int) : (@State.registerStitch s c m inside geo).2.kept = s.kept := by
  unfold State.registerStitch
  (repeat' split) <;> simp

@[simp] theorem State.endStitch_kept (s : State) (p : Nat) (m : Motion) : (@State.endStitch s p m).kept = s.kept := by
  unfold State.endStitch
  repeat' first
    | (extract_lets +onlyGivenNames x; first
      | (have hx : State.kept x = State.kept s := (by first | (simp [x, *]; done) | (simp only [x]; (repeat' split) <;> simp [*]; done)); clear_value x)
      | (have hx : ∀ t : State, State.kept (x t) = State.kept t := (by intro t; first | (simp [x, *]; done) | (simp only [x]; (repeat' split) <;> simp [*]; done)); clear_value x)
      | (have hx := fun a => x a; clear hx)
      | clear_value x)
    | (simp [*]; done)
    | (split <;> try (rename_i heq; first
       | (have hk := congrArg (fun p => State.kept (Prod.snd p)) heq.symm; simp at hk)
       | (have hk := congrArg (fun p => State.kept (Prod.snd (Prod.snd p))) heq.symm; simp at hk)
       | (have hk := congrArg (fun p => State.kept (Prod.fst p)) heq.symm; simp at hk)))
    | (simp +zetaDelta [*]; done)

@[simp] theorem State.freeOrphans_kept (s : State) : (@State.freeOrphans s).kept = s.kept := by
  unfold State.freeOrphans
  simp

@[simp] theorem execStitchSoloRelease_kept (id : Fin 1024) (s : State) : (resultOf (execStitchSoloRelease id s) s).kept = s.kept := by
  unfold execStitchSoloRelease
  (repeat' split) <;> simp

@[simp] theorem State.noteGuard_kept (s : State) (v : List (Nat × Nat)) : (@State.noteGuard s v).kept = s.kept := by
  unfold State.noteGuard
  (repeat' split) <;> simp

@[simp] theorem State.runTick_kept (s : State) (p : Nat) (cause : Nat) : (@State.runTick s p cause).kept = s.kept := by
  unfold State.runTick
  repeat' first
    | (extract_lets +onlyGivenNames x; first
      | (have hx : State.kept x = State.kept s := (by first | (simp [x, *]; done) | (simp only [x]; (repeat' split) <;> simp [*]; done)); clear_value x)
      | (have hx : ∀ t : State, State.kept (x t) = State.kept t := (by intro t; first | (simp [x, *]; done) | (simp only [x]; (repeat' split) <;> simp [*]; done)); clear_value x)
      | (have hx := fun a => x a; clear hx)
      | clear_value x)
    | (simp [*]; done)
    | (split <;> try (rename_i heq; first
       | (have hk := congrArg (fun p => State.kept (Prod.snd p)) heq.symm; simp at hk)
       | (have hk := congrArg (fun p => State.kept (Prod.snd (Prod.snd p))) heq.symm; simp at hk)
       | (have hk := congrArg (fun p => State.kept (Prod.fst p)) heq.symm; simp at hk)))
    | (simp +zetaDelta [*]; done)

@[simp] theorem State.decideGates_kept (s : State) (late : List Nat) : (@State.decideGates s late).kept = s.kept := by
  unfold State.decideGates
  simp

@[simp] theorem State.patchIrq_kept (s : State) : (@State.patchIrq s).kept = s.kept := by
  unfold State.patchIrq
  simp

@[simp] theorem State.loseStaged_kept (s : State) : (@State.loseStaged s).kept = s.kept := by
  unfold State.loseStaged
  simp

@[simp] theorem State.patchOff_kept (s : State) : (@State.patchOff s).kept = s.kept := by
  unfold State.patchOff
  simp

@[simp] theorem State.stageError_kept (s : State) (n : Nat) : (@State.stageError s n).kept = s.kept := by
  unfold State.stageError
  (repeat' split) <;> simp

@[simp] theorem execPatchRecordWrite_kept (s : State) : (resultOf (execPatchRecordWrite s) s).kept = s.kept := by
  unfold execPatchRecordWrite
  repeat' first
    | (extract_lets +onlyGivenNames x; first
      | (have hx : State.kept x = State.kept s := (by first | (simp [x, *]; done) | (simp only [x]; (repeat' split) <;> simp [*]; done)); clear_value x)
      | (have hx : ∀ t : State, State.kept (x t) = State.kept t := (by intro t; first | (simp [x, *]; done) | (simp only [x]; (repeat' split) <;> simp [*]; done)); clear_value x)
      | (have hx := fun a => x a; clear hx)
      | clear_value x)
    | (simp [*]; done)
    | (split <;> try (rename_i heq; first
       | (have hk := congrArg (fun p => State.kept (Prod.snd p)) heq.symm; simp at hk)
       | (have hk := congrArg (fun p => State.kept (Prod.snd (Prod.snd p))) heq.symm; simp at hk)
       | (have hk := congrArg (fun p => State.kept (Prod.fst p)) heq.symm; simp at hk)))
    | (simp +zetaDelta [*]; done)

@[simp] theorem execPatchIrqTimeout_kept (s : State) : (resultOf (execPatchIrqTimeout s) s).kept = s.kept := by
  unfold execPatchIrqTimeout
  simp

@[simp] theorem State.patchOn_kept (s : State) : (@State.patchOn s).kept = s.kept := by
  unfold State.patchOn
  simp

@[simp] theorem execPatchEnWrite_kept (s : State) : (resultOf (execPatchEnWrite s) s).kept = s.kept := by
  unfold execPatchEnWrite
  simp

end Sys2Proof.Machine
end

