-- ==== Sys2Proof/Laws/KeptCor.lean ====
section
/-! SUPPORT. What the operations of Machine/Cor.lean keep: the one-time-programmable store, the queue of commands and the tick count. -/

namespace Sys2Proof.Machine

@[simp] theorem State.holdCodes_kept (s : State) (p : Nat) : (@State.holdCodes s p).kept = s.kept := by
  unfold State.holdCodes
  simp

@[simp] theorem State.setClamp_kept (s : State) (p : Nat) (v : Bool) : (@State.setClamp s p v).kept = s.kept := by
  unfold State.setClamp
  simp

@[simp] theorem State.clampEffect_kept (s : State) (p : Nat) (gate : Bool) : (@State.clampEffect s p gate).kept = s.kept := by
  unfold State.clampEffect
  simp

@[simp] theorem State.noGrid_kept (s : State) (p : Nat) (gate : Bool) : (@State.noGrid s p gate).kept = s.kept := by
  unfold State.noGrid
  simp

@[simp] theorem State.corTick_kept (s : State) (p : Nat) (ue : Bool) (back : Bool) : (@State.corTick s p ue back).kept = s.kept := by
  unfold State.corTick
  simp

@[simp] theorem State.swapBank_kept (s : State) (p : Nat) : (@State.swapBank s p).kept = s.kept := by
  unfold State.swapBank
  simp

@[simp] theorem State.slotWritten_kept (s : State) (p : Nat) : (@State.slotWritten s p).kept = s.kept := by
  unfold State.slotWritten
  simp

@[simp] theorem State.bankWrite_kept (s : State) (off : Nat) (bs : List Byte) : (@State.bankWrite s off bs).2.kept = s.kept := by
  unfold State.bankWrite
  simp

@[simp] theorem execBankReadyMark_kept (p : Fin 16) (s : State) : (resultOf (execBankReadyMark p s) s).kept = s.kept := by
  unfold execBankReadyMark
  simp

@[simp] theorem State.requestSwap_kept (s : State) (p : Nat) (v : Nat) : (@State.requestSwap s p v).kept = s.kept := by
  unfold State.requestSwap
  simp

@[simp] theorem execBankSwapRequest_kept (p : Fin 16) (layer : Bool) (ready : Bool) (s : State) : (resultOf (execBankSwapRequest p layer ready s) s).kept = s.kept := by
  unfold execBankSwapRequest
  simp

@[simp] theorem execBankSwapCancel_kept (p : Fin 16) (s : State) : (resultOf (execBankSwapCancel p s) s).kept = s.kept := by
  unfold execBankSwapCancel
  simp

@[simp] theorem execGridSlotWrite_kept (req : Nat) (off : Nat) (bs : List Byte) (s : State) : (resultOf (execGridSlotWrite req off bs s) s).kept = s.kept := by
  unfold execGridSlotWrite
  repeat' first
    | (extract_lets +onlyGivenNames x; first
      | (have hx : State.kept x = State.kept s := (by first | (simp [x, *]; done) | (simp only [x]; (repeat' split) <;> simp [*]; done)); clear_value x)
      | (have hx : ∀ t : State, State.kept (x t) = State.kept t := (by intro t; first | (simp [x, *]; done) | (simp only [x]; (repeat' split) <;> simp [*]; done)); clear_value x)
      | (have hx := fun a => x a; clear hx)
      | clear_value x)
    | (simp [*]; done)
    | (split <;> try (rename_i heq; first
       | (have hk := congrArg (fun p => State.kept (Prod.snd p)) heq.symm; simp at hk)
       | (have hk := congrArg (fun p => State.kept (Prod.snd (Prod.snd p))) heq.symm; simp at hk)
       | (have hk := congrArg (fun p => State.kept (Prod.fst p)) heq.symm; simp at hk)))
    | (simp +zetaDelta [*]; done)

@[simp] theorem execGridCrcStart_kept (bank : Fin 2) (p : Fin 16) (s : State) : (resultOf (execGridCrcStart bank p s) s).kept = s.kept := by
  unfold execGridCrcStart
  simp

@[simp] theorem State.crcEnd_kept (s : State) : (@State.crcEnd s).kept = s.kept := by
  unfold State.crcEnd
  simp

@[simp] theorem execGridCrcDone_kept (s : State) : (resultOf (execGridCrcDone s) s).kept = s.kept := by
  unfold execGridCrcDone
  simp

@[simp] theorem execBankInitDone_kept (s : State) : (resultOf (execBankInitDone s) s).kept = s.kept := by
  unfold execBankInitDone
  simp

@[simp] theorem execCorFieldSet_kept (s : State) : (resultOf (execCorFieldSet s) s).kept = s.kept := by
  unfold execCorFieldSet
  simp

@[simp] theorem execCorSwap_kept (s : State) : (resultOf (execCorSwap s) s).kept = s.kept := by
  unfold execCorSwap
  refine runCmd_kept _ _ _ (fun q s => ?_)
  (repeat' split) <;> simp

@[simp] theorem execCorStatus_kept (s : State) : (resultOf (execCorStatus s) s).kept = s.kept := by
  unfold execCorStatus
  simp

@[simp] theorem execCorParamSet_kept (s : State) : (resultOf (execCorParamSet s) s).kept = s.kept := by
  unfold execCorParamSet
  refine runCmd_kept _ _ _ (fun q s => ?_)
  (repeat' split) <;> simp

@[simp] theorem execSpanMatrixSet_kept (s : State) : (resultOf (execSpanMatrixSet s) s).kept = s.kept := by
  unfold execSpanMatrixSet
  refine runCmd_kept _ _ _ (fun q s => ?_)
  (repeat' split) <;> simp

@[simp] theorem execSpanGasSet_kept (s : State) : (resultOf (execSpanGasSet s) s).kept = s.kept := by
  unfold execSpanGasSet
  simp

@[simp] theorem execSpanStitchSet_kept (s : State) : (resultOf (execSpanStitchSet s) s).kept = s.kept := by
  unfold execSpanStitchSet
  simp

@[simp] theorem execSpanStatus_kept (s : State) : (resultOf (execSpanStatus s) s).kept = s.kept := by
  unfold execSpanStatus
  simp

@[simp] theorem execSpanGuardSet_kept (s : State) : (resultOf (execSpanGuardSet s) s).kept = s.kept := by
  unfold execSpanGuardSet
  simp

end Sys2Proof.Machine
end

