-- ==== Sys2Proof/Laws/KeptScn.lean ====
section
/-! SUPPORT. What the operations of Machine/Scn.lean keep: the one-time-programmable store, the queue of commands and the tick count. -/

namespace Sys2Proof.Machine

@[simp] theorem State.lowWater_kept (s : State) (p : Nat) : (@State.lowWater s p).kept = s.kept := by
  unfold State.lowWater
  simp

@[simp] theorem State.lwmSet_kept (s : State) (p : Nat) : (@State.lwmSet s p).kept = s.kept := by
  unfold State.lwmSet
  simp

@[simp] theorem State.showFifo_kept (s : State) (p : Nat) : (@State.showFifo s p).kept = s.kept := by
  unfold State.showFifo
  simp

@[simp] theorem execRingIndexWrite_kept (p : Fin 16) (v : Word) (s : State) : (resultOf (execRingIndexWrite p v s) s).kept = s.kept := by
  unfold execRingIndexWrite
  simp

@[simp] theorem execFetchIssue_kept (p : Fin 16) (s : State) : (resultOf (execFetchIssue p s) s).kept = s.kept := by
  unfold execFetchIssue
  simp

@[simp] theorem State.enterFault_kept (s : State) (p : Nat) (code : Nat) : (@State.enterFault s p code).kept = s.kept := by
  unfold State.enterFault
  simp

@[simp] theorem execFetchComplete_kept (p : Fin 16) (s : State) : (resultOf (execFetchComplete p s) s).kept = s.kept := by
  unfold execFetchComplete
  repeat' first
    | (extract_lets +onlyGivenNames x; first
      | (have hx : State.kept x = State.kept s := (by first | (simp [x, *]; done) | (simp only [x]; (repeat' split) <;> simp [*]; done)); clear_value x)
      | (have hx : ∀ t : State, State.kept (x t) = State.kept t := (by intro t; first | (simp [x, *]; done) | (simp only [x]; (repeat' split) <;> simp [*]; done)); clear_value x)
      | (have hx := fun a => x a; clear hx)
      | clear_value x)
    | (simp [*]; done)
    | (split <;> try (rename_i heq; first
       | (have hk := congrArg (fun p => State.kept (Prod.snd p)) heq.symm; simp at hk)
       | (have hk := congrArg (fun p => State.kept (Prod.snd (Prod.snd p))) heq.symm; simp at hk)
       | (have hk := congrArg (fun p => State.kept (Prod.fst p)) heq.symm; simp at hk)))
    | (simp +zetaDelta [*]; done)

@[simp] theorem State.consume_kept (s : State) (p : Nat) (d : List Word) : (@State.consume s p d).kept = s.kept := by
  unfold State.consume
  simp

@[simp] theorem State.freshMessage_kept (s : State) (p : Nat) : (@State.freshMessage s p).kept = s.kept := by
  unfold State.freshMessage
  simp

@[simp] theorem State.closeDigest_kept (s : State) (p : Nat) (incomplete : Bool) : (@State.closeDigest s p incomplete).kept = s.kept := by
  unfold State.closeDigest
  simp

@[simp] theorem State.reject_kept (s : State) (p : Nat) (code : Nat) : (@State.reject s p code).kept = s.kept := by
  unfold State.reject
  simp

@[simp] theorem State.retire_kept (s : State) (p : Nat) : (@State.retire s p).kept = s.kept := by
  unfold State.retire
  (repeat' split) <;> simp

@[simp] theorem State.runStroke_kept (s : State) (p : Nat) (m : Motion) : (@State.runStroke s p m).kept = s.kept := by
  unfold State.runStroke
  simp

@[simp] theorem State.arrive_kept (s : State) (c : Nat) (id : Nat) (mask : Nat) : (@State.arrive s c id mask).kept = s.kept := by
  unfold State.arrive
  simp

@[simp] theorem State.layerEnd_kept (s : State) (p : Nat) : (@State.layerEnd s p).kept = s.kept := by
  unfold State.layerEnd
  simp

@[simp] theorem State.marker_kept (s : State) (p : Nat) (d : List Word) : (@State.marker s p d).kept = s.kept := by
  unfold State.marker
  simp

@[simp] theorem State.loadLoop_kept (s : State) (p : Nat) (img : Nat) : (@State.loadLoop s p img).kept = s.kept := by
  unfold State.loadLoop
  simp

@[simp] theorem State.carryOut_kept (s : State) (p : Nat) (d : List Word) (m : Motion) : (@State.carryOut s p d m).kept = s.kept := by
  unfold State.carryOut
  (repeat' split) <;> simp

@[simp] theorem State.takeDesc_kept (s : State) (p : Nat) : (@State.takeDesc s p).kept = s.kept := by
  unfold State.takeDesc
  repeat' first
    | (extract_lets +onlyGivenNames x; first
      | (have hx : State.kept x = State.kept s := (by first | (simp [x, *]; done) | (simp only [x]; (repeat' split) <;> simp [*]; done)); clear_value x)
      | (have hx : ∀ t : State, State.kept (x t) = State.kept t := (by intro t; first | (simp [x, *]; done) | (simp only [x]; (repeat' split) <;> simp [*]; done)); clear_value x)
      | (have hx := fun a => x a; clear hx)
      | clear_value x)
    | (simp [*]; done)
    | (split <;> try (rename_i heq; first
       | (have hk := congrArg (fun p => State.kept (Prod.snd p)) heq.symm; simp at hk)
       | (have hk := congrArg (fun p => State.kept (Prod.snd (Prod.snd p))) heq.symm; simp at hk)
       | (have hk := congrArg (fun p => State.kept (Prod.fst p)) heq.symm; simp at hk)))
    | (simp +zetaDelta [*]; done)

@[simp] theorem descCmd_kept (t : Nat) (p : Nat) (s : State) : (@descCmd t p s).kept = s.kept := by
  unfold descCmd
  repeat' first
    | (extract_lets +onlyGivenNames x; first
      | (have hx : State.kept x = State.kept s := (by first | (simp [x, *]; done) | (simp only [x]; (repeat' split) <;> simp [*]; done)); clear_value x)
      | (have hx : ∀ t : State, State.kept (x t) = State.kept t := (by intro t; first | (simp [x, *]; done) | (simp only [x]; (repeat' split) <;> simp [*]; done)); clear_value x)
      | (have hx := fun a => x a; clear hx)
      | clear_value x)
    | (simp [*]; done)
    | (split <;> try (rename_i heq; first
       | (have hk := congrArg (fun p => State.kept (Prod.snd p)) heq.symm; simp at hk)
       | (have hk := congrArg (fun p => State.kept (Prod.snd (Prod.snd p))) heq.symm; simp at hk)
       | (have hk := congrArg (fun p => State.kept (Prod.fst p)) heq.symm; simp at hk)))
    | (simp +zetaDelta [*]; done)

@[simp] theorem execDescNop_kept (p : Fin 16) (s : State) : (resultOf (execDescNop p s) s).kept = s.kept := by
  unfold execDescNop
  simp

@[simp] theorem execDescJump_kept (p : Fin 16) (s : State) : (resultOf (execDescJump p s) s).kept = s.kept := by
  unfold execDescJump
  simp

@[simp] theorem execDescMark_kept (p : Fin 16) (s : State) : (resultOf (execDescMark p s) s).kept = s.kept := by
  unfold execDescMark
  simp

@[simp] theorem execDescArc_kept (p : Fin 16) (s : State) : (resultOf (execDescArc p s) s).kept = s.kept := by
  unfold execDescArc
  simp

@[simp] theorem execDescDwell_kept (p : Fin 16) (s : State) : (resultOf (execDescDwell p s) s).kept = s.kept := by
  unfold execDescDwell
  simp

@[simp] theorem execDescWaitTick_kept (p : Fin 16) (s : State) : (resultOf (execDescWaitTick p s) s).kept = s.kept := by
  unfold execDescWaitTick
  simp

@[simp] theorem execDescBarrier_kept (p : Fin 16) (s : State) : (resultOf (execDescBarrier p s) s).kept = s.kept := by
  unfold execDescBarrier
  simp

@[simp] theorem execDescStitchOut_kept (p : Fin 16) (s : State) : (resultOf (execDescStitchOut p s) s).kept = s.kept := by
  unfold execDescStitchOut
  simp

@[simp] theorem execDescStitchIn_kept (p : Fin 16) (s : State) : (resultOf (execDescStitchIn p s) s).kept = s.kept := by
  unfold execDescStitchIn
  simp

@[simp] theorem execDescLayerEnd_kept (p : Fin 16) (s : State) : (resultOf (execDescLayerEnd p s) s).kept = s.kept := by
  unfold execDescLayerEnd
  simp

@[simp] theorem execDescLoadLoop_kept (p : Fin 16) (s : State) : (resultOf (execDescLoadLoop p s) s).kept = s.kept := by
  unfold execDescLoadLoop
  simp

@[simp] theorem execDescMarker_kept (p : Fin 16) (s : State) : (resultOf (execDescMarker p s) s).kept = s.kept := by
  unfold execDescMarker
  simp

@[simp] theorem execDescEnd_kept (p : Fin 16) (s : State) : (resultOf (execDescEnd p s) s).kept = s.kept := by
  unfold execDescEnd
  simp

@[simp] theorem State.waitExpire_kept (s : State) (p : Nat) : (@State.waitExpire s p).kept = s.kept := by
  unfold State.waitExpire
  repeat' first
    | (extract_lets +onlyGivenNames x; first
      | (have hx : State.kept x = State.kept s := (by first | (simp [x, *]; done) | (simp only [x]; (repeat' split) <;> simp [*]; done)); clear_value x)
      | (have hx : ∀ t : State, State.kept (x t) = State.kept t := (by intro t; first | (simp [x, *]; done) | (simp only [x]; (repeat' split) <;> simp [*]; done)); clear_value x)
      | (have hx := fun a => x a; clear hx)
      | clear_value x)
    | (simp [*]; done)
    | (split <;> try (rename_i heq; first
       | (have hk := congrArg (fun p => State.kept (Prod.snd p)) heq.symm; simp at hk)
       | (have hk := congrArg (fun p => State.kept (Prod.snd (Prod.snd p))) heq.symm; simp at hk)
       | (have hk := congrArg (fun p => State.kept (Prod.fst p)) heq.symm; simp at hk)))
    | (simp +zetaDelta [*]; done)

@[simp] theorem execWaitTickExpire_kept (p : Fin 16) (s : State) : (resultOf (execWaitTickExpire p s) s).kept = s.kept := by
  unfold execWaitTickExpire
  simp

@[simp] theorem State.barrierOut_kept (s : State) (b : Barrier) : (@State.barrierOut s b).kept = s.kept := by
  unfold State.barrierOut
  simp

@[simp] theorem execBarrierTimeout_kept (id : BitVec 16) (mask : BitVec 16) (s : State) : (resultOf (execBarrierTimeout id mask s) s).kept = s.kept := by
  unfold execBarrierTimeout
  (repeat' split) <;> simp

@[simp] theorem State.tickBarriers_kept (s : State) : (@State.tickBarriers s).kept = s.kept := by
  unfold State.tickBarriers
  simp

@[simp] theorem State.layerGo_kept (s : State) : (@State.layerGo s).kept = s.kept := by
  unfold State.layerGo
  simp

@[simp] theorem execLayerGoWrite_kept (s : State) : (resultOf (execLayerGoWrite s) s).kept = s.kept := by
  unfold execLayerGoWrite
  simp

@[simp] theorem State.layerEval_kept (s : State) : (@State.layerEval s).kept = s.kept := by
  unfold State.layerEval
  simp

@[simp] theorem State.layerStart_kept (s : State) : (@State.layerStart s).kept = s.kept := by
  unfold State.layerStart
  (repeat' split) <;> simp

@[simp] theorem execLayerStart_kept (s : State) : (resultOf (execLayerStart s) s).kept = s.kept := by
  unfold execLayerStart
  simp

@[simp] theorem execDigestTake_kept (p : Fin 16) (s : State) : (resultOf (execDigestTake p s) s).kept = s.kept := by
  unfold execDigestTake
  simp

@[simp] theorem State.scnRefuse_kept (s : State) : (@State.scnRefuse s).kept = s.kept := by
  unfold State.scnRefuse
  simp

@[simp] theorem State.layerSet_kept (s : State) (n : Nat) : (@State.layerSet s n).kept = s.kept := by
  unfold State.layerSet
  simp

@[simp] theorem execScnCmdStart_kept (mask : BitVec 16) (s : State) : (resultOf (execScnCmdStart mask s) s).kept = s.kept := by
  unfold execScnCmdStart
  simp

@[simp] theorem State.leaveBarrier_kept (s : State) (p : Nat) : (@State.leaveBarrier s p).kept = s.kept := by
  unfold State.leaveBarrier
  simp

@[simp] theorem State.dropStitch_kept (s : State) (p : Nat) : (@State.dropStitch s p).kept = s.kept := by
  unfold State.dropStitch
  repeat' first
    | (extract_lets +onlyGivenNames x; first
      | (have hx : State.kept x = State.kept s := (by first | (simp [x, *]; done) | (simp only [x]; (repeat' split) <;> simp [*]; done)); clear_value x)
      | (have hx : ∀ t : State, State.kept (x t) = State.kept t := (by intro t; first | (simp [x, *]; done) | (simp only [x]; (repeat' split) <;> simp [*]; done)); clear_value x)
      | (have hx := fun a => x a; clear hx)
      | clear_value x)
    | (simp [*]; done)
    | (split <;> try (rename_i heq; first
       | (have hk := congrArg (fun p => State.kept (Prod.snd p)) heq.symm; simp at hk)
       | (have hk := congrArg (fun p => State.kept (Prod.snd (Prod.snd p))) heq.symm; simp at hk)
       | (have hk := congrArg (fun p => State.kept (Prod.fst p)) heq.symm; simp at hk)))
    | (simp +zetaDelta [*]; done)

@[simp] theorem State.stopPier_kept (s : State) (p : Nat) : (@State.stopPier s p).kept = s.kept := by
  unfold State.stopPier
  simp

@[simp] theorem execScnCmdStop_kept (mask : BitVec 16) (s : State) : (resultOf (execScnCmdStop mask s) s).kept = s.kept := by
  unfold execScnCmdStop
  simp

@[simp] theorem State.resumeNow_kept (s : State) (p : Nat) : (@State.resumeNow s p).kept = s.kept := by
  unfold State.resumeNow
  repeat' first
    | (extract_lets +onlyGivenNames x; first
      | (have hx : State.kept x = State.kept s := (by first | (simp [x, *]; done) | (simp only [x]; (repeat' split) <;> simp [*]; done)); clear_value x)
      | (have hx : ∀ t : State, State.kept (x t) = State.kept t := (by intro t; first | (simp [x, *]; done) | (simp only [x]; (repeat' split) <;> simp [*]; done)); clear_value x)
      | (have hx := fun a => x a; clear hx)
      | clear_value x)
    | (simp [*]; done)
    | (split <;> try (rename_i heq; first
       | (have hk := congrArg (fun p => State.kept (Prod.snd p)) heq.symm; simp at hk)
       | (have hk := congrArg (fun p => State.kept (Prod.snd (Prod.snd p))) heq.symm; simp at hk)
       | (have hk := congrArg (fun p => State.kept (Prod.fst p)) heq.symm; simp at hk)))
    | (simp +zetaDelta [*]; done)

@[simp] theorem State.resumePier_kept (s : State) (p : Nat) : (@State.resumePier s p).kept = s.kept := by
  unfold State.resumePier
  simp

@[simp] theorem execScnCmdResume_kept (mask : BitVec 16) (s : State) : (resultOf (execScnCmdResume mask s) s).kept = s.kept := by
  unfold execScnCmdResume
  simp

@[simp] theorem execProfDataAccess_kept (v : Option (BitVec 16)) (s : State) : (resultOf (execProfDataAccess v s) s).kept = s.kept := by
  unfold execProfDataAccess
  (repeat' split) <;> simp

@[simp] theorem State.abandonRecord_kept (s : State) (p : Nat) (m : Motion) (last : Option (Nat × Nat × Int × Int)) (tick : Nat) (fail : Option (Int × Int)) : (@State.abandonRecord s p m last tick fail).kept = s.kept := by
  unfold State.abandonRecord
  (repeat' split) <;> simp

@[simp] theorem State.abandonPair_kept (s : State) (p : Nat) (d : Nat) (m : Motion) (n : Motion) (last : Option (Nat × Int × Int)) (tick : Nat) (fail : Option (Int × Int)) : (@State.abandonPair s p d m n last tick fail).kept = s.kept := by
  unfold State.abandonPair
  simp only []
  rw [State.freeStitch_kept]
  (repeat' split) <;> simp

@[simp] theorem State.cutPast_kept (s : State) (p : Nat) (lost : List Lag) : (@State.cutPast s p lost).kept = s.kept := by
  unfold State.cutPast
  simp

@[simp] theorem State.keepPast_kept (s : State) (p : Nat) (line : List Lag) : (@State.keepPast s p line).kept = s.kept := by
  unfold State.keepPast
  simp

@[simp] theorem State.partnerSolo_kept (s : State) (d : Nat) (n : Motion) : (@State.partnerSolo s d n).kept = s.kept := by
  unfold State.partnerSolo
  repeat' first
    | (extract_lets +onlyGivenNames x; first
      | (have hx : State.kept x = State.kept s := (by first | (simp [x, *]; done) | (simp only [x]; (repeat' split) <;> simp [*]; done)); clear_value x)
      | (have hx : ∀ t : State, State.kept (x t) = State.kept t := (by intro t; first | (simp [x, *]; done) | (simp only [x]; (repeat' split) <;> simp [*]; done)); clear_value x)
      | (have hx := fun a => x a; clear hx)
      | clear_value x)
    | (simp [*]; done)
    | (split <;> try (rename_i heq; first
       | (have hk := congrArg (fun p => State.kept (Prod.snd p)) heq.symm; simp at hk)
       | (have hk := congrArg (fun p => State.kept (Prod.snd (Prod.snd p))) heq.symm; simp at hk)
       | (have hk := congrArg (fun p => State.kept (Prod.fst p)) heq.symm; simp at hk)))
    | (simp +zetaDelta [*]; done)

@[simp] theorem State.abandonStroke_kept (s : State) (p : Nat) (m : Motion) (byCmd : Bool) (fail : Nat → Option (Nat × Int × Int)) (tick : Nat) : (@State.abandonStroke s p m byCmd fail tick).kept = s.kept := by
  unfold State.abandonStroke
  (repeat' split) <;> simp

@[simp] theorem State.stopPast_kept (s : State) (p : Nat) (m : Motion) : (@State.stopPast s p m).kept = s.kept := by
  unfold State.stopPast
  (repeat' split) <;> simp

@[simp] theorem State.beginStop_kept (s : State) (p : Nat) (fail : Nat → Option (Nat × Int × Int)) (tick : Nat) : (@State.beginStop s p fail tick).kept = s.kept := by
  unfold State.beginStop
  repeat' first
    | (extract_lets +onlyGivenNames x; first
      | (have hx : State.kept x = State.kept s := (by first | (simp [x, *]; done) | (simp only [x]; (repeat' split) <;> simp [*]; done)); clear_value x)
      | (have hx : ∀ t : State, State.kept (x t) = State.kept t := (by intro t; first | (simp [x, *]; done) | (simp only [x]; (repeat' split) <;> simp [*]; done)); clear_value x)
      | (have hx := fun a => x a; clear hx)
      | clear_value x)
    | (simp [*]; done)
    | (split <;> try (rename_i heq; first
       | (have hk := congrArg (fun p => State.kept (Prod.snd p)) heq.symm; simp at hk)
       | (have hk := congrArg (fun p => State.kept (Prod.snd (Prod.snd p))) heq.symm; simp at hk)
       | (have hk := congrArg (fun p => State.kept (Prod.fst p)) heq.symm; simp at hk)))
    | (simp +zetaDelta [*]; done)

@[simp] theorem State.resetPier_kept (s : State) (p : Nat) : (@State.resetPier s p).kept = s.kept := by
  unfold State.resetPier
  simp

@[simp] theorem execScnCmdReset_kept (mask : BitVec 16) (s : State) : (resultOf (execScnCmdReset mask s) s).kept = s.kept := by
  unfold execScnCmdReset
  simp

@[simp] theorem State.underflow_kept (s : State) (p : Nat) : (@State.underflow s p).kept = s.kept := by
  unfold State.underflow
  simp

@[simp] theorem State.phi0_kept (s : State) (p : Nat) (fail : Nat → Option (Nat × Int × Int)) : (@State.phi0 s p fail).kept = s.kept := by
  unfold State.phi0
  simp

@[simp] theorem State.showHand_kept (s : State) (p : Nat) : (@State.showHand s p).kept = s.kept := by
  unfold State.showHand
  simp

@[simp] theorem State.handPier_kept (s : State) (p : Nat) (late : Bool) : (@State.handPier s p late).kept = s.kept := by
  unfold State.handPier
  simp

@[simp] theorem State.slipPier_kept (s : State) (before : PierSt) (p : Nat) : (@State.slipPier s before p).kept = s.kept := by
  unfold State.slipPier
  simp

@[simp] theorem State.finishStroke_kept (s : State) (p : Nat) (before : PierSt) : (@State.finishStroke s p before).kept = s.kept := by
  unfold State.finishStroke
  (repeat' split) <;> simp

@[simp] theorem State.scnEdge_kept (s : State) (p : Nat) (forced : Bool) (lastLit : Option (Nat × Nat × Int × Int)) : (@State.scnEdge s p forced lastLit).kept = s.kept := by
  unfold State.scnEdge
  repeat' first
    | (extract_lets +onlyGivenNames x; first
      | (have hx : State.kept x = State.kept s := (by first | (simp [x, *]; done) | (simp only [x]; (repeat' split) <;> simp [*]; done)); clear_value x)
      | (have hx : ∀ t : State, State.kept (x t) = State.kept t := (by intro t; first | (simp [x, *]; done) | (simp only [x]; (repeat' split) <;> simp [*]; done)); clear_value x)
      | (have hx := fun a => x a; clear hx)
      | clear_value x)
    | (simp [*]; done)
    | (split <;> try (rename_i heq; first
       | (have hk := congrArg (fun p => State.kept (Prod.snd p)) heq.symm; simp at hk)
       | (have hk := congrArg (fun p => State.kept (Prod.snd (Prod.snd p))) heq.symm; simp at hk)
       | (have hk := congrArg (fun p => State.kept (Prod.fst p)) heq.symm; simp at hk)))
    | (simp +zetaDelta [*]; done)

@[simp] theorem execScnRingStatus_kept (s : State) : (resultOf (execScnRingStatus s) s).kept = s.kept := by
  unfold execScnRingStatus
  simp

@[simp] theorem execScnProfileLoad_kept (s : State) : (resultOf (execScnProfileLoad s) s).kept = s.kept := by
  unfold execScnProfileLoad
  refine runCmd_kept _ _ _ (fun q s => ?_)
  repeat' first
    | (extract_lets +onlyGivenNames x; first
      | (have hx : State.kept x = State.kept s := (by first | (simp [x, *]; done) | (simp only [x]; (repeat' split) <;> simp [*]; done)); clear_value x)
      | (have hx : ∀ t : State, State.kept (x t) = State.kept t := (by intro t; first | (simp [x, *]; done) | (simp only [x]; (repeat' split) <;> simp [*]; done)); clear_value x)
      | (have hx := fun a => x a; clear hx)
      | clear_value x)
    | (simp [*]; done)
    | (split <;> try (rename_i heq; first
       | (have hk := congrArg (fun p => State.kept (Prod.snd p)) heq.symm; simp at hk)
       | (have hk := congrArg (fun p => State.kept (Prod.snd (Prod.snd p))) heq.symm; simp at hk)
       | (have hk := congrArg (fun p => State.kept (Prod.fst p)) heq.symm; simp at hk)))
    | (simp +zetaDelta [*]; done)

@[simp] theorem execScnDigest_kept (s : State) : (resultOf (execScnDigest s) s).kept = s.kept := by
  unfold execScnDigest
  refine runCmd_kept _ _ _ (fun q s => ?_)
  (repeat' split) <;> simp

@[simp] theorem execScnLimitsSet_kept (s : State) : (resultOf (execScnLimitsSet s) s).kept = s.kept := by
  unfold execScnLimitsSet
  refine runCmd_kept _ _ _ (fun q s => ?_)
  (repeat' split) <;> simp

@[simp] theorem execScnBarrierSet_kept (s : State) : (resultOf (execScnBarrierSet s) s).kept = s.kept := by
  unfold execScnBarrierSet
  simp

@[simp] theorem execScnLimitsRead_kept (s : State) : (resultOf (execScnLimitsRead s) s).kept = s.kept := by
  unfold execScnLimitsRead
  simp

end Sys2Proof.Machine
end

