-- ==== Sys2Proof/Laws/KeptPlk.lean ====
section
/-! SUPPORT. What the operations of Machine/Plk.lean keep: the one-time-programmable store, the queue of commands and the tick count. -/

namespace Sys2Proof.Machine

@[simp] theorem State.setLink_kept (s : State) (p : Nat) (l : LinkSt) : (@State.setLink s p l).kept = s.kept := by
  unfold State.setLink
  simp

@[simp] theorem State.setLinkState_kept (s : State) (p : Nat) (st : Nat) : (@State.setLinkState s p st).kept = s.kept := by
  unfold State.setLinkState
  simp

@[simp] theorem State.handLinkOk_kept (s : State) (p : Nat) : (@State.handLinkOk s p).kept = s.kept := by
  unfold State.handLinkOk
  simp

@[simp] theorem State.noHead_kept (s : State) (p : Nat) : (@State.noHead s p).kept = s.kept := by
  unfold State.noHead
  simp

@[simp] theorem State.beginTraining_kept (s : State) (p : Nat) (reason : Nat) : (@State.beginTraining s p reason).kept = s.kept := by
  unfold State.beginTraining
  simp

@[simp] theorem State.failTraining_kept (s : State) (p : Nat) (reason : Nat) : (@State.failTraining s p reason).kept = s.kept := by
  unfold State.failTraining
  simp

@[simp] theorem State.linkUp_kept (s : State) (p : Nat) : (@State.linkUp s p).kept = s.kept := by
  unfold State.linkUp
  simp

@[simp] theorem State.headRun_kept (s : State) (p : Nat) (bit : Bool) (r : Nat) (flag : Fref) (code : Nat) (cls : Nat) : (@State.headRun s p bit r flag code cls).kept = s.kept := by
  unfold State.headRun
  simp

@[simp] theorem State.headStatus_kept (s : State) (p : Nat) (st : Nat) : (@State.headStatus s p st).kept = s.kept := by
  unfold State.headStatus
  simp

@[simp] theorem State.headCodes_kept (s : State) (p : Nat) (b : List Byte) : (@State.headCodes s p b).kept = s.kept := by
  unfold State.headCodes
  simp

@[simp] theorem State.failedTick_kept (s : State) (p : Nat) (dl : Bool) : (@State.failedTick s p dl).kept = s.kept := by
  unfold State.failedTick
  simp

@[simp] theorem State.judge_kept (s : State) (p : Nat) (n : Nat) (k : Nat) : (@State.judge s p n k).2.kept = s.kept := by
  unfold State.judge
  repeat' first
    | (extract_lets +onlyGivenNames x; first
      | (have hx : State.kept x = State.kept s := (by first | (simp [x, *]; done) | (simp only [x]; (repeat' split) <;> simp [*]; done)); clear_value x)
      | (have hx : ∀ t : State, State.kept (x t) = State.kept t := (by intro t; first | (simp [x, *]; done) | (simp only [x]; (repeat' split) <;> simp [*]; done)); clear_value x)
      | (have hx := fun a => x a; clear hx)
      | clear_value x)
    | (simp [*]; done)
    | (split <;> try (rename_i heq; first
       | (have hk := congrArg (fun p => State.kept (Prod.snd p)) heq.symm; simp at hk)
       | (have hk := congrArg (fun p => State.kept (Prod.snd (Prod.snd p))) heq.symm; simp at hk)
       | (have hk := congrArg (fun p => State.kept (Prod.fst p)) heq.symm; simp at hk)))
    | (simp +zetaDelta [*]; done)

@[simp] theorem State.checkIdent_kept (s : State) (p : Nat) : (@State.checkIdent s p).kept = s.kept := by
  unfold State.checkIdent
  repeat' first
    | (extract_lets +onlyGivenNames x; first
      | (have hx : State.kept x = State.kept s := (by first | (simp [x, *]; done) | (simp only [x]; (repeat' split) <;> simp [*]; done)); clear_value x)
      | (have hx : ∀ t : State, State.kept (x t) = State.kept t := (by intro t; first | (simp [x, *]; done) | (simp only [x]; (repeat' split) <;> simp [*]; done)); clear_value x)
      | (have hx := fun a => x a; clear hx)
      | clear_value x)
    | (simp [*]; done)
    | (split <;> try (rename_i heq; first
       | (have hk := congrArg (fun p => State.kept (Prod.snd p)) heq.symm; simp at hk)
       | (have hk := congrArg (fun p => State.kept (Prod.snd (Prod.snd p))) heq.symm; simp at hk)
       | (have hk := congrArg (fun p => State.kept (Prod.fst p)) heq.symm; simp at hk)))
    | (simp +zetaDelta [*]; done)

@[simp] theorem State.closeTick_kept (s : State) (p : Nat) : (@State.closeTick s p).kept = s.kept := by
  unfold State.closeTick
  simp

@[simp] theorem State.checkTick_kept (s : State) (p : Nat) : (@State.checkTick s p).kept = s.kept := by
  unfold State.checkTick
  simp only []
  have h : ∀ (t b : State) (a : Bool), t.judge p 13 9 = (a, b) → b.kept = t.kept := by
    intro t b a e
    have k := State.judge_kept t p 13 9
    rw [e] at k
    exact k
  (repeat' split) <;> first | (simp; done) | (rename_i e; simp [h _ _ _ e])

@[simp] theorem State.keepPre_kept (s : State) (p : Nat) : (@State.keepPre s p).kept = s.kept := by
  unfold State.keepPre
  simp

@[simp] theorem execUlDeadlineCheck_kept (p : Fin 16) (s : State) : (resultOf (execUlDeadlineCheck p s) s).kept = s.kept := by
  unfold execUlDeadlineCheck
  simp

@[simp] theorem State.lockLost_kept (s : State) (p : Nat) : (@State.lockLost s p).kept = s.kept := by
  unfold State.lockLost
  simp

@[simp] theorem State.rx_kept (s : State) (p : Nat) (gs : List (BitVec 10)) : (@State.rx s p gs).2.kept = s.kept := by
  unfold State.rx
  (repeat' split) <;> simp

@[simp] theorem State.heard_kept (s : State) (p : Nat) (gs : List (BitVec 10)) : (@State.heard s p gs).kept = s.kept := by
  unfold State.heard
  (repeat' split) <;> simp

@[simp] theorem State.rxFrame_kept (s : State) (p : Nat) (gs : List (BitVec 10)) (take : Bool) : (@State.rxFrame s p gs take).kept = s.kept := by
  unfold State.rxFrame
  repeat' first
    | (extract_lets +onlyGivenNames x; first
      | (have hx : State.kept x = State.kept s := (by first | (simp [x, *]; done) | (simp only [x]; (repeat' split) <;> simp [*]; done)); clear_value x)
      | (have hx : ∀ t : State, State.kept (x t) = State.kept t := (by intro t; first | (simp [x, *]; done) | (simp only [x]; (repeat' split) <;> simp [*]; done)); clear_value x)
      | (have hx := fun a => x a; clear hx)
      | clear_value x)
    | (simp [*]; done)
    | (split <;> try (rename_i heq; first
       | (have hk := congrArg (fun p => State.kept (Prod.snd p)) heq.symm; simp at hk)
       | (have hk := congrArg (fun p => State.kept (Prod.snd (Prod.snd p))) heq.symm; simp at hk)
       | (have hk := congrArg (fun p => State.kept (Prod.fst p)) heq.symm; simp at hk)))
    | (simp +zetaDelta [*]; done)

@[simp] theorem execUplinkFrame_kept (p : Fin 16) (before gs : List (BitVec 10)) (s : State) : (resultOf (execUplinkFrame p before gs s) s).kept = s.kept := by
  unfold execUplinkFrame
  simp

@[simp] theorem execLegacyUplinkFrame_kept (p : Fin 16) (before gs : List (BitVec 10)) (s : State) : (resultOf (execLegacyUplinkFrame p before gs s) s).kept = s.kept := by
  unfold execLegacyUplinkFrame
  simp

@[simp] theorem State.checkExchange_kept (s : State) (p : Nat) : (@State.checkExchange s p).kept = s.kept := by
  unfold State.checkExchange
  simp

@[simp] theorem execLegacyExchangeCheck_kept (p : Fin 16) (s : State) : (resultOf (execLegacyExchangeCheck p s) s).kept = s.kept := by
  unfold execLegacyExchangeCheck
  simp

@[simp] theorem State.quietLoss_kept (s : State) (p : Nat) : (@State.quietLoss s p).kept = s.kept := by
  unfold State.quietLoss
  simp

@[simp] theorem execSymbolLockLost_kept (p : Fin 16) (gs : List (BitVec 10)) (s : State) : (resultOf (execSymbolLockLost p gs s) s).kept = s.kept := by
  unfold execSymbolLockLost
  repeat' first
    | (extract_lets +onlyGivenNames x; first
      | (have hx : State.kept x = State.kept s := (by first | (simp [x, *]; done) | (simp only [x]; (repeat' split) <;> simp [*]; done)); clear_value x)
      | (have hx : ∀ t : State, State.kept (x t) = State.kept t := (by intro t; first | (simp [x, *]; done) | (simp only [x]; (repeat' split) <;> simp [*]; done)); clear_value x)
      | (have hx := fun a => x a; clear hx)
      | clear_value x)
    | (simp [*]; done)
    | (split <;> try (rename_i heq; first
       | (have hk := congrArg (fun p => State.kept (Prod.snd p)) heq.symm; simp at hk)
       | (have hk := congrArg (fun p => State.kept (Prod.snd (Prod.snd p))) heq.symm; simp at hk)
       | (have hk := congrArg (fun p => State.kept (Prod.fst p)) heq.symm; simp at hk)))
    | (simp +zetaDelta [*]; done)

@[simp] theorem execSymbolLockRegain_kept (p : Fin 16) (s : State) : (resultOf (execSymbolLockRegain p s) s).kept = s.kept := by
  unfold execSymbolLockRegain
  simp

@[simp] theorem State.trainStart_kept (s : State) (p : Nat) (sweep : Bool) : (@State.trainStart s p sweep).kept = s.kept := by
  unfold State.trainStart
  simp

@[simp] theorem execTrainStart_kept (p : Fin 16) (sweep : Bool) (s : State) : (resultOf (execTrainStart p sweep s) s).kept = s.kept := by
  unfold execTrainStart
  simp

@[simp] theorem State.sweepResult_kept (s : State) (p : Nat) (taps : List Bool) : (@State.sweepResult s p taps).kept = s.kept := by
  unfold State.sweepResult
  simp

@[simp] theorem State.loadHead_kept (s : State) (p : Nat) : (@State.loadHead s p).kept = s.kept := by
  unfold State.loadHead
  simp

@[simp] theorem State.advanceTraining_kept (s : State) (p : Nat) : (@State.advanceTraining s p).kept = s.kept := by
  unfold State.advanceTraining
  simp

@[simp] theorem execTrainAdvance_kept (p : Fin 16) (before after : List (BitVec 10)) (s : State) : (resultOf (execTrainAdvance p before after s) s).kept = s.kept := by
  unfold execTrainAdvance
  simp

@[simp] theorem execPlkModeWrite_kept (p : Fin 16) (v : Fin 4) (s : State) : (resultOf (execPlkModeWrite p v s) s).kept = s.kept := by
  unfold execPlkModeWrite
  simp

@[simp] theorem State.sendLine_kept (s : State) (p : Nat) (st : Nat) (f : Option (List Byte)) : (@State.sendLine s p st f).kept = s.kept := by
  unfold State.sendLine
  simp

@[simp] theorem State.sendFrame_kept (s : State) (p : Nat) (st : Nat) (fault : Bool) : (@State.sendFrame s p st fault).kept = s.kept := by
  unfold State.sendFrame
  repeat' first
    | (extract_lets +onlyGivenNames x; first
      | (have hx : State.kept x = State.kept s := (by first | (simp [x, *]; done) | (simp only [x]; (repeat' split) <;> simp [*]; done)); clear_value x)
      | (have hx : ∀ t : State, State.kept (x t) = State.kept t := (by intro t; first | (simp [x, *]; done) | (simp only [x]; (repeat' split) <;> simp [*]; done)); clear_value x)
      | (have hx := fun a => x a; clear hx)
      | clear_value x)
    | (simp [*]; done)
    | (split <;> try (rename_i heq; first
       | (have hk := congrArg (fun p => State.kept (Prod.snd p)) heq.symm; simp at hk)
       | (have hk := congrArg (fun p => State.kept (Prod.snd (Prod.snd p))) heq.symm; simp at hk)
       | (have hk := congrArg (fun p => State.kept (Prod.fst p)) heq.symm; simp at hk)))
    | (simp +zetaDelta [*]; done)

@[simp] theorem State.litWithoutLink_kept (s : State) (p : Nat) : (@State.litWithoutLink s p).kept = s.kept := by
  unfold State.litWithoutLink
  simp

@[simp] theorem State.plkTick_kept (s : State) (p : Nat) (was : Bool) : (@State.plkTick s p was).kept = s.kept := by
  unfold State.plkTick
  simp only []
  (repeat' split) <;> simp

@[simp] theorem State.plkRx_kept (s : State) (p : Nat) (up : Option (List (BitVec 10))) : (@State.plkRx s p up).kept = s.kept := by
  unfold State.plkRx
  cases up <;> simp

@[simp] theorem State.plkCount_kept (s : State) (p : Nat) : (@State.plkCount s p).kept = s.kept := by
  unfold State.plkCount
  simp

@[simp] theorem State.plkEdge_kept (s : State) (p : Nat) : (@State.plkEdge s p).kept = s.kept := by
  unfold State.plkEdge
  simp

@[simp] theorem State.retrain_kept (s : State) : (@State.retrain s).kept = s.kept := by
  unfold State.retrain
  simp

end Sys2Proof.Machine
end

