-- ==== Sys2Proof/Laws/KeptLsr.lean ====
section
/-! SUPPORT. What the operations of Machine/Lsr.lean keep: the one-time-programmable store, the queue of commands and the tick count. -/

namespace Sys2Proof.Machine

@[simp] theorem State.setPad_kept (s : State) (p : Nat) (v : Bool) : (@State.setPad s p v).kept = s.kept := by
  unfold State.setPad
  simp

@[simp] theorem State.padsOff_kept (s : State) : (@State.padsOff s).kept = s.kept := by
  unfold State.padsOff
  simp

@[simp] theorem State.padFollow_kept (s : State) (p : Nat) : (@State.padFollow s p).kept = s.kept := by
  unfold State.padFollow
  simp

@[simp] theorem State.fineRun_kept (s : State) (p : Nat) (n : Nat) : (@State.fineRun s p n).kept = s.kept := by
  unfold State.fineRun
  simp

@[simp] theorem State.fineTo_kept (s : State) (c : Nat) : (@State.fineTo s c).kept = s.kept := by
  unfold State.fineTo
  simp

@[simp] theorem State.darken_kept (s : State) : (@State.darken s).kept = s.kept := by
  unfold State.darken
  simp

@[simp] theorem State.lagTick_kept (s : State) (p : Nat) : (@State.lagTick s p).kept = s.kept := by
  unfold State.lagTick
  simp

@[simp] theorem State.lagRestart_kept (s : State) (p : Nat) : (@State.lagRestart s p).2.kept = s.kept := by
  unfold State.lagRestart
  simp

@[simp] theorem State.powerTick_kept (s : State) (p : Nat) (w : Nat) : (@State.powerTick s p w).kept = s.kept := by
  unfold State.powerTick
  simp

@[simp] theorem State.gateEdge_kept (s : State) (p : Nat) : (@State.gateEdge s p).kept = s.kept := by
  unfold State.gateEdge
  simp

@[simp] theorem State.lsrEdge_kept (s : State) (eperm : Bool) (emitEn : Bool) : (@State.lsrEdge s eperm emitEn).kept = s.kept := by
  unfold State.lsrEdge
  simp

@[simp] theorem State.readyFall_kept (s : State) (p : Nat) (early : Bool) : (@State.readyFall s p early).kept = s.kept := by
  unfold State.readyFall
  simp

@[simp] theorem State.govern_kept (s : State) (b : Nat) (v : Bool) (early : Bool) : (@State.govern s b v early).kept = s.kept := by
  unfold State.govern
  simp

@[simp] theorem State.permitAccept_kept (s : State) (ch : Fref) (v : Bool) : (@State.permitAccept s ch v).kept = s.kept := by
  unfold State.permitAccept
  simp

@[simp] theorem execStatusInputAccept_kept (b : LsrBall) (level : Bool) (phase : Nat) (s : State) : (resultOf (execStatusInputAccept b level phase s) s).kept = s.kept := by
  unfold execStatusInputAccept
  repeat' first
    | (extract_lets +onlyGivenNames x; first
      | (have hx : State.kept x = State.kept s := (by first | (simp [x, *]; done) | (simp only [x]; (repeat' split) <;> simp [*]; done)); clear_value x)
      | (have hx : ∀ t : State, State.kept (x t) = State.kept t := (by intro t; first | (simp [x, *]; done) | (simp only [x]; (repeat' split) <;> simp [*]; done)); clear_value x)
      | (have hx := fun a => x a; clear hx)
      | clear_value x)
    | (simp [*]; done)
    | (split <;> try (rename_i heq; first
       | (have hk := congrArg (fun p => State.kept (Prod.snd p)) heq.symm; simp at hk)
       | (have hk := congrArg (fun p => State.kept (Prod.snd (Prod.snd p))) heq.symm; simp at hk)
       | (have hk := congrArg (fun p => State.kept (Prod.fst p)) heq.symm; simp at hk)))
    | (simp +zetaDelta [*]; done)

@[simp] theorem execPermitPadRemoval_kept (s : State) : (resultOf (execPermitPadRemoval s) s).kept = s.kept := by
  unfold execPermitPadRemoval
  simp

@[simp] theorem execPermitDiscrepancy_kept (s : State) : (resultOf (execPermitDiscrepancy s) s).kept = s.kept := by
  unfold execPermitDiscrepancy
  simp

@[simp] theorem execDiscrepClear_kept (s : State) : (resultOf (execDiscrepClear s) s).kept = s.kept := by
  unfold execDiscrepClear
  simp

@[simp] theorem execEmaMissing_kept (p : Fin 16) (on100ns : Nat) (s : State) : (resultOf (execEmaMissing p on100ns s) s).kept = s.kept := by
  unfold execEmaMissing
  simp

@[simp] theorem execUncmdEmission_kept (p : Fin 16) (off100ns : Nat) (s : State) : (resultOf (execUncmdEmission p off100ns s) s).kept = s.kept := by
  unfold execUncmdEmission
  simp

@[simp] theorem State.testFire_kept (s : State) (p : Nat) : (@State.testFire s p).kept = s.kept := by
  unfold State.testFire
  simp

@[simp] theorem execTestFire_kept (p : Fin 16) (width : BitVec 16) (s : State) : (resultOf (execTestFire p width s) s).kept = s.kept := by
  unfold execTestFire
  simp

@[simp] theorem State.testEnd_kept (s : State) (p : Nat) : (@State.testEnd s p).kept = s.kept := by
  unfold State.testEnd
  simp

@[simp] theorem execTestPulseEnd_kept (p : Fin 16) (s : State) : (resultOf (execTestPulseEnd p s) s).kept = s.kept := by
  unfold execTestPulseEnd
  simp

@[simp] theorem execLsrGateSet_kept (s : State) : (resultOf (execLsrGateSet s) s).kept = s.kept := by
  unfold execLsrGateSet
  simp

@[simp] theorem execLsrPowerLimit_kept (s : State) : (resultOf (execLsrPowerLimit s) s).kept = s.kept := by
  unfold execLsrPowerLimit
  refine runCmd_kept _ _ _ (fun q s => ?_)
  (repeat' split) <;> simp

@[simp] theorem execLsrLaserCmd_kept (s : State) : (resultOf (execLsrLaserCmd s) s).kept = s.kept := by
  unfold execLsrLaserCmd
  simp

@[simp] theorem execLsrStatus_kept (s : State) : (resultOf (execLsrStatus s) s).kept = s.kept := by
  unfold execLsrStatus
  simp

@[simp] theorem execLsrEmaSet_kept (s : State) : (resultOf (execLsrEmaSet s) s).kept = s.kept := by
  unfold execLsrEmaSet
  refine runCmd_kept _ _ _ (fun q s => ?_)
  (repeat' split) <;> simp

end Sys2Proof.Machine
end

