-- ==== Sys2Proof/Laws/KeptAfe.lean ====
section
/-! SUPPORT. What the operations of Machine/Afe.lean keep: the one-time-programmable store, the queue of commands and the tick count. -/

namespace Sys2Proof.Machine

@[simp] theorem State.setAfeIn_kept (s : State) (i : Nat) (a : AfeIn) : (@State.setAfeIn s i a).kept = s.kept := by
  unfold State.setAfeIn
  simp

@[simp] theorem State.declareOpen_kept (s : State) (i : Nat) : (@State.declareOpen s i).kept = s.kept := by
  unfold State.declareOpen
  simp

@[simp] theorem execInputOpenDeclare_kept (i : Fin 32) (s : State) : (resultOf (execInputOpenDeclare i s) s).kept = s.kept := by
  unfold execInputOpenDeclare
  simp

@[simp] theorem State.openCount_kept (s : State) (i : Nat) (v : Nat) : (@State.openCount s i v).kept = s.kept := by
  unfold State.openCount
  simp

@[simp] theorem State.ovrCount_kept (s : State) (i : Nat) (ovr : Bool) : (@State.ovrCount s i ovr).kept = s.kept := by
  unfold State.ovrCount
  simp

@[simp] theorem State.parityFail_kept (s : State) (i : Nat) : (@State.parityFail s i).kept = s.kept := by
  unfold State.parityFail
  simp

@[simp] theorem State.xsumAdd_kept (s : State) (i : Nat) (v : Int) : (@State.xsumAdd s i v).kept = s.kept := by
  unfold State.xsumAdd
  simp

@[simp] theorem State.afeResult_kept (s : State) (i : Nat) (v : Int) (ok : Bool) (late : Bool) : (@State.afeResult s i v ok late).kept = s.kept := by
  unfold State.afeResult
  simp

@[simp] theorem State.hearthLost_kept (s : State) : (@State.hearthLost s).kept = s.kept := by
  unfold State.hearthLost
  simp

@[simp] theorem State.hearthRestored_kept (s : State) : (@State.hearthRestored s).kept = s.kept := by
  unfold State.hearthRestored
  simp

@[simp] theorem execHearthLinkLost_kept (s : State) : (resultOf (execHearthLinkLost s) s).kept = s.kept := by
  unfold execHearthLinkLost
  simp

@[simp] theorem execHearthOkRestore_kept (s : State) : (resultOf (execHearthOkRestore s) s).kept = s.kept := by
  unfold execHearthOkRestore
  simp

@[simp] theorem State.hearthCount_kept (s : State) (any : Bool) (all : Bool) : (@State.hearthCount s any all).kept = s.kept := by
  unfold State.hearthCount
  simp

@[simp] theorem State.afeSample_kept (s : State) (rs : List AfeRes) (late : Bool) : (@State.afeSample s rs late).kept = s.kept := by
  unfold State.afeSample
  simp

@[simp] theorem State.calWrite_kept (s : State) : (@State.calWrite s).kept = s.kept := by
  unfold State.calWrite
  simp

@[simp] theorem State.calReconnect_kept (s : State) (p : Nat) : (@State.calReconnect s p).kept = s.kept := by
  unfold State.calReconnect
  simp

@[simp] theorem State.afeEdge_kept (s : State) : (@State.afeEdge s).kept = s.kept := by
  unfold State.afeEdge
  simp

@[simp] theorem State.calRefuse_kept (s : State) (i : Nat) : (@State.calRefuse s i).kept = s.kept := by
  unfold State.calRefuse
  simp

@[simp] theorem State.calStart_kept (s : State) (p : Nat) : (@State.calStart s p).kept = s.kept := by
  unfold State.calStart
  simp

@[simp] theorem execOffsetMeasStart_kept (p : Fin 16) (s : State) : (resultOf (execOffsetMeasStart p s) s).kept = s.kept := by
  unfold execOffsetMeasStart
  simp

@[simp] theorem execOffsetMeasDone_kept (s : State) : (resultOf (execOffsetMeasDone s) s).kept = s.kept := by
  unfold execOffsetMeasDone
  simp

@[simp] theorem execVaaLoss_kept (s : State) : (resultOf (execVaaLoss s) s).kept = s.kept := by
  unfold execVaaLoss
  simp

@[simp] theorem State.xsyncLatch_kept (s : State) (k : Nat) : (@State.xsyncLatch s k).kept = s.kept := by
  unfold State.xsyncLatch
  simp

@[simp] theorem State.auxResult_kept (s : State) (k : Nat) (v : Nat) : (@State.auxResult s k v).kept = s.kept := by
  unfold State.auxResult
  simp

@[simp] theorem State.auxLatch_kept (s : State) (res : List Nat) : (@State.auxLatch s res).kept = s.kept := by
  unfold State.auxLatch
  simp

@[simp] theorem execAuxTimerStart_kept (res : List Nat) (s : State) : (resultOf (execAuxTimerStart res s) s).kept = s.kept := by
  unfold execAuxTimerStart
  simp

@[simp] theorem State.calEnd_kept (s : State) : (@State.calEnd s).kept = s.kept := by
  unfold State.calEnd
  simp

@[simp] theorem State.afeCommit_kept (s : State) (a1 : State) : (@State.afeCommit s a1).kept = s.kept := by
  unfold State.afeCommit
  simp

end Sys2Proof.Machine
end

