-- ==== Sys2Proof/Laws/KeptAxs.lean ====
section
/-! SUPPORT. What the operations of Machine/Axs.lean keep: the one-time-programmable store, the queue of commands and the tick count. -/

namespace Sys2Proof.Machine

@[simp] theorem State.setAxis_kept (s : State) (k : Nat) (x : Axis) : (@State.setAxis s k x).kept = s.kept := by
  unfold State.setAxis
  simp

@[simp] theorem State.setAxState_kept (s : State) (k : Nat) (st : Nat) : (@State.setAxState s k st).kept = s.kept := by
  unfold State.setAxState
  simp

@[simp] theorem State.axShow_kept (s : State) (k : Nat) : (@State.axShow s k).kept = s.kept := by
  unfold State.axShow
  simp

@[simp] theorem State.setRef_kept (s : State) (k : Nat) (r : Bool) : (@State.setRef s k r).kept = s.kept := by
  unfold State.setRef
  simp

@[simp] theorem State.zeroDev_kept (s : State) (k : Nat) : (@State.zeroDev s k).kept = s.kept := by
  unfold State.zeroDev
  simp

@[simp] theorem State.endAxis_kept (s : State) (k : Nat) (st : Nat) : (@State.endAxis s k st).kept = s.kept := by
  unfold State.endAxis
  simp

@[simp] theorem State.compare_kept (s : State) (k : Nat) : (@State.compare s k).kept = s.kept := by
  unfold State.compare
  simp

@[simp] theorem execCompareArm_kept (k : Fin 6) (v : Word) (s : State) : (resultOf (execCompareArm k v s) s).kept = s.kept := by
  unfold execCompareArm
  simp

@[simp] theorem State.fineSteps_kept (s : State) (k : Nat) (n : Int) : (@State.fineSteps s k n).kept = s.kept := by
  unfold State.fineSteps
  simp

@[simp] theorem State.coarse_kept (s : State) (k : Nat) (up : Bool) (cyc : Nat) : (@State.coarse s k up cyc).kept = s.kept := by
  unfold State.coarse
  simp

@[simp] theorem State.finishSteps_kept (s : State) (k : Nat) : (@State.finishSteps s k).kept = s.kept := by
  unfold State.finishSteps
  simp

@[simp] theorem execAxisCoarseStep_kept (k : Fin 6) (cyc : Nat) (s : State) : (resultOf (execAxisCoarseStep k cyc s) s).kept = s.kept := by
  unfold execAxisCoarseStep
  simp

@[simp] theorem execAxisFineStep_kept (k : Fin 6) (s : State) : (resultOf (execAxisFineStep k s) s).kept = s.kept := by
  unfold execAxisFineStep
  simp

@[simp] theorem State.stepDrop_kept (s : State) (k : Nat) : (@State.stepDrop s k).kept = s.kept := by
  unfold State.stepDrop
  simp

@[simp] theorem execExtStepEdge_kept (k : Fin 6) (dir : Bool) (cyc : Nat) (s : State) : (resultOf (execExtStepEdge k dir cyc s) s).kept = s.kept := by
  unfold execExtStepEdge
  simp

@[simp] theorem execAxisPwmPeriodStart_kept (k : Fin 6) (b : Bool) (s : State) : (resultOf (execAxisPwmPeriodStart k b s) s).kept = s.kept := by
  unfold execAxisPwmPeriodStart
  simp

@[simp] theorem State.axHalt_kept (s : State) (k : Nat) : (@State.axHalt s k).kept = s.kept := by
  unfold State.axHalt
  simp

@[simp] theorem State.stall_kept (s : State) (k : Nat) : (@State.stall s k).kept = s.kept := by
  unfold State.stall
  simp

@[simp] theorem State.axLeave_kept (s : State) (k : Nat) : (@State.axLeave s k).kept = s.kept := by
  unfold State.axLeave
  simp

@[simp] theorem State.encCount_kept (s : State) (k : Nat) (d : Int) : (@State.encCount s k d).kept = s.kept := by
  unfold State.encCount
  simp

@[simp] theorem execQuadTransition_kept (k : Fin 6) (ab : BitVec 2) (cyc : Nat) (s : State) : (resultOf (execQuadTransition k ab cyc s) s).kept = s.kept := by
  unfold execQuadTransition
  simp

@[simp] theorem execIndexPulse_kept (k : Fin 6) (rising : Bool) (s : State) : (resultOf (execIndexPulse k rising s) s).kept = s.kept := by
  unfold execIndexPulse
  simp

@[simp] theorem execSsiReadStart_kept (k : Fin 6) (s : State) : (resultOf (execSsiReadStart k s) s).kept = s.kept := by
  unfold execSsiReadStart
  simp

@[simp] theorem State.ssiDiscard_kept (s : State) (k : Nat) : (@State.ssiDiscard s k).kept = s.kept := by
  unfold State.ssiDiscard
  simp

@[simp] theorem execSsiFrameDone_kept (k : Fin 6) (idle : Bool) (bits : Word) (cyc : Nat) (s : State) : (resultOf (execSsiFrameDone k idle bits cyc s) s).kept = s.kept := by
  unfold execSsiFrameDone
  repeat' first
    | (extract_lets +onlyGivenNames x; first
      | (have hx : State.kept x = State.kept s := (by first | (simp [x, *]; done) | (simp only [x]; (repeat' split) <;> simp [*]; done)); clear_value x)
      | (have hx : ∀ t : State, State.kept (x t) = State.kept t := (by intro t; first | (simp [x, *]; done) | (simp only [x]; (repeat' split) <;> simp [*]; done)); clear_value x)
      | (have hx := fun a => x a; clear hx)
      | clear_value x)
    | (simp [*]; done)
    | (split <;> try (rename_i heq; first
       | (have hk := congrArg (fun p => State.kept (Prod.snd p)) heq.symm; simp at hk)
       | (have hk := congrArg (fun p => State.kept (Prod.snd (Prod.snd p))) heq.symm; simp at hk)
       | (have hk := congrArg (fun p => State.kept (Prod.fst p)) heq.symm; simp at hk)))
    | (simp +zetaDelta [*]; done)

@[simp] theorem execSpeedTimeout_kept (k : Fin 6) (s : State) : (resultOf (execSpeedTimeout k s) s).kept = s.kept := by
  unfold execSpeedTimeout
  simp

@[simp] theorem State.qualify_kept (s : State) (k : Nat) (sw : Nat) (level : Bool) : (@State.qualify s k sw level).kept = s.kept := by
  unfold State.qualify
  simp

@[simp] theorem execSwitchTransition_kept (k : Fin 6) (sw : Fin 3) (level : Bool) (s : State) : (resultOf (execSwitchTransition k sw level s) s).kept = s.kept := by
  unfold execSwitchTransition
  simp

@[simp] theorem execSwitchQualified_kept (k : Fin 6) (sw : Fin 3) (level : Bool) (s : State) : (resultOf (execSwitchQualified k sw level s) s).kept = s.kept := by
  unfold execSwitchQualified
  simp

@[simp] theorem State.follow_kept (s : State) (k : Nat) (q : AxPlan) (acc : Nat) (jrk : Nat) : (@State.follow s k q acc jrk).kept = s.kept := by
  unfold State.follow
  simp

@[simp] theorem State.axStop_kept (s : State) (k : Nat) (acc : Nat) (jrk : Nat) (after : Nat) : (@State.axStop s k acc jrk after).kept = s.kept := by
  unfold State.axStop
  simp

@[simp] theorem State.homeRun_kept (s : State) (k : Nat) (d : Int) : (@State.homeRun s k d).kept = s.kept := by
  unfold State.homeRun
  simp

@[simp] theorem State.homeStart_kept (s : State) (k : Nat) (stall : Bool) : (@State.homeStart s k stall).kept = s.kept := by
  unfold State.homeStart
  simp

@[simp] theorem State.setPos_kept (s : State) (k : Nat) (pos : Nat) (frac : Nat) : (@State.setPos s k pos frac).kept = s.kept := by
  unfold State.setPos
  simp

@[simp] theorem State.homeEnd_kept (s : State) (k : Nat) : (@State.homeEnd s k).kept = s.kept := by
  unfold State.homeEnd
  simp

@[simp] theorem State.backoff_kept (s : State) (k : Nat) : (@State.backoff s k).kept = s.kept := by
  unfold State.backoff
  simp

@[simp] theorem State.setReference_kept (s : State) (k : Nat) : (@State.setReference s k).kept = s.kept := by
  unfold State.setReference
  simp

@[simp] theorem State.stallReference_kept (s : State) (k : Nat) : (@State.stallReference s k).kept = s.kept := by
  unfold State.stallReference
  simp

@[simp] theorem State.axMove_kept (s : State) (k : Nat) (o : AxOp) : (@State.axMove s k o).kept = s.kept := by
  unfold State.axMove
  simp

@[simp] theorem State.reAcc_kept (s : State) (k : Nat) (acc : Nat) : (@State.reAcc s k acc).kept = s.kept := by
  unfold State.reAcc
  repeat' first
    | (extract_lets +onlyGivenNames x; first
      | (have hx : State.kept x = State.kept s := (by first | (simp [x, *]; done) | (simp only [x]; (repeat' split) <;> simp [*]; done)); clear_value x)
      | (have hx : ∀ t : State, State.kept (x t) = State.kept t := (by intro t; first | (simp [x, *]; done) | (simp only [x]; (repeat' split) <;> simp [*]; done)); clear_value x)
      | (have hx := fun a => x a; clear hx)
      | clear_value x)
    | (simp [*]; done)
    | (split <;> try (rename_i heq; first
       | (have hk := congrArg (fun p => State.kept (Prod.snd p)) heq.symm; simp at hk)
       | (have hk := congrArg (fun p => State.kept (Prod.snd (Prod.snd p))) heq.symm; simp at hk)
       | (have hk := congrArg (fun p => State.kept (Prod.fst p)) heq.symm; simp at hk)))
    | (simp +zetaDelta [*]; done)

@[simp] theorem State.axOp_kept (s : State) (k : Nat) (o : AxOp) : (@State.axOp s k o).kept = s.kept := by
  unfold State.axOp
  repeat' first
    | (extract_lets +onlyGivenNames x; first
      | (have hx : State.kept x = State.kept s := (by first | (simp [x, *]; done) | (simp only [x]; (repeat' split) <;> simp [*]; done)); clear_value x)
      | (have hx : ∀ t : State, State.kept (x t) = State.kept t := (by intro t; first | (simp [x, *]; done) | (simp only [x]; (repeat' split) <;> simp [*]; done)); clear_value x)
      | (have hx := fun a => x a; clear hx)
      | clear_value x)
    | (simp [*]; done)
    | (split <;> try (rename_i heq; first
       | (have hk := congrArg (fun p => State.kept (Prod.snd p)) heq.symm; simp at hk)
       | (have hk := congrArg (fun p => State.kept (Prod.snd (Prod.snd p))) heq.symm; simp at hk)
       | (have hk := congrArg (fun p => State.kept (Prod.fst p)) heq.symm; simp at hk)))
    | (simp +zetaDelta [*]; done)

@[simp] theorem State.axRest_kept (s : State) (k : Nat) : (@State.axRest s k).kept = s.kept := by
  unfold State.axRest
  repeat' first
    | (extract_lets +onlyGivenNames x; first
      | (have hx : State.kept x = State.kept s := (by first | (simp [x, *]; done) | (simp only [x]; (repeat' split) <;> simp [*]; done)); clear_value x)
      | (have hx : ∀ t : State, State.kept (x t) = State.kept t := (by intro t; first | (simp [x, *]; done) | (simp only [x]; (repeat' split) <;> simp [*]; done)); clear_value x)
      | (have hx := fun a => x a; clear hx)
      | clear_value x)
    | (simp [*]; done)
    | (split <;> try (rename_i heq; first
       | (have hk := congrArg (fun p => State.kept (Prod.snd p)) heq.symm; simp at hk)
       | (have hk := congrArg (fun p => State.kept (Prod.snd (Prod.snd p))) heq.symm; simp at hk)
       | (have hk := congrArg (fun p => State.kept (Prod.fst p)) heq.symm; simp at hk)))
    | (simp +zetaDelta [*]; done)

@[simp] theorem State.axWatch_kept (s : State) (k : Nat) : (@State.axWatch s k).kept = s.kept := by
  unfold State.axWatch
  simp

@[simp] theorem State.axDev_kept (s : State) (k : Nat) : (@State.axDev s k).kept = s.kept := by
  unfold State.axDev
  simp

@[simp] theorem State.axUpdate_kept (s : State) (k : Nat) : (@State.axUpdate s k).kept = s.kept := by
  unfold State.axUpdate
  repeat' first
    | (extract_lets +onlyGivenNames x; first
      | (have hx : State.kept x = State.kept s := (by first | (simp [x, *]; done) | (simp only [x]; (repeat' split) <;> simp [*]; done)); clear_value x)
      | (have hx : ∀ t : State, State.kept (x t) = State.kept t := (by intro t; first | (simp [x, *]; done) | (simp only [x]; (repeat' split) <;> simp [*]; done)); clear_value x)
      | (have hx := fun a => x a; clear hx)
      | clear_value x)
    | (simp [*]; done)
    | (split <;> try (rename_i heq; first
       | (have hk := congrArg (fun p => State.kept (Prod.snd p)) heq.symm; simp at hk)
       | (have hk := congrArg (fun p => State.kept (Prod.snd (Prod.snd p))) heq.symm; simp at hk)
       | (have hk := congrArg (fun p => State.kept (Prod.fst p)) heq.symm; simp at hk)))
    | (simp +zetaDelta [*]; done)

@[simp] theorem execAxisUpdate_kept (s : State) : (resultOf (execAxisUpdate s) s).kept = s.kept := by
  unfold execAxisUpdate
  simp

@[simp] theorem State.axQueue_kept (s : State) (k : Nat) (o : AxOp) : (@State.axQueue s k o).kept = s.kept := by
  unfold State.axQueue
  simp

@[simp] theorem State.axReplaced_kept (s : State) (k : Nat) : (@State.axReplaced s k).kept = s.kept := by
  unfold State.axReplaced
  simp

@[simp] theorem execAxsMovePosition_kept (k : Fin 6) (s : State) : (resultOf (execAxsMovePosition k s) s).kept = s.kept := by
  unfold execAxsMovePosition
  simp

@[simp] theorem execAxsMoveVelocity_kept (k : Fin 6) (s : State) : (resultOf (execAxsMoveVelocity k s) s).kept = s.kept := by
  unfold execAxsMoveVelocity
  simp

@[simp] theorem execAxsStop_kept (k : Fin 6) (s : State) : (resultOf (execAxsStop k s) s).kept = s.kept := by
  unfold execAxsStop
  simp

@[simp] theorem execAxsHomeSwitch_kept (k : Fin 6) (s : State) : (resultOf (execAxsHomeSwitch k s) s).kept = s.kept := by
  unfold execAxsHomeSwitch
  simp

@[simp] theorem execAxsHomeStall_kept (k : Fin 6) (s : State) : (resultOf (execAxsHomeStall k s) s).kept = s.kept := by
  unfold execAxsHomeStall
  simp

@[simp] theorem execAxsClear_kept (k : Fin 6) (s : State) : (resultOf (execAxsClear k s) s).kept = s.kept := by
  unfold execAxsClear
  simp

@[simp] theorem execAccWrite_kept (k : Fin 6) (v : Word) (s : State) : (resultOf (execAccWrite k v s) s).kept = s.kept := by
  unfold execAccWrite
  simp

@[simp] theorem State.axWord_kept (s : State) (k : Nat) (w : Nat) (v : Word) : (@State.axWord s k w v).kept = s.kept := by
  unfold State.axWord
  simp

@[simp] theorem execAxisConfig_kept (s : State) : (resultOf (execAxisConfig s) s).kept = s.kept := by
  unfold execAxisConfig
  refine runCmd_kept _ _ _ (fun q s => ?_)
  repeat' first
    | (extract_lets +onlyGivenNames x; first
      | (have hx : State.kept x = State.kept s := (by first | (simp [x, *]; done) | (simp only [x]; (repeat' split) <;> simp [*]; done)); clear_value x)
      | (have hx : ∀ t : State, State.kept (x t) = State.kept t := (by intro t; first | (simp [x, *]; done) | (simp only [x]; (repeat' split) <;> simp [*]; done)); clear_value x)
      | (have hx := fun a => x a; clear hx)
      | clear_value x)
    | (simp [*]; done)
    | (split <;> try (rename_i heq; first
       | (have hk := congrArg (fun p => State.kept (Prod.snd p)) heq.symm; simp at hk)
       | (have hk := congrArg (fun p => State.kept (Prod.snd (Prod.snd p))) heq.symm; simp at hk)
       | (have hk := congrArg (fun p => State.kept (Prod.fst p)) heq.symm; simp at hk)))
    | (simp +zetaDelta [*]; done)

@[simp] theorem execAxisMove_kept (s : State) : (resultOf (execAxisMove s) s).kept = s.kept := by
  unfold execAxisMove
  refine runCmd_kept _ _ _ (fun q s => ?_)
  repeat' first
    | (extract_lets +onlyGivenNames x; first
      | (have hx : State.kept x = State.kept s := (by first | (simp [x, *]; done) | (simp only [x]; (repeat' split) <;> simp [*]; done)); clear_value x)
      | (have hx : ∀ t : State, State.kept (x t) = State.kept t := (by intro t; first | (simp [x, *]; done) | (simp only [x]; (repeat' split) <;> simp [*]; done)); clear_value x)
      | (have hx := fun a => x a; clear hx)
      | clear_value x)
    | (simp [*]; done)
    | (split <;> try (rename_i heq; first
       | (have hk := congrArg (fun p => State.kept (Prod.snd p)) heq.symm; simp at hk)
       | (have hk := congrArg (fun p => State.kept (Prod.snd (Prod.snd p))) heq.symm; simp at hk)
       | (have hk := congrArg (fun p => State.kept (Prod.fst p)) heq.symm; simp at hk)))
    | (simp +zetaDelta [*]; done)

@[simp] theorem execAxisHome_kept (s : State) : (resultOf (execAxisHome s) s).kept = s.kept := by
  unfold execAxisHome
  refine runCmd_kept _ _ _ (fun q t => ?_)
  simp only []
  (repeat' split) <;> simp

@[simp] theorem execAxisStop_kept (s : State) : (resultOf (execAxisStop s) s).kept = s.kept := by
  unfold execAxisStop
  refine runCmd_kept _ _ _ (fun q s => ?_)
  (repeat' split) <;> simp

@[simp] theorem execAxisStatus_kept (s : State) : (resultOf (execAxisStatus s) s).kept = s.kept := by
  unfold execAxisStatus
  simp

end Sys2Proof.Machine
end

