-- ==== Sys2Proof/Laws/KeptPci.lean ====
section
/-! SUPPORT. What the operations of Machine/Pci.lean keep: the one-time-programmable store, the queue of commands and the tick count. -/

namespace Sys2Proof.Machine

@[simp] theorem State.bar2Deny_kept (s : State) (a : Nat) (w : Bool) : (@State.bar2Deny s a w).kept = s.kept := by
  unfold State.bar2Deny
  simp

@[simp] theorem State.bar2_kept (s : State) (a : Nat) (n : Nat) (w : Option (List Byte)) : (@State.bar2 s a n w).kept = s.kept := by
  unfold State.bar2
  repeat' first
    | (extract_lets +onlyGivenNames x; first
      | (have hx : State.kept x = State.kept s := (by first | (simp [x, *]; done) | (simp only [x]; (repeat' split) <;> simp [*]; done)); clear_value x)
      | (have hx : ∀ t : State, State.kept (x t) = State.kept t := (by intro t; first | (simp [x, *]; done) | (simp only [x]; (repeat' split) <;> simp [*]; done)); clear_value x)
      | (have hx := fun a => x a; clear hx)
      | clear_value x)
    | (simp [*]; done)
    | (split <;> try (rename_i heq; first
       | (have hk := congrArg (fun p => State.kept (Prod.snd p)) heq.symm; simp at hk)
       | (have hk := congrArg (fun p => State.kept (Prod.snd (Prod.snd p))) heq.symm; simp at hk)
       | (have hk := congrArg (fun p => State.kept (Prod.fst p)) heq.symm; simp at hk)))
    | (simp +zetaDelta [*]; done)

@[simp] theorem execBar2Request_kept (a : Nat) (n : Nat) (w : Option (List Byte)) (aer : Bool) (s : State) : (resultOf (execBar2Request a n w aer s) s).kept = s.kept := by
  unfold execBar2Request
  simp

@[simp] theorem State.endpointReset_kept (s : State) : (@State.endpointReset s).kept = s.kept := by
  unfold State.endpointReset
  simp

@[simp] theorem execPcieReset_kept (s : State) : (resultOf (execPcieReset s) s).kept = s.kept := by
  unfold execPcieReset
  simp

@[simp] theorem execFunctionLevelReset_kept (s : State) : (resultOf (execFunctionLevelReset s) s).kept = s.kept := by
  unfold execFunctionLevelReset
  simp

@[simp] theorem execD3hotEntry_kept (s : State) : (resultOf (execD3hotEntry s) s).kept = s.kept := by
  unfold execD3hotEntry
  simp

@[simp] theorem execPcieLinkUp_kept (speed : Fin 3) (width : Fin 3) (s : State) : (resultOf (execPcieLinkUp speed width s) s).kept = s.kept := by
  unfold execPcieLinkUp
  simp

@[simp] theorem State.vecRelease_kept (s : State) : (@State.vecRelease s).kept = s.kept := by
  unfold State.vecRelease
  simp

@[simp] theorem execPcieConfigRequest_kept (r : CfgReq) (s : State) : (resultOf (execPcieConfigRequest r s) s).kept = s.kept := by
  unfold execPcieConfigRequest
  (repeat' split) <;> simp

end Sys2Proof.Machine
end

