-- ==== Sys2Proof/Laws/KeptLit.lean ====
section
/-! SUPPORT. What the operations of Machine/Lit.lean keep: the one-time-programmable store, the queue of commands and the tick count. -/

namespace Sys2Proof.Machine

@[simp] theorem State.setLitCh_kept (s : State) (k : Nat) (c : LitCh) : (@State.setLitCh s k c).kept = s.kept := by
  unfold State.setLitCh
  simp

@[simp] theorem State.litShow_kept (k : Nat) (s : State) : (@State.litShow k s).kept = s.kept := by
  unfold State.litShow
  simp

@[simp] theorem State.litGroupEval_kept (g : Nat) (s : State) : (@State.litGroupEval g s).kept = s.kept := by
  unfold State.litGroupEval
  simp

@[simp] theorem State.emitEval_kept (s : State) : (@State.emitEval s).kept = s.kept := by
  unfold State.emitEval
  simp

@[simp] theorem State.litSettle_kept (s : State) : (@State.litSettle s).kept = s.kept := by
  unfold State.litSettle
  simp

@[simp] theorem State.litIeff_kept (k : Nat) (s : State) : (@State.litIeff k s).kept = s.kept := by
  unfold State.litIeff
  simp

@[simp] theorem State.litLatch_kept (s : State) (k : Nat) (short : Bool) : (@State.litLatch s k short).kept = s.kept := by
  unfold State.litLatch
  simp

@[simp] theorem State.litCount_kept (s : State) (k : Nat) (toward : Nat) : (@State.litCount s k toward).kept = s.kept := by
  unfold State.litCount
  simp

@[simp] theorem State.litDmax_kept (s : State) (k : Nat) : (@State.litDmax s k).kept = s.kept := by
  unfold State.litDmax
  simp

@[simp] theorem execLightDmaxReached_kept (k : Fin 16) (s : State) : (resultOf (execLightDmaxReached k s) s).kept = s.kept := by
  unfold execLightDmaxReached
  simp

@[simp] theorem execSwitchPeriodStart_kept (k : Fin 16) (s : State) : (resultOf (execSwitchPeriodStart k s) s).kept = s.kept := by
  unfold execSwitchPeriodStart
  simp

@[simp] theorem execLightTrip_kept (k : Fin 16) (uv : Nat) (cyc : Nat) (s : State) : (resultOf (execLightTrip k uv cyc s) s).kept = s.kept := by
  unfold execLightTrip
  simp

@[simp] theorem State.dimBegin_kept (s : State) (k : Nat) (duty : Nat) (per : Nat) (phase : Nat) : (@State.dimBegin s k duty per phase).kept = s.kept := by
  unfold State.dimBegin
  simp

@[simp] theorem execDimOnStart_kept (k : Fin 16) (c : Nat) (s : State) : (resultOf (execDimOnStart k c s) s).kept = s.kept := by
  unfold execDimOnStart
  simp

@[simp] theorem State.onEnd_kept (s : State) (k : Nat) : (@State.onEnd s k).kept = s.kept := by
  unfold State.onEnd
  simp

@[simp] theorem execDimOnEnd_kept (k : Fin 16) (s : State) : (resultOf (execDimOnEnd k s) s).kept = s.kept := by
  unfold execDimOnEnd
  simp

@[simp] theorem State.strobeBegin_kept (s : State) (k : Nat) : (@State.strobeBegin s k).kept = s.kept := by
  unfold State.strobeBegin
  simp

@[simp] theorem execStrobeStart_kept (k : Fin 16) (s : State) : (resultOf (execStrobeStart k s) s).kept = s.kept := by
  unfold execStrobeStart
  simp

@[simp] theorem execStrobeEnd_kept (k : Fin 16) (s : State) : (resultOf (execStrobeEnd k s) s).kept = s.kept := by
  unfold execStrobeEnd
  simp

@[simp] theorem State.strobeFire_kept (s : State) (g : Nat) : (@State.strobeFire s g).kept = s.kept := by
  unfold State.strobeFire
  simp

@[simp] theorem execLitClearWrite_kept (mask : BitVec 16) (s : State) : (resultOf (execLitClearWrite mask s) s).kept = s.kept := by
  unfold execLitClearWrite
  simp

@[simp] theorem State.groupWrite_kept (s : State) (g : Nat) (v : Word) : (@State.groupWrite s g v).kept = s.kept := by
  unfold State.groupWrite
  simp

@[simp] theorem execGroupWrite_kept (g : Fin 4) (v : Word) (s : State) : (resultOf (execGroupWrite g v s) s).kept = s.kept := by
  unfold execGroupWrite
  simp

@[simp] theorem State.litCommit_kept (s : State) (a1 : State) : (@State.litCommit s a1).kept = s.kept := by
  unfold State.litCommit
  simp

@[simp] theorem State.ntcChannel_kept (s : State) (j : Nat) (bad : Bool) (k : Nat) : (@State.ntcChannel s j bad k).kept = s.kept := by
  unfold State.ntcChannel
  simp

@[simp] theorem execNtcConvert_kept (j : Fin 4) (c : BitVec 12) (s : State) : (resultOf (execNtcConvert j c s) s).kept = s.kept := by
  unfold execNtcConvert
  simp

@[simp] theorem execLiteChannelSet_kept (s : State) : (resultOf (execLiteChannelSet s) s).kept = s.kept := by
  unfold execLiteChannelSet
  simp

@[simp] theorem execLiteGroupSet_kept (s : State) : (resultOf (execLiteGroupSet s) s).kept = s.kept := by
  unfold execLiteGroupSet
  refine runCmd_kept _ _ _ (fun q s => ?_)
  repeat' first
    | (extract_lets +onlyGivenNames x; first
      | (have hx : State.kept x = State.kept s := (by first | (simp [x, *]; done) | (simp only [x]; (repeat' split) <;> simp [*]; done)); clear_value x)
      | (have hx : ∀ t : State, State.kept (x t) = State.kept t := (by intro t; first | (simp [x, *]; done) | (simp only [x]; (repeat' split) <;> simp [*]; done)); clear_value x)
      | (have hx := fun a => x a; clear hx)
      | clear_value x)
    | (simp [*]; done)
    | (split <;> try (rename_i heq; first
       | (have hk := congrArg (fun p => State.kept (Prod.snd p)) heq.symm; simp at hk)
       | (have hk := congrArg (fun p => State.kept (Prod.snd (Prod.snd p))) heq.symm; simp at hk)
       | (have hk := congrArg (fun p => State.kept (Prod.fst p)) heq.symm; simp at hk)))
    | (simp +zetaDelta [*]; done)

@[simp] theorem execLiteStatus_kept (s : State) : (resultOf (execLiteStatus s) s).kept = s.kept := by
  unfold execLiteStatus
  simp

@[simp] theorem execLiteDerateSet_kept (s : State) : (resultOf (execLiteDerateSet s) s).kept = s.kept := by
  unfold execLiteDerateSet
  simp

@[simp] theorem execLiteCurveSet_kept (s : State) : (resultOf (execLiteCurveSet s) s).kept = s.kept := by
  unfold execLiteCurveSet
  refine runCmd_kept _ _ _ (fun q s => ?_)
  (repeat' split) <;> simp

@[simp] theorem execLiteStrobeSet_kept (s : State) : (resultOf (execLiteStrobeSet s) s).kept = s.kept := by
  unfold execLiteStrobeSet
  simp

@[simp] theorem execLiteDriveSet_kept (s : State) : (resultOf (execLiteDriveSet s) s).kept = s.kept := by
  unfold execLiteDriveSet
  simp

end Sys2Proof.Machine
end

