-- ==== Sys2Proof/Laws/KeptLop.lean ====
section
/-! SUPPORT. What the operations of Machine/Lop.lean keep: the one-time-programmable store, the queue of commands and the tick count. -/

namespace Sys2Proof.Machine

@[simp] theorem State.setSlot_kept (s : State) (k : Nat) (l : Slot) : (@State.setSlot s k l).kept = s.kept := by
  unfold State.setSlot
  simp

@[simp] theorem State.setImgBit_kept (s : State) (lo : Fref) (hi : Fref) (i : Nat) (v : Bool) : (@State.setImgBit s lo hi i v).kept = s.kept := by
  unfold State.setImgBit
  simp

@[simp] theorem State.imageWrite_kept (s : State) (i : Nat) (a2 : Nat) (ws : List Word) : (@State.imageWrite s i a2 ws).kept = s.kept := by
  unfold State.imageWrite
  simp

@[simp] theorem State.imageCheck_kept (s : State) (i : Nat) (count : Nat) (kind : Nat) : (@State.imageCheck s i count kind).2.2.kept = s.kept := by
  unfold State.imageCheck
  (repeat' split) <;> simp

@[simp] theorem State.imgAdvance_kept (s : State) : (@State.imgAdvance s).kept = s.kept := by
  unfold State.imgAdvance
  simp

@[simp] theorem execImgDataAccess_kept (v : Option Word) (s : State) : (resultOf (execImgDataAccess v s) s).kept = s.kept := by
  unfold execImgDataAccess
  (repeat' split) <;> simp

@[simp] theorem execImgMark_kept (count : Fin 64) (slow : Bool) (s : State) : (resultOf (execImgMark count slow s) s).kept = s.kept := by
  unfold execImgMark
  simp

@[simp] theorem execImgCheckDone_kept (s : State) : (resultOf (execImgCheckDone s) s).kept = s.kept := by
  unfold execImgCheckDone
  (repeat' split) <;> simp

@[simp] theorem State.setImage_kept (s : State) (p : Nat) (img : Nat) : (@State.setImage s p img).kept = s.kept := by
  unfold State.setImage
  simp

@[simp] theorem State.setSlowImage_kept (s : State) (k : Nat) (img : Nat) : (@State.setSlowImage s k img).kept = s.kept := by
  unfold State.setSlowImage
  simp

@[simp] theorem State.showSlot_kept (s : State) (k : Nat) : (@State.showSlot s k).kept = s.kept := by
  unfold State.showSlot
  simp

@[simp] theorem State.rearm_kept (s : State) (k : Nat) : (@State.rearm s k).kept = s.kept := by
  unfold State.rearm
  simp

@[simp] theorem execLoopRearm_kept (mask : Nat) (s : State) : (resultOf (execLoopRearm mask s) s).kept = s.kept := by
  unfold execLoopRearm
  simp

@[simp] theorem State.cancelImages_kept (s : State) (p : Nat) : (@State.cancelImages s p).kept = s.kept := by
  unfold State.cancelImages
  simp

@[simp] theorem State.progInForce_kept (s : State) (k : Nat) (img : Nat) : (@State.progInForce s k img).kept = s.kept := by
  unfold State.progInForce
  simp

@[simp] theorem State.lopCommit_kept (s : State) (a1 : State) (nagus : Nat) : (@State.lopCommit s a1 nagus).kept = s.kept := by
  unfold State.lopCommit
  simp

@[simp] theorem State.orFlags_kept (s : State) (p : Nat) (f : Nat) : (@State.orFlags s p f).kept = s.kept := by
  unfold State.orFlags
  simp

@[simp] theorem State.camSince_kept (s : State) (p : Nat) (live : Bool) : (@State.camSince s p live).kept = s.kept := by
  unfold State.camSince
  simp

@[simp] theorem State.camTrim_kept (s : State) (p : Nat) (gm : Bool) (live : Bool) : (@State.camTrim s p gm live).kept = s.kept := by
  unfold State.camTrim
  repeat' first
    | (extract_lets +onlyGivenNames x; first
      | (have hx : State.kept x = State.kept s := (by first | (simp [x, *]; done) | (simp only [x]; (repeat' split) <;> simp [*]; done)); clear_value x)
      | (have hx : ∀ t : State, State.kept (x t) = State.kept t := (by intro t; first | (simp [x, *]; done) | (simp only [x]; (repeat' split) <;> simp [*]; done)); clear_value x)
      | (have hx := fun a => x a; clear hx)
      | clear_value x)
    | (simp [*]; done)
    | (split <;> try (rename_i heq; first
       | (have hk := congrArg (fun p => State.kept (Prod.snd p)) heq.symm; simp at hk)
       | (have hk := congrArg (fun p => State.kept (Prod.snd (Prod.snd p))) heq.symm; simp at hk)
       | (have hk := congrArg (fun p => State.kept (Prod.fst p)) heq.symm; simp at hk)))
    | (simp +zetaDelta [*]; done)

@[simp] theorem State.plausTrip_kept (s : State) (p : Nat) (r : BF) (x : BF) : (@State.plausTrip s p r x).kept = s.kept := by
  unfold State.plausTrip
  simp

@[simp] theorem State.plausSample_kept (s : State) (p : Nat) (i : LInstr) (u : BF) (w : Nat) (check : Bool) : (@State.plausSample s p i u w check).kept = s.kept := by
  unfold State.plausSample
  simp

@[simp] theorem State.loopSaturate_kept (s : State) (p : Nat) : (@State.loopSaturate s p).kept = s.kept := by
  unfold State.loopSaturate
  simp

@[simp] theorem State.fastStages_kept (s : State) (p : Nat) (prog : List LInstr) (ops : Nat → BF) (u : BF) (mid : Nat) (fin : Nat) (all : Bool) (pre : Bool) (quiet : Bool) : (@State.fastStages s p prog ops u mid fin all pre quiet).kept = s.kept := by
  unfold State.fastStages
  simp

@[simp] theorem State.countSubst_kept (s : State) (p : Nat) (r : RunIn) : (@State.countSubst s p r).kept = s.kept := by
  unfold State.countSubst
  simp

@[simp] theorem State.runEnd_kept (s : State) (p : Nat) (kind : Nat) (n : Nat) (planned : Nat) (live : Bool) (forced0 : Bool) : (@State.runEnd s p kind n planned live forced0).kept = s.kept := by
  unfold State.runEnd
  simp

@[simp] theorem State.loadedRun_kept (s : State) (p : Nat) (r : RunIn) : (@State.loadedRun s p r).kept = s.kept := by
  unfold State.loadedRun
  simp

@[simp] theorem State.emptyRun_kept (s : State) (p : Nat) (planned : Nat) : (@State.emptyRun s p planned).kept = s.kept := by
  unfold State.emptyRun
  simp

@[simp] theorem State.takeImage_kept (s : State) (p : Nat) : (@State.takeImage s p).kept = s.kept := by
  unfold State.takeImage
  (repeat' split) <;> simp

@[simp] theorem State.skipRun_kept (s : State) (p : Nat) : (@State.skipRun s p).kept = s.kept := by
  unfold State.skipRun
  simp

@[simp] theorem State.fastRun_kept (s : State) (p : Nat) (mid0 : Nat) (mid1 : Nat) : (@State.fastRun s p mid0 mid1).kept = s.kept := by
  unfold State.fastRun
  simp

@[simp] theorem State.slowStart_kept (s : State) (mask : Nat) (early : Bool) : (@State.slowStart s mask early).kept = s.kept := by
  unfold State.slowStart
  simp

@[simp] theorem State.slowFallBack_kept (s : State) (k : Nat) (code : Nat) : (@State.slowFallBack s k code).kept = s.kept := by
  unfold State.slowFallBack
  simp

@[simp] theorem State.slowStages_kept (s : State) (k : Nat) (prog : List LInstr) (pre : Bool) : (@State.slowStages s k prog pre).kept = s.kept := by
  unfold State.slowStages
  simp

@[simp] theorem State.slowRun_kept (s : State) (k : Nat) : (@State.slowRun s k).kept = s.kept := by
  unfold State.slowRun
  simp

@[simp] theorem State.slowTick_kept (s : State) : (@State.slowTick s).kept = s.kept := by
  unfold State.slowTick
  simp

@[simp] theorem execSlowPwmPeriodStart_kept (k : Fin 8) (s : State) : (resultOf (execSlowPwmPeriodStart k s) s).kept = s.kept := by
  unfold execSlowPwmPeriodStart
  simp

@[simp] theorem State.loopUe_kept (s : State) (k : Nat) : (@State.loopUe s k).kept = s.kept := by
  unfold State.loopUe
  simp

@[simp] theorem State.fastTick_kept (s : State) (skip : List Nat) (mids : List Nat) (odd : Bool) : (@State.fastTick s skip mids odd).kept = s.kept := by
  unfold State.fastTick
  simp

@[simp] theorem State.putImage_kept (s : State) (k : Nat) (img : Nat) : (@State.putImage s k img).kept = s.kept := by
  unfold State.putImage
  simp

@[simp] theorem execLoopProgLoad_kept (s : State) : (resultOf (execLoopProgLoad s) s).kept = s.kept := by
  unfold execLoopProgLoad
  refine runCmd_kept _ _ _ (fun q s => ?_)
  repeat' first
    | (extract_lets +onlyGivenNames x; first
      | (have hx : State.kept x = State.kept s := (by first | (simp [x, *]; done) | (simp only [x]; (repeat' split) <;> simp [*]; done)); clear_value x)
      | (have hx : ∀ t : State, State.kept (x t) = State.kept t := (by intro t; first | (simp [x, *]; done) | (simp only [x]; (repeat' split) <;> simp [*]; done)); clear_value x)
      | (have hx := fun a => x a; clear hx)
      | clear_value x)
    | (simp [*]; done)
    | (split <;> try (rename_i heq; first
       | (have hk := congrArg (fun p => State.kept (Prod.snd p)) heq.symm; simp at hk)
       | (have hk := congrArg (fun p => State.kept (Prod.snd (Prod.snd p))) heq.symm; simp at hk)
       | (have hk := congrArg (fun p => State.kept (Prod.fst p)) heq.symm; simp at hk)))
    | (simp +zetaDelta [*]; done)

@[simp] theorem execLoopPlausSet_kept (s : State) : (resultOf (execLoopPlausSet s) s).kept = s.kept := by
  unfold execLoopPlausSet
  simp

@[simp] theorem execLoopLoopMode_kept (s : State) : (resultOf (execLoopLoopMode s) s).kept = s.kept := by
  unfold execLoopLoopMode
  refine runCmd_kept _ _ _ (fun q s => ?_)
  (repeat' split) <;> simp

@[simp] theorem execLoopStatus_kept (s : State) : (resultOf (execLoopStatus s) s).kept = s.kept := by
  unfold execLoopStatus
  simp

@[simp] theorem execLoopInputSet_kept (s : State) : (resultOf (execLoopInputSet s) s).kept = s.kept := by
  unfold execLoopInputSet
  refine runCmd_kept _ _ _ (fun q s => ?_)
  (repeat' split) <;> simp

@[simp] theorem execLoopAuxSet_kept (s : State) : (resultOf (execLoopAuxSet s) s).kept = s.kept := by
  unfold execLoopAuxSet
  refine runCmd_kept _ _ _ (fun q s => ?_)
  (repeat' split) <;> simp

end Sys2Proof.Machine
end

