-- ==== Sys2Proof/Laws/KeptFlu.lean ====
section
/-! SUPPORT. What the operations of Machine/Flu.lean keep: the one-time-programmable store, the queue of commands and the tick count. -/

namespace Sys2Proof.Machine

@[simp] theorem State.flashWrite_kept (s : State) (a : Nat) (b : List Byte) : (@State.flashWrite s a b).kept = s.kept := by
  unfold State.flashWrite
  simp

@[simp] theorem State.flashErase_kept (s : State) (b : Nat) : (@State.flashErase s b).kept = s.kept := by
  unfold State.flashErase
  simp

@[simp] theorem State.moveWp_kept (s : State) (n : Nat) : (@State.moveWp s n).kept = s.kept := by
  unfold State.moveWp
  simp

@[simp] theorem State.programVoids_kept (s : State) : (@State.programVoids s).kept = s.kept := by
  unfold State.programVoids
  simp

@[simp] theorem State.startPage_kept (s : State) (ue : List Nat) : (@State.startPage s ue).kept = s.kept := by
  unfold State.startPage
  (repeat' split) <;> simp

@[simp] theorem State.flushOn_kept (s : State) (ue : List Nat) : (@State.flushOn s ue).kept = s.kept := by
  unfold State.flushOn
  simp

@[simp] theorem execFlushStart_kept (ue : List Nat) (s : State) : (resultOf (execFlushStart ue s) s).kept = s.kept := by
  unfold execFlushStart
  simp

@[simp] theorem State.shutFlush_kept (s : State) : (@State.shutFlush s).kept = s.kept := by
  unfold State.shutFlush
  simp

@[simp] theorem State.commitPage_kept (s : State) (a : Nat) (rs : List Rec) : (@State.commitPage s a rs).kept = s.kept := by
  unfold State.commitPage
  simp

@[simp] theorem State.blockBad_kept (s : State) (b : Nat) : (@State.blockBad s b).kept = s.kept := by
  unfold State.blockBad
  simp

@[simp] theorem State.failPage_kept (s : State) (a : Nat) (rs : List Rec) : (@State.failPage s a rs).kept = s.kept := by
  unfold State.failPage
  simp

@[simp] theorem execPageProgramDone_kept (ok : Bool) (ue : List Nat) (s : State) : (resultOf (execPageProgramDone ok ue s) s).kept = s.kept := by
  unfold execPageProgramDone
  (repeat' split) <;> simp

@[simp] theorem execDropFaultEntry_kept (s : State) : (resultOf (execDropFaultEntry s) s).kept = s.kept := by
  unfold execDropFaultEntry
  simp

@[simp] theorem execFluFlushWrite_kept (v : Word) (s : State) : (resultOf (execFluFlushWrite v s) s).kept = s.kept := by
  unfold execFluFlushWrite
  simp

@[simp] theorem State.copyLive_kept (s : State) (c : Nat × Rec) : (@State.copyLive s c).kept = s.kept := by
  unfold State.copyLive
  simp

@[simp] theorem State.emptyBlock_kept (s : State) (b : Nat) : (@State.emptyBlock s b).kept = s.kept := by
  unfold State.emptyBlock
  simp

@[simp] theorem execBlockCompact_kept (s : State) : (resultOf (execBlockCompact s) s).kept = s.kept := by
  unfold execBlockCompact
  repeat' first
    | (extract_lets +onlyGivenNames x; first
      | (have hx : State.kept x = State.kept s := (by first | (simp [x, *]; done) | (simp only [x]; (repeat' split) <;> simp [*]; done)); clear_value x)
      | (have hx : ∀ t : State, State.kept (x t) = State.kept t := (by intro t; first | (simp [x, *]; done) | (simp only [x]; (repeat' split) <;> simp [*]; done)); clear_value x)
      | (have hx := fun a => x a; clear hx)
      | clear_value x)
    | (simp [*]; done)
    | (split <;> try (rename_i heq; first
       | (have hk := congrArg (fun p => State.kept (Prod.snd p)) heq.symm; simp at hk)
       | (have hk := congrArg (fun p => State.kept (Prod.snd (Prod.snd p))) heq.symm; simp at hk)
       | (have hk := congrArg (fun p => State.kept (Prod.fst p)) heq.symm; simp at hk)))
    | (simp +zetaDelta [*]; done)

@[simp] theorem execEraseDone_kept (ok : Bool) (s : State) : (resultOf (execEraseDone ok s) s).kept = s.kept := by
  unfold execEraseDone
  rw [resultOf_next]
  split
  · rfl
  · rename_i b _
    split
    · rfl
    · cases ok <;> simp

@[simp] theorem State.eraseAbort_kept (s : State) : (@State.eraseAbort s).kept = s.kept := by
  unfold State.eraseAbort
  simp

@[simp] theorem State.xspiCut_kept (s : State) (op : Nat) : (@State.xspiCut s op).kept = s.kept := by
  unfold State.xspiCut
  simp

@[simp] theorem State.pfwAccept_kept (s : State) : (@State.pfwAccept s).kept = s.kept := by
  unfold State.pfwAccept
  simp

@[simp] theorem execPfwAccept_kept (s : State) : (resultOf (execPfwAccept s) s).kept = s.kept := by
  unfold execPfwAccept
  simp

@[simp] theorem execPfwRelease_kept (s : State) : (resultOf (execPfwRelease s) s).kept = s.kept := by
  unfold execPfwRelease
  repeat' first
    | (extract_lets +onlyGivenNames x; first
      | (have hx : State.kept x = State.kept s := (by first | (simp [x, *]; done) | (simp only [x]; (repeat' split) <;> simp [*]; done)); clear_value x)
      | (have hx : ∀ t : State, State.kept (x t) = State.kept t := (by intro t; first | (simp [x, *]; done) | (simp only [x]; (repeat' split) <;> simp [*]; done)); clear_value x)
      | (have hx := fun a => x a; clear hx)
      | clear_value x)
    | (simp [*]; done)
    | (split <;> try (rename_i heq; first
       | (have hk := congrArg (fun p => State.kept (Prod.snd p)) heq.symm; simp at hk)
       | (have hk := congrArg (fun p => State.kept (Prod.snd (Prod.snd p))) heq.symm; simp at hk)
       | (have hk := congrArg (fun p => State.kept (Prod.fst p)) heq.symm; simp at hk)))
    | (simp +zetaDelta [*]; done)

@[simp] theorem State.scanPlace_kept (s : State) (c : Nat × Rec) : (@State.scanPlace s c).kept = s.kept := by
  unfold State.scanPlace
  (repeat' split) <;> simp

@[simp] theorem State.scanPoints_kept (s : State) (newest : Option Nat) : (@State.scanPoints s newest).kept = s.kept := by
  unfold State.scanPoints
  simp

@[simp] theorem State.submit_kept (s : State) (g : List Rec) : (@State.submit s g).kept = s.kept := by
  unfold State.submit
  simp

@[simp] theorem State.numberRing_kept (s : State) : (@State.numberRing s).kept = s.kept := by
  unfold State.numberRing
  simp

@[simp] theorem State.scanRepair_kept (s : State) : (@State.scanRepair s).1.kept = s.kept := by
  unfold State.scanRepair
  simp

@[simp] theorem State.scanRecord_kept (s : State) (hi : Option Nat) (torn : Nat) (dup : Nat) (dead : Nat) : (@State.scanRecord s hi torn dup dead).kept = s.kept := by
  unfold State.scanRecord
  simp

@[simp] theorem execBootScanDone_kept (s : State) : (resultOf (execBootScanDone s) s).kept = s.kept := by
  unfold execBootScanDone
  repeat' first
    | (extract_lets +onlyGivenNames x; first
      | (have hx : State.kept x = State.kept s := (by first | (simp [x, *]; done) | (simp only [x]; (repeat' split) <;> simp [*]; done)); clear_value x)
      | (have hx : ∀ t : State, State.kept (x t) = State.kept t := (by intro t; first | (simp [x, *]; done) | (simp only [x]; (repeat' split) <;> simp [*]; done)); clear_value x)
      | (have hx := fun a => x a; clear hx)
      | clear_value x)
    | (simp [*]; done)
    | (split <;> try (rename_i heq; first
       | (have hk := congrArg (fun p => State.kept (Prod.snd p)) heq.symm; simp at hk)
       | (have hk := congrArg (fun p => State.kept (Prod.snd (Prod.snd p))) heq.symm; simp at hk)
       | (have hk := congrArg (fun p => State.kept (Prod.fst p)) heq.symm; simp at hk)))
    | (simp +zetaDelta [*]; done)

@[simp] theorem execFluSubmitGo_kept (v : Word) (s : State) : (resultOf (execFluSubmitGo v s) s).kept = s.kept := by
  unfold execFluSubmitGo
  simp

@[simp] theorem execFluReadStart_kept (v : Word) (s : State) : (resultOf (execFluReadStart v s) s).kept = s.kept := by
  unfold execFluReadStart
  rw [resultOf_next]
  simp only []
  split
  · simp
  · split
    · simp
    · cases (s.fluFrom (s.get64 FLU_RD_FIRST_LO_FIRST_LO FLU_RD_FIRST_HI_FIRST_HI)).take (v.toNat % 32) <;> simp [State.fresh]

@[simp] theorem State.xspiGo_kept (s : State) (op : Nat) : (@State.xspiGo s op).kept = s.kept := by
  unfold State.xspiGo
  simp

@[simp] theorem execXspiRead_kept (s : State) : (resultOf (execXspiRead s) s).kept = s.kept := by
  unfold execXspiRead
  simp

@[simp] theorem execXspiErase_kept (s : State) : (resultOf (execXspiErase s) s).kept = s.kept := by
  unfold execXspiErase
  simp

@[simp] theorem execXspiProgram_kept (s : State) : (resultOf (execXspiProgram s) s).kept = s.kept := by
  unfold execXspiProgram
  simp

@[simp] theorem State.xspiEffect_kept (s : State) (op : Nat) (a : Nat) (m : Nat) (ok : Bool) : (@State.xspiEffect s op a m ok).kept = s.kept := by
  unfold State.xspiEffect
  repeat' first
    | (extract_lets +onlyGivenNames x; first
      | (have hx : State.kept x = State.kept s := (by first | (simp [x, *]; done) | (simp only [x]; (repeat' split) <;> simp [*]; done)); clear_value x)
      | (have hx : ∀ t : State, State.kept (x t) = State.kept t := (by intro t; first | (simp [x, *]; done) | (simp only [x]; (repeat' split) <;> simp [*]; done)); clear_value x)
      | (have hx := fun a => x a; clear hx)
      | clear_value x)
    | (simp [*]; done)
    | (split <;> try (rename_i heq; first
       | (have hk := congrArg (fun p => State.kept (Prod.snd p)) heq.symm; simp at hk)
       | (have hk := congrArg (fun p => State.kept (Prod.snd (Prod.snd p))) heq.symm; simp at hk)
       | (have hk := congrArg (fun p => State.kept (Prod.fst p)) heq.symm; simp at hk)))
    | (simp +zetaDelta [*]; done)

@[simp] theorem State.xspiEnd_kept (s : State) (ok : Bool) : (@State.xspiEnd s ok).1.kept = s.kept := by
  unfold State.xspiEnd
  (repeat' split) <;> simp

@[simp] theorem execFlueRead_kept (s : State) : (resultOf (execFlueRead s) s).kept = s.kept := by
  unfold execFlueRead
  refine runCmd_kept _ _ _ (fun q t => ?_)
  split
  · rfl
  · simp only []
    cases (t.fluFrom (q.w64 0)).take (q.w 2) <;> simp [State.fresh]

@[simp] theorem execFlueStatus_kept (s : State) : (resultOf (execFlueStatus s) s).kept = s.kept := by
  unfold execFlueStatus
  exact runCmd_kept _ _ _ (fun _ t => reader_kept _ t _)

@[simp] theorem execFlueNote_kept (s : State) : (resultOf (execFlueNote s) s).kept = s.kept := by
  unfold execFlueNote
  refine runCmd_kept _ _ _ (fun q s => ?_)
  (repeat' split) <;> simp

end Sys2Proof.Machine
end

