-- ==== Sys2Proof/Laws/KeptThm.lean ====
section
/-! SUPPORT. What the operations of Machine/Thm.lean keep: the one-time-programmable store, the queue of commands and the tick count. -/

namespace Sys2Proof.Machine

@[simp] theorem State.thmRuns_kept (s : State) : (@State.thmRuns s).kept = s.kept := by
  unfold State.thmRuns
  simp

@[simp] theorem State.declareBroken_kept (s : State) (i : Nat) : (@State.declareBroken s i).kept = s.kept := by
  unfold State.declareBroken
  simp

@[simp] theorem State.thmTmax_kept (s : State) (first : Bool) : (@State.thmTmax s first).kept = s.kept := by
  unfold State.thmTmax
  (repeat' split) <;> simp

@[simp] theorem State.thmLowEval_kept (s : State) : (@State.thmLowEval s).kept = s.kept := by
  unfold State.thmLowEval
  simp

@[simp] theorem State.shutBegin_kept (s : State) : (@State.shutBegin s).kept = s.kept := by
  unfold State.shutBegin
  simp

@[simp] theorem State.thmEnter_kept (s : State) (l : Nat) : (@State.thmEnter s l).kept = s.kept := by
  unfold State.thmEnter
  simp

@[simp] theorem State.thmLevel_kept (s : State) : (@State.thmLevel s).kept = s.kept := by
  unfold State.thmLevel
  simp

@[simp] theorem State.redEval_kept (s : State) : (@State.redEval s).kept = s.kept := by
  unfold State.redEval
  simp

@[simp] theorem State.redSeconds_kept (s : State) : (@State.redSeconds s).kept = s.kept := by
  unfold State.redSeconds
  simp

@[simp] theorem execThermalUpdate_kept (ts : List (BitVec 16)) (s : State) : (resultOf (execThermalUpdate ts s) s).kept = s.kept := by
  unfold execThermalUpdate
  repeat' first
    | (extract_lets +onlyGivenNames x; first
      | (have hx : State.kept x = State.kept s := (by first | (simp [x, *]; done) | (simp only [x]; (repeat' split) <;> simp [*]; done)); clear_value x)
      | (have hx : ∀ t : State, State.kept (x t) = State.kept t := (by intro t; first | (simp [x, *]; done) | (simp only [x]; (repeat' split) <;> simp [*]; done)); clear_value x)
      | (have hx := fun a => x a; clear hx)
      | clear_value x)
    | (simp [*]; done)
    | (split <;> try (rename_i heq; first
       | (have hk := congrArg (fun p => State.kept (Prod.snd p)) heq.symm; simp at hk)
       | (have hk := congrArg (fun p => State.kept (Prod.snd (Prod.snd p))) heq.symm; simp at hk)
       | (have hk := congrArg (fun p => State.kept (Prod.fst p)) heq.symm; simp at hk)))
    | (simp +zetaDelta [*]; done)

@[simp] theorem execDamperRelax_kept (s : State) : (resultOf (execDamperRelax s) s).kept = s.kept := by
  unfold execDamperRelax
  simp

@[simp] theorem execShutdownFlashEnd_kept (s : State) : (resultOf (execShutdownFlashEnd s) s).kept = s.kept := by
  unfold execShutdownFlashEnd
  repeat' first
    | (extract_lets +onlyGivenNames x; first
      | (have hx : State.kept x = State.kept s := (by first | (simp [x, *]; done) | (simp only [x]; (repeat' split) <;> simp [*]; done)); clear_value x)
      | (have hx : ∀ t : State, State.kept (x t) = State.kept t := (by intro t; first | (simp [x, *]; done) | (simp only [x]; (repeat' split) <;> simp [*]; done)); clear_value x)
      | (have hx := fun a => x a; clear hx)
      | clear_value x)
    | (simp [*]; done)
    | (split <;> try (rename_i heq; first
       | (have hk := congrArg (fun p => State.kept (Prod.snd p)) heq.symm; simp at hk)
       | (have hk := congrArg (fun p => State.kept (Prod.snd (Prod.snd p))) heq.symm; simp at hk)
       | (have hk := congrArg (fun p => State.kept (Prod.fst p)) heq.symm; simp at hk)))
    | (simp +zetaDelta [*]; done)

@[simp] theorem execSensorClear_kept (mask : BitVec 12) (s : State) : (resultOf (execSensorClear mask s) s).kept = s.kept := by
  unfold execSensorClear
  simp

@[simp] theorem State.peakClear_kept (s : State) : (@State.peakClear s).kept = s.kept := by
  unfold State.peakClear
  simp

@[simp] theorem State.threshWrite_kept (s : State) (b : Bool) (v : Word) : (@State.threshWrite s b v).kept = s.kept := by
  unfold State.threshWrite
  simp

@[simp] theorem execThrmStatus_kept (s : State) : (resultOf (execThrmStatus s) s).kept = s.kept := by
  unfold execThrmStatus
  simp

@[simp] theorem execThrmSensorRead_kept (s : State) : (resultOf (execThrmSensorRead s) s).kept = s.kept := by
  unfold execThrmSensorRead
  simp

end Sys2Proof.Machine
end

