-- ==== Sys2Proof/Laws/KeptCal.lean ====
section
/-! SUPPORT. What the operations of Machine/Cal.lean keep: the one-time-programmable store, the queue of commands and the tick count. -/

namespace Sys2Proof.Machine

@[simp] theorem State.trimApply_kept (s : State) (ws : List Nat) : (@State.trimApply s ws).kept = s.kept := by
  unfold State.trimApply
  simp

@[simp] theorem State.trimCommit_kept (s : State) (a1 : State) : (@State.trimCommit s a1).kept = s.kept := by
  unfold State.trimCommit
  simp

@[simp] theorem State.calFinish_kept (s : State) (a : Action) (st : Nat) : (@State.calFinish s a st).kept = s.kept := by
  unfold State.calFinish
  simp

@[simp] theorem State.calTrimWritten_kept (s : State) (a : Action) : (@State.calTrimWritten s a).kept = s.kept := by
  unfold State.calTrimWritten
  simp

@[simp] theorem State.afeTrims_kept (s : State) (p : Nat) : (@State.afeTrims s p).kept = s.kept := by
  unfold State.afeTrims
  simp

@[simp] theorem State.calModeEnd_kept (s : State) (a : Action) : (@State.calModeEnd s a).kept = s.kept := by
  unfold State.calModeEnd
  simp

@[simp] theorem State.calPoll1_kept (s : State) (a : Action) : (@State.calPoll1 s a).kept = s.kept := by
  unfold State.calPoll1
  simp

@[simp] theorem State.calPoll_kept (s : State) : (@State.calPoll s).kept = s.kept := by
  unfold State.calPoll
  simp

@[simp] theorem execLongActionFinish_kept (tag : BitVec 16) (s : State) : (resultOf (execLongActionFinish tag s) s).kept = s.kept := by
  unfold execLongActionFinish
  repeat' first
    | (extract_lets +onlyGivenNames x; first
      | (have hx : State.kept x = State.kept s := (by first | (simp [x, *]; done) | (simp only [x]; (repeat' split) <;> simp [*]; done)); clear_value x)
      | (have hx : ∀ t : State, State.kept (x t) = State.kept t := (by intro t; first | (simp [x, *]; done) | (simp only [x]; (repeat' split) <;> simp [*]; done)); clear_value x)
      | (have hx := fun a => x a; clear hx)
      | clear_value x)
    | (simp [*]; done)
    | (split <;> try (rename_i heq; first
       | (have hk := congrArg (fun p => State.kept (Prod.snd p)) heq.symm; simp at hk)
       | (have hk := congrArg (fun p => State.kept (Prod.snd (Prod.snd p))) heq.symm; simp at hk)
       | (have hk := congrArg (fun p => State.kept (Prod.fst p)) heq.symm; simp at hk)))
    | (simp +zetaDelta [*]; done)

@[simp] theorem State.gapOpen_kept (s : State) : (@State.gapOpen s).kept = s.kept := by
  unfold State.gapOpen
  simp

@[simp] theorem State.gapCount_kept (s : State) : (@State.gapCount s).kept = s.kept := by
  unfold State.gapCount
  simp

@[simp] theorem State.gapClose_kept (s : State) : (@State.gapClose s).kept = s.kept := by
  unfold State.gapClose
  simp

@[simp] theorem State.gapEdge_kept (s : State) : (@State.gapEdge s).kept = s.kept := by
  unfold State.gapEdge
  (repeat' split) <;> simp

@[simp] theorem execGapPieceClose_kept (s : State) : (resultOf (execGapPieceClose s) s).kept = s.kept := by
  unfold execGapPieceClose
  simp

@[simp] theorem execMcStart_kept (v : Word) (s : State) : (resultOf (execMcStart v s) s).kept = s.kept := by
  unfold execMcStart
  simp

@[simp] theorem execGapWaitTimeout_kept (s : State) : (resultOf (execGapWaitTimeout s) s).kept = s.kept := by
  unfold execGapWaitTimeout
  simp

@[simp] theorem State.sweepEnd_kept (s : State) (w : Sweep) (st : Nat) : (@State.sweepEnd s w st).kept = s.kept := by
  unfold State.sweepEnd
  simp

@[simp] theorem State.sweepFire_kept (s : State) (w : Sweep) : (@State.sweepFire s w).kept = s.kept := by
  unfold State.sweepFire
  simp

@[simp] theorem execSweepPulse_kept (s : State) : (resultOf (execSweepPulse s) s).kept = s.kept := by
  unfold execSweepPulse
  repeat' first
    | (extract_lets +onlyGivenNames x; first
      | (have hx : State.kept x = State.kept s := (by first | (simp [x, *]; done) | (simp only [x]; (repeat' split) <;> simp [*]; done)); clear_value x)
      | (have hx : ∀ t : State, State.kept (x t) = State.kept t := (by intro t; first | (simp [x, *]; done) | (simp only [x]; (repeat' split) <;> simp [*]; done)); clear_value x)
      | (have hx := fun a => x a; clear hx)
      | clear_value x)
    | (simp [*]; done)
    | (split <;> try (rename_i heq; first
       | (have hk := congrArg (fun p => State.kept (Prod.snd p)) heq.symm; simp at hk)
       | (have hk := congrArg (fun p => State.kept (Prod.snd (Prod.snd p))) heq.symm; simp at hk)
       | (have hk := congrArg (fun p => State.kept (Prod.fst p)) heq.symm; simp at hk)))
    | (simp +zetaDelta [*]; done)

@[simp] theorem State.sweepSample_kept (s : State) (late : Bool) : (@State.sweepSample s late).kept = s.kept := by
  unfold State.sweepSample
  (repeat' split) <;> simp

@[simp] theorem State.sweepStart_kept (s : State) : (@State.sweepStart s).kept = s.kept := by
  unfold State.sweepStart
  simp

@[simp] theorem State.sweepWrite_kept (s : State) (v : Word) : (@State.sweepWrite s v).kept = s.kept := by
  unfold State.sweepWrite
  simp

@[simp] theorem execSweepStart_kept (v : Word) (s : State) : (resultOf (execSweepStart v s) s).kept = s.kept := by
  unfold execSweepStart
  simp

@[simp] theorem State.ltWrite_kept (s : State) (v : Word) : (@State.ltWrite s v).kept = s.kept := by
  unfold State.ltWrite
  simp

@[simp] theorem execThresholdStart_kept (v : Word) (s : State) : (resultOf (execThresholdStart v s) s).kept = s.kept := by
  unfold execThresholdStart
  simp

@[simp] theorem State.ltEnd_kept (s : State) (r : Option Int) : (@State.ltEnd s r).kept = s.kept := by
  unfold State.ltEnd
  (repeat' split) <;> simp

@[simp] theorem execThresholdStep_kept (trip : Bool) (s : State) : (resultOf (execThresholdStep trip s) s).kept = s.kept := by
  unfold execThresholdStep
  simp

@[simp] theorem State.storeGo_kept (s : State) : (@State.storeGo s).kept = s.kept := by
  unfold State.storeGo
  (repeat' split) <;> simp

@[simp] theorem State.storeEnd_kept (s : State) (ok : Bool) : (@State.storeEnd s ok).kept = s.kept := by
  unfold State.storeEnd
  simp

@[simp] theorem State.storeStep_kept (s : State) (op : Nat) (a : Nat) (ok : Bool) : (@State.storeStep s op a ok).kept = s.kept := by
  unfold State.storeStep
  (repeat' split) <;> simp

@[simp] theorem State.calDrive_kept (s : State) (proc : Nat) (u : Nat) : (@State.calDrive s proc u).kept = s.kept := by
  unfold State.calDrive
  (repeat' split) <;> simp

@[simp] theorem execCalRun_kept (s : State) : (resultOf (execCalRun s) s).kept = s.kept := by
  unfold execCalRun
  refine runCmd_kept _ _ _ (fun q s => ?_)
  repeat' first
    | (extract_lets +onlyGivenNames x; first
      | (have hx : State.kept x = State.kept s := (by first | (simp [x, *]; done) | (simp only [x]; (repeat' split) <;> simp [*]; done)); clear_value x)
      | (have hx : ∀ t : State, State.kept (x t) = State.kept t := (by intro t; first | (simp [x, *]; done) | (simp only [x]; (repeat' split) <;> simp [*]; done)); clear_value x)
      | (have hx := fun a => x a; clear hx)
      | clear_value x)
    | (simp [*]; done)
    | (split <;> try (rename_i heq; first
       | (have hk := congrArg (fun p => State.kept (Prod.snd p)) heq.symm; simp at hk)
       | (have hk := congrArg (fun p => State.kept (Prod.snd (Prod.snd p))) heq.symm; simp at hk)
       | (have hk := congrArg (fun p => State.kept (Prod.fst p)) heq.symm; simp at hk)))
    | (simp +zetaDelta [*]; done)

@[simp] theorem execCalTrimRead_kept (s : State) : (resultOf (execCalTrimRead s) s).kept = s.kept := by
  unfold execCalTrimRead
  refine runCmd_kept _ _ _ (fun q s => ?_)
  (repeat' split) <;> simp

@[simp] theorem execCalTrimWrite_kept (s : State) : (resultOf (execCalTrimWrite s) s).kept = s.kept := by
  unfold execCalTrimWrite
  simp

@[simp] theorem execCalStore_kept (s : State) : (resultOf (execCalStore s) s).kept = s.kept := by
  unfold execCalStore
  simp

end Sys2Proof.Machine
end

