-- ==== Sys2Proof/Laws/KeptDmc.lean ====
section
/-! SUPPORT. What the operations of Machine/Dmc.lean keep: the one-time-programmable store, the queue of commands and the tick count. -/

namespace Sys2Proof.Machine

@[simp] theorem State.dramTrainStart_kept (s : State) : (@State.dramTrainStart s).kept = s.kept := by
  unfold State.dramTrainStart
  simp

@[simp] theorem execDramTrainStart_kept (s : State) : (resultOf (execDramTrainStart s) s).kept = s.kept := by
  unfold execDramTrainStart
  simp

@[simp] theorem State.trainVals_kept (s : State) (vals : List Word) : (@State.trainVals s vals).kept = s.kept := by
  unfold State.trainVals
  simp

@[simp] theorem execDramTrainDone_kept (e : TrainEv) (vals : List Word) (s : State) : (resultOf (execDramTrainDone e vals s) s).kept = s.kept := by
  unfold execDramTrainDone
  (repeat' split) <;> simp

@[simp] theorem State.rhEvict_kept (s : State) (req : Nat) : (@State.rhEvict s req).kept = s.kept := by
  unfold State.rhEvict
  simp

@[simp] theorem State.activate_kept (s : State) (req : Nat) (a : Nat) : (@State.activate s req a).kept = s.kept := by
  unfold State.activate
  simp

@[simp] theorem State.dramErrors_kept (s : State) (errs : List (Nat × Nat)) : (@State.dramErrors s errs).kept = s.kept := by
  unfold State.dramErrors
  simp

@[simp] theorem State.afterReplay_kept (s : State) (c : Nat) (k : Nat) : (@State.afterReplay s c k).kept = s.kept := by
  unfold State.afterReplay
  simp

@[simp] theorem State.rhTableUe_kept (s : State) (a : Nat) : (@State.rhTableUe s a).kept = s.kept := by
  unfold State.rhTableUe
  simp

@[simp] theorem State.takeWrite_kept (s : State) (d : DReq) : (@State.takeWrite s d).kept = s.kept := by
  unfold State.takeWrite
  (repeat' split) <;> simp

@[simp] theorem State.reqArrive_kept (s : State) (d : DReq) : (@State.reqArrive s d).kept = s.kept := by
  unfold State.reqArrive
  (repeat' split) <;> simp

@[simp] theorem State.rankIdle_kept (s : State) (k : Nat) : (@State.rankIdle s k).kept = s.kept := by
  unfold State.rankIdle
  simp

@[simp] theorem State.serveReq_kept (s : State) (d : DReq) (taken : Bool) : (@State.serveReq s d taken).kept = s.kept := by
  unfold State.serveReq
  (repeat' split) <;> simp

@[simp] theorem State.serveChan_kept (s : State) (c : Nat) : (@State.serveChan s c).kept = s.kept := by
  unfold State.serveChan
  (repeat' split) <;> simp

@[simp] theorem execDramRequest_kept (p0 p1 p2 p3 p4 p5 : List DReq) (e : DramEv) (s : State) : (resultOf (execDramRequest p0 p1 p2 p3 p4 p5 e s) s).kept = s.kept := by
  unfold execDramRequest
  (repeat' split) <;> simp

@[simp] theorem execRefreshDue_kept (c : Fin 2) (r : Fin 2) (busy : Bool) (s : State) : (resultOf (execRefreshDue c r busy s) s).kept = s.kept := by
  unfold execRefreshDue
  simp

@[simp] theorem execRhTableReset_kept (s : State) : (resultOf (execRhTableReset s) s).kept = s.kept := by
  unfold execRhTableReset
  simp

@[simp] theorem execEvictPeriod_kept (s : State) : (resultOf (execEvictPeriod s) s).kept = s.kept := by
  unfold execEvictPeriod
  simp

@[simp] theorem State.reqDead_kept (s : State) (d : DReq) : (@State.reqDead s d).kept = s.kept := by
  unfold State.reqDead
  simp

@[simp] theorem State.parFatal_kept (s : State) (c : Nat) : (@State.parFatal s c).kept = s.kept := by
  unfold State.parFatal
  simp

@[simp] theorem State.nextAttempt_kept (s : State) (c : Nat) : (@State.nextAttempt s c).kept = s.kept := by
  unfold State.nextAttempt
  simp

@[simp] theorem execCaParityAlert_kept (c : Fin 2) (s : State) : (resultOf (execCaParityAlert c s) s).kept = s.kept := by
  unfold execCaParityAlert
  simp

@[simp] theorem execCaAlertRelease_kept (c : Fin 2) (ue : Bool) (s : State) : (resultOf (execCaAlertRelease c ue s) s).kept = s.kept := by
  unfold execCaAlertRelease
  simp

@[simp] theorem execCaAlertTimeout_kept (c : Fin 2) (s : State) : (resultOf (execCaAlertTimeout c s) s).kept = s.kept := by
  unfold execCaAlertTimeout
  simp

@[simp] theorem execZqCalibrate_kept (s : State) : (resultOf (execZqCalibrate s) s).kept = s.kept := by
  unfold execZqCalibrate
  simp

@[simp] theorem execDqsTrack_kept (vals : List Word) (s : State) : (resultOf (execDqsTrack vals s) s).kept = s.kept := by
  unfold execDqsTrack
  simp

@[simp] theorem State.scrubBeat_kept (s : State) (beat : Nat) : (@State.scrubBeat s beat).kept = s.kept := by
  unfold State.scrubBeat
  (repeat' split) <;> simp

@[simp] theorem execScrubRead_kept (errs : List (Nat × Nat)) (s : State) : (resultOf (execScrubRead errs s) s).kept = s.kept := by
  unfold execScrubRead
  simp

@[simp] theorem execEccClear_kept (s : State) : (resultOf (execEccClear s) s).kept = s.kept := by
  unfold execEccClear
  simp

@[simp] theorem execPowerDownEntry_kept (c : Fin 2) (r : Fin 2) (s : State) : (resultOf (execPowerDownEntry c r s) s).kept = s.kept := by
  unfold execPowerDownEntry
  simp

end Sys2Proof.Machine
end

