-- ==== Sys2Proof/Laws/KeptSec.lean ====
section
/-! SUPPORT. What the operations of Machine/Sec.lean keep: the one-time-programmable store, the queue of commands and the tick count. -/

namespace Sys2Proof.Machine

@[simp] theorem State.putBytes_kept (s : State) (f : Fref) (bs : List Byte) : (@State.putBytes s f bs).kept = s.kept := by
  unfold State.putBytes
  simp

@[simp] theorem State.debugInBuild_kept (s : State) : (@State.debugInBuild s).kept = s.kept := by
  unfold State.debugInBuild
  simp

@[simp] theorem State.takeMode_kept (s : State) (m : Nat) (lasers : Bool) : (@State.takeMode s m lasers).kept = s.kept := by
  unfold State.takeMode
  simp

@[simp] theorem State.hostHold_kept (s : State) : (@State.hostHold s).kept = s.kept := by
  unfold State.hostHold
  simp

@[simp] theorem State.modeWrite_kept (s : State) (m : Nat) (lasers : Bool) : (@State.modeWrite s m lasers).1.kept = s.kept := by
  unfold State.modeWrite
  simp

@[simp] theorem execModeWrite_kept (v : Word) (s : State) : (resultOf (execModeWrite v s) s).kept = s.kept := by
  unfold execModeWrite
  simp

@[simp] theorem State.drawChallenge_kept (s : State) (lvl : Nat) : (@State.drawChallenge s lvl).kept = s.kept := by
  unfold State.drawChallenge
  simp

@[simp] theorem execChallengeNew_kept (v : Word) (s : State) : (resultOf (execChallengeNew v s) s).kept = s.kept := by
  unfold execChallengeNew
  simp

@[simp] theorem execChallengeExpire_kept (s : State) : (resultOf (execChallengeExpire s) s).kept = s.kept := by
  unfold execChallengeExpire
  simp

@[simp] theorem State.refuseToken_kept (s : State) : (@State.refuseToken s).1.kept = s.kept := by
  unfold State.refuseToken
  simp

@[simp] theorem State.grant_kept (s : State) (lvl : Nat) (hash : List Byte) : (@State.grant s lvl hash).kept = s.kept := by
  unfold State.grant
  simp

@[simp] theorem State.tokenCheck_kept (s : State) (t : List Byte) : (@State.tokenCheck s t).1.kept = s.kept := by
  unfold State.tokenCheck
  simp

@[simp] theorem execTokenCheck_kept (v : Word) (s : State) : (resultOf (execTokenCheck v s) s).kept = s.kept := by
  unfold execTokenCheck
  simp

@[simp] theorem execDebugClose_kept (s : State) : (resultOf (execDebugClose s) s).kept = s.kept := by
  unfold execDebugClose
  simp

@[simp] theorem execDebugHaltRequest_kept (s : State) : (resultOf (execDebugHaltRequest s) s).kept = s.kept := by
  unfold execDebugHaltRequest
  simp

@[simp] theorem execSecDebugChallenge_kept (s : State) : (resultOf (execSecDebugChallenge s) s).kept = s.kept := by
  unfold execSecDebugChallenge
  simp

@[simp] theorem execSecDebugResponse_kept (s : State) : (resultOf (execSecDebugResponse s) s).kept = s.kept := by
  unfold execSecDebugResponse
  refine runCmd_kept _ _ _ (fun q s => ?_)
  repeat' first
    | (extract_lets +onlyGivenNames x; first
      | (have hx : State.kept x = State.kept s := (by first | (simp [x, *]; done) | (simp only [x]; (repeat' split) <;> simp [*]; done)); clear_value x)
      | (have hx : ∀ t : State, State.kept (x t) = State.kept t := (by intro t; first | (simp [x, *]; done) | (simp only [x]; (repeat' split) <;> simp [*]; done)); clear_value x)
      | (have hx := fun a => x a; clear hx)
      | clear_value x)
    | (simp [*]; done)
    | (split <;> try (rename_i heq; first
       | (have hk := congrArg (fun p => State.kept (Prod.snd p)) heq.symm; simp at hk)
       | (have hk := congrArg (fun p => State.kept (Prod.snd (Prod.snd p))) heq.symm; simp at hk)
       | (have hk := congrArg (fun p => State.kept (Prod.fst p)) heq.symm; simp at hk)))
    | (simp +zetaDelta [*]; done)

@[simp] theorem execAttStart_kept (v : Word) (s : State) : (resultOf (execAttStart v s) s).kept = s.kept := by
  unfold execAttStart
  simp

@[simp] theorem execAttDone_kept (ok : Bool) (s : State) : (resultOf (execAttDone ok s) s).kept = s.kept := by
  unfold execAttDone
  (repeat' split) <;> simp

@[simp] theorem execSecAttest_kept (ok : Bool) (s : State) : (resultOf (execSecAttest ok s) s).kept = s.kept := by
  unfold execSecAttest
  simp

@[simp] theorem State.jobCheck_kept (s : State) (a : Nat) (n : Nat) (id : Option Nat) : (@State.jobCheck s a n id).1.kept = s.kept := by
  unfold State.jobCheck
  repeat' first
    | (extract_lets +onlyGivenNames x; first
      | (have hx : State.kept x = State.kept s := (by first | (simp [x, *]; done) | (simp only [x]; (repeat' split) <;> simp [*]; done)); clear_value x)
      | (have hx : ∀ t : State, State.kept (x t) = State.kept t := (by intro t; first | (simp [x, *]; done) | (simp only [x]; (repeat' split) <;> simp [*]; done)); clear_value x)
      | (have hx := fun a => x a; clear hx)
      | clear_value x)
    | (simp [*]; done)
    | (split <;> try (rename_i heq; first
       | (have hk := congrArg (fun p => State.kept (Prod.snd p)) heq.symm; simp at hk)
       | (have hk := congrArg (fun p => State.kept (Prod.snd (Prod.snd p))) heq.symm; simp at hk)
       | (have hk := congrArg (fun p => State.kept (Prod.fst p)) heq.symm; simp at hk)))
    | (simp +zetaDelta [*]; done)

@[simp] theorem State.measClear_kept (s : State) : (@State.measClear s).kept = s.kept := by
  unfold State.measClear
  simp

@[simp] theorem execJobCheckStart_kept (s : State) : (resultOf (execJobCheckStart s) s).kept = s.kept := by
  unfold execJobCheckStart
  simp

@[simp] theorem execJobCheckDone_kept (s : State) : (resultOf (execJobCheckDone s) s).kept = s.kept := by
  unfold execJobCheckDone
  (repeat' split) <;> simp

@[simp] theorem execJobMeasClear_kept (s : State) : (resultOf (execJobMeasClear s) s).kept = s.kept := by
  unfold execJobMeasClear
  simp

theorem State.lifeMove_grown (s : State) (lc : Nat) (h : lc ≤ 3) : Grown s (s.lifeMove lc) := by
  unfold State.lifeMove
  refine Grown.right (t := { s with otp := { s.otp with life := max s.otp.life lc } }) ?_ ?_
  · simp
  · refine ⟨⟨Nat.le_max_left _ _, Nat.le_refl _, ?_, rfl, rfl, rfl, rfl⟩, rfl, rfl⟩
    rintro ⟨h1, h2⟩
    refine ⟨?_, h2⟩
    simp only
    omega

theorem State.provision_grown (s : State) (rec : List Byte) : Grown s (s.provision rec) := by
  unfold State.provision
  refine Grown.trans (t := { s with
      otp := { s.otp with key := some (s.sec.cand.getD 0), idPub := fitBytes 96 (Config.publicKey (s.sec.cand.getD 0)), intDbg := (rec.drop 4).take 48, prov := sha384 rec },
      sec := { s.sec with cand := none } }) ?_ (Grown.left ?_ (State.lifeMove_grown _ 1 (by omega)))
  · exact ⟨⟨Nat.le_refl _, Nat.le_refl _, id, rfl, rfl, rfl, rfl⟩, rfl, rfl⟩
  · simp

theorem State.sealOwner_grown (s : State) (rec : List Byte) : Grown s (s.sealOwner rec) := by
  unfold State.sealOwner
  refine Grown.trans (t := { s with
      otp := { s.otp with jobHash := (rec.drop 4).take 48, ownDbg := (rec.drop 52).take 48, ownHash := sha384 rec } }) ?_
      (State.lifeMove_grown _ 2 (by omega))
  exact ⟨⟨Nat.le_refl _, Nat.le_refl _, id, rfl, rfl, rfl, rfl⟩, rfl, rfl⟩

theorem execLifecycleProgram_grown (v : Word) (s : State) : Grown s (resultOf (execLifecycleProgram v s) s) := by
  unfold execLifecycleProgram
  rw [resultOf_next]
  simp only []
  have p : (s.put SEC_LC_CTRL_TARGET (v.toNat % 4)).kept = s.kept := by simp
  split
  · exact Grown.of p
  · split
    · exact Grown.left p (State.provision_grown _ _)
    · split
      · exact Grown.left p (State.sealOwner_grown _ _)
      · split
        · exact Grown.left p (State.lifeMove_grown _ 3 (by omega))
        · exact Grown.of (by simp)

theorem execSecProvision_grown (s : State) : Grown s (resultOf (execSecProvision s) s) := by
  refine runCmd_grown _ _ _ (fun q t => ?_)
  split
  · exact Grown.refl t
  · split
    · exact Grown.refl t
    · split
      · exact Grown.refl t
      · exact State.provision_grown _ _

theorem execSecSeal_grown (s : State) : Grown s (resultOf (execSecSeal s) s) := by
  refine runCmd_grown _ _ _ (fun q t => ?_)
  split
  · exact Grown.refl t
  · split
    · exact Grown.refl t
    · exact State.sealOwner_grown _ _

theorem execSecRetire_grown (s : State) : Grown s (resultOf (execSecRetire s) s) := by
  refine runCmd_grown _ _ _ (fun q t => ?_)
  split
  · exact Grown.refl t
  · split
    · exact State.lifeMove_grown _ 3 (by omega)
    · exact Grown.refl t

@[simp] theorem execKeyPairReady_kept (s : State) : (resultOf (execKeyPairReady s) s).kept = s.kept := by
  unfold execKeyPairReady
  simp

theorem State.arbRaise_grown (s : State) (goal : Nat) : Grown s (s.arbRaise goal) := by
  unfold State.arbRaise
  simp only []
  split
  · exact Grown.refl s
  · rename_i h
    refine Grown.right (t := { s with otp := { s.otp with arb := min goal 63 } }) ?_ ?_
    · simp
    · refine ⟨⟨Nat.le_refl _, by simp only; omega, ?_, rfl, rfl, rfl, rfl⟩, rfl, rfl⟩
      rintro ⟨h1, h2⟩
      refine ⟨h1, ?_⟩
      simp only
      omega

theorem execArbRaise_grown (v : Word) (s : State) : Grown s (resultOf (execArbRaise v s) s) := by
  unfold execArbRaise
  rw [resultOf_next]
  split
  · exact State.arbRaise_grown _ _
  · exact Grown.refl s

end Sys2Proof.Machine
end

