-- ==== Sys2Proof/Laws/KeptVlt.lean ====
section
/-! SUPPORT. What the operations of Machine/Vlt.lean keep: the one-time-programmable store, the queue of commands and the tick count. -/

namespace Sys2Proof.Machine

@[simp] theorem State.flashTear_kept (s : State) : (@State.flashTear s).kept = s.kept := by
  unfold State.flashTear
  extract_lets +onlyGivenNames tear s1 s2
  have ht : ∀ a n t, (tear a n t).kept = t.kept := by intro a n t; simp [tear]
  have h1 : s1.kept = s.kept := by simp only [s1]; split <;> simp [ht]
  have h2 : s2.kept = s.kept := by simp only [s2]; split <;> simp [ht, h1]
  clear_value tear s2 s1
  split <;> simp [ht, h2]

/-- From `s` to `t` the one-time-programmable store and the queue are the same. -/
def Stays (s t : State) : Prop := t.otp = s.otp ∧ t.pending = s.pending

theorem Stays.of {s t : State} (h : t.kept = s.kept) : Stays s t := ⟨kept_otp h, kept_pending h⟩

theorem Stays.trans {s t u : State} (h : Stays s t) (g : Stays t u) : Stays s u := ⟨g.1.trans h.1, g.2.trans h.2⟩

theorem Stays.right {s t u : State} (h : u.kept = t.kept) (g : Stays s t) : Stays s u := g.trans (Stays.of h)

theorem State.deviceReset_stays (s : State) (c : Cause) : Stays s (s.deviceReset c) := by
  have f := State.flashTear_kept s
  unfold State.deviceReset
  extract_lets u r t bits
  refine Stays.trans (t := t) ?_ (Stays.of (by simp))
  exact ⟨(kept_otp f : u.otp = s.otp), (kept_pending f : u.pending = s.pending)⟩

theorem State.powerReset_stays (s : State) : Stays s s.powerReset := by
  unfold State.powerReset
  exact Stays.right (by simp) (State.deviceReset_stays s .power)

theorem State.toVault_stays (s : State) : Stays s s.toVault := by
  unfold State.toVault
  exact Stays.right (by simp) (State.powerReset_stays s)

theorem execResetPin_stays (ns : Nat) (s : State) : Stays s (resultOf (execResetPin ns s) s) := by
  unfold execResetPin
  rw [resultOf_next]
  split
  · exact Stays.of rfl
  · split
    · exact State.powerReset_stays s
    · simp only []
      split
      · exact (Stays.of (fresh_kept s)).trans (State.powerReset_stays _)
      · exact Stays.of (fresh_kept s)

theorem execCommandResetDelay_stays (s : State) : Stays s (resultOf (execCommandResetDelay s) s) := by
  unfold execCommandResetDelay
  rw [resultOf_next]
  split
  · exact State.deviceReset_stays s .command
  · exact Stays.of rfl

@[simp] theorem execPorEnd_kept (s : State) : (resultOf (execPorEnd s) s).kept = s.kept := by
  unfold execPorEnd
  simp

theorem execSupplyRise_stays (s : State) : Stays s (resultOf (execSupplyRise s) s) := by
  unfold execSupplyRise
  rw [resultOf_next]
  split
  · exact Stays.of rfl
  · exact Stays.right (by simp) (State.powerReset_stays s)

theorem execSupplyMonitorTrip_stays (rail : Fin 6) (rising : Bool) (s : State) : Stays s (resultOf (execSupplyMonitorTrip rail rising s) s) := by
  unfold execSupplyMonitorTrip
  have h : ∀ r : Nat, ({ s with vlt := { s.vlt with rails := r } } : State).kept = s.kept := by intro r; simp
  rw [resultOf_next]
  simp only []
  split
  · exact Stays.of (h _)
  · split
    · exact Stays.of (by simp)
    · split
      · exact (Stays.of (h _)).trans (State.toVault_stays _)
      · exact (Stays.of (h _)).trans (State.powerReset_stays _)

theorem execAnalogTrip_stays (s : State) : Stays s (resultOf (execAnalogTrip s) s) := by
  unfold execAnalogTrip
  rw [resultOf_next]
  split
  · exact (Stays.of (by simp)).trans (State.toVault_stays _)
  · exact Stays.of rfl

@[simp] theorem State.vaultAdvance_kept (s : State) (adv : Nat) : (@State.vaultAdvance s adv).kept = s.kept := by
  unfold State.vaultAdvance
  simp

@[simp] theorem execRtcSet_kept (v : Word) (s : State) : (resultOf (execRtcSet v s) s).kept = s.kept := by
  unfold execRtcSet
  simp

@[simp] theorem execOpsecSecond_kept (adv : Nat) (s : State) : (resultOf (execOpsecSecond adv s) s).kept = s.kept := by
  unfold execOpsecSecond
  simp

@[simp] theorem State.psuOn_kept (s : State) (cause : Nat) : (@State.psuOn s cause).kept = s.kept := by
  unfold State.psuOn
  simp

@[simp] theorem execWakeRequest_kept (adv : Nat) (s : State) : (resultOf (execWakeRequest adv s) s).kept = s.kept := by
  unfold execWakeRequest
  simp

@[simp] theorem execRtcAlarm_kept (adv : Nat) (s : State) : (resultOf (execRtcAlarm adv s) s).kept = s.kept := by
  unfold execRtcAlarm
  simp

@[simp] theorem execSleepRequest_kept (v : Word) (s : State) : (resultOf (execSleepRequest v s) s).kept = s.kept := by
  unfold execSleepRequest
  simp

@[simp] theorem execPsuEnDrop_kept (s : State) : (resultOf (execPsuEnDrop s) s).kept = s.kept := by
  unfold execPsuEnDrop
  simp

@[simp] theorem execVltClearLost_kept (s : State) : (resultOf (execVltClearLost s) s).kept = s.kept := by
  unfold execVltClearLost
  simp

@[simp] theorem State.clearTlog_kept (s : State) : (@State.clearTlog s).kept = s.kept := by
  unfold State.clearTlog
  simp

@[simp] theorem execVltClearTlog_kept (s : State) : (resultOf (execVltClearTlog s) s).kept = s.kept := by
  unfold execVltClearTlog
  simp

@[simp] theorem execVltClearTrip_kept (s : State) : (resultOf (execVltClearTrip s) s).kept = s.kept := by
  unfold execVltClearTrip
  simp

@[simp] theorem State.tlogAdd_kept (s : State) (src : Nat) (detail : Nat) : (@State.tlogAdd s src detail).kept = s.kept := by
  unfold State.tlogAdd
  (repeat' split) <;> simp

@[simp] theorem State.markTampered_kept (s : State) : (@State.markTampered s).kept = s.kept := by
  unfold State.markTampered
  simp

@[simp] theorem State.tamper_kept (s : State) (src : Nat) (detail : Nat) : (@State.tamper s src detail).kept = s.kept := by
  unfold State.tamper
  simp

@[simp] theorem execTamperSample_kept (lidIn : Bool) (tampA : Bool) (tampB : Bool) (adv : Nat) (s : State) : (resultOf (execTamperSample lidIn tampA tampB adv s) s).kept = s.kept := by
  unfold execTamperSample
  simp

@[simp] theorem execVbatLow_kept (low : Bool) (mv : BitVec 16) (adv : Nat) (s : State) : (resultOf (execVbatLow low mv adv s) s).kept = s.kept := by
  unfold execVbatLow
  simp

@[simp] theorem execVaultClockFault_kept (adv : Nat) (s : State) : (resultOf (execVaultClockFault adv s) s).kept = s.kept := by
  unfold execVaultClockFault
  simp

@[simp] theorem execVaultTempCheck_kept (t : BitVec 16) (adv : Nat) (s : State) : (resultOf (execVaultTempCheck t adv s) s).kept = s.kept := by
  unfold execVaultTempCheck
  simp

@[simp] theorem execVbatInsert_kept (s : State) : (resultOf (execVbatInsert s) s).kept = s.kept := by
  unfold execVbatInsert
  simp

end Sys2Proof.Machine
end

