-- ==== Sys2Proof/Laws/KeptBoot.lean ====
section
/-! SUPPORT. What the operations of Machine/Boot.lean keep: the one-time-programmable store, the queue of commands and the tick count. -/

namespace Sys2Proof.Machine

@[simp] theorem State.boardSetup_kept (s : State) (b : Option (Nat × Nat × Nat × Nat)) : (@State.boardSetup s b).kept = s.kept := by
  unfold State.boardSetup
  simp

@[simp] theorem State.runSlot_kept (s : State) (k : Nat) : (@State.runSlot s k).kept = s.kept := by
  unfold State.runSlot
  simp

@[simp] theorem State.recover_kept (s : State) : (@State.recover s).kept = s.kept := by
  unfold State.recover
  simp

@[simp] theorem execBootMeasureDone_kept (s : State) : (resultOf (execBootMeasureDone s) s).kept = s.kept := by
  unfold execBootMeasureDone
  simp

@[simp] theorem State.raiseCounter_kept (s : State) (f : Fref) (v : Nat) : (@State.raiseCounter s f v).kept = s.kept := by
  unfold State.raiseCounter
  simp

@[simp] theorem execCounterRestore_kept (s : State) : (resultOf (execCounterRestore s) s).kept = s.kept := by
  unfold execCounterRestore
  repeat' first
    | (extract_lets +onlyGivenNames x; first
      | (have hx : State.kept x = State.kept s := (by first | (simp [x, *]; done) | (simp only [x]; (repeat' split) <;> simp [*]; done)); clear_value x)
      | (have hx : ∀ t : State, State.kept (x t) = State.kept t := (by intro t; first | (simp [x, *]; done) | (simp only [x]; (repeat' split) <;> simp [*]; done)); clear_value x)
      | (have hx := fun a => x a; clear hx)
      | clear_value x)
    | (simp [*]; done)
    | (split <;> try (rename_i heq; first
       | (have hk := congrArg (fun p => State.kept (Prod.snd p)) heq.symm; simp at hk)
       | (have hk := congrArg (fun p => State.kept (Prod.snd (Prod.snd p))) heq.symm; simp at hk)
       | (have hk := congrArg (fun p => State.kept (Prod.fst p)) heq.symm; simp at hk)))
    | (simp +zetaDelta [*]; done)

@[simp] theorem State.tlogFault_kept (s : State) (i : Nat) : (@State.tlogFault s i).kept = s.kept := by
  unfold State.tlogFault
  simp

@[simp] theorem State.copyTlog_kept (s : State) : (@State.copyTlog s).kept = s.kept := by
  unfold State.copyTlog
  simp

@[simp] theorem State.readTrip_kept (s : State) : (@State.readTrip s).kept = s.kept := by
  unfold State.readTrip
  simp

@[simp] theorem State.loadTrims_kept (s : State) : (@State.loadTrims s).kept = s.kept := by
  unfold State.loadTrims
  (repeat' split) <;> simp

@[simp] theorem State.bootRecord_kept (s : State) : (@State.bootRecord s).kept = s.kept := by
  unfold State.bootRecord
  simp

@[simp] theorem State.recoveryWindow_kept (s : State) : (@State.recoveryWindow s).kept = s.kept := by
  unfold State.recoveryWindow
  simp

@[simp] theorem execFwReadySet_kept (s : State) : (resultOf (execFwReadySet s) s).kept = s.kept := by
  unfold execFwReadySet
  simp

@[simp] theorem State.fwEnd_kept (s : State) (st : Nat) : (@State.fwEnd s st).kept = s.kept := by
  unfold State.fwEnd
  simp

@[simp] theorem State.fwGo_kept (s : State) : (@State.fwGo s).kept = s.kept := by
  unfold State.fwGo
  repeat' first
    | (extract_lets +onlyGivenNames x; first
      | (have hx : State.kept x = State.kept s := (by first | (simp [x, *]; done) | (simp only [x]; (repeat' split) <;> simp [*]; done)); clear_value x)
      | (have hx : ∀ t : State, State.kept (x t) = State.kept t := (by intro t; first | (simp [x, *]; done) | (simp only [x]; (repeat' split) <;> simp [*]; done)); clear_value x)
      | (have hx := fun a => x a; clear hx)
      | clear_value x)
    | (simp [*]; done)
    | (split <;> try (rename_i heq; first
       | (have hk := congrArg (fun p => State.kept (Prod.snd p)) heq.symm; simp at hk)
       | (have hk := congrArg (fun p => State.kept (Prod.snd (Prod.snd p))) heq.symm; simp at hk)
       | (have hk := congrArg (fun p => State.kept (Prod.fst p)) heq.symm; simp at hk)))
    | (simp +zetaDelta [*]; done)

@[simp] theorem State.fwStep_kept (s : State) (op : Nat) (a : Nat) (ok : Bool) : (@State.fwStep s op a ok).kept = s.kept := by
  unfold State.fwStep
  (repeat' split) <;> simp

@[simp] theorem execSecFwWrite_kept (s : State) : (resultOf (execSecFwWrite s) s).kept = s.kept := by
  unfold execSecFwWrite
  refine runCmd_kept _ _ _ (fun q s => ?_)
  (repeat' split) <;> simp

@[simp] theorem execXspiOpDone_kept (ok : Bool) (s : State) : (resultOf (execXspiOpDone ok s) s).kept = s.kept := by
  unfold execXspiOpDone
  repeat' first
    | (extract_lets +onlyGivenNames x; first
      | (have hx : State.kept x = State.kept s := (by first | (simp [x, *]; done) | (simp only [x]; (repeat' split) <;> simp [*]; done)); clear_value x)
      | (have hx : ∀ t : State, State.kept (x t) = State.kept t := (by intro t; first | (simp [x, *]; done) | (simp only [x]; (repeat' split) <;> simp [*]; done)); clear_value x)
      | (have hx := fun a => x a; clear hx)
      | clear_value x)
    | (simp [*]; done)
    | (split <;> try (rename_i heq; first
       | (have hk := congrArg (fun p => State.kept (Prod.snd p)) heq.symm; simp at hk)
       | (have hk := congrArg (fun p => State.kept (Prod.snd (Prod.snd p))) heq.symm; simp at hk)
       | (have hk := congrArg (fun p => State.kept (Prod.fst p)) heq.symm; simp at hk)))
    | (simp +zetaDelta [*]; done)

@[simp] theorem execSecFwActivate_kept (s : State) : (resultOf (execSecFwActivate s) s).kept = s.kept := by
  unfold execSecFwActivate
  simp

theorem execSecFwConfirm_grown (s : State) : Grown s (resultOf (execSecFwConfirm s) s) := by
  refine runCmd_grown _ _ _ (fun q t => ?_)
  simp only []
  split
  · exact Grown.refl t
  · exact Grown.left (by simp) (State.arbRaise_grown _ _)

end Sys2Proof.Machine
end

