-- ==== Sys2Proof/Laws/KeptCam.lean ====
section
/-! SUPPORT. What the operations of Machine/Cam.lean keep: the one-time-programmable store, the queue of commands and the tick count. -/

namespace Sys2Proof.Machine

@[simp] theorem State.setCamCtx_kept (s : State) (c : Nat) (x : CamCtx) : (@State.setCamCtx s c x).kept = s.kept := by
  unfold State.setCamCtx
  simp

@[simp] theorem State.camShow_kept (s : State) : (@State.camShow s).kept = s.kept := by
  unfold State.camShow
  simp

@[simp] theorem State.camLoad_kept (s : State) (c : Nat) : (@State.camLoad s c).kept = s.kept := by
  unfold State.camLoad
  simp

@[simp] theorem State.camApply_kept (s : State) (c : Nat) : (@State.camApply s c).kept = s.kept := by
  unfold State.camApply
  simp

@[simp] theorem execCtxApply_kept (v : Word) (s : State) : (resultOf (execCtxApply v s) s).kept = s.kept := by
  unfold execCtxApply
  simp

@[simp] theorem State.camComplete_kept (s : State) (f : CamFrame) (words : List Word) (tick : Nat) (phase : Nat) : (@State.camComplete s f words tick phase).kept = s.kept := by
  unfold State.camComplete
  repeat' first
    | (extract_lets +onlyGivenNames x; first
      | (have hx : State.kept x = State.kept s := (by first | (simp [x, *]; done) | (simp only [x]; (repeat' split) <;> simp [*]; done)); clear_value x)
      | (have hx : ∀ t : State, State.kept (x t) = State.kept t := (by intro t; first | (simp [x, *]; done) | (simp only [x]; (repeat' split) <;> simp [*]; done)); clear_value x)
      | (have hx := fun a => x a; clear hx)
      | clear_value x)
    | (simp [*]; done)
    | (split <;> try (rename_i heq; first
       | (have hk := congrArg (fun p => State.kept (Prod.snd p)) heq.symm; simp at hk)
       | (have hk := congrArg (fun p => State.kept (Prod.snd (Prod.snd p))) heq.symm; simp at hk)
       | (have hk := congrArg (fun p => State.kept (Prod.fst p)) heq.symm; simp at hk)))
    | (simp +zetaDelta [*]; done)

@[simp] theorem State.camEdge_kept (s : State) : (@State.camEdge s).kept = s.kept := by
  unfold State.camEdge
  simp

@[simp] theorem State.camDrop_kept (s : State) (f : CamFrame) (code : Nat) (flag : Fref) (once : Bool) (phase : Nat) : (@State.camDrop s f code flag once phase).kept = s.kept := by
  unfold State.camDrop
  simp

@[simp] theorem State.dropOpen_kept (s : State) (c : Nat) (code : Nat) (flag : Fref) (phase : Nat) : (@State.dropOpen s c code flag phase).kept = s.kept := by
  unfold State.dropOpen
  (repeat' split) <;> simp

@[simp] theorem State.dropMalformed_kept (s : State) (c : Nat) (phase : Nat) : (@State.dropMalformed s c phase).kept = s.kept := by
  unfold State.dropMalformed
  (repeat' split) <;> simp

@[simp] theorem State.dropOverflow_kept (s : State) (c : Nat) (phase : Nat) : (@State.dropOverflow s c phase).kept = s.kept := by
  unfold State.dropOverflow
  (repeat' split) <;> simp

@[simp] theorem State.unsupported_kept (s : State) (port : Nat) : (@State.unsupported s port).kept = s.kept := by
  unfold State.unsupported
  simp

@[simp] theorem State.eccCorr_kept (s : State) (port : Nat) (corr : Bool) : (@State.eccCorr s port corr).kept = s.kept := by
  unfold State.eccCorr
  simp

@[simp] theorem State.camSync_kept (s : State) (n : Nat) : (@State.camSync s n).kept = s.kept := by
  unfold State.camSync
  simp

@[simp] theorem State.camUlps_kept (s : State) (n : Nat) (enter : Bool) : (@State.camUlps s n enter).kept = s.kept := by
  unfold State.camUlps
  simp

@[simp] theorem State.camPortOff_kept (s : State) (n : Nat) : (@State.camPortOff s n).kept = s.kept := by
  unfold State.camPortOff
  simp

@[simp] theorem State.crcErr_kept (s : State) (port : Nat) (c : Nat) : (@State.crcErr s port c).kept = s.kept := by
  unfold State.crcErr
  simp

@[simp] theorem State.trigLost_kept (s : State) (c : Nat) : (@State.trigLost s c).kept = s.kept := by
  unfold State.trigLost
  simp

@[simp] theorem State.trigDiscard_kept (s : State) (c : Nat) : (@State.trigDiscard s c).kept = s.kept := by
  unfold State.trigDiscard
  simp

@[simp] theorem State.openFrame_kept (s : State) (c : Nat) (w : Nat) (fits : Bool) (phase : Nat) : (@State.openFrame s c w fits phase).kept = s.kept := by
  unfold State.openFrame
  simp

@[simp] theorem State.abandonOpen_kept (s : State) (c : Nat) (phase : Nat) : (@State.abandonOpen s c phase).kept = s.kept := by
  unfold State.abandonOpen
  simp

@[simp] theorem execCsiFrameStart_kept (port : Fin 4) (vc : Fin 16) (w : BitVec 16) (corr : Bool) (phase : Nat) (s : State) : (resultOf (execCsiFrameStart port vc w corr phase s) s).kept = s.kept := by
  unfold execCsiFrameStart
  simp

@[simp] theorem State.frameLine_kept (s : State) (c : Nat) (port : Nat) (px : List Nat) (crcOk : Bool) (phase : Nat) : (@State.frameLine s c port px crcOk phase).kept = s.kept := by
  unfold State.frameLine
  (repeat' split) <;> simp

@[simp] theorem execCsiLine_kept (port : Fin 4) (vc : Fin 16) (dt : BitVec 6) (px : List Nat) (corr : Bool) (crcOk : Bool) (phase : Nat) (s : State) : (resultOf (execCsiLine port vc dt px corr crcOk phase s) s).kept = s.kept := by
  unfold execCsiLine
  repeat' first
    | (extract_lets +onlyGivenNames x; first
      | (have hx : State.kept x = State.kept s := (by first | (simp [x, *]; done) | (simp only [x]; (repeat' split) <;> simp [*]; done)); clear_value x)
      | (have hx : ∀ t : State, State.kept (x t) = State.kept t := (by intro t; first | (simp [x, *]; done) | (simp only [x]; (repeat' split) <;> simp [*]; done)); clear_value x)
      | (have hx := fun a => x a; clear hx)
      | clear_value x)
    | (simp [*]; done)
    | (split <;> try (rename_i heq; first
       | (have hk := congrArg (fun p => State.kept (Prod.snd p)) heq.symm; simp at hk)
       | (have hk := congrArg (fun p => State.kept (Prod.snd (Prod.snd p))) heq.symm; simp at hk)
       | (have hk := congrArg (fun p => State.kept (Prod.fst p)) heq.symm; simp at hk)))
    | (simp +zetaDelta [*]; done)

@[simp] theorem State.closeFrame_kept (s : State) (c : Nat) (stamp : Nat) (phase : Nat) : (@State.closeFrame s c stamp phase).kept = s.kept := by
  unfold State.closeFrame
  repeat' first
    | (extract_lets +onlyGivenNames x; first
      | (have hx : State.kept x = State.kept s := (by first | (simp [x, *]; done) | (simp only [x]; (repeat' split) <;> simp [*]; done)); clear_value x)
      | (have hx : ∀ t : State, State.kept (x t) = State.kept t := (by intro t; first | (simp [x, *]; done) | (simp only [x]; (repeat' split) <;> simp [*]; done)); clear_value x)
      | (have hx := fun a => x a; clear hx)
      | clear_value x)
    | (simp [*]; done)
    | (split <;> try (rename_i heq; first
       | (have hk := congrArg (fun p => State.kept (Prod.snd p)) heq.symm; simp at hk)
       | (have hk := congrArg (fun p => State.kept (Prod.snd (Prod.snd p))) heq.symm; simp at hk)
       | (have hk := congrArg (fun p => State.kept (Prod.fst p)) heq.symm; simp at hk)))
    | (simp +zetaDelta [*]; done)

@[simp] theorem execCsiFrameEnd_kept (port : Fin 4) (vc : Fin 16) (corr : Bool) (same : Bool) (phase : Nat) (s : State) : (resultOf (execCsiFrameEnd port vc corr same phase s) s).kept = s.kept := by
  unfold execCsiFrameEnd
  simp

@[simp] theorem State.embedded_kept (s : State) (c : Nat) (port : Nat) (bs : List Byte) (crcOk : Bool) (phase : Nat) : (@State.embedded s c port bs crcOk phase).kept = s.kept := by
  unfold State.embedded
  repeat' first
    | (extract_lets +onlyGivenNames x; first
      | (have hx : State.kept x = State.kept s := (by first | (simp [x, *]; done) | (simp only [x]; (repeat' split) <;> simp [*]; done)); clear_value x)
      | (have hx : ∀ t : State, State.kept (x t) = State.kept t := (by intro t; first | (simp [x, *]; done) | (simp only [x]; (repeat' split) <;> simp [*]; done)); clear_value x)
      | (have hx := fun a => x a; clear hx)
      | clear_value x)
    | (simp [*]; done)
    | (split <;> try (rename_i heq; first
       | (have hk := congrArg (fun p => State.kept (Prod.snd p)) heq.symm; simp at hk)
       | (have hk := congrArg (fun p => State.kept (Prod.snd (Prod.snd p))) heq.symm; simp at hk)
       | (have hk := congrArg (fun p => State.kept (Prod.fst p)) heq.symm; simp at hk)))
    | (simp +zetaDelta [*]; done)

@[simp] theorem State.otherPacket_kept (s : State) (n : Nat) (vc : Nat) (dt : Nat) (bs : List Byte) (crcOk : Bool) (phase : Nat) : (@State.otherPacket s n vc dt bs crcOk phase).kept = s.kept := by
  unfold State.otherPacket
  simp

@[simp] theorem execCsiOtherPacket_kept (port : Fin 4) (vc : Fin 16) (dt : BitVec 6) (bs : List Byte) (form : CsiForm) (crcOk : Bool) (phase : Nat) (s : State) : (resultOf (execCsiOtherPacket port vc dt bs form crcOk phase s) s).kept = s.kept := by
  unfold execCsiOtherPacket
  (repeat' split) <;> simp

@[simp] theorem execCsiLaneSyncError_kept (port : Fin 4) (lanes : BitVec 4) (s : State) : (resultOf (execCsiLaneSyncError port lanes s) s).kept = s.kept := by
  unfold execCsiLaneSyncError
  simp

@[simp] theorem execFrameOpenTimeout_kept (c : Fin 32) (phase : Nat) (s : State) : (resultOf (execFrameOpenTimeout c phase s) s).kept = s.kept := by
  unfold execFrameOpenTimeout
  simp

@[simp] theorem State.admitLine_kept (s : State) (c : Nat) (ue : Bool) (phase : Nat) : (@State.admitLine s c ue phase).kept = s.kept := by
  unfold State.admitLine
  repeat' first
    | (extract_lets +onlyGivenNames x; first
      | (have hx : State.kept x = State.kept s := (by first | (simp [x, *]; done) | (simp only [x]; (repeat' split) <;> simp [*]; done)); clear_value x)
      | (have hx : ∀ t : State, State.kept (x t) = State.kept t := (by intro t; first | (simp [x, *]; done) | (simp only [x]; (repeat' split) <;> simp [*]; done)); clear_value x)
      | (have hx := fun a => x a; clear hx)
      | clear_value x)
    | (simp [*]; done)
    | (split <;> try (rename_i heq; first
       | (have hk := congrArg (fun p => State.kept (Prod.snd p)) heq.symm; simp at hk)
       | (have hk := congrArg (fun p => State.kept (Prod.snd (Prod.snd p))) heq.symm; simp at hk)
       | (have hk := congrArg (fun p => State.kept (Prod.fst p)) heq.symm; simp at hk)))
    | (simp +zetaDelta [*]; done)

@[simp] theorem execFrameAdmit_kept (ue : Bool) (phase : Nat) (s : State) : (resultOf (execFrameAdmit ue phase s) s).kept = s.kept := by
  unfold execFrameAdmit
  (repeat' split) <;> simp

@[simp] theorem State.camWrite_kept (s : State) (f : CamFrame) (roi : List (List Nat)) (desc : List Word) (stats : List Word) : (@State.camWrite s f roi desc stats).kept = s.kept := by
  unfold State.camWrite
  repeat' first
    | (extract_lets +onlyGivenNames x; first
      | (have hx : State.kept x = State.kept s := (by first | (simp [x, *]; done) | (simp only [x]; (repeat' split) <;> simp [*]; done)); clear_value x)
      | (have hx : ∀ t : State, State.kept (x t) = State.kept t := (by intro t; first | (simp [x, *]; done) | (simp only [x]; (repeat' split) <;> simp [*]; done)); clear_value x)
      | (have hx := fun a => x a; clear hx)
      | clear_value x)
    | (simp [*]; done)
    | (split <;> try (rename_i heq; first
       | (have hk := congrArg (fun p => State.kept (Prod.snd p)) heq.symm; simp at hk)
       | (have hk := congrArg (fun p => State.kept (Prod.snd (Prod.snd p))) heq.symm; simp at hk)
       | (have hk := congrArg (fun p => State.kept (Prod.fst p)) heq.symm; simp at hk)))
    | (simp +zetaDelta [*]; done)

@[simp] theorem State.dlogLose_kept (s : State) (c : Nat) : (@State.dlogLose s c).kept = s.kept := by
  unfold State.dlogLose
  simp

@[simp] theorem State.camLog_kept (s : State) (f : CamFrame) (desc : List Word) : (@State.camLog s f desc).kept = s.kept := by
  unfold State.camLog
  simp

@[simp] theorem State.camProcess_kept (s : State) (f : CamFrame) (phase : Nat) : (@State.camProcess s f phase).kept = s.kept := by
  unfold State.camProcess
  extract_lets free x valid o p fl desc stats c s1 s2 s3 s4 s5 s6 s7
  have h1 : s1.kept = s.kept := by simp [s1]
  have h2 : s2.kept = s.kept := by simp [s2, h1]
  have h3 : s3.kept = s.kept := by simp [s3, h2]
  have h4 : s4.kept = s.kept := by simp [s4, h3]
  have h5 : s5.kept = s.kept := by simp [s5, h4]
  have h6 : s6.kept = s.kept := by simp [s6, h5]
  have h7 : s7.kept = s.kept := by simp [s7, h6]
  clear_value s7
  split <;> simp [h7]

@[simp] theorem execFrameDone_kept (c : Fin 32) (phase : Nat) (s : State) : (resultOf (execFrameDone c phase s) s).kept = s.kept := by
  unfold execFrameDone
  (repeat' split) <;> simp

@[simp] theorem execBufferHeaderWrite_kept (c : Fin 32) (s : State) : (resultOf (execBufferHeaderWrite c s) s).kept = s.kept := by
  unfold execBufferHeaderWrite
  repeat' first
    | (extract_lets +onlyGivenNames x; first
      | (have hx : State.kept x = State.kept s := (by first | (simp [x, *]; done) | (simp only [x]; (repeat' split) <;> simp [*]; done)); clear_value x)
      | (have hx : ∀ t : State, State.kept (x t) = State.kept t := (by intro t; first | (simp [x, *]; done) | (simp only [x]; (repeat' split) <;> simp [*]; done)); clear_value x)
      | (have hx := fun a => x a; clear hx)
      | clear_value x)
    | (simp [*]; done)
    | (split <;> try (rename_i heq; first
       | (have hk := congrArg (fun p => State.kept (Prod.snd p)) heq.symm; simp at hk)
       | (have hk := congrArg (fun p => State.kept (Prod.snd (Prod.snd p))) heq.symm; simp at hk)
       | (have hk := congrArg (fun p => State.kept (Prod.fst p)) heq.symm; simp at hk)))
    | (simp +zetaDelta [*]; done)

@[simp] theorem State.dlogLoseAll_kept (s : State) : (@State.dlogLoseAll s).kept = s.kept := by
  unfold State.dlogLoseAll
  simp

@[simp] theorem execDlogRecordWrite_kept (s : State) : (resultOf (execDlogRecordWrite s) s).kept = s.kept := by
  unfold execDlogRecordWrite
  repeat' first
    | (extract_lets +onlyGivenNames x; first
      | (have hx : State.kept x = State.kept s := (by first | (simp [x, *]; done) | (simp only [x]; (repeat' split) <;> simp [*]; done)); clear_value x)
      | (have hx : ∀ t : State, State.kept (x t) = State.kept t := (by intro t; first | (simp [x, *]; done) | (simp only [x]; (repeat' split) <;> simp [*]; done)); clear_value x)
      | (have hx := fun a => x a; clear hx)
      | clear_value x)
    | (simp [*]; done)
    | (split <;> try (rename_i heq; first
       | (have hk := congrArg (fun p => State.kept (Prod.snd p)) heq.symm; simp at hk)
       | (have hk := congrArg (fun p => State.kept (Prod.snd (Prod.snd p))) heq.symm; simp at hk)
       | (have hk := congrArg (fun p => State.kept (Prod.fst p)) heq.symm; simp at hk)))
    | (simp +zetaDelta [*]; done)

@[simp] theorem State.camLogEn_kept (s : State) (en : Bool) : (@State.camLogEn s en).kept = s.kept := by
  unfold State.camLogEn
  simp

@[simp] theorem State.camShowDef_kept (s : State) : (@State.camShowDef s).kept = s.kept := by
  unfold State.camShowDef
  simp

@[simp] theorem execDefDataAccess_kept (v : Option Word) (s : State) : (resultOf (execDefDataAccess v s) s).kept = s.kept := by
  unfold execDefDataAccess
  (repeat' split) <;> simp

@[simp] theorem State.camTrigger_kept (s : State) (o : Nat) : (@State.camTrigger s o).kept = s.kept := by
  unfold State.camTrigger
  repeat' first
    | (extract_lets +onlyGivenNames x; first
      | (have hx : State.kept x = State.kept s := (by first | (simp [x, *]; done) | (simp only [x]; (repeat' split) <;> simp [*]; done)); clear_value x)
      | (have hx : ∀ t : State, State.kept (x t) = State.kept t := (by intro t; first | (simp [x, *]; done) | (simp only [x]; (repeat' split) <;> simp [*]; done)); clear_value x)
      | (have hx := fun a => x a; clear hx)
      | clear_value x)
    | (simp [*]; done)
    | (split <;> try (rename_i heq; first
       | (have hk := congrArg (fun p => State.kept (Prod.snd p)) heq.symm; simp at hk)
       | (have hk := congrArg (fun p => State.kept (Prod.snd (Prod.snd p))) heq.symm; simp at hk)
       | (have hk := congrArg (fun p => State.kept (Prod.fst p)) heq.symm; simp at hk)))
    | (simp +zetaDelta [*]; done)

@[simp] theorem execTriggerPulseEnd_kept (o : Fin 17) (s : State) : (resultOf (execTriggerPulseEnd o s) s).kept = s.kept := by
  unfold execTriggerPulseEnd
  simp

@[simp] theorem execExposureArm_kept (c : Fin 32) (phase : Nat) (s : State) : (resultOf (execExposureArm c phase s) s).kept = s.kept := by
  unfold execExposureArm
  simp

@[simp] theorem State.cciStart_kept (s : State) (n : Nat) : (@State.cciStart s n).kept = s.kept := by
  unfold State.cciStart
  (repeat' split) <;> simp

@[simp] theorem State.camCommit_kept (s : State) (arms : Nat) : (@State.camCommit s arms).kept = s.kept := by
  unfold State.camCommit
  simp

@[simp] theorem execCciWriteDone_kept (port : Fin 4) (ok : Bool) (s : State) : (resultOf (execCciWriteDone port ok s) s).kept = s.kept := by
  unfold execCciWriteDone
  repeat' first
    | (extract_lets +onlyGivenNames x; first
      | (have hx : State.kept x = State.kept s := (by first | (simp [x, *]; done) | (simp only [x]; (repeat' split) <;> simp [*]; done)); clear_value x)
      | (have hx : ∀ t : State, State.kept (x t) = State.kept t := (by intro t; first | (simp [x, *]; done) | (simp only [x]; (repeat' split) <;> simp [*]; done)); clear_value x)
      | (have hx := fun a => x a; clear hx)
      | clear_value x)
    | (simp [*]; done)
    | (split <;> try (rename_i heq; first
       | (have hk := congrArg (fun p => State.kept (Prod.snd p)) heq.symm; simp at hk)
       | (have hk := congrArg (fun p => State.kept (Prod.snd (Prod.snd p))) heq.symm; simp at hk)
       | (have hk := congrArg (fun p => State.kept (Prod.fst p)) heq.symm; simp at hk)))
    | (simp +zetaDelta [*]; done)

@[simp] theorem execCamPortSet_kept (s : State) : (resultOf (execCamPortSet s) s).kept = s.kept := by
  unfold execCamPortSet
  refine runCmd_kept _ _ _ (fun q s => ?_)
  (repeat' split) <;> simp

@[simp] theorem execCamContextSet_kept (s : State) : (resultOf (execCamContextSet s) s).kept = s.kept := by
  unfold execCamContextSet
  refine runCmd_kept _ _ _ (fun q s => ?_)
  (repeat' split) <;> simp

@[simp] theorem execCamExposureSet_kept (s : State) : (resultOf (execCamExposureSet s) s).kept = s.kept := by
  unfold execCamExposureSet
  refine runCmd_kept _ _ _ (fun q s => ?_)
  repeat' first
    | (extract_lets +onlyGivenNames x; first
      | (have hx : State.kept x = State.kept s := (by first | (simp [x, *]; done) | (simp only [x]; (repeat' split) <;> simp [*]; done)); clear_value x)
      | (have hx : ∀ t : State, State.kept (x t) = State.kept t := (by intro t; first | (simp [x, *]; done) | (simp only [x]; (repeat' split) <;> simp [*]; done)); clear_value x)
      | (have hx := fun a => x a; clear hx)
      | clear_value x)
    | (simp [*]; done)
    | (split <;> try (rename_i heq; first
       | (have hk := congrArg (fun p => State.kept (Prod.snd p)) heq.symm; simp at hk)
       | (have hk := congrArg (fun p => State.kept (Prod.snd (Prod.snd p))) heq.symm; simp at hk)
       | (have hk := congrArg (fun p => State.kept (Prod.fst p)) heq.symm; simp at hk)))
    | (simp +zetaDelta [*]; done)

@[simp] theorem execCamStatsRead_kept (s : State) : (resultOf (execCamStatsRead s) s).kept = s.kept := by
  unfold execCamStatsRead
  refine runCmd_kept _ _ _ (fun q s => ?_)
  (repeat' split) <;> simp

end Sys2Proof.Machine
end

