-- ==== Sys2Proof/Laws/KeptTrigger.lean ====
section
/-! SUPPORT. What the operations of Machine/Trigger.lean keep: the one-time-programmable store, the queue of commands and the tick count. -/

namespace Sys2Proof.Machine

@[simp] theorem State.putTarget_kept (s : State) (k : Nat) (v : Nat) : (@State.putTarget s k v).kept = s.kept := by
  unfold State.putTarget
  simp

@[simp] theorem State.ttAction_kept (s : State) (k : Nat) (phase : Nat) (aux : List Nat) : (@State.ttAction s k phase aux).kept = s.kept := by
  unfold State.ttAction
  (repeat' split) <;> simp

@[simp] theorem State.ttFire_kept (s : State) (k : Nat) (phase : Nat) (aux : List Nat) (jumped : Bool) : (@State.ttFire s k phase aux jumped).kept = s.kept := by
  unfold State.ttFire
  simp

@[simp] theorem State.ttUnjump_kept (s : State) : (@State.ttUnjump s).kept = s.kept := by
  unfold State.ttUnjump
  simp

@[simp] theorem execTriggerFire_kept (k : Fin 16) (adv : Nat) (phase : Nat) (aux : List Nat) (s : State) : (resultOf (execTriggerFire k adv phase aux s) s).kept = s.kept := by
  unfold execTriggerFire
  simp

@[simp] theorem State.ttArm_kept (s : State) (k : Nat) : (@State.ttArm s k).kept = s.kept := by
  unfold State.ttArm
  simp

@[simp] theorem State.ttCtrlWrite_kept (s : State) (k : Nat) (v : Word) : (@State.ttCtrlWrite s k v).kept = s.kept := by
  unfold State.ttCtrlWrite
  simp

@[simp] theorem execTriggerArm_kept (k : Fin 16) (v : Word) (adv : Nat) (s : State) : (resultOf (execTriggerArm k v adv s) s).kept = s.kept := by
  unfold execTriggerArm
  simp

@[simp] theorem State.ttRegWrite_kept (s : State) (k : Nat) (a : Nat) (v : Word) : (@State.ttRegWrite s k a v).kept = s.kept := by
  unfold State.ttRegWrite
  simp

@[simp] theorem State.ofsChange_kept (s : State) (new : Nat) (phase : Nat) (aux : List Nat) : (@State.ofsChange s new phase aux).kept = s.kept := by
  unfold State.ofsChange
  simp

@[simp] theorem execOfsHiWrite_kept (v : Word) (adv : Nat) (phase : Nat) (aux : List Nat) (s : State) : (resultOf (execOfsHiWrite v adv phase aux s) s).kept = s.kept := by
  unfold execOfsHiWrite
  simp

@[simp] theorem State.ttEdge_kept (s : State) (aux : List Nat) : (@State.ttEdge s aux).kept = s.kept := by
  unfold State.ttEdge
  simp

@[simp] theorem State.ttTick_kept (s : State) (f : Nat) (phase : Nat) (aux : List Nat) : (@State.ttTick s f phase aux).kept = s.kept := by
  unfold State.ttTick
  simp

end Sys2Proof.Machine
end

