-- ==== Sys2Proof/Laws/KeptNet.lean ====
section
/-! SUPPORT. What the operations of Machine/Net.lean keep: the one-time-programmable store, the queue of commands and the tick count. -/

namespace Sys2Proof.Machine

@[simp] theorem State.setPort_kept (s : State) (n : Nat) (p : PortSt) : (@State.setPort s n p).kept = s.kept := by
  unfold State.setPort
  simp

@[simp] theorem State.sramWrite_kept (s : State) (a : Nat) (bs : List Byte) : (@State.sramWrite s a bs).kept = s.kept := by
  unfold State.sramWrite
  simp

@[simp] theorem State.rxWrite_kept (s : State) (n : Nat) (bs : List Byte) (fcsOk : Bool) : (@State.rxWrite s n bs fcsOk).kept = s.kept := by
  unfold State.rxWrite
  simp

@[simp] theorem execEthRxFrame_kept (n : Fin 2) (bs : List Byte) (fcsOk : Bool) (adv : Nat) (s : State) : (resultOf (execEthRxFrame n bs fcsOk adv s) s).kept = s.kept := by
  unfold execEthRxFrame
  simp

@[simp] theorem State.txtsShow_kept (s : State) (n : Nat) : (@State.txtsShow s n).kept = s.kept := by
  unfold State.txtsShow
  repeat' first
    | (extract_lets +onlyGivenNames x; first
      | (have hx : State.kept x = State.kept s := (by first | (simp [x, *]; done) | (simp only [x]; (repeat' split) <;> simp [*]; done)); clear_value x)
      | (have hx : ∀ t : State, State.kept (x t) = State.kept t := (by intro t; first | (simp [x, *]; done) | (simp only [x]; (repeat' split) <;> simp [*]; done)); clear_value x)
      | (have hx := fun a => x a; clear hx)
      | clear_value x)
    | (simp [*]; done)
    | (split <;> try (rename_i heq; first
       | (have hk := congrArg (fun p => State.kept (Prod.snd p)) heq.symm; simp at hk)
       | (have hk := congrArg (fun p => State.kept (Prod.snd (Prod.snd p))) heq.symm; simp at hk)
       | (have hk := congrArg (fun p => State.kept (Prod.fst p)) heq.symm; simp at hk)))
    | (simp +zetaDelta [*]; done)

@[simp] theorem State.txtsPush_kept (s : State) (n : Nat) (e : TxTs) : (@State.txtsPush s n e).kept = s.kept := by
  unfold State.txtsPush
  simp

@[simp] theorem State.txDone_kept (s : State) (n : Nat) (ok : Bool) : (@State.txDone s n ok).kept = s.kept := by
  unfold State.txDone
  simp

@[simp] theorem execEthTxFrame_kept (n : Fin 2) (ok : Bool) (adv : Nat) (s : State) : (resultOf (execEthTxFrame n ok adv s) s).kept = s.kept := by
  unfold execEthTxFrame
  simp

@[simp] theorem execTxKick_kept (n : Fin 2) (v : Word) (s : State) : (resultOf (execTxKick n v s) s).kept = s.kept := by
  unfold execTxKick
  simp

@[simp] theorem execTxtsPop_kept (n : Fin 2) (v : Word) (s : State) : (resultOf (execTxtsPop n v s) s).kept = s.kept := by
  unfold execTxtsPop
  (repeat' split) <;> simp

@[simp] theorem execMdioFrame_kept (v : Word) (s : State) : (resultOf (execMdioFrame v s) s).kept = s.kept := by
  unfold execMdioFrame
  simp

@[simp] theorem execMdioDone_kept (data : BitVec 16) (answered : Bool) (s : State) : (resultOf (execMdioDone data answered s) s).kept = s.kept := by
  unfold execMdioDone
  simp

@[simp] theorem execEthLinkChange_kept (n : Fin 2) (up : Bool) (s : State) : (resultOf (execEthLinkChange n up s) s).kept = s.kept := by
  unfold execEthLinkChange
  simp

@[simp] theorem State.ptpSelect_kept (s : State) (n : Nat) (ds : List Nat) (qualify : Bool) : (@State.ptpSelect s n ds qualify).kept = s.kept := by
  unfold State.ptpSelect
  simp

@[simp] theorem execPtpAnnounce_kept (n : Fin 2) (ds : List Nat) (s : State) : (resultOf (execPtpAnnounce n ds s) s).kept = s.kept := by
  unfold execPtpAnnounce
  (repeat' split) <;> simp

@[simp] theorem execPtpAnnounceTimeout_kept (s : State) : (resultOf (execPtpAnnounceTimeout s) s).kept = s.kept := by
  unfold execPtpAnnounceTimeout
  simp

@[simp] theorem State.servoInc_kept (s : State) : (@State.servoInc s).kept = s.kept := by
  unfold State.servoInc
  simp

@[simp] theorem State.ptpQualified_kept (s : State) (offs : List Int) (phase : Nat) (aux : List Nat) : (@State.ptpQualified s offs phase aux).kept = s.kept := by
  unfold State.ptpQualified
  simp

@[simp] theorem execPtpSyncExchange_kept (t1 : Nat) (t2 : Nat) (t3 : Nat) (t4 : Nat) (phase : Nat) (aux : List Nat) (s : State) : (resultOf (execPtpSyncExchange t1 t2 t3 t4 phase aux s) s).kept = s.kept := by
  unfold execPtpSyncExchange
  simp

@[simp] theorem execTimeRead_kept (s : State) : (resultOf (execTimeRead s) s).kept = s.kept := by
  unfold execTimeRead
  simp

@[simp] theorem execTimeIncSet_kept (s : State) : (resultOf (execTimeIncSet s) s).kept = s.kept := by
  unfold execTimeIncSet
  refine runCmd_kept _ _ _ (fun q s => ?_)
  (repeat' split) <;> simp

@[simp] theorem execTimeOfsSet_kept (aux : List Nat) (s : State) : (resultOf (execTimeOfsSet aux s) s).kept = s.kept := by
  unfold execTimeOfsSet
  refine runCmd_kept _ _ _ (fun q s => ?_)
  split
  · rfl
  · split
    · rfl
    · have e := State.set1_kept s KEY_TIME_CTRL_JUMP_ARM 0 0
      by_cases h : q.w 2 = 1 <;> simp [h, kept_otp e, kept_pending e]

@[simp] theorem execTimeDiscSet_kept (s : State) : (resultOf (execTimeDiscSet s) s).kept = s.kept := by
  unfold execTimeDiscSet
  refine runCmd_kept _ _ _ (fun q s => ?_)
  repeat' first
    | (extract_lets +onlyGivenNames x; first
      | (have hx : State.kept x = State.kept s := (by first | (simp [x, *]; done) | (simp only [x]; (repeat' split) <;> simp [*]; done)); clear_value x)
      | (have hx : ∀ t : State, State.kept (x t) = State.kept t := (by intro t; first | (simp [x, *]; done) | (simp only [x]; (repeat' split) <;> simp [*]; done)); clear_value x)
      | (have hx := fun a => x a; clear hx)
      | clear_value x)
    | (simp [*]; done)
    | (split <;> try (rename_i heq; first
       | (have hk := congrArg (fun p => State.kept (Prod.snd p)) heq.symm; simp at hk)
       | (have hk := congrArg (fun p => State.kept (Prod.snd (Prod.snd p))) heq.symm; simp at hk)
       | (have hk := congrArg (fun p => State.kept (Prod.fst p)) heq.symm; simp at hk)))
    | (simp +zetaDelta [*]; done)

@[simp] theorem execTimeTriggerSet_kept (s : State) : (resultOf (execTimeTriggerSet s) s).kept = s.kept := by
  unfold execTimeTriggerSet
  refine runCmd_kept _ _ _ (fun q s => ?_)
  repeat' first
    | (extract_lets +onlyGivenNames x; first
      | (have hx : State.kept x = State.kept s := (by first | (simp [x, *]; done) | (simp only [x]; (repeat' split) <;> simp [*]; done)); clear_value x)
      | (have hx : ∀ t : State, State.kept (x t) = State.kept t := (by intro t; first | (simp [x, *]; done) | (simp only [x]; (repeat' split) <;> simp [*]; done)); clear_value x)
      | (have hx := fun a => x a; clear hx)
      | clear_value x)
    | (simp [*]; done)
    | (split <;> try (rename_i heq; first
       | (have hk := congrArg (fun p => State.kept (Prod.snd p)) heq.symm; simp at hk)
       | (have hk := congrArg (fun p => State.kept (Prod.snd (Prod.snd p))) heq.symm; simp at hk)
       | (have hk := congrArg (fun p => State.kept (Prod.fst p)) heq.symm; simp at hk)))
    | (simp +zetaDelta [*]; done)

end Sys2Proof.Machine
end

