-- ==== Sys2Proof/Laws/KeptSys.lean ====
section
/-! SUPPORT. What the operations of Machine/Sys.lean keep: the one-time-programmable store, the queue of commands and the tick count. -/

namespace Sys2Proof.Machine

@[simp] theorem execSysNop_kept (s : State) : (resultOf (execSysNop s) s).kept = s.kept := by
  unfold execSysNop
  simp

@[simp] theorem execSysInfo_kept (s : State) : (resultOf (execSysInfo s) s).kept = s.kept := by
  unfold execSysInfo
  simp

@[simp] theorem execSysMode_kept (s : State) : (resultOf (execSysMode s) s).kept = s.kept := by
  unfold execSysMode
  simp

@[simp] theorem execSysResume_kept (s : State) : (resultOf (execSysResume s) s).kept = s.kept := by
  unfold execSysResume
  refine runCmd_kept _ _ _ (fun q s => ?_)
  (repeat' split) <;> simp

@[simp] theorem State.unstage_kept (s : State) (g : Nat) : (@State.unstage s g).kept = s.kept := by
  unfold State.unstage
  simp

@[simp] theorem execSysCommit_kept (s : State) : (resultOf (execSysCommit s) s).kept = s.kept := by
  unfold execSysCommit
  refine runCmd_kept _ _ _ (fun q s => ?_)
  (repeat' split) <;> simp

@[simp] theorem execSysDiscard_kept (s : State) : (resultOf (execSysDiscard s) s).kept = s.kept := by
  unfold execSysDiscard
  simp

@[simp] theorem execSysReset_kept (s : State) : (resultOf (execSysReset s) s).kept = s.kept := by
  unfold execSysReset
  simp

@[simp] theorem execSysActionStatus_kept (s : State) : (resultOf (execSysActionStatus s) s).kept = s.kept := by
  unfold execSysActionStatus
  simp

@[simp] theorem State.stopAction_kept (s : State) (a : Action) : (@State.stopAction s a).kept = s.kept := by
  unfold State.stopAction
  simp

@[simp] theorem execSysActionStop_kept (s : State) : (resultOf (execSysActionStop s) s).kept = s.kept := by
  unfold execSysActionStop
  refine runCmd_kept _ _ _ (fun q s => ?_)
  (repeat' split) <;> simp

@[simp] theorem State.openWindow_kept (s : State) (a : Nat) (n : Nat) (use : Nat) (w : Bool) : (@State.openWindow s a n use w).2.kept = s.kept := by
  unfold State.openWindow
  (repeat' split) <;> simp

@[simp] theorem execSysWindowOpen_kept (s : State) : (resultOf (execSysWindowOpen s) s).kept = s.kept := by
  unfold execSysWindowOpen
  refine runCmd_kept _ _ _ (fun q s => ?_)
  repeat' first
    | (extract_lets +onlyGivenNames x; first
      | (have hx : State.kept x = State.kept s := (by first | (simp [x, *]; done) | (simp only [x]; (repeat' split) <;> simp [*]; done)); clear_value x)
      | (have hx : ∀ t : State, State.kept (x t) = State.kept t := (by intro t; first | (simp [x, *]; done) | (simp only [x]; (repeat' split) <;> simp [*]; done)); clear_value x)
      | (have hx := fun a => x a; clear hx)
      | clear_value x)
    | (simp [*]; done)
    | (split <;> try (rename_i heq; first
       | (have hk := congrArg (fun p => State.kept (Prod.snd p)) heq.symm; simp at hk)
       | (have hk := congrArg (fun p => State.kept (Prod.snd (Prod.snd p))) heq.symm; simp at hk)
       | (have hk := congrArg (fun p => State.kept (Prod.fst p)) heq.symm; simp at hk)))
    | (simp +zetaDelta [*]; done)

@[simp] theorem execSysWindowClose_kept (s : State) : (resultOf (execSysWindowClose s) s).kept = s.kept := by
  unfold execSysWindowClose
  simp

@[simp] theorem execScnRingSet_kept (s : State) : (resultOf (execScnRingSet s) s).kept = s.kept := by
  unfold execScnRingSet
  refine runCmd_kept _ _ _ (fun q s => ?_)
  repeat' first
    | (extract_lets +onlyGivenNames x; first
      | (have hx : State.kept x = State.kept s := (by first | (simp [x, *]; done) | (simp only [x]; (repeat' split) <;> simp [*]; done)); clear_value x)
      | (have hx : ∀ t : State, State.kept (x t) = State.kept t := (by intro t; first | (simp [x, *]; done) | (simp only [x]; (repeat' split) <;> simp [*]; done)); clear_value x)
      | (have hx := fun a => x a; clear hx)
      | clear_value x)
    | (simp [*]; done)
    | (split <;> try (rename_i heq; first
       | (have hk := congrArg (fun p => State.kept (Prod.snd p)) heq.symm; simp at hk)
       | (have hk := congrArg (fun p => State.kept (Prod.snd (Prod.snd p))) heq.symm; simp at hk)
       | (have hk := congrArg (fun p => State.kept (Prod.fst p)) heq.symm; simp at hk)))
    | (simp +zetaDelta [*]; done)

@[simp] theorem execSpanPatchRing_kept (s : State) : (resultOf (execSpanPatchRing s) s).kept = s.kept := by
  unfold execSpanPatchRing
  refine runCmd_kept _ _ _ (fun q s => ?_)
  repeat' first
    | (extract_lets +onlyGivenNames x; first
      | (have hx : State.kept x = State.kept s := (by first | (simp [x, *]; done) | (simp only [x]; (repeat' split) <;> simp [*]; done)); clear_value x)
      | (have hx : ∀ t : State, State.kept (x t) = State.kept t := (by intro t; first | (simp [x, *]; done) | (simp only [x]; (repeat' split) <;> simp [*]; done)); clear_value x)
      | (have hx := fun a => x a; clear hx)
      | clear_value x)
    | (simp [*]; done)
    | (split <;> try (rename_i heq; first
       | (have hk := congrArg (fun p => State.kept (Prod.snd p)) heq.symm; simp at hk)
       | (have hk := congrArg (fun p => State.kept (Prod.snd (Prod.snd p))) heq.symm; simp at hk)
       | (have hk := congrArg (fun p => State.kept (Prod.fst p)) heq.symm; simp at hk)))
    | (simp +zetaDelta [*]; done)

@[simp] theorem State.loadImages_kept (s : State) (i : Nat) (l : List (List Byte)) : (s.loadImages i l).1.kept = s.kept := by
  induction l generalizing s i with
  | nil => rfl
  | cons b t ih =>
    unfold State.loadImages
    simp only []
    split
    · rename_i heq
      have hk := congrArg (fun p => State.kept (Prod.snd (Prod.snd p))) heq.symm
      simp at hk
      rw [ih, hk]
    · rename_i heq
      have hk := congrArg (fun p => State.kept (Prod.snd (Prod.snd p))) heq.symm
      simp at hk
      exact hk

@[simp] theorem State.jobOpenRecord_kept (s : State) (m : Manifest) : (@State.jobOpenRecord s m).kept = s.kept := by
  unfold State.jobOpenRecord
  simp

@[simp] theorem execJobOpen_kept (s : State) : (resultOf (execJobOpen s) s).kept = s.kept := by
  unfold execJobOpen
  refine runCmd_kept _ _ _ (fun q s => ?_)
  repeat' first
    | (extract_lets +onlyGivenNames x; first
      | (have hx : State.kept x = State.kept s := (by first | (simp [x, *]; done) | (simp only [x]; (repeat' split) <;> simp [*]; done)); clear_value x)
      | (have hx : ∀ t : State, State.kept (x t) = State.kept t := (by intro t; first | (simp [x, *]; done) | (simp only [x]; (repeat' split) <;> simp [*]; done)); clear_value x)
      | (have hx := fun a => x a; clear hx)
      | clear_value x)
    | (simp [*]; done)
    | (split <;> try (rename_i heq; first
       | (have hk := congrArg (fun p => State.kept (Prod.snd p)) heq.symm; simp at hk)
       | (have hk := congrArg (fun p => State.kept (Prod.snd (Prod.snd p))) heq.symm; simp at hk)
       | (have hk := congrArg (fun p => State.kept (Prod.fst p)) heq.symm; simp at hk)))
    | (simp +zetaDelta [*]; done)

@[simp] theorem execJobStart_kept (s : State) : (resultOf (execJobStart s) s).kept = s.kept := by
  unfold execJobStart
  simp

@[simp] theorem execJobStatus_kept (s : State) : (resultOf (execJobStatus s) s).kept = s.kept := by
  unfold execJobStatus
  simp

@[simp] theorem State.jobEnd_kept (s : State) : (@State.jobEnd s).kept = s.kept := by
  unfold State.jobEnd
  simp

@[simp] theorem State.jobPoll_kept (s : State) : (@State.jobPoll s).kept = s.kept := by
  unfold State.jobPoll
  simp

@[simp] theorem execJobStop_kept (s : State) : (resultOf (execJobStop s) s).kept = s.kept := by
  unfold execJobStop
  simp

@[simp] theorem State.dropJobImages_kept (s : State) : (@State.dropJobImages s).kept = s.kept := by
  unfold State.dropJobImages
  simp

@[simp] theorem execJobClose_kept (s : State) : (resultOf (execJobClose s) s).kept = s.kept := by
  unfold execJobClose
  simp

end Sys2Proof.Machine
end

