-- ==== Sys2Proof/Laws/KeptCommit.lean ====
section
/-! SUPPORT. What the operations of Machine/Commit.lean keep: the one-time-programmable store, the queue of commands and the tick count. -/

namespace Sys2Proof.Machine

@[simp] theorem State.capture_kept (s : State) (groups : Nat) : (@State.capture s groups).kept = s.kept := by
  unfold State.capture
  simp

@[simp] theorem State.keyCommit_kept (s : State) (a1 : State) : (@State.keyCommit s a1).kept = s.kept := by
  unfold State.keyCommit
  simp

@[simp] theorem State.corCommit_kept (s : State) (swaps : Nat) : (@State.corCommit s swaps).kept = s.kept := by
  unfold State.corCommit
  simp

@[simp] theorem State.lsrCommit_kept (s : State) (a1 : State) : (@State.lsrCommit s a1).kept = s.kept := by
  unfold State.lsrCommit
  simp

@[simp] theorem State.commit_kept (s : State) (mask : Nat) : (@State.commit s mask).kept = s.kept := by
  unfold State.commit
  simp

@[simp] theorem State.periodRefuse_kept (s : State) : (@State.periodRefuse s).kept = s.kept := by
  unfold State.periodRefuse
  simp

@[simp] theorem State.keyReply_kept (s : State) (refused : Bool) : (@State.keyReply s refused).kept = s.kept := by
  unfold State.keyReply
  (repeat' split) <;> simp

@[simp] theorem State.phi380_kept (s : State) : (@State.phi380 s).kept = s.kept := by
  unfold State.phi380
  simp

@[simp] theorem State.slotFired_kept (s : State) (k : Nat) : (@State.slotFired s k).kept = s.kept := by
  unfold State.slotFired
  simp

@[simp] theorem State.commitEdge_kept (s : State) : (@State.commitEdge s).kept = s.kept := by
  unfold State.commitEdge
  simp

@[simp] theorem State.schedFire_kept (s : State) (k : Nat) : (@State.schedFire s k).kept = s.kept := by
  unfold State.schedFire
  simp

@[simp] theorem execSchedCommitFire_kept (k : Fin 8) (s : State) : (resultOf (execSchedCommitFire k s) s).kept = s.kept := by
  unfold execSchedCommitFire
  simp

end Sys2Proof.Machine
end

