-- ==== Sys2Proof/Laws/KeptDma.lean ====
section
/-! SUPPORT. What the operations of Machine/Dma.lean keep: the one-time-programmable store, the queue of commands and the tick count. -/

namespace Sys2Proof.Machine

@[simp] theorem State.setDmaCh_kept (s : State) (ch : Nat) (c : DmaCh) : (@State.setDmaCh s ch c).kept = s.kept := by
  unfold State.setDmaCh
  simp

@[simp] theorem State.dmaComplete_kept (f ch : Nat) (s : State) : (State.dmaComplete f ch s).kept = s.kept := by
  induction f generalizing s with
  | zero => rfl
  | succ f ih =>
    unfold State.dmaComplete
    split
    · rfl
    · split
      · rfl
      · simp only []
        split <;> cases (s.dmaCh ch).next <;> simp [ih]

@[simp] theorem State.dmaBegin_kept (s : State) (ch : Nat) (x : DmaX) : (@State.dmaBegin s ch x).kept = s.kept := by
  unfold State.dmaBegin
  simp

@[simp] theorem State.dmaStart_kept (s : State) (ch : Nat) : (@State.dmaStart s ch).kept = s.kept := by
  unfold State.dmaStart
  repeat' first
    | (extract_lets +onlyGivenNames x; first
      | (have hx : State.kept x = State.kept s := (by first | (simp [x, *]; done) | (simp only [x]; (repeat' split) <;> simp [*]; done)); clear_value x)
      | (have hx : ∀ t : State, State.kept (x t) = State.kept t := (by intro t; first | (simp [x, *]; done) | (simp only [x]; (repeat' split) <;> simp [*]; done)); clear_value x)
      | (have hx := fun a => x a; clear hx)
      | clear_value x)
    | (simp [*]; done)
    | (split <;> try (rename_i heq; first
       | (have hk := congrArg (fun p => State.kept (Prod.snd p)) heq.symm; simp at hk)
       | (have hk := congrArg (fun p => State.kept (Prod.snd (Prod.snd p))) heq.symm; simp at hk)
       | (have hk := congrArg (fun p => State.kept (Prod.fst p)) heq.symm; simp at hk)))
    | (simp +zetaDelta [*]; done)

@[simp] theorem execDmaStart_kept (ch : Fin 32) (v : Word) (s : State) : (resultOf (execDmaStart ch v s) s).kept = s.kept := by
  unfold execDmaStart
  simp

@[simp] theorem State.dmaStopped_kept (s : State) (ch : Nat) : (@State.dmaStopped s ch).kept = s.kept := by
  unfold State.dmaStopped
  repeat' first
    | (extract_lets +onlyGivenNames x; first
      | (have hx : State.kept x = State.kept s := (by first | (simp [x, *]; done) | (simp only [x]; (repeat' split) <;> simp [*]; done)); clear_value x)
      | (have hx : ∀ t : State, State.kept (x t) = State.kept t := (by intro t; first | (simp [x, *]; done) | (simp only [x]; (repeat' split) <;> simp [*]; done)); clear_value x)
      | (have hx := fun a => x a; clear hx)
      | clear_value x)
    | (simp [*]; done)
    | (split <;> try (rename_i heq; first
       | (have hk := congrArg (fun p => State.kept (Prod.snd p)) heq.symm; simp at hk)
       | (have hk := congrArg (fun p => State.kept (Prod.snd (Prod.snd p))) heq.symm; simp at hk)
       | (have hk := congrArg (fun p => State.kept (Prod.fst p)) heq.symm; simp at hk)))
    | (simp +zetaDelta [*]; done)

@[simp] theorem State.dmaStop_kept (s : State) (ch : Nat) : (@State.dmaStop s ch).kept = s.kept := by
  unfold State.dmaStop
  simp

@[simp] theorem execDmaStop_kept (ch : Fin 32) (s : State) : (resultOf (execDmaStop ch s) s).kept = s.kept := by
  unfold execDmaStop
  simp

@[simp] theorem State.dmaHalt_kept (s : State) (ch : Nat) (err : Nat) (a : Nat) (code : Nat) (late : Bool) : (@State.dmaHalt s ch err a code late).kept = s.kept := by
  unfold State.dmaHalt
  simp

@[simp] theorem execDmaHaltClear_kept (s : State) : (resultOf (execDmaHaltClear s) s).kept = s.kept := by
  unfold execDmaHaltClear
  simp

end Sys2Proof.Machine
end

