-- ==== Sys2Proof/Laws/KeptDsp.lean ====
section
/-! SUPPORT. What the operations of Machine/Dsp.lean keep: the one-time-programmable store, the queue of commands and the tick count. -/

namespace Sys2Proof.Machine

@[simp] theorem State.setLayer_kept (s : State) (n : Nat) (l : DspLayer) : (@State.setLayer s n l).kept = s.kept := by
  unfold State.setLayer
  simp

@[simp] theorem State.dspGo_kept (s : State) (mask : Nat) : (@State.dspGo s mask).kept = s.kept := by
  unfold State.dspGo
  simp

@[simp] theorem State.layerTake_kept (s : State) (n : Nat) (ws : List Word) : (@State.layerTake s n ws).kept = s.kept := by
  unfold State.layerTake
  simp

@[simp] theorem State.layerNew_kept (s : State) (n : Nat) (ws : List Word) : (@State.layerNew s n ws).kept = s.kept := by
  unfold State.layerNew
  simp

@[simp] theorem State.fetchFault_kept (s : State) (n : Nat) : (@State.fetchFault s n).kept = s.kept := by
  unfold State.fetchFault
  simp

@[simp] theorem State.fenceCheck_kept (s : State) (n : Nat) : (@State.fenceCheck s n).kept = s.kept := by
  unfold State.fenceCheck
  (repeat' split) <;> simp

@[simp] theorem State.linkTrain_kept (s : State) : (@State.linkTrain s).kept = s.kept := by
  unfold State.linkTrain
  simp

@[simp] theorem State.snapInForce_kept (s : State) : (@State.snapInForce s).kept = s.kept := by
  unfold State.snapInForce
  (repeat' split) <;> simp

@[simp] theorem State.frameStart_kept (s : State) : (@State.frameStart s).kept = s.kept := by
  unfold State.frameStart
  simp

@[simp] theorem State.frameEnd_kept (s : State) : (@State.frameEnd s).kept = s.kept := by
  unfold State.frameEnd
  simp

@[simp] theorem State.frameBegin_kept (s : State) : (@State.frameBegin s).kept = s.kept := by
  unfold State.frameBegin
  simp

@[simp] theorem State.scanStop_kept (s : State) : (@State.scanStop s).kept = s.kept := by
  unfold State.scanStop
  simp

@[simp] theorem State.staticEntry_kept (s : State) (blank : Bool) : (@State.staticEntry s blank).kept = s.kept := by
  unfold State.staticEntry
  simp

@[simp] theorem State.vsyncRun_kept (s : State) : (@State.vsyncRun s).kept = s.kept := by
  unfold State.vsyncRun
  simp

@[simp] theorem State.vsync_kept (s : State) : (@State.vsync s).kept = s.kept := by
  unfold State.vsync
  simp

@[simp] theorem execVsync_kept (s : State) : (resultOf (execVsync s) s).kept = s.kept := by
  unfold execVsync
  simp

@[simp] theorem State.porchGo_kept (s : State) (porch : Bool) : (@State.porchGo s porch).kept = s.kept := by
  unfold State.porchGo
  simp

@[simp] theorem execDspCommitGo_kept (v : Word) (porch : Bool) (s : State) : (resultOf (execDspCommitGo v porch s) s).kept = s.kept := by
  unfold execDspCommitGo
  simp

@[simp] theorem execScanEnable_kept (en : Bool) (s : State) : (resultOf (execScanEnable en s) s).kept = s.kept := by
  unfold execScanEnable
  simp

@[simp] theorem execLinkTrainDone_kept (ok : Bool) (vs : Fin 4) (pe : Fin 4) (s : State) : (resultOf (execLinkTrainDone ok vs pe s) s).kept = s.kept := by
  unfold execLinkTrainDone
  simp

@[simp] theorem execIrqHpd_kept (lost : Bool) (s : State) : (resultOf (execIrqHpd lost s) s).kept = s.kept := by
  unfold execIrqHpd
  simp

@[simp] theorem execHpdLost_kept (s : State) : (resultOf (execHpdLost s) s).kept = s.kept := by
  unfold execHpdLost
  simp

@[simp] theorem execHpdRestored_kept (s : State) : (resultOf (execHpdRestored s) s).kept = s.kept := by
  unfold execHpdRestored
  simp

@[simp] theorem State.fetchRow_kept (s : State) (n : Nat) (l : LayerRec) (j : Nat) : (@State.fetchRow s n l j).kept = s.kept := by
  unfold State.fetchRow
  extract_lets len a
  have h : ∀ (l : List Nat) (f : List (Option Byte) × State → Nat → List (Option Byte) × State)
      (_ : ∀ acc b, (f acc b).2.kept = acc.2.kept) (acc : List (Option Byte) × State), (l.foldl f acc).2.kept = acc.2.kept := by
    intro t f hf acc
    induction t generalizing acc with
    | nil => rfl
    | cons b t ih => rw [List.foldl_cons, ih, hf]
  split
  rename_i heq
  have hk := congrArg (fun p => State.kept (Prod.snd p)) heq.symm
  simp only [] at hk
  rw [h] at hk
  · simp [hk]
  · intro acc b
    split
    · simp
    · simp

@[simp] theorem State.fetchFor_kept (s : State) (n : Nat) (y : Nat) : (@State.fetchFor s n y).kept = s.kept := by
  unfold State.fetchFor
  simp

@[simp] theorem State.composed_kept (s : State) (y : Nat) (ue : Bool) : (@State.composed s y ue).2.kept = s.kept := by
  unfold State.composed
  simp

@[simp] theorem State.fsWrite_kept (s : State) (y : Nat) (bs : List Byte) : (@State.fsWrite s y bs).kept = s.kept := by
  unfold State.fsWrite
  simp

@[simp] theorem execComposeLine_kept (e : ComposeEv) (s : State) : (resultOf (execComposeLine e s) s).kept = s.kept := by
  unfold execComposeLine
  simp

@[simp] theorem State.wbFail_kept (s : State) : (@State.wbFail s).kept = s.kept := by
  unfold State.wbFail
  simp

@[simp] theorem State.wbLine_kept (s : State) (y : Nat) (bs : List Byte) (ok : Bool) : (@State.wbLine s y bs ok).kept = s.kept := by
  unfold State.wbLine
  repeat' first
    | (extract_lets +onlyGivenNames x; first
      | (have hx : State.kept x = State.kept s := (by first | (simp [x, *]; done) | (simp only [x]; (repeat' split) <;> simp [*]; done)); clear_value x)
      | (have hx : ∀ t : State, State.kept (x t) = State.kept t := (by intro t; first | (simp [x, *]; done) | (simp only [x]; (repeat' split) <;> simp [*]; done)); clear_value x)
      | (have hx := fun a => x a; clear hx)
      | clear_value x)
    | (simp [*]; done)
    | (split <;> try (rename_i heq; first
       | (have hk := congrArg (fun p => State.kept (Prod.snd p)) heq.symm; simp at hk)
       | (have hk := congrArg (fun p => State.kept (Prod.snd (Prod.snd p))) heq.symm; simp at hk)
       | (have hk := congrArg (fun p => State.kept (Prod.fst p)) heq.symm; simp at hk)))
    | (simp +zetaDelta [*]; done)

@[simp] theorem State.underrun_kept (s : State) (y : Nat) (px : Nat) : (@State.underrun s y px).2.kept = s.kept := by
  unfold State.underrun
  simp

@[simp] theorem execScanoutLine_kept (px : Nat) (par : List Nat) (wbOk : Bool) (s : State) : (resultOf (execScanoutLine px par wbOk s) s).kept = s.kept := by
  unfold execScanoutLine
  rw [resultOf_next]
  split
  · rfl
  · simp only []
    split
    · simp
    · split <;> simp

@[simp] theorem execWbHeaderWrite_kept (s : State) : (resultOf (execWbHeaderWrite s) s).kept = s.kept := by
  unfold execWbHeaderWrite
  repeat' first
    | (extract_lets +onlyGivenNames x; first
      | (have hx : State.kept x = State.kept s := (by first | (simp [x, *]; done) | (simp only [x]; (repeat' split) <;> simp [*]; done)); clear_value x)
      | (have hx : ∀ t : State, State.kept (x t) = State.kept t := (by intro t; first | (simp [x, *]; done) | (simp only [x]; (repeat' split) <;> simp [*]; done)); clear_value x)
      | (have hx := fun a => x a; clear hx)
      | clear_value x)
    | (simp [*]; done)
    | (split <;> try (rename_i heq; first
       | (have hk := congrArg (fun p => State.kept (Prod.snd p)) heq.symm; simp at hk)
       | (have hk := congrArg (fun p => State.kept (Prod.snd (Prod.snd p))) heq.symm; simp at hk)
       | (have hk := congrArg (fun p => State.kept (Prod.fst p)) heq.symm; simp at hk)))
    | (simp +zetaDelta [*]; done)

@[simp] theorem execAuxTransaction_kept (v : Word) (s : State) : (resultOf (execAuxTransaction v s) s).kept = s.kept := by
  unfold execAuxTransaction
  simp

@[simp] theorem execAuxDone_kept (res : Fin 4) (bs : List Byte) (s : State) : (resultOf (execAuxDone res bs s) s).kept = s.kept := by
  unfold execAuxDone
  simp

@[simp] theorem State.readRect_kept (s : State) (a pitch n h : Nat) : (s.readRect a pitch n h).2.2.kept = s.kept := by
  induction h with
  | zero => rfl
  | succ h ih =>
    unfold State.readRect
    simp [ih]

@[simp] theorem State.accRun_kept (s : State) (e : AccEntry) : (@State.accRun s e).2.kept = s.kept := by
  unfold State.accRun
  have fold : ∀ (l : List Nat) (f : Bool × State → Nat → Bool × State)
      (_ : ∀ acc b, (f acc b).2.kept = acc.2.kept) (acc : Bool × State), (l.foldl f acc).2.kept = acc.2.kept := by
    intro t f hf acc
    induction t generalizing acc with
    | nil => rfl
    | cons b t ih => rw [List.foldl_cons, ih, hf]
  split
  rename_i h1
  have k1 := congrArg (fun p => State.kept (Prod.snd (Prod.snd p))) h1.symm
  simp only [State.readRect_kept] at k1
  split
  · exact k1
  · split
    rename_i h2
    have k2 := congrArg (fun p => State.kept (Prod.snd (Prod.snd p))) h2.symm
    simp only [State.readRect_kept] at k2
    split
    · exact k2.trans k1
    · extract_lets px sum sat
      split
      rename_i h3
      have k3 := congrArg (fun p => State.kept (Prod.snd p)) h3.symm
      simp only [] at k3
      rw [fold _ _ (by intro acc b; simp)] at k3
      simp [k3, k2, k1]

@[simp] theorem State.accList_kept (n a : Nat) (s : State) : (State.accList n a s).2.kept = s.kept := by
  induction n generalizing a s with
  | zero => rfl
  | succ n ih =>
    unfold State.accList
    cases h : s.dramRead 5 a 32 with
    | mk r q =>
      have e := State.dramRead_kept s 5 a 32
      rw [h] at e
      simp only [] at e ⊢
      split
      · exact e
      · split
        · exact e
        · rename_i w _
          have g := State.accRun_kept q.2 w
          split
          · rename_i hh
            rw [hh] at g
            exact g.trans e
          · rename_i hh
            rw [hh] at g
            rw [ih]
            simp only [] at g
            simp [g, e]

@[simp] theorem State.accStart_kept (s : State) : (@State.accStart s).kept = s.kept := by
  unfold State.accStart
  simp

@[simp] theorem execAccumStart_kept (v : Word) (s : State) : (resultOf (execAccumStart v s) s).kept = s.kept := by
  unfold execAccumStart
  simp

@[simp] theorem execAccumRunDone_kept (s : State) : (resultOf (execAccumRunDone s) s).kept = s.kept := by
  unfold execAccumRunDone
  simp

@[simp] theorem execDispTimingSet_kept (porch : Bool) (s : State) : (resultOf (execDispTimingSet porch s) s).kept = s.kept := by
  unfold execDispTimingSet
  refine runCmd_kept _ _ _ (fun q s => ?_)
  repeat' first
    | (extract_lets +onlyGivenNames x; first
      | (have hx : State.kept x = State.kept s := (by first | (simp [x, *]; done) | (simp only [x]; (repeat' split) <;> simp [*]; done)); clear_value x)
      | (have hx : ∀ t : State, State.kept (x t) = State.kept t := (by intro t; first | (simp [x, *]; done) | (simp only [x]; (repeat' split) <;> simp [*]; done)); clear_value x)
      | (have hx := fun a => x a; clear hx)
      | clear_value x)
    | (simp [*]; done)
    | (split <;> try (rename_i heq; first
       | (have hk := congrArg (fun p => State.kept (Prod.snd p)) heq.symm; simp at hk)
       | (have hk := congrArg (fun p => State.kept (Prod.snd (Prod.snd p))) heq.symm; simp at hk)
       | (have hk := congrArg (fun p => State.kept (Prod.fst p)) heq.symm; simp at hk)))
    | (simp +zetaDelta [*]; done)

@[simp] theorem execDispLayerSet_kept (porch : Bool) (s : State) : (resultOf (execDispLayerSet porch s) s).kept = s.kept := by
  unfold execDispLayerSet
  refine runCmd_kept _ _ _ (fun q s => ?_)
  repeat' first
    | (extract_lets +onlyGivenNames x; first
      | (have hx : State.kept x = State.kept s := (by first | (simp [x, *]; done) | (simp only [x]; (repeat' split) <;> simp [*]; done)); clear_value x)
      | (have hx : ∀ t : State, State.kept (x t) = State.kept t := (by intro t; first | (simp [x, *]; done) | (simp only [x]; (repeat' split) <;> simp [*]; done)); clear_value x)
      | (have hx := fun a => x a; clear hx)
      | clear_value x)
    | (simp [*]; done)
    | (split <;> try (rename_i heq; first
       | (have hk := congrArg (fun p => State.kept (Prod.snd p)) heq.symm; simp at hk)
       | (have hk := congrArg (fun p => State.kept (Prod.snd (Prod.snd p))) heq.symm; simp at hk)
       | (have hk := congrArg (fun p => State.kept (Prod.fst p)) heq.symm; simp at hk)))
    | (simp +zetaDelta [*]; done)

@[simp] theorem execDispWritebackSet_kept (porch : Bool) (s : State) : (resultOf (execDispWritebackSet porch s) s).kept = s.kept := by
  unfold execDispWritebackSet
  refine runCmd_kept _ _ _ (fun q s => ?_)
  repeat' first
    | (extract_lets +onlyGivenNames x; first
      | (have hx : State.kept x = State.kept s := (by first | (simp [x, *]; done) | (simp only [x]; (repeat' split) <;> simp [*]; done)); clear_value x)
      | (have hx : ∀ t : State, State.kept (x t) = State.kept t := (by intro t; first | (simp [x, *]; done) | (simp only [x]; (repeat' split) <;> simp [*]; done)); clear_value x)
      | (have hx := fun a => x a; clear hx)
      | clear_value x)
    | (simp [*]; done)
    | (split <;> try (rename_i heq; first
       | (have hk := congrArg (fun p => State.kept (Prod.snd p)) heq.symm; simp at hk)
       | (have hk := congrArg (fun p => State.kept (Prod.snd (Prod.snd p))) heq.symm; simp at hk)
       | (have hk := congrArg (fun p => State.kept (Prod.fst p)) heq.symm; simp at hk)))
    | (simp +zetaDelta [*]; done)

@[simp] theorem execDispAccumRun_kept (s : State) : (resultOf (execDispAccumRun s) s).kept = s.kept := by
  unfold execDispAccumRun
  refine runCmd_kept _ _ _ (fun q s => ?_)
  (repeat' split) <;> simp

end Sys2Proof.Machine
end

