-- ==== Sys2Proof/Laws/KeptMbx.lean ====
section
/-! SUPPORT. What the operations of Machine/Mbx.lean keep: the one-time-programmable store, the queue of commands and the tick count. -/

namespace Sys2Proof.Machine

@[simp] theorem State.haltNagus_kept (s : State) : (@State.haltNagus s).kept = s.kept := by
  unfold State.haltNagus
  simp

@[simp] theorem execLockstepMismatch_kept (s : State) : (resultOf (execLockstepMismatch s) s).kept = s.kept := by
  unfold execLockstepMismatch
  simp

@[simp] theorem execWdogKick_kept (v : BitVec 16) (s : State) : (resultOf (execWdogKick v s) s).kept = s.kept := by
  unfold execWdogKick
  simp

@[simp] theorem execWdogExpire_kept (since : Nat) (s : State) : (resultOf (execWdogExpire since s) s).kept = s.kept := by
  unfold execWdogExpire
  simp

@[simp] theorem State.hwReply_kept (s : State) (m : Nat) (st : Nat) : (@State.hwReply s m st).kept = s.kept := by
  unfold State.hwReply
  simp

@[simp] theorem State.openReply_kept (s : State) (m : Nat) : (@State.openReply s m).kept = s.kept := by
  unfold State.openReply
  simp

@[simp] theorem execDoorbellRing_kept (m : Fin 8) (s : State) : (resultOf (execDoorbellRing m s) s).kept = s.kept := by
  unfold execDoorbellRing
  simp

@[simp] theorem execDoorbellAbort_kept (m : Fin 8) (s : State) : (resultOf (execDoorbellAbort m s) s).kept = s.kept := by
  unfold execDoorbellAbort
  simp

@[simp] theorem execMailboxTake_kept (s : State) : (resultOf (execMailboxTake s) s).kept = s.kept := by
  unfold execMailboxTake
  repeat' first
    | (extract_lets +onlyGivenNames x; first
      | (have hx : State.kept x = State.kept s := (by first | (simp [x, *]; done) | (simp only [x]; (repeat' split) <;> simp [*]; done)); clear_value x)
      | (have hx : ∀ t : State, State.kept (x t) = State.kept t := (by intro t; first | (simp [x, *]; done) | (simp only [x]; (repeat' split) <;> simp [*]; done)); clear_value x)
      | (have hx := fun a => x a; clear hx)
      | clear_value x)
    | (simp [*]; done)
    | (split <;> try (rename_i heq; first
       | (have hk := congrArg (fun p => State.kept (Prod.snd p)) heq.symm; simp at hk)
       | (have hk := congrArg (fun p => State.kept (Prod.snd (Prod.snd p))) heq.symm; simp at hk)
       | (have hk := congrArg (fun p => State.kept (Prod.fst p)) heq.symm; simp at hk)))
    | (simp +zetaDelta [*]; done)

@[simp] theorem execUnknownOpcode_kept (s : State) : (resultOf (execUnknownOpcode s) s).kept = s.kept := by
  unfold execUnknownOpcode
  (repeat' split) <;> simp

@[simp] theorem State.complete_kept (s : State) (m : Nat) : (@State.complete s m).kept = s.kept := by
  unfold State.complete
  simp

@[simp] theorem State.release_kept (s : State) : (@State.release s).kept = s.kept := by
  unfold State.release
  simp

@[simp] theorem execMailboxComplete_kept (m : Fin 8) (s : State) : (resultOf (execMailboxComplete m s) s).kept = s.kept := by
  unfold execMailboxComplete
  simp

@[simp] theorem State.completeWrite_kept (s : State) (m : Nat) : (@State.completeWrite s m).kept = s.kept := by
  unfold State.completeWrite
  simp

@[simp] theorem execEvtRdWrite_kept (v : Word) (s : State) : (resultOf (execEvtRdWrite v s) s).kept = s.kept := by
  unfold execEvtRdWrite
  simp

@[simp] theorem execEventPost_kept (s : State) : (resultOf (execEventPost s) s).kept = s.kept := by
  unfold execEventPost
  (repeat' split) <;> simp

@[simp] theorem execSummaryRefresh_kept (s : State) : (resultOf (execSummaryRefresh s) s).kept = s.kept := by
  unfold execSummaryRefresh
  simp

@[simp] theorem execHostErrClear_kept (s : State) : (resultOf (execHostErrClear s) s).kept = s.kept := by
  unfold execHostErrClear
  simp

@[simp] theorem execViaErrClear_kept (s : State) : (resultOf (execViaErrClear s) s).kept = s.kept := by
  unfold execViaErrClear
  simp

end Sys2Proof.Machine
end

