-- ==== Sys2Proof/Laws/KeptRegWrite.lean ====
section
/-! SUPPORT. What the operations of Machine/RegWrite.lean keep: the one-time-programmable store, the queue of commands and the tick count. -/

namespace Sys2Proof.Machine

@[simp] theorem State.pendWrite_kept (s : State) (r : RegDesc) (a : Nat) (v : Word) : (@State.pendWrite s r a v).kept = s.kept := by
  unfold State.pendWrite
  simp

@[simp] theorem State.plainWrite_kept (s : State) (a : Nat) (v : Word) : (@State.plainWrite s a v).kept = s.kept := by
  unfold State.plainWrite
  (repeat' split) <;> simp

@[simp] theorem State.gated_kept (s : State) (ok : Bool) (flag : Fref) (a : Nat) (v : Word) : (@State.gated s ok flag a v).kept = s.kept := by
  unfold State.gated
  simp

@[simp] theorem State.schedCtrlWrite_kept (s : State) (k : Nat) (v : Word) : (@State.schedCtrlWrite s k v).kept = s.kept := by
  unfold State.schedCtrlWrite
  simp

@[simp] theorem State.keyWrite_kept (s : State) (a : Nat) (v : Word) : (@State.keyWrite s a v).kept = s.kept := by
  unfold State.keyWrite
  simp

@[simp] theorem State.mbxWrite_kept (s : State) (a : Nat) (v : Word) : (@State.mbxWrite s a v).kept = s.kept := by
  unfold State.mbxWrite
  simp

@[simp] theorem State.pierEnWrite_kept (s : State) (v : Word) : (@State.pierEnWrite s v).kept = s.kept := by
  unfold State.pierEnWrite
  simp

@[simp] theorem State.scnWrite_kept (s : State) (a : Nat) (v : Word) : (@State.scnWrite s a v).kept = s.kept := by
  unfold State.scnWrite
  (repeat' split) <;> simp

@[simp] theorem State.corWrite_kept (s : State) (a : Nat) (v : Word) : (@State.corWrite s a v).kept = s.kept := by
  unfold State.corWrite
  (repeat' split) <;> simp

@[simp] theorem State.spnWrite_kept (s : State) (a : Nat) (v : Word) : (@State.spnWrite s a v).kept = s.kept := by
  unfold State.spnWrite
  simp

@[simp] theorem State.plkWrite_kept (s : State) (a : Nat) (v : Word) : (@State.plkWrite s a v).kept = s.kept := by
  unfold State.plkWrite
  simp

@[simp] theorem State.lsrWrite_kept (s : State) (a : Nat) (v : Word) : (@State.lsrWrite s a v).kept = s.kept := by
  unfold State.lsrWrite
  simp

@[simp] theorem State.afeWrite_kept (s : State) (a : Nat) (v : Word) : (@State.afeWrite s a v).kept = s.kept := by
  unfold State.afeWrite
  simp

@[simp] theorem State.lopWrite_kept (s : State) (a : Nat) (v : Word) : (@State.lopWrite s a v).kept = s.kept := by
  unfold State.lopWrite
  simp

@[simp] theorem State.camPortWrite_kept (s : State) (n : Nat) (a : Nat) (v : Word) (map : Bool) : (@State.camPortWrite s n a v map).kept = s.kept := by
  unfold State.camPortWrite
  simp

@[simp] theorem State.camWrite__kept (s : State) (a : Nat) (v : Word) : (@State.camWrite_ s a v).kept = s.kept := by
  unfold State.camWrite_
  simp

@[simp] theorem State.axsWrite_kept (s : State) (a : Nat) (v : Word) : (@State.axsWrite s a v).kept = s.kept := by
  unfold State.axsWrite
  (repeat' split) <;> simp

@[simp] theorem State.dmcWrite_kept (s : State) (a : Nat) (v : Word) : (@State.dmcWrite s a v).kept = s.kept := by
  unfold State.dmcWrite
  simp

@[simp] theorem State.dmaWrite_kept (s : State) (a : Nat) (v : Word) : (@State.dmaWrite s a v).kept = s.kept := by
  unfold State.dmaWrite
  simp

@[simp] theorem State.dspWrite_kept (s : State) (a : Nat) (v : Word) : (@State.dspWrite s a v).kept = s.kept := by
  unfold State.dspWrite
  simp

@[simp] theorem State.litWrite_kept (s : State) (a : Nat) (v : Word) : (@State.litWrite s a v).kept = s.kept := by
  unfold State.litWrite
  simp

@[simp] theorem State.thmWrite_kept (s : State) (a : Nat) (v : Word) : (@State.thmWrite s a v).kept = s.kept := by
  unfold State.thmWrite
  simp

@[simp] theorem State.calRegWrite_kept (s : State) (a : Nat) (v : Word) : (@State.calRegWrite s a v).kept = s.kept := by
  unfold State.calRegWrite
  simp

@[simp] theorem State.netWrite_kept (s : State) (a : Nat) (v : Word) : (@State.netWrite s a v).kept = s.kept := by
  unfold State.netWrite
  simp

theorem State.secWrite_grown (s : State) (a : Nat) (v : Word) : Grown s (s.secWrite a v) := by
  unfold State.secWrite
  simp only []
  (repeat' split) <;> first
    | exact Grown.of (by simp; done)
    | exact execArbRaise_grown _ _
    | exact execLifecycleProgram_grown _ _

@[simp] theorem State.vltWrite_kept (s : State) (a : Nat) (v : Word) : (@State.vltWrite s a v).kept = s.kept := by
  unfold State.vltWrite
  simp

@[simp] theorem State.fluWrite_kept (s : State) (a : Nat) (v : Word) : (@State.fluWrite s a v).kept = s.kept := by
  unfold State.fluWrite
  simp

theorem State.regWrite_grown (s : State) (a : Nat) (v : Word) : Grown s (s.regWrite a v) := by
  unfold State.regWrite
  (repeat' split) <;> first
    | exact Grown.of (by simp; done)
    | exact State.secWrite_grown _ _ _

@[simp] theorem State.regRead_kept (s : State) (a : Nat) : (@State.regRead s a).kept = s.kept := by
  unfold State.regRead
  simp

@[simp] theorem State.mapErr_kept (s : State) (e : ViaErr) (req : Nat) (a : Nat) (n : Nat) (w : Bool) : (@State.mapErr s e req a n w).2.kept = s.kept := by
  unfold State.mapErr
  simp

@[simp] theorem State.bankAccess_kept (s : State) (req : Nat) (a : Nat) (n : Nat) (w : Option (List Byte)) : (@State.bankAccess s req a n w).2.2.kept = s.kept := by
  unfold State.bankAccess
  cases w with
  | none => simp only []; split <;> simp
  | some bs => simp only []; split <;> simp

theorem State.mapAccess_grown (s : State) (req a n : Nat) (w : Option (List Byte)) : Grown s (s.mapAccess req a n w).2.2 := by
  unfold State.mapAccess
  split
  · cases w with
    | none => exact Grown.of (by simp)
    | some bs => exact Grown.of (by simp)
  · split
    · cases w with
      | none => exact Grown.refl s
      | some bs => exact Grown.of (by simp)
    · split
      · split
        · exact Grown.of (by simp)
        · split
          · exact Grown.of (by simp)
          · cases w with
            | none => exact Grown.of (by simp)
            | some bs => exact State.regWrite_grown _ _ _
      · split
        · exact Grown.of (by simp)
        · split
          · cases w with
            | none => exact Grown.refl s
            | some bs => exact Grown.of (by simp)
          · exact Grown.of (by simp)

@[simp] theorem State.dramAccess_kept (s : State) (req : Nat) (a : Nat) (n : Nat) (w : Option (List Byte)) : (@State.dramAccess s req a n w).2.2.kept = s.kept := by
  unfold State.dramAccess
  repeat' first
    | (extract_lets +onlyGivenNames x; first
      | (have hx : State.kept x = State.kept s := (by first | (simp [x, *]; done) | (simp only [x]; (repeat' split) <;> simp [*]; done)); clear_value x)
      | (have hx : ∀ t : State, State.kept (x t) = State.kept t := (by intro t; first | (simp [x, *]; done) | (simp only [x]; (repeat' split) <;> simp [*]; done)); clear_value x)
      | (have hx := fun a => x a; clear hx)
      | clear_value x)
    | (simp [*]; done)
    | (split <;> try (rename_i heq; first
       | (have hk := congrArg (fun p => State.kept (Prod.snd p)) heq.symm; simp at hk)
       | (have hk := congrArg (fun p => State.kept (Prod.snd (Prod.snd p))) heq.symm; simp at hk)
       | (have hk := congrArg (fun p => State.kept (Prod.fst p)) heq.symm; simp at hk)))
    | (simp +zetaDelta [*]; done)

@[simp] theorem State.mailWrite_kept (s : State) (o : Nat) (bs : List Byte) : (@State.mailWrite s o bs).kept = s.kept := by
  unfold State.mailWrite
  simp

theorem State.nagusAccess_grown (s : State) (a n : Nat) (w : Option (List Byte)) : Grown s (s.nagusAccess a n w).2.2 := by
  unfold State.nagusAccess
  split
  · split
    · exact Grown.of (by simp)
    · split
      rename_i heq
      have hk := congrArg (fun p => State.kept (Prod.snd (Prod.snd p))) heq.symm
      exact Grown.of (by simpa using hk)
  · exact State.mapAccess_grown _ _ _ _ _

theorem State.sysAccess_grown (s : State) (req a n : Nat) (w : Option (List Byte)) : Grown s (s.sysAccess req a n w).2.2 := by
  unfold State.sysAccess
  (repeat' split) <;> first
    | exact Grown.of (by simp; done)
    | exact State.mapAccess_grown _ _ _ _ _

@[simp] theorem State.bar0Word_kept (s : State) (o : Nat) (v : Word) : (@State.bar0Word s o v).kept = s.kept := by
  unfold State.bar0Word
  simp

@[simp] theorem State.bar0_kept (s : State) (o n : Nat) (w : Option (List Byte)) : (@State.bar0 s o n w).2.kept = s.kept := by
  unfold State.bar0
  (repeat' split) <;> simp

theorem execRegisterWrite_grown (x : Access) (s : State) : Grown s (resultOf (execRegisterWrite x s) s) := by
  unfold execRegisterWrite
  rw [resultOf_next]
  (repeat' split) <;> first
    | exact State.nagusAccess_grown _ _ _ _
    | exact State.sysAccess_grown _ _ _ _ _
    | exact Grown.of (by simp; done)

end Sys2Proof.Machine
end

