-- ==== Sys2Proof/Laws/KeptDmaRun.lean ====
section
/-! SUPPORT. What the operations of Machine/DmaRun.lean keep: the one-time-programmable store, the queue of commands and the tick count. -/

namespace Sys2Proof.Machine

@[simp] theorem State.dmaDone_kept (s : State) (ch : Nat) (id : Nat) (n : Nat) : (@State.dmaDone s ch id n).kept = s.kept := by
  unfold State.dmaDone
  (repeat' split) <;> simp

@[simp] theorem State.dmaShow_kept (s : State) : (@State.dmaShow s).kept = s.kept := by
  unfold State.dmaShow
  simp

@[simp] theorem State.dmaIssue_kept (s : State) (ch : Nat) (o : DmaAcc) : (@State.dmaIssue s ch o).kept = s.kept := by
  unfold State.dmaIssue
  (repeat' split) <;> simp

@[simp] theorem execDmaBurstIssue_kept (ue : Option (Fin 32)) (s : State) : (resultOf (execDmaBurstIssue ue s) s).kept = s.kept := by
  unfold execDmaBurstIssue
  (repeat' split) <;> simp

@[simp] theorem State.dmaFill_kept (s : State) (o : DmaAcc) (bs : List Byte) : (@State.dmaFill s o bs).kept = s.kept := by
  unfold State.dmaFill
  (repeat' split) <;> simp

@[simp] theorem State.dmaError_kept (s : State) (o : DmaAcc) (r : BusRes) : (@State.dmaError s o r).kept = s.kept := by
  unfold State.dmaError
  simp

@[simp] theorem State.gridRegs_kept (s : State) (ch : Nat) (a : Nat) (b : Nat) (p : Nat) : (@State.gridRegs s ch a b p).kept = s.kept := by
  unfold State.gridRegs
  simp

@[simp] theorem State.burstsRead_kept (f req a n : Nat) (s : State) : (State.burstsRead f req a n s).2.2.kept = s.kept := by
  induction f generalizing a n s with
  | zero => rfl
  | succ f ih =>
    unfold State.burstsRead
    split
    · rfl
    · simp only []
      split <;> rename_i heq <;> have hk := congrArg (fun p => State.kept (Prod.snd (Prod.snd p))) heq.symm <;> simp at hk <;> simp [ih, hk]

@[simp] theorem State.gridStop_kept (s : State) (ch : Nat) (b : Nat) (p : Nat) (r : BusRes) (a : Nat) (data : List Byte) : (@State.gridStop s ch b p r a data).kept = s.kept := by
  unfold State.gridStop
  simp

@[simp] theorem State.gridMoved_kept (s : State) (ch : Nat) : (@State.gridMoved s ch).kept = s.kept := by
  unfold State.gridMoved
  (repeat' split) <;> simp

@[simp] theorem State.gridDone_kept (s : State) (b : Nat) (p : Nat) : (@State.gridDone s b p).kept = s.kept := by
  unfold State.gridDone
  simp

theorem execDmaAccessResponse_grown (ch : Fin 32) (s : State) : Grown s (resultOf (execDmaAccessResponse ch s) s) := by
  unfold execDmaAccessResponse
  rw [resultOf_next]
  split
  · exact Grown.refl s
  · rename_i o rest _
    simp only []
    have g := State.sysAccess_grown { s with dma := { s.dma with out := rest } } (0x20 + ch.val) o.addr o.n (if o.write then some o.data else none)
    have h := Grown.left (s := s) (by simp) g
    refine Grown.right ?_ h
    rw [State.dmaShow_kept, State.dmaStopped_kept]
    (repeat' split) <;> simp

@[simp] theorem execCorGridLoad_kept (s : State) : (resultOf (execCorGridLoad s) s).kept = s.kept := by
  unfold execCorGridLoad
  refine runCmd_kept _ _ _ (fun q s => ?_)
  repeat' first
    | (extract_lets +onlyGivenNames x; first
      | (have hx : State.kept x = State.kept s := (by first | (simp [x, *]; done) | (simp only [x]; (repeat' split) <;> simp [*]; done)); clear_value x)
      | (have hx : ∀ t : State, State.kept (x t) = State.kept t := (by intro t; first | (simp [x, *]; done) | (simp only [x]; (repeat' split) <;> simp [*]; done)); clear_value x)
      | (have hx := fun a => x a; clear hx)
      | clear_value x)
    | (simp [*]; done)
    | (split <;> try (rename_i heq; first
       | (have hk := congrArg (fun p => State.kept (Prod.snd p)) heq.symm; simp at hk)
       | (have hk := congrArg (fun p => State.kept (Prod.snd (Prod.snd p))) heq.symm; simp at hk)
       | (have hk := congrArg (fun p => State.kept (Prod.fst p)) heq.symm; simp at hk)))
    | (simp +zetaDelta [*]; done)

end Sys2Proof.Machine
end

