-- ==== Sys2Proof/Laws/KeptJtag.lean ====
section
/-! SUPPORT. What the operations of Machine/Jtag.lean keep: the one-time-programmable store, the queue of commands and the tick count. -/

namespace Sys2Proof.Machine

@[simp] theorem State.loadJtag_kept (s : State) (j : JtagReg) (cells : List (Ball × Bool)) : (@State.loadJtag s j cells).kept = s.kept := by
  unfold State.loadJtag
  simp

@[simp] theorem State.debugResume_kept (s : State) : (@State.debugResume s).kept = s.kept := by
  unfold State.debugResume
  simp

theorem execJtagInstruction_grown (j : Jtag) (s : State) : Grown s (resultOf (execJtagInstruction j s) s) := by
  unfold execJtagInstruction
  rw [resultOf_next]
  (repeat' split) <;> first
    | exact Grown.of (by simp; done)
    | exact Grown.left (by simp) (State.nagusAccess_grown _ _ _ _)

end Sys2Proof.Machine
end

