-- ==== Sys2Proof/Laws/KeptTick.lean ====
section
/-! SUPPORT. What the operations of Machine/Tick.lean keep: the one-time-programmable store, the queue of commands and the tick count. -/

namespace Sys2Proof.Machine

@[simp] theorem State.stitchError_kept (s : State) (id : Nat) : (@State.stitchError s id).kept = s.kept := by
  unfold State.stitchError
  (repeat' split) <;> simp

@[simp] theorem State.linkParity_kept (s : State) (src : Nat) (p : Nat) : (@State.linkParity s src p).kept = s.kept := by
  unfold State.linkParity
  simp

@[simp] theorem State.sramErrors_kept (s : State) (i : TickIn) : (@State.sramErrors s i).kept = s.kept := by
  unfold State.sramErrors
  extract_lets s1 s2 s3 s4 s5
  have h1 : s1.kept = s.kept := by simp only [s1]; split <;> simp
  have h2 : s2.kept = s.kept := by simp only [s2]; split <;> simp [h1]
  have h3 : s3.kept = s.kept := by simp [s3, h2]
  have h4 : s4.kept = s.kept := by simp [s4, h3]
  have h5 : s5.kept = s.kept := by simp [s5, h4]
  clear_value s5
  refine (forN_kept _ _ (fun p t => ?_) _).trans h5
  split
  · split <;> simp
  · rfl

@[simp] theorem State.profError_kept (s : State) (ps : List Nat) : (@State.profError s ps).kept = s.kept := by
  unfold State.profError
  refine forN_kept _ _ (fun p t => ?_) _
  split
  · split <;> simp
  · rfl

@[simp] theorem State.overruns_kept (s : State) (src : Nat) (ps : List Nat) : (@State.overruns s src ps).kept = s.kept := by
  unfold State.overruns
  simp

@[simp] theorem State.frontPart_kept (s : State) (i : TickIn) : (@State.frontPart s i).kept = s.kept := by
  unfold State.frontPart
  simp

@[simp] theorem State.handPart_kept (s : State) (i : TickIn) : (@State.handPart s i).kept = s.kept := by
  unfold State.handPart
  simp

@[simp] theorem State.corCorrected_kept (s : State) (ps : List Nat) : (@State.corCorrected s ps).kept = s.kept := by
  unfold State.corCorrected
  simp

@[simp] theorem State.corPart_kept (s : State) (i : TickIn) (before : Tab PierSt) (own : List Nat) (forced : List Nat) : (@State.corPart s i before own forced).kept = s.kept := by
  unfold State.corPart
  simp

@[simp] theorem State.samplePart_kept (s : State) (i : TickIn) (late : Bool) : (@State.samplePart s i late).kept = s.kept := by
  unfold State.samplePart
  simp

@[simp] theorem State.powerPart_kept (s : State) (p : Nat) (lost : Bool) : (@State.powerPart s p lost).kept = s.kept := by
  unfold State.powerPart
  simp

@[simp] theorem State.gatePart_kept (s : State) (i : TickIn) : (@State.gatePart s i).kept = s.kept := by
  unfold State.gatePart
  simp

@[simp] theorem State.linkPart_kept (s : State) (i : TickIn) (was : Bool) : (@State.linkPart s i was).kept = s.kept := by
  unfold State.linkPart
  simp

@[simp] theorem State.loopPart_kept (s : State) (i : TickIn) (noRun : List Nat) (mids : List Nat) (was : Bool) : (@State.loopPart s i noRun mids was).kept = s.kept := by
  unfold State.loopPart
  simp

@[simp] theorem State.tickWork_kept (s : State) (i : TickIn) : (@State.tickWork s i).kept = s.kept := by
  unfold State.tickWork
  simp

@[simp] theorem State.wireCheck_kept (s : State) : (@State.wireCheck s).kept = s.kept := by
  unfold State.wireCheck
  simp

@[simp] theorem State.discipline_kept (s : State) (next : Option Nat) : (@State.discipline s next).kept = s.kept := by
  unfold State.discipline
  (repeat' split) <;> simp

@[simp] theorem State.lagCut_kept (s : State) (p : Nat) (forced : Bool) : (@State.lagCut s p forced).kept = s.kept := by
  unfold State.lagCut
  simp

@[simp] theorem State.layerSwaps_kept (s : State) : (@State.layerSwaps s).kept = s.kept := by
  unfold State.layerSwaps
  simp

@[simp] theorem State.inForce_kept (s : State) : (@State.inForce s).kept = s.kept := by
  unfold State.inForce
  simp

/-- The edge counts one tick, and leaves the one-time-programmable store and the queue alone. -/
theorem State.countEdge_kept (s : State) (d : Nat) : (s.countEdge d).kept = (s.otp, s.pending, s.key.tick + 1) := by
  unfold State.countEdge
  exact kept_mk ..

@[simp] theorem State.haltEdge_kept (s : State) (off : Bool) : (@State.haltEdge s off).kept = s.kept := by
  unfold State.haltEdge
  simp

theorem State.tickEdge_kept (s : State) (i : TickIn) : (s.tickEdge i).kept = (s.otp, s.pending, s.key.tick + 1) := by
  have f : (s.fineTo s.tickLen).inForce.kept = s.kept := by simp
  unfold State.tickEdge
  simp [State.countEdge_kept, kept_otp f, kept_pending f, kept_tick f]

theorem execTickEdge_kept (i : TickIn) (s : State) (h : s.on KEY_STATUS_RT_PLL_LOCK = true) :
    (resultOf (execTickEdge i s) s).kept = (s.otp, s.pending, s.key.tick + 1) := by
  have f : ((s.tickWork i).phi380).kept = s.kept := by simp
  unfold execTickEdge
  rw [resultOf_next, if_pos h, State.tickEdge_kept, kept_otp f, kept_pending f, kept_tick f]

end Sys2Proof.Machine
end

