-- ==== Sys2Proof/Laws/Memory.lean ====
section
/-! SUPPORT. The laws of byte memories: reading after writing, and the canonical form that every write keeps. -/

namespace Sys2Proof.Machine

/-- The canonical form, said as a property of the list: addresses rise, and no cell holds the unlisted byte. -/
theorem Memory.wf_iff (d : Byte) (m : Memory) :
    Memory.wf d m = true ↔ m.Pairwise (fun a b => a.1 < b.1) ∧ ∀ c ∈ m, c.2 ≠ d := by
  induction m with
  | nil => simp [Memory.wf]
  | cons c t ih =>
    cases t with
    | nil => simp [Memory.wf]
    | cons e t =>
      simp only [Memory.wf, Bool.and_eq_true, bne_iff_ne, decide_eq_true_eq, ih]
      constructor
      · rintro ⟨⟨h1, h2⟩, h3, h4⟩
        refine ⟨List.Pairwise.cons ?_ h3, ?_⟩
        · intro x hx
          rcases List.mem_cons.1 hx with rfl | hx
          · exact h2
          · exact Nat.lt_trans h2 ((List.pairwise_cons.1 h3).1 x hx)
        · intro x hx
          rcases List.mem_cons.1 hx with rfl | hx
          · exact h1
          · exact h4 x hx
      · rintro ⟨h1, h2⟩
        obtain ⟨h3, h4⟩ := List.pairwise_cons.1 h1
        exact ⟨⟨h2 c (by simp), h3 e (by simp)⟩, h4, fun x hx => h2 x (List.mem_cons_of_mem _ hx)⟩

theorem Memory.mem_insert (m : Memory) (a : Nat) (v : Byte) (c : Nat × Byte) : c ∈ Memory.insert m a v ↔ c = (a, v) ∨ c ∈ m := by
  induction m with
  | nil => simp [Memory.insert]
  | cons e t ih =>
    obtain ⟨j, w⟩ := e
    unfold Memory.insert
    split
    · simp
    · simp only [List.mem_cons, ih]
      constructor
      · rintro (h | h | h) <;> simp [h]
      · rintro (h | h | h) <;> simp [h]

theorem Memory.insert_pairwise (m : Memory) (a : Nat) (v : Byte) (h : m.Pairwise (fun a b => a.1 < b.1)) (k : ∀ c ∈ m, c.1 ≠ a) :
    (Memory.insert m a v).Pairwise (fun a b => a.1 < b.1) := by
  induction m with
  | nil => simp [Memory.insert]
  | cons e t ih =>
    obtain ⟨j, w⟩ := e
    obtain ⟨h1, h2⟩ := List.pairwise_cons.1 h
    unfold Memory.insert
    split
    · rename_i l
      refine List.Pairwise.cons ?_ h
      intro x hx
      rcases List.mem_cons.1 hx with rfl | hx
      · exact l
      · exact Nat.lt_trans l (h1 x hx)
    · rename_i l
      have q := k (j, w) (by simp)
      refine List.Pairwise.cons ?_ (ih h2 (fun c hc => k c (List.mem_cons_of_mem _ hc)))
      intro x hx
      rcases (Memory.mem_insert t a v x).1 hx with rfl | hx
      · simp only at q ⊢
        omega
      · exact h1 x hx

/-- A write of one byte keeps the canonical form. -/
theorem Memory.write_wf (d : Byte) (m : Memory) (a : Nat) (v : Byte) (h : Memory.wf d m = true) : Memory.wf d (Memory.write d m a v) = true := by
  rw [Memory.wf_iff] at h ⊢
  obtain ⟨h1, h2⟩ := h
  have f : (Tab.del m a).Pairwise (fun a b => a.1 < b.1) := h1.filter _
  have g : ∀ c ∈ Tab.del m a, c ∈ m ∧ c.1 ≠ a := by
    intro c hc
    simpa [Tab.del] using hc
  unfold Memory.write
  split
  · exact ⟨f, fun c hc => h2 c (g c hc).1⟩
  · rename_i n
    refine ⟨Memory.insert_pairwise _ _ _ f (fun c hc => (g c hc).2), ?_⟩
    intro c hc
    rcases (Memory.mem_insert _ _ _ _).1 hc with rfl | hc
    · exact n
    · exact h2 c (g c hc).1

/-- A write of a string of bytes keeps the canonical form. -/
theorem Memory.writeBytes_wf (d : Byte) (bs : List Byte) (m : Memory) (a : Nat) (h : Memory.wf d m = true) :
    Memory.wf d (Memory.writeBytes d m a bs) = true := by
  induction bs generalizing m a with
  | nil => exact h
  | cons b t ih => exact ih _ _ (Memory.write_wf d m a b h)

theorem Tab.find_del_self {α : Type} (t : Tab α) (k : Nat) : Tab.find (Tab.del t k) k = none := by
  induction t with
  | nil => rfl
  | cons c t ih =>
    obtain ⟨j, w⟩ := c
    by_cases h : j = k
    · simpa [Tab.del, h] using ih
    · simpa [Tab.del, h, Tab.find] using ih

theorem Tab.find_del_ne {α : Type} (t : Tab α) (k l : Nat) (h : k ≠ l) : Tab.find (Tab.del t k) l = Tab.find t l := by
  induction t with
  | nil => rfl
  | cons c t ih =>
    obtain ⟨j, w⟩ := c
    by_cases e : j = k
    · subst j
      simpa [Tab.del, Tab.find, h] using ih
    · by_cases f : j = l
      · subst f
        simp [Tab.del, e, Tab.find]
      · simpa [Tab.del, e, Tab.find, f] using ih

theorem Memory.find_insert_self (m : Memory) (a : Nat) (v : Byte) (k : Tab.find m a = none) : Tab.find (Memory.insert m a v) a = some v := by
  induction m with
  | nil => simp [Memory.insert, Tab.find]
  | cons c t ih =>
    obtain ⟨j, w⟩ := c
    unfold Memory.insert
    by_cases e : j = a
    · simp [Tab.find, e] at k
    · simp [Tab.find, e] at k
      split
      · simp [Tab.find]
      · simp [Tab.find, e, ih k]

theorem Memory.find_insert_ne (m : Memory) (a b : Nat) (v : Byte) (h : a ≠ b) : Tab.find (Memory.insert m a v) b = Tab.find m b := by
  induction m with
  | nil => simp [Memory.insert, Tab.find, h]
  | cons c t ih =>
    obtain ⟨j, w⟩ := c
    unfold Memory.insert
    split
    · simp [Tab.find, h]
    · simp [Tab.find, ih]

/-- A byte reads back what was written to it. -/
@[simp] theorem Memory.read_write_self (d : Byte) (m : Memory) (a : Nat) (v : Byte) : Memory.read d (Memory.write d m a v) a = v := by
  unfold Memory.read Memory.write Tab.get
  split
  · rename_i h
    simp [Tab.find_del_self, h]
  · simp [Memory.find_insert_self _ _ _ (Tab.find_del_self m a)]

/-- A write leaves every other byte as it was. -/
theorem Memory.read_write_ne (d : Byte) (m : Memory) (a b : Nat) (v : Byte) (h : a ≠ b) :
    Memory.read d (Memory.write d m a v) b = Memory.read d m b := by
  unfold Memory.read Memory.write Tab.get
  split
  · simp [Tab.find_del_ne _ _ _ h]
  · simp [Memory.find_insert_ne _ _ _ _ h, Tab.find_del_ne _ _ _ h]

/-- A write of a string of bytes leaves every byte outside it as it was. -/
theorem Memory.read_writeBytes_ne (d : Byte) (bs : List Byte) (m : Memory) (a b : Nat) (h : b < a ∨ a + bs.length ≤ b) :
    Memory.read d (Memory.writeBytes d m a bs) b = Memory.read d m b := by
  induction bs generalizing m a with
  | nil => rfl
  | cons v t ih =>
    simp only [List.length_cons] at h
    unfold Memory.writeBytes
    rw [ih _ _ (by omega), Memory.read_write_ne _ _ _ _ _ (by omega)]

/-- A string of bytes reads back what was written. -/
theorem Memory.read_writeBytes_self (d : Byte) (bs : List Byte) (m : Memory) (a i : Nat) (h : i < bs.length) :
    Memory.read d (Memory.writeBytes d m a bs) (a + i) = bs.getD i 0 := by
  induction bs generalizing m a i with
  | nil => simp at h
  | cons v t ih =>
    unfold Memory.writeBytes
    cases i with
    | zero => rw [Memory.read_writeBytes_ne _ _ _ _ _ (by omega)]; simp
    | succ i =>
      have e : a + (i + 1) = a + 1 + i := by omega
      rw [e, ih _ _ _ (by simpa using h)]
      simp

/-- Every memory has its canonical form at reset. -/
theorem State.reset_memoriesOk : State.reset.memoriesOk = true := by decide

end Sys2Proof.Machine
end

