-- ==== Sys2Proof/Laws/State.lean ====
section
/-! SUPPORT. What the operations that write a register leave alone: one lemma per field of State and operation. Each is
true by rfl and written as a chain of two, so that simp rewrites with a proof: a condition it rewrites by computation alone
would keep an instance that no lemma about `if` matches. -/

namespace Sys2Proof.Machine

@[simp] theorem State.wr_pend (s : State) (a : Nat) (v : Word) : (s.wr a v).pend = s.pend := Eq.trans rfl rfl
@[simp] theorem State.wr_wide (s : State) (a : Nat) (v : Word) : (s.wr a v).wide = s.wide := Eq.trans rfl rfl
@[simp] theorem State.wr_key (s : State) (a : Nat) (v : Word) : (s.wr a v).key = s.key := Eq.trans rfl rfl
@[simp] theorem State.wr_mbx (s : State) (a : Nat) (v : Word) : (s.wr a v).mbx = s.mbx := Eq.trans rfl rfl
@[simp] theorem State.wr_scn (s : State) (a : Nat) (v : Word) : (s.wr a v).scn = s.scn := Eq.trans rfl rfl
@[simp] theorem State.wr_cor (s : State) (a : Nat) (v : Word) : (s.wr a v).cor = s.cor := Eq.trans rfl rfl
@[simp] theorem State.wr_spn (s : State) (a : Nat) (v : Word) : (s.wr a v).spn = s.spn := Eq.trans rfl rfl
@[simp] theorem State.wr_dmc (s : State) (a : Nat) (v : Word) : (s.wr a v).dmc = s.dmc := Eq.trans rfl rfl
@[simp] theorem State.wr_dma (s : State) (a : Nat) (v : Word) : (s.wr a v).dma = s.dma := Eq.trans rfl rfl
@[simp] theorem State.wr_dsp (s : State) (a : Nat) (v : Word) : (s.wr a v).dsp = s.dsp := Eq.trans rfl rfl
@[simp] theorem State.wr_plk (s : State) (a : Nat) (v : Word) : (s.wr a v).plk = s.plk := Eq.trans rfl rfl
@[simp] theorem State.wr_lsr (s : State) (a : Nat) (v : Word) : (s.wr a v).lsr = s.lsr := Eq.trans rfl rfl
@[simp] theorem State.wr_afe (s : State) (a : Nat) (v : Word) : (s.wr a v).afe = s.afe := Eq.trans rfl rfl
@[simp] theorem State.wr_lop (s : State) (a : Nat) (v : Word) : (s.wr a v).lop = s.lop := Eq.trans rfl rfl
@[simp] theorem State.wr_cam (s : State) (a : Nat) (v : Word) : (s.wr a v).cam = s.cam := Eq.trans rfl rfl
@[simp] theorem State.wr_axs (s : State) (a : Nat) (v : Word) : (s.wr a v).axs = s.axs := Eq.trans rfl rfl
@[simp] theorem State.wr_lit (s : State) (a : Nat) (v : Word) : (s.wr a v).lit = s.lit := Eq.trans rfl rfl
@[simp] theorem State.wr_thm (s : State) (a : Nat) (v : Word) : (s.wr a v).thm = s.thm := Eq.trans rfl rfl
@[simp] theorem State.wr_cal (s : State) (a : Nat) (v : Word) : (s.wr a v).cal = s.cal := Eq.trans rfl rfl
@[simp] theorem State.wr_fw (s : State) (a : Nat) (v : Word) : (s.wr a v).fw = s.fw := Eq.trans rfl rfl
@[simp] theorem State.wr_otp (s : State) (a : Nat) (v : Word) : (s.wr a v).otp = s.otp := Eq.trans rfl rfl
@[simp] theorem State.wr_sec (s : State) (a : Nat) (v : Word) : (s.wr a v).sec = s.sec := Eq.trans rfl rfl
@[simp] theorem State.wr_vlt (s : State) (a : Nat) (v : Word) : (s.wr a v).vlt = s.vlt := Eq.trans rfl rfl
@[simp] theorem State.wr_net (s : State) (a : Nat) (v : Word) : (s.wr a v).net = s.net := Eq.trans rfl rfl
@[simp] theorem State.wr_pci (s : State) (a : Nat) (v : Word) : (s.wr a v).pci = s.pci := Eq.trans rfl rfl
@[simp] theorem State.wr_causes (s : State) (a : Nat) (v : Word) : (s.wr a v).causes = s.causes := Eq.trans rfl rfl
@[simp] theorem State.wr_job (s : State) (a : Nat) (v : Word) : (s.wr a v).job = s.job := Eq.trans rfl rfl
@[simp] theorem State.wr_flu (s : State) (a : Nat) (v : Word) : (s.wr a v).flu = s.flu := Eq.trans rfl rfl
@[simp] theorem State.wr_flash (s : State) (a : Nat) (v : Word) : (s.wr a v).flash = s.flash := Eq.trans rfl rfl
@[simp] theorem State.wr_dram (s : State) (a : Nat) (v : Word) : (s.wr a v).dram = s.dram := Eq.trans rfl rfl
@[simp] theorem State.wr_sram (s : State) (a : Nat) (v : Word) : (s.wr a v).sram = s.sram := Eq.trans rfl rfl
@[simp] theorem State.wr_axesHalt (s : State) (a : Nat) (v : Word) : (s.wr a v).axesHalt = s.axesHalt := Eq.trans rfl rfl
@[simp] theorem State.wr_free (s : State) (a : Nat) (v : Word) : (s.wr a v).free = s.free := Eq.trans rfl rfl
@[simp] theorem State.wr_pending (s : State) (a : Nat) (v : Word) : (s.wr a v).pending = s.pending := Eq.trans rfl rfl

@[simp] theorem State.put_pend (s : State) (f : Fref) (v i j : Nat) : (s.put f v i j).pend = s.pend := Eq.trans rfl rfl
@[simp] theorem State.put_wide (s : State) (f : Fref) (v i j : Nat) : (s.put f v i j).wide = s.wide := Eq.trans rfl rfl
@[simp] theorem State.put_key (s : State) (f : Fref) (v i j : Nat) : (s.put f v i j).key = s.key := Eq.trans rfl rfl
@[simp] theorem State.put_mbx (s : State) (f : Fref) (v i j : Nat) : (s.put f v i j).mbx = s.mbx := Eq.trans rfl rfl
@[simp] theorem State.put_scn (s : State) (f : Fref) (v i j : Nat) : (s.put f v i j).scn = s.scn := Eq.trans rfl rfl
@[simp] theorem State.put_cor (s : State) (f : Fref) (v i j : Nat) : (s.put f v i j).cor = s.cor := Eq.trans rfl rfl
@[simp] theorem State.put_spn (s : State) (f : Fref) (v i j : Nat) : (s.put f v i j).spn = s.spn := Eq.trans rfl rfl
@[simp] theorem State.put_dmc (s : State) (f : Fref) (v i j : Nat) : (s.put f v i j).dmc = s.dmc := Eq.trans rfl rfl
@[simp] theorem State.put_dma (s : State) (f : Fref) (v i j : Nat) : (s.put f v i j).dma = s.dma := Eq.trans rfl rfl
@[simp] theorem State.put_dsp (s : State) (f : Fref) (v i j : Nat) : (s.put f v i j).dsp = s.dsp := Eq.trans rfl rfl
@[simp] theorem State.put_plk (s : State) (f : Fref) (v i j : Nat) : (s.put f v i j).plk = s.plk := Eq.trans rfl rfl
@[simp] theorem State.put_lsr (s : State) (f : Fref) (v i j : Nat) : (s.put f v i j).lsr = s.lsr := Eq.trans rfl rfl
@[simp] theorem State.put_afe (s : State) (f : Fref) (v i j : Nat) : (s.put f v i j).afe = s.afe := Eq.trans rfl rfl
@[simp] theorem State.put_lop (s : State) (f : Fref) (v i j : Nat) : (s.put f v i j).lop = s.lop := Eq.trans rfl rfl
@[simp] theorem State.put_cam (s : State) (f : Fref) (v i j : Nat) : (s.put f v i j).cam = s.cam := Eq.trans rfl rfl
@[simp] theorem State.put_axs (s : State) (f : Fref) (v i j : Nat) : (s.put f v i j).axs = s.axs := Eq.trans rfl rfl
@[simp] theorem State.put_lit (s : State) (f : Fref) (v i j : Nat) : (s.put f v i j).lit = s.lit := Eq.trans rfl rfl
@[simp] theorem State.put_thm (s : State) (f : Fref) (v i j : Nat) : (s.put f v i j).thm = s.thm := Eq.trans rfl rfl
@[simp] theorem State.put_cal (s : State) (f : Fref) (v i j : Nat) : (s.put f v i j).cal = s.cal := Eq.trans rfl rfl
@[simp] theorem State.put_fw (s : State) (f : Fref) (v i j : Nat) : (s.put f v i j).fw = s.fw := Eq.trans rfl rfl
@[simp] theorem State.put_otp (s : State) (f : Fref) (v i j : Nat) : (s.put f v i j).otp = s.otp := Eq.trans rfl rfl
@[simp] theorem State.put_sec (s : State) (f : Fref) (v i j : Nat) : (s.put f v i j).sec = s.sec := Eq.trans rfl rfl
@[simp] theorem State.put_vlt (s : State) (f : Fref) (v i j : Nat) : (s.put f v i j).vlt = s.vlt := Eq.trans rfl rfl
@[simp] theorem State.put_net (s : State) (f : Fref) (v i j : Nat) : (s.put f v i j).net = s.net := Eq.trans rfl rfl
@[simp] theorem State.put_pci (s : State) (f : Fref) (v i j : Nat) : (s.put f v i j).pci = s.pci := Eq.trans rfl rfl
@[simp] theorem State.put_causes (s : State) (f : Fref) (v i j : Nat) : (s.put f v i j).causes = s.causes := Eq.trans rfl rfl
@[simp] theorem State.put_job (s : State) (f : Fref) (v i j : Nat) : (s.put f v i j).job = s.job := Eq.trans rfl rfl
@[simp] theorem State.put_flu (s : State) (f : Fref) (v i j : Nat) : (s.put f v i j).flu = s.flu := Eq.trans rfl rfl
@[simp] theorem State.put_flash (s : State) (f : Fref) (v i j : Nat) : (s.put f v i j).flash = s.flash := Eq.trans rfl rfl
@[simp] theorem State.put_dram (s : State) (f : Fref) (v i j : Nat) : (s.put f v i j).dram = s.dram := Eq.trans rfl rfl
@[simp] theorem State.put_sram (s : State) (f : Fref) (v i j : Nat) : (s.put f v i j).sram = s.sram := Eq.trans rfl rfl
@[simp] theorem State.put_axesHalt (s : State) (f : Fref) (v i j : Nat) : (s.put f v i j).axesHalt = s.axesHalt := Eq.trans rfl rfl
@[simp] theorem State.put_free (s : State) (f : Fref) (v i j : Nat) : (s.put f v i j).free = s.free := Eq.trans rfl rfl
@[simp] theorem State.put_pending (s : State) (f : Fref) (v i j : Nat) : (s.put f v i j).pending = s.pending := Eq.trans rfl rfl

@[simp] theorem State.putS_pend (s : State) (f : Fref) (v : Int) (i j : Nat) : (s.putS f v i j).pend = s.pend := Eq.trans rfl rfl
@[simp] theorem State.putS_wide (s : State) (f : Fref) (v : Int) (i j : Nat) : (s.putS f v i j).wide = s.wide := Eq.trans rfl rfl
@[simp] theorem State.putS_key (s : State) (f : Fref) (v : Int) (i j : Nat) : (s.putS f v i j).key = s.key := Eq.trans rfl rfl
@[simp] theorem State.putS_mbx (s : State) (f : Fref) (v : Int) (i j : Nat) : (s.putS f v i j).mbx = s.mbx := Eq.trans rfl rfl
@[simp] theorem State.putS_scn (s : State) (f : Fref) (v : Int) (i j : Nat) : (s.putS f v i j).scn = s.scn := Eq.trans rfl rfl
@[simp] theorem State.putS_cor (s : State) (f : Fref) (v : Int) (i j : Nat) : (s.putS f v i j).cor = s.cor := Eq.trans rfl rfl
@[simp] theorem State.putS_spn (s : State) (f : Fref) (v : Int) (i j : Nat) : (s.putS f v i j).spn = s.spn := Eq.trans rfl rfl
@[simp] theorem State.putS_dmc (s : State) (f : Fref) (v : Int) (i j : Nat) : (s.putS f v i j).dmc = s.dmc := Eq.trans rfl rfl
@[simp] theorem State.putS_dma (s : State) (f : Fref) (v : Int) (i j : Nat) : (s.putS f v i j).dma = s.dma := Eq.trans rfl rfl
@[simp] theorem State.putS_dsp (s : State) (f : Fref) (v : Int) (i j : Nat) : (s.putS f v i j).dsp = s.dsp := Eq.trans rfl rfl
@[simp] theorem State.putS_plk (s : State) (f : Fref) (v : Int) (i j : Nat) : (s.putS f v i j).plk = s.plk := Eq.trans rfl rfl
@[simp] theorem State.putS_lsr (s : State) (f : Fref) (v : Int) (i j : Nat) : (s.putS f v i j).lsr = s.lsr := Eq.trans rfl rfl
@[simp] theorem State.putS_afe (s : State) (f : Fref) (v : Int) (i j : Nat) : (s.putS f v i j).afe = s.afe := Eq.trans rfl rfl
@[simp] theorem State.putS_lop (s : State) (f : Fref) (v : Int) (i j : Nat) : (s.putS f v i j).lop = s.lop := Eq.trans rfl rfl
@[simp] theorem State.putS_cam (s : State) (f : Fref) (v : Int) (i j : Nat) : (s.putS f v i j).cam = s.cam := Eq.trans rfl rfl
@[simp] theorem State.putS_axs (s : State) (f : Fref) (v : Int) (i j : Nat) : (s.putS f v i j).axs = s.axs := Eq.trans rfl rfl
@[simp] theorem State.putS_lit (s : State) (f : Fref) (v : Int) (i j : Nat) : (s.putS f v i j).lit = s.lit := Eq.trans rfl rfl
@[simp] theorem State.putS_thm (s : State) (f : Fref) (v : Int) (i j : Nat) : (s.putS f v i j).thm = s.thm := Eq.trans rfl rfl
@[simp] theorem State.putS_cal (s : State) (f : Fref) (v : Int) (i j : Nat) : (s.putS f v i j).cal = s.cal := Eq.trans rfl rfl
@[simp] theorem State.putS_fw (s : State) (f : Fref) (v : Int) (i j : Nat) : (s.putS f v i j).fw = s.fw := Eq.trans rfl rfl
@[simp] theorem State.putS_otp (s : State) (f : Fref) (v : Int) (i j : Nat) : (s.putS f v i j).otp = s.otp := Eq.trans rfl rfl
@[simp] theorem State.putS_sec (s : State) (f : Fref) (v : Int) (i j : Nat) : (s.putS f v i j).sec = s.sec := Eq.trans rfl rfl
@[simp] theorem State.putS_vlt (s : State) (f : Fref) (v : Int) (i j : Nat) : (s.putS f v i j).vlt = s.vlt := Eq.trans rfl rfl
@[simp] theorem State.putS_net (s : State) (f : Fref) (v : Int) (i j : Nat) : (s.putS f v i j).net = s.net := Eq.trans rfl rfl
@[simp] theorem State.putS_pci (s : State) (f : Fref) (v : Int) (i j : Nat) : (s.putS f v i j).pci = s.pci := Eq.trans rfl rfl
@[simp] theorem State.putS_causes (s : State) (f : Fref) (v : Int) (i j : Nat) : (s.putS f v i j).causes = s.causes := Eq.trans rfl rfl
@[simp] theorem State.putS_job (s : State) (f : Fref) (v : Int) (i j : Nat) : (s.putS f v i j).job = s.job := Eq.trans rfl rfl
@[simp] theorem State.putS_flu (s : State) (f : Fref) (v : Int) (i j : Nat) : (s.putS f v i j).flu = s.flu := Eq.trans rfl rfl
@[simp] theorem State.putS_flash (s : State) (f : Fref) (v : Int) (i j : Nat) : (s.putS f v i j).flash = s.flash := Eq.trans rfl rfl
@[simp] theorem State.putS_dram (s : State) (f : Fref) (v : Int) (i j : Nat) : (s.putS f v i j).dram = s.dram := Eq.trans rfl rfl
@[simp] theorem State.putS_sram (s : State) (f : Fref) (v : Int) (i j : Nat) : (s.putS f v i j).sram = s.sram := Eq.trans rfl rfl
@[simp] theorem State.putS_axesHalt (s : State) (f : Fref) (v : Int) (i j : Nat) : (s.putS f v i j).axesHalt = s.axesHalt := Eq.trans rfl rfl
@[simp] theorem State.putS_free (s : State) (f : Fref) (v : Int) (i j : Nat) : (s.putS f v i j).free = s.free := Eq.trans rfl rfl
@[simp] theorem State.putS_pending (s : State) (f : Fref) (v : Int) (i j : Nat) : (s.putS f v i j).pending = s.pending := Eq.trans rfl rfl

@[simp] theorem State.putBit_pend (s : State) (f : Fref) (b : Nat) (v : Bool) (i : Nat) : (s.putBit f b v i).pend = s.pend := Eq.trans rfl rfl
@[simp] theorem State.putBit_wide (s : State) (f : Fref) (b : Nat) (v : Bool) (i : Nat) : (s.putBit f b v i).wide = s.wide := Eq.trans rfl rfl
@[simp] theorem State.putBit_key (s : State) (f : Fref) (b : Nat) (v : Bool) (i : Nat) : (s.putBit f b v i).key = s.key := Eq.trans rfl rfl
@[simp] theorem State.putBit_mbx (s : State) (f : Fref) (b : Nat) (v : Bool) (i : Nat) : (s.putBit f b v i).mbx = s.mbx := Eq.trans rfl rfl
@[simp] theorem State.putBit_scn (s : State) (f : Fref) (b : Nat) (v : Bool) (i : Nat) : (s.putBit f b v i).scn = s.scn := Eq.trans rfl rfl
@[simp] theorem State.putBit_cor (s : State) (f : Fref) (b : Nat) (v : Bool) (i : Nat) : (s.putBit f b v i).cor = s.cor := Eq.trans rfl rfl
@[simp] theorem State.putBit_spn (s : State) (f : Fref) (b : Nat) (v : Bool) (i : Nat) : (s.putBit f b v i).spn = s.spn := Eq.trans rfl rfl
@[simp] theorem State.putBit_dmc (s : State) (f : Fref) (b : Nat) (v : Bool) (i : Nat) : (s.putBit f b v i).dmc = s.dmc := Eq.trans rfl rfl
@[simp] theorem State.putBit_dma (s : State) (f : Fref) (b : Nat) (v : Bool) (i : Nat) : (s.putBit f b v i).dma = s.dma := Eq.trans rfl rfl
@[simp] theorem State.putBit_dsp (s : State) (f : Fref) (b : Nat) (v : Bool) (i : Nat) : (s.putBit f b v i).dsp = s.dsp := Eq.trans rfl rfl
@[simp] theorem State.putBit_plk (s : State) (f : Fref) (b : Nat) (v : Bool) (i : Nat) : (s.putBit f b v i).plk = s.plk := Eq.trans rfl rfl
@[simp] theorem State.putBit_lsr (s : State) (f : Fref) (b : Nat) (v : Bool) (i : Nat) : (s.putBit f b v i).lsr = s.lsr := Eq.trans rfl rfl
@[simp] theorem State.putBit_afe (s : State) (f : Fref) (b : Nat) (v : Bool) (i : Nat) : (s.putBit f b v i).afe = s.afe := Eq.trans rfl rfl
@[simp] theorem State.putBit_lop (s : State) (f : Fref) (b : Nat) (v : Bool) (i : Nat) : (s.putBit f b v i).lop = s.lop := Eq.trans rfl rfl
@[simp] theorem State.putBit_cam (s : State) (f : Fref) (b : Nat) (v : Bool) (i : Nat) : (s.putBit f b v i).cam = s.cam := Eq.trans rfl rfl
@[simp] theorem State.putBit_axs (s : State) (f : Fref) (b : Nat) (v : Bool) (i : Nat) : (s.putBit f b v i).axs = s.axs := Eq.trans rfl rfl
@[simp] theorem State.putBit_lit (s : State) (f : Fref) (b : Nat) (v : Bool) (i : Nat) : (s.putBit f b v i).lit = s.lit := Eq.trans rfl rfl
@[simp] theorem State.putBit_thm (s : State) (f : Fref) (b : Nat) (v : Bool) (i : Nat) : (s.putBit f b v i).thm = s.thm := Eq.trans rfl rfl
@[simp] theorem State.putBit_cal (s : State) (f : Fref) (b : Nat) (v : Bool) (i : Nat) : (s.putBit f b v i).cal = s.cal := Eq.trans rfl rfl
@[simp] theorem State.putBit_fw (s : State) (f : Fref) (b : Nat) (v : Bool) (i : Nat) : (s.putBit f b v i).fw = s.fw := Eq.trans rfl rfl
@[simp] theorem State.putBit_otp (s : State) (f : Fref) (b : Nat) (v : Bool) (i : Nat) : (s.putBit f b v i).otp = s.otp := Eq.trans rfl rfl
@[simp] theorem State.putBit_sec (s : State) (f : Fref) (b : Nat) (v : Bool) (i : Nat) : (s.putBit f b v i).sec = s.sec := Eq.trans rfl rfl
@[simp] theorem State.putBit_vlt (s : State) (f : Fref) (b : Nat) (v : Bool) (i : Nat) : (s.putBit f b v i).vlt = s.vlt := Eq.trans rfl rfl
@[simp] theorem State.putBit_net (s : State) (f : Fref) (b : Nat) (v : Bool) (i : Nat) : (s.putBit f b v i).net = s.net := Eq.trans rfl rfl
@[simp] theorem State.putBit_pci (s : State) (f : Fref) (b : Nat) (v : Bool) (i : Nat) : (s.putBit f b v i).pci = s.pci := Eq.trans rfl rfl
@[simp] theorem State.putBit_causes (s : State) (f : Fref) (b : Nat) (v : Bool) (i : Nat) : (s.putBit f b v i).causes = s.causes := Eq.trans rfl rfl
@[simp] theorem State.putBit_job (s : State) (f : Fref) (b : Nat) (v : Bool) (i : Nat) : (s.putBit f b v i).job = s.job := Eq.trans rfl rfl
@[simp] theorem State.putBit_flu (s : State) (f : Fref) (b : Nat) (v : Bool) (i : Nat) : (s.putBit f b v i).flu = s.flu := Eq.trans rfl rfl
@[simp] theorem State.putBit_flash (s : State) (f : Fref) (b : Nat) (v : Bool) (i : Nat) : (s.putBit f b v i).flash = s.flash := Eq.trans rfl rfl
@[simp] theorem State.putBit_dram (s : State) (f : Fref) (b : Nat) (v : Bool) (i : Nat) : (s.putBit f b v i).dram = s.dram := Eq.trans rfl rfl
@[simp] theorem State.putBit_sram (s : State) (f : Fref) (b : Nat) (v : Bool) (i : Nat) : (s.putBit f b v i).sram = s.sram := Eq.trans rfl rfl
@[simp] theorem State.putBit_axesHalt (s : State) (f : Fref) (b : Nat) (v : Bool) (i : Nat) : (s.putBit f b v i).axesHalt = s.axesHalt := Eq.trans rfl rfl
@[simp] theorem State.putBit_free (s : State) (f : Fref) (b : Nat) (v : Bool) (i : Nat) : (s.putBit f b v i).free = s.free := Eq.trans rfl rfl
@[simp] theorem State.putBit_pending (s : State) (f : Fref) (b : Nat) (v : Bool) (i : Nat) : (s.putBit f b v i).pending = s.pending := Eq.trans rfl rfl

@[simp] theorem State.set1_pend (s : State) (f : Fref) (i j : Nat) : (s.set1 f i j).pend = s.pend := Eq.trans rfl rfl
@[simp] theorem State.set1_wide (s : State) (f : Fref) (i j : Nat) : (s.set1 f i j).wide = s.wide := Eq.trans rfl rfl
@[simp] theorem State.set1_key (s : State) (f : Fref) (i j : Nat) : (s.set1 f i j).key = s.key := Eq.trans rfl rfl
@[simp] theorem State.set1_mbx (s : State) (f : Fref) (i j : Nat) : (s.set1 f i j).mbx = s.mbx := Eq.trans rfl rfl
@[simp] theorem State.set1_scn (s : State) (f : Fref) (i j : Nat) : (s.set1 f i j).scn = s.scn := Eq.trans rfl rfl
@[simp] theorem State.set1_cor (s : State) (f : Fref) (i j : Nat) : (s.set1 f i j).cor = s.cor := Eq.trans rfl rfl
@[simp] theorem State.set1_spn (s : State) (f : Fref) (i j : Nat) : (s.set1 f i j).spn = s.spn := Eq.trans rfl rfl
@[simp] theorem State.set1_dmc (s : State) (f : Fref) (i j : Nat) : (s.set1 f i j).dmc = s.dmc := Eq.trans rfl rfl
@[simp] theorem State.set1_dma (s : State) (f : Fref) (i j : Nat) : (s.set1 f i j).dma = s.dma := Eq.trans rfl rfl
@[simp] theorem State.set1_dsp (s : State) (f : Fref) (i j : Nat) : (s.set1 f i j).dsp = s.dsp := Eq.trans rfl rfl
@[simp] theorem State.set1_plk (s : State) (f : Fref) (i j : Nat) : (s.set1 f i j).plk = s.plk := Eq.trans rfl rfl
@[simp] theorem State.set1_lsr (s : State) (f : Fref) (i j : Nat) : (s.set1 f i j).lsr = s.lsr := Eq.trans rfl rfl
@[simp] theorem State.set1_afe (s : State) (f : Fref) (i j : Nat) : (s.set1 f i j).afe = s.afe := Eq.trans rfl rfl
@[simp] theorem State.set1_lop (s : State) (f : Fref) (i j : Nat) : (s.set1 f i j).lop = s.lop := Eq.trans rfl rfl
@[simp] theorem State.set1_cam (s : State) (f : Fref) (i j : Nat) : (s.set1 f i j).cam = s.cam := Eq.trans rfl rfl
@[simp] theorem State.set1_axs (s : State) (f : Fref) (i j : Nat) : (s.set1 f i j).axs = s.axs := Eq.trans rfl rfl
@[simp] theorem State.set1_lit (s : State) (f : Fref) (i j : Nat) : (s.set1 f i j).lit = s.lit := Eq.trans rfl rfl
@[simp] theorem State.set1_thm (s : State) (f : Fref) (i j : Nat) : (s.set1 f i j).thm = s.thm := Eq.trans rfl rfl
@[simp] theorem State.set1_cal (s : State) (f : Fref) (i j : Nat) : (s.set1 f i j).cal = s.cal := Eq.trans rfl rfl
@[simp] theorem State.set1_fw (s : State) (f : Fref) (i j : Nat) : (s.set1 f i j).fw = s.fw := Eq.trans rfl rfl
@[simp] theorem State.set1_otp (s : State) (f : Fref) (i j : Nat) : (s.set1 f i j).otp = s.otp := Eq.trans rfl rfl
@[simp] theorem State.set1_sec (s : State) (f : Fref) (i j : Nat) : (s.set1 f i j).sec = s.sec := Eq.trans rfl rfl
@[simp] theorem State.set1_vlt (s : State) (f : Fref) (i j : Nat) : (s.set1 f i j).vlt = s.vlt := Eq.trans rfl rfl
@[simp] theorem State.set1_net (s : State) (f : Fref) (i j : Nat) : (s.set1 f i j).net = s.net := Eq.trans rfl rfl
@[simp] theorem State.set1_pci (s : State) (f : Fref) (i j : Nat) : (s.set1 f i j).pci = s.pci := Eq.trans rfl rfl
@[simp] theorem State.set1_causes (s : State) (f : Fref) (i j : Nat) : (s.set1 f i j).causes = s.causes := Eq.trans rfl rfl
@[simp] theorem State.set1_job (s : State) (f : Fref) (i j : Nat) : (s.set1 f i j).job = s.job := Eq.trans rfl rfl
@[simp] theorem State.set1_flu (s : State) (f : Fref) (i j : Nat) : (s.set1 f i j).flu = s.flu := Eq.trans rfl rfl
@[simp] theorem State.set1_flash (s : State) (f : Fref) (i j : Nat) : (s.set1 f i j).flash = s.flash := Eq.trans rfl rfl
@[simp] theorem State.set1_dram (s : State) (f : Fref) (i j : Nat) : (s.set1 f i j).dram = s.dram := Eq.trans rfl rfl
@[simp] theorem State.set1_sram (s : State) (f : Fref) (i j : Nat) : (s.set1 f i j).sram = s.sram := Eq.trans rfl rfl
@[simp] theorem State.set1_axesHalt (s : State) (f : Fref) (i j : Nat) : (s.set1 f i j).axesHalt = s.axesHalt := Eq.trans rfl rfl
@[simp] theorem State.set1_free (s : State) (f : Fref) (i j : Nat) : (s.set1 f i j).free = s.free := Eq.trans rfl rfl
@[simp] theorem State.set1_pending (s : State) (f : Fref) (i j : Nat) : (s.set1 f i j).pending = s.pending := Eq.trans rfl rfl

@[simp] theorem State.incSat_pend (s : State) (f : Fref) (i n : Nat) : (s.incSat f i n).pend = s.pend := Eq.trans rfl rfl
@[simp] theorem State.incSat_wide (s : State) (f : Fref) (i n : Nat) : (s.incSat f i n).wide = s.wide := Eq.trans rfl rfl
@[simp] theorem State.incSat_key (s : State) (f : Fref) (i n : Nat) : (s.incSat f i n).key = s.key := Eq.trans rfl rfl
@[simp] theorem State.incSat_mbx (s : State) (f : Fref) (i n : Nat) : (s.incSat f i n).mbx = s.mbx := Eq.trans rfl rfl
@[simp] theorem State.incSat_scn (s : State) (f : Fref) (i n : Nat) : (s.incSat f i n).scn = s.scn := Eq.trans rfl rfl
@[simp] theorem State.incSat_cor (s : State) (f : Fref) (i n : Nat) : (s.incSat f i n).cor = s.cor := Eq.trans rfl rfl
@[simp] theorem State.incSat_spn (s : State) (f : Fref) (i n : Nat) : (s.incSat f i n).spn = s.spn := Eq.trans rfl rfl
@[simp] theorem State.incSat_dmc (s : State) (f : Fref) (i n : Nat) : (s.incSat f i n).dmc = s.dmc := Eq.trans rfl rfl
@[simp] theorem State.incSat_dma (s : State) (f : Fref) (i n : Nat) : (s.incSat f i n).dma = s.dma := Eq.trans rfl rfl
@[simp] theorem State.incSat_dsp (s : State) (f : Fref) (i n : Nat) : (s.incSat f i n).dsp = s.dsp := Eq.trans rfl rfl
@[simp] theorem State.incSat_plk (s : State) (f : Fref) (i n : Nat) : (s.incSat f i n).plk = s.plk := Eq.trans rfl rfl
@[simp] theorem State.incSat_lsr (s : State) (f : Fref) (i n : Nat) : (s.incSat f i n).lsr = s.lsr := Eq.trans rfl rfl
@[simp] theorem State.incSat_afe (s : State) (f : Fref) (i n : Nat) : (s.incSat f i n).afe = s.afe := Eq.trans rfl rfl
@[simp] theorem State.incSat_lop (s : State) (f : Fref) (i n : Nat) : (s.incSat f i n).lop = s.lop := Eq.trans rfl rfl
@[simp] theorem State.incSat_cam (s : State) (f : Fref) (i n : Nat) : (s.incSat f i n).cam = s.cam := Eq.trans rfl rfl
@[simp] theorem State.incSat_axs (s : State) (f : Fref) (i n : Nat) : (s.incSat f i n).axs = s.axs := Eq.trans rfl rfl
@[simp] theorem State.incSat_lit (s : State) (f : Fref) (i n : Nat) : (s.incSat f i n).lit = s.lit := Eq.trans rfl rfl
@[simp] theorem State.incSat_thm (s : State) (f : Fref) (i n : Nat) : (s.incSat f i n).thm = s.thm := Eq.trans rfl rfl
@[simp] theorem State.incSat_cal (s : State) (f : Fref) (i n : Nat) : (s.incSat f i n).cal = s.cal := Eq.trans rfl rfl
@[simp] theorem State.incSat_fw (s : State) (f : Fref) (i n : Nat) : (s.incSat f i n).fw = s.fw := Eq.trans rfl rfl
@[simp] theorem State.incSat_otp (s : State) (f : Fref) (i n : Nat) : (s.incSat f i n).otp = s.otp := Eq.trans rfl rfl
@[simp] theorem State.incSat_sec (s : State) (f : Fref) (i n : Nat) : (s.incSat f i n).sec = s.sec := Eq.trans rfl rfl
@[simp] theorem State.incSat_vlt (s : State) (f : Fref) (i n : Nat) : (s.incSat f i n).vlt = s.vlt := Eq.trans rfl rfl
@[simp] theorem State.incSat_net (s : State) (f : Fref) (i n : Nat) : (s.incSat f i n).net = s.net := Eq.trans rfl rfl
@[simp] theorem State.incSat_pci (s : State) (f : Fref) (i n : Nat) : (s.incSat f i n).pci = s.pci := Eq.trans rfl rfl
@[simp] theorem State.incSat_causes (s : State) (f : Fref) (i n : Nat) : (s.incSat f i n).causes = s.causes := Eq.trans rfl rfl
@[simp] theorem State.incSat_job (s : State) (f : Fref) (i n : Nat) : (s.incSat f i n).job = s.job := Eq.trans rfl rfl
@[simp] theorem State.incSat_flu (s : State) (f : Fref) (i n : Nat) : (s.incSat f i n).flu = s.flu := Eq.trans rfl rfl
@[simp] theorem State.incSat_flash (s : State) (f : Fref) (i n : Nat) : (s.incSat f i n).flash = s.flash := Eq.trans rfl rfl
@[simp] theorem State.incSat_dram (s : State) (f : Fref) (i n : Nat) : (s.incSat f i n).dram = s.dram := Eq.trans rfl rfl
@[simp] theorem State.incSat_sram (s : State) (f : Fref) (i n : Nat) : (s.incSat f i n).sram = s.sram := Eq.trans rfl rfl
@[simp] theorem State.incSat_axesHalt (s : State) (f : Fref) (i n : Nat) : (s.incSat f i n).axesHalt = s.axesHalt := Eq.trans rfl rfl
@[simp] theorem State.incSat_free (s : State) (f : Fref) (i n : Nat) : (s.incSat f i n).free = s.free := Eq.trans rfl rfl
@[simp] theorem State.incSat_pending (s : State) (f : Fref) (i n : Nat) : (s.incSat f i n).pending = s.pending := Eq.trans rfl rfl

@[simp] theorem State.incWrap_pend (s : State) (f : Fref) (i n : Nat) : (s.incWrap f i n).pend = s.pend := Eq.trans rfl rfl
@[simp] theorem State.incWrap_wide (s : State) (f : Fref) (i n : Nat) : (s.incWrap f i n).wide = s.wide := Eq.trans rfl rfl
@[simp] theorem State.incWrap_key (s : State) (f : Fref) (i n : Nat) : (s.incWrap f i n).key = s.key := Eq.trans rfl rfl
@[simp] theorem State.incWrap_mbx (s : State) (f : Fref) (i n : Nat) : (s.incWrap f i n).mbx = s.mbx := Eq.trans rfl rfl
@[simp] theorem State.incWrap_scn (s : State) (f : Fref) (i n : Nat) : (s.incWrap f i n).scn = s.scn := Eq.trans rfl rfl
@[simp] theorem State.incWrap_cor (s : State) (f : Fref) (i n : Nat) : (s.incWrap f i n).cor = s.cor := Eq.trans rfl rfl
@[simp] theorem State.incWrap_spn (s : State) (f : Fref) (i n : Nat) : (s.incWrap f i n).spn = s.spn := Eq.trans rfl rfl
@[simp] theorem State.incWrap_dmc (s : State) (f : Fref) (i n : Nat) : (s.incWrap f i n).dmc = s.dmc := Eq.trans rfl rfl
@[simp] theorem State.incWrap_dma (s : State) (f : Fref) (i n : Nat) : (s.incWrap f i n).dma = s.dma := Eq.trans rfl rfl
@[simp] theorem State.incWrap_dsp (s : State) (f : Fref) (i n : Nat) : (s.incWrap f i n).dsp = s.dsp := Eq.trans rfl rfl
@[simp] theorem State.incWrap_plk (s : State) (f : Fref) (i n : Nat) : (s.incWrap f i n).plk = s.plk := Eq.trans rfl rfl
@[simp] theorem State.incWrap_lsr (s : State) (f : Fref) (i n : Nat) : (s.incWrap f i n).lsr = s.lsr := Eq.trans rfl rfl
@[simp] theorem State.incWrap_afe (s : State) (f : Fref) (i n : Nat) : (s.incWrap f i n).afe = s.afe := Eq.trans rfl rfl
@[simp] theorem State.incWrap_lop (s : State) (f : Fref) (i n : Nat) : (s.incWrap f i n).lop = s.lop := Eq.trans rfl rfl
@[simp] theorem State.incWrap_cam (s : State) (f : Fref) (i n : Nat) : (s.incWrap f i n).cam = s.cam := Eq.trans rfl rfl
@[simp] theorem State.incWrap_axs (s : State) (f : Fref) (i n : Nat) : (s.incWrap f i n).axs = s.axs := Eq.trans rfl rfl
@[simp] theorem State.incWrap_lit (s : State) (f : Fref) (i n : Nat) : (s.incWrap f i n).lit = s.lit := Eq.trans rfl rfl
@[simp] theorem State.incWrap_thm (s : State) (f : Fref) (i n : Nat) : (s.incWrap f i n).thm = s.thm := Eq.trans rfl rfl
@[simp] theorem State.incWrap_cal (s : State) (f : Fref) (i n : Nat) : (s.incWrap f i n).cal = s.cal := Eq.trans rfl rfl
@[simp] theorem State.incWrap_fw (s : State) (f : Fref) (i n : Nat) : (s.incWrap f i n).fw = s.fw := Eq.trans rfl rfl
@[simp] theorem State.incWrap_otp (s : State) (f : Fref) (i n : Nat) : (s.incWrap f i n).otp = s.otp := Eq.trans rfl rfl
@[simp] theorem State.incWrap_sec (s : State) (f : Fref) (i n : Nat) : (s.incWrap f i n).sec = s.sec := Eq.trans rfl rfl
@[simp] theorem State.incWrap_vlt (s : State) (f : Fref) (i n : Nat) : (s.incWrap f i n).vlt = s.vlt := Eq.trans rfl rfl
@[simp] theorem State.incWrap_net (s : State) (f : Fref) (i n : Nat) : (s.incWrap f i n).net = s.net := Eq.trans rfl rfl
@[simp] theorem State.incWrap_pci (s : State) (f : Fref) (i n : Nat) : (s.incWrap f i n).pci = s.pci := Eq.trans rfl rfl
@[simp] theorem State.incWrap_causes (s : State) (f : Fref) (i n : Nat) : (s.incWrap f i n).causes = s.causes := Eq.trans rfl rfl
@[simp] theorem State.incWrap_job (s : State) (f : Fref) (i n : Nat) : (s.incWrap f i n).job = s.job := Eq.trans rfl rfl
@[simp] theorem State.incWrap_flu (s : State) (f : Fref) (i n : Nat) : (s.incWrap f i n).flu = s.flu := Eq.trans rfl rfl
@[simp] theorem State.incWrap_flash (s : State) (f : Fref) (i n : Nat) : (s.incWrap f i n).flash = s.flash := Eq.trans rfl rfl
@[simp] theorem State.incWrap_dram (s : State) (f : Fref) (i n : Nat) : (s.incWrap f i n).dram = s.dram := Eq.trans rfl rfl
@[simp] theorem State.incWrap_sram (s : State) (f : Fref) (i n : Nat) : (s.incWrap f i n).sram = s.sram := Eq.trans rfl rfl
@[simp] theorem State.incWrap_axesHalt (s : State) (f : Fref) (i n : Nat) : (s.incWrap f i n).axesHalt = s.axesHalt := Eq.trans rfl rfl
@[simp] theorem State.incWrap_free (s : State) (f : Fref) (i n : Nat) : (s.incWrap f i n).free = s.free := Eq.trans rfl rfl
@[simp] theorem State.incWrap_pending (s : State) (f : Fref) (i n : Nat) : (s.incWrap f i n).pending = s.pending := Eq.trans rfl rfl

@[simp] theorem State.put64_pend (s : State) (lo hi : Fref) (v i : Nat) : (s.put64 lo hi v i).pend = s.pend := Eq.trans rfl rfl
@[simp] theorem State.put64_wide (s : State) (lo hi : Fref) (v i : Nat) : (s.put64 lo hi v i).wide = s.wide := Eq.trans rfl rfl
@[simp] theorem State.put64_key (s : State) (lo hi : Fref) (v i : Nat) : (s.put64 lo hi v i).key = s.key := Eq.trans rfl rfl
@[simp] theorem State.put64_mbx (s : State) (lo hi : Fref) (v i : Nat) : (s.put64 lo hi v i).mbx = s.mbx := Eq.trans rfl rfl
@[simp] theorem State.put64_scn (s : State) (lo hi : Fref) (v i : Nat) : (s.put64 lo hi v i).scn = s.scn := Eq.trans rfl rfl
@[simp] theorem State.put64_cor (s : State) (lo hi : Fref) (v i : Nat) : (s.put64 lo hi v i).cor = s.cor := Eq.trans rfl rfl
@[simp] theorem State.put64_spn (s : State) (lo hi : Fref) (v i : Nat) : (s.put64 lo hi v i).spn = s.spn := Eq.trans rfl rfl
@[simp] theorem State.put64_dmc (s : State) (lo hi : Fref) (v i : Nat) : (s.put64 lo hi v i).dmc = s.dmc := Eq.trans rfl rfl
@[simp] theorem State.put64_dma (s : State) (lo hi : Fref) (v i : Nat) : (s.put64 lo hi v i).dma = s.dma := Eq.trans rfl rfl
@[simp] theorem State.put64_dsp (s : State) (lo hi : Fref) (v i : Nat) : (s.put64 lo hi v i).dsp = s.dsp := Eq.trans rfl rfl
@[simp] theorem State.put64_plk (s : State) (lo hi : Fref) (v i : Nat) : (s.put64 lo hi v i).plk = s.plk := Eq.trans rfl rfl
@[simp] theorem State.put64_lsr (s : State) (lo hi : Fref) (v i : Nat) : (s.put64 lo hi v i).lsr = s.lsr := Eq.trans rfl rfl
@[simp] theorem State.put64_afe (s : State) (lo hi : Fref) (v i : Nat) : (s.put64 lo hi v i).afe = s.afe := Eq.trans rfl rfl
@[simp] theorem State.put64_lop (s : State) (lo hi : Fref) (v i : Nat) : (s.put64 lo hi v i).lop = s.lop := Eq.trans rfl rfl
@[simp] theorem State.put64_cam (s : State) (lo hi : Fref) (v i : Nat) : (s.put64 lo hi v i).cam = s.cam := Eq.trans rfl rfl
@[simp] theorem State.put64_axs (s : State) (lo hi : Fref) (v i : Nat) : (s.put64 lo hi v i).axs = s.axs := Eq.trans rfl rfl
@[simp] theorem State.put64_lit (s : State) (lo hi : Fref) (v i : Nat) : (s.put64 lo hi v i).lit = s.lit := Eq.trans rfl rfl
@[simp] theorem State.put64_thm (s : State) (lo hi : Fref) (v i : Nat) : (s.put64 lo hi v i).thm = s.thm := Eq.trans rfl rfl
@[simp] theorem State.put64_cal (s : State) (lo hi : Fref) (v i : Nat) : (s.put64 lo hi v i).cal = s.cal := Eq.trans rfl rfl
@[simp] theorem State.put64_fw (s : State) (lo hi : Fref) (v i : Nat) : (s.put64 lo hi v i).fw = s.fw := Eq.trans rfl rfl
@[simp] theorem State.put64_otp (s : State) (lo hi : Fref) (v i : Nat) : (s.put64 lo hi v i).otp = s.otp := Eq.trans rfl rfl
@[simp] theorem State.put64_sec (s : State) (lo hi : Fref) (v i : Nat) : (s.put64 lo hi v i).sec = s.sec := Eq.trans rfl rfl
@[simp] theorem State.put64_vlt (s : State) (lo hi : Fref) (v i : Nat) : (s.put64 lo hi v i).vlt = s.vlt := Eq.trans rfl rfl
@[simp] theorem State.put64_net (s : State) (lo hi : Fref) (v i : Nat) : (s.put64 lo hi v i).net = s.net := Eq.trans rfl rfl
@[simp] theorem State.put64_pci (s : State) (lo hi : Fref) (v i : Nat) : (s.put64 lo hi v i).pci = s.pci := Eq.trans rfl rfl
@[simp] theorem State.put64_causes (s : State) (lo hi : Fref) (v i : Nat) : (s.put64 lo hi v i).causes = s.causes := Eq.trans rfl rfl
@[simp] theorem State.put64_job (s : State) (lo hi : Fref) (v i : Nat) : (s.put64 lo hi v i).job = s.job := Eq.trans rfl rfl
@[simp] theorem State.put64_flu (s : State) (lo hi : Fref) (v i : Nat) : (s.put64 lo hi v i).flu = s.flu := Eq.trans rfl rfl
@[simp] theorem State.put64_flash (s : State) (lo hi : Fref) (v i : Nat) : (s.put64 lo hi v i).flash = s.flash := Eq.trans rfl rfl
@[simp] theorem State.put64_dram (s : State) (lo hi : Fref) (v i : Nat) : (s.put64 lo hi v i).dram = s.dram := Eq.trans rfl rfl
@[simp] theorem State.put64_sram (s : State) (lo hi : Fref) (v i : Nat) : (s.put64 lo hi v i).sram = s.sram := Eq.trans rfl rfl
@[simp] theorem State.put64_axesHalt (s : State) (lo hi : Fref) (v i : Nat) : (s.put64 lo hi v i).axesHalt = s.axesHalt := Eq.trans rfl rfl
@[simp] theorem State.put64_free (s : State) (lo hi : Fref) (v i : Nat) : (s.put64 lo hi v i).free = s.free := Eq.trans rfl rfl
@[simp] theorem State.put64_pending (s : State) (lo hi : Fref) (v i : Nat) : (s.put64 lo hi v i).pending = s.pending := Eq.trans rfl rfl

end Sys2Proof.Machine
end

