-- ==== Sys2Proof/Laws/Registers.lean ====
section
/-! SUPPORT. Reading a register or one of its fields after a write. -/

namespace Sys2Proof.Machine

@[simp] theorem Tab.find_put_self {α : Type} (t : Tab α) (k : Nat) (v : α) : Tab.find (Tab.put t k v) k = some v := by
  induction t with
  | nil => simp [Tab.put, Tab.find]
  | cons c t ih =>
    obtain ⟨j, w⟩ := c
    unfold Tab.put
    split
    · simp [Tab.find]
    · split
      · simp [Tab.find]
      · rename_i h _
        simp [Tab.find, h, ih]

theorem Tab.find_put_ne {α : Type} (t : Tab α) (k l : Nat) (v : α) (h : k ≠ l) : Tab.find (Tab.put t k v) l = Tab.find t l := by
  induction t with
  | nil => simp [Tab.put, Tab.find, h]
  | cons c t ih =>
    obtain ⟨j, w⟩ := c
    unfold Tab.put
    split
    · subst j
      simp [Tab.find, h]
    · split
      · simp [Tab.find, h]
      · simp [Tab.find, ih]

@[simp] theorem State.rd_wr_self (s : State) (a : Nat) (v : Word) : (s.wr a v).rd a = v := by
  simp [State.rd, State.wr]

theorem State.rd_wr_ne (s : State) (a b : Nat) (v : Word) (h : a ≠ b) : (s.wr a v).rd b = s.rd b := by
  simp [State.rd, State.wr, Tab.find_put_ne _ _ _ _ h]

theorem wset_testBit (w : Word) (hi lo v b : Nat) (hb : b < 32) :
    (wset w hi lo v).getLsbD b = if lo ≤ b ∧ b ≤ hi then v.testBit (b - lo) else w.getLsbD b := by
  have n : ∀ x : Nat, (word x).getLsbD b = x.testBit b := by
    intro x
    unfold word
    rw [BitVec.getLsbD_ofNat]
    simp [hb]
  have e : (word ((2 ^ (hi + 1 - lo) - 1) <<< lo)).getLsbD b = decide (lo ≤ b ∧ b ≤ hi) := by
    rw [n, Nat.testBit_shiftLeft, Nat.testBit_two_pow_sub_one]
    by_cases h1 : lo ≤ b
    · by_cases h2 : b ≤ hi
      · have : b - lo < hi + 1 - lo := by omega
        simp [h1, h2, this]
      · have : ¬ b - lo < hi + 1 - lo := by omega
        simp [h2, this]
    · simp [h1]
  have f : (word (v <<< lo)).getLsbD b = (decide (lo ≤ b) && v.testBit (b - lo)) := by
    rw [n, Nat.testBit_shiftLeft]
  unfold wset
  simp only [BitVec.getLsbD_or, BitVec.getLsbD_and, BitVec.getLsbD_not, e, f, hb, decide_true, Bool.true_and]
  by_cases h1 : lo ≤ b <;> by_cases h2 : b ≤ hi <;> simp [h1, h2]

/-- A field reads back what was written to it, modulo its width. -/
theorem wfield_wset_self (w : Word) (hi lo v : Nat) (h : lo ≤ hi) (k : hi < 32) : wfield (wset w hi lo v) hi lo = v % 2 ^ (hi + 1 - lo) := by
  apply Nat.eq_of_testBit_eq
  intro i
  unfold wfield
  rw [Nat.testBit_mod_two_pow, Nat.testBit_mod_two_pow]
  by_cases c : i < hi + 1 - lo
  · have hb : lo + i < 32 := by omega
    have := wset_testBit w hi lo v (lo + i) hb
    rw [BitVec.getLsbD] at this
    rw [Nat.testBit_shiftRight, this]
    have d : lo ≤ lo + i ∧ lo + i ≤ hi := by omega
    simp [c, d]
  · simp [c]

/-- A write to a field leaves a field of other bits as it was. -/
theorem wfield_wset_ne (w : Word) (hi lo v hi' lo' : Nat) (k : hi' < 32) (h : hi < lo' ∨ hi' < lo) :
    wfield (wset w hi lo v) hi' lo' = wfield w hi' lo' := by
  apply Nat.eq_of_testBit_eq
  intro i
  unfold wfield
  rw [Nat.testBit_mod_two_pow, Nat.testBit_mod_two_pow]
  by_cases c : i < hi' + 1 - lo'
  · have hb : lo' + i < 32 := by omega
    have := wset_testBit w hi lo v (lo' + i) hb
    rw [BitVec.getLsbD, BitVec.getLsbD] at this
    rw [Nat.testBit_shiftRight, Nat.testBit_shiftRight, this]
    have d : ¬ (lo ≤ lo' + i ∧ lo' + i ≤ hi) := by omega
    simp [d]
  · simp [c]

theorem State.get_put_self (s : State) (f : Fref) (v i j : Nat) (h : f.lo ≤ f.hi) (k : f.hi < 32) :
    (s.put f v i j).get f i j = v % 2 ^ (f.hi + 1 - f.lo) := by
  simp [State.get, State.put, wfield_wset_self _ _ _ _ h k]

theorem State.get_put_addr_ne (s : State) (f g : Fref) (v i j i' j' : Nat) (h : f.addr i j ≠ g.addr i' j') :
    (s.put f v i j).get g i' j' = s.get g i' j' := by
  simp [State.get, State.put, State.rd_wr_ne _ _ _ _ h]

theorem State.get_put_bits_ne (s : State) (f g : Fref) (v i j i' j' : Nat) (e : f.addr i j = g.addr i' j') (k : g.hi < 32)
    (h : f.hi < g.lo ∨ g.hi < f.lo) : (s.put f v i j).get g i' j' = s.get g i' j' := by
  simp [State.get, State.put, e, wfield_wset_ne _ _ _ _ _ _ k h]

/-- A write of one field leaves every register at another address as it was. -/
theorem State.rd_put_ne (s : State) (f : Fref) (v i j a : Nat) (h : f.addr i j ≠ a) : (s.put f v i j).rd a = s.rd a := by
  simp [State.put, State.rd_wr_ne _ _ _ _ h]

end Sys2Proof.Machine
end

