-- ==== Sys2Proof/Laws/StoredOps.lean ====
section
/-! SUPPORT. What the operations of Machine/Ops.lean keep of the memories: DRAM, the SRAM, the flash, the correction banks and the frame store. -/

namespace Sys2Proof.Machine

/-- The memories that hardly any command stores to: DRAM, the SRAM, the flash, the correction banks and the frame store. -/
def State.stored (s : State) : Memory × Memory × Memory × Memory × Memory := (s.dram, s.sram, s.flash, s.cor.banks, s.dsp.fs)

@[simp] theorem stored_pair (s : State) : (s.dram, s.sram, s.flash, s.cor.banks, s.dsp.fs) = s.stored := by
  unfold State.stored; exact Eq.trans rfl rfl

@[simp] theorem stored_mk (regs pend wide key mbx scn cor spn dmc dma dsp plk lsr afe lop cam axs lit thm cal fw otp sec vlt net pci causes job flu flash dram sram axesHalt free pending) :
    (State.mk regs pend wide key mbx scn cor spn dmc dma dsp plk lsr afe lop cam axs lit thm cal fw otp sec vlt net pci causes job flu flash dram sram axesHalt free pending).stored = (dram, sram, flash, cor.banks, dsp.fs) := by
  unfold State.stored; exact Eq.trans rfl rfl

@[simp] theorem foldl_stored {α : Type} (l : List α) (f : State → α → State) (h : ∀ s x, (f s x).stored = s.stored) (s : State) :
    (l.foldl f s).stored = s.stored := by
  induction l generalizing s with
  | nil => rfl
  | cons a t ih => rw [List.foldl_cons, ih, h]

@[simp] theorem forN_stored (n : Nat) (f : Nat → State → State) (h : ∀ i s, (f i s).stored = s.stored) (s : State) :
    (forN n f s).stored = s.stored := by
  unfold forN
  exact foldl_stored _ _ (fun s x => h x s) s

@[simp] theorem stored_ite (c : Prop) {_ : Decidable c} (a b : State) : (if c then a else b).stored = if c then a.stored else b.stored := by
  split <;> rfl

@[simp] theorem snd_ite_stored {β : Type} (c : Prop) {_ : Decidable c} (p q : β × State) :
    (if c then p else q).2.stored = if c then p.2.stored else q.2.stored := by
  split <;> rfl

@[simp] theorem fst_ite_stored {β : Type} (c : Prop) {_ : Decidable c} (p q : State × β) :
    (if c then p else q).1.stored = if c then p.1.stored else q.1.stored := by
  split <;> rfl

@[simp] theorem fresh_stored (s : State) : s.fresh.2.stored = s.stored := by
  unfold State.fresh; exact Eq.trans rfl rfl

@[simp] theorem after_stored (c : State → Out) (s : State) (h : (resultOf (c s) s).stored = s.stored) : (after c s).stored = s.stored := h

@[simp] theorem State.wr_stored (s : State) (a : Nat) (v : Word) : (@State.wr s a v).stored = s.stored := by
  unfold State.wr
  simp

@[simp] theorem State.put_stored (s : State) (f : Fref) (v : Nat) (i : Nat) (j : Nat) : (@State.put s f v i j).stored = s.stored := by
  unfold State.put
  simp

@[simp] theorem State.putS_stored (s : State) (f : Fref) (v : Int) (i : Nat) (j : Nat) : (@State.putS s f v i j).stored = s.stored := by
  unfold State.putS
  simp

@[simp] theorem State.putBit_stored (s : State) (f : Fref) (b : Nat) (v : Bool) (i : Nat) : (@State.putBit s f b v i).stored = s.stored := by
  unfold State.putBit
  simp

@[simp] theorem State.set1_stored (s : State) (f : Fref) (i : Nat) (j : Nat) : (@State.set1 s f i j).stored = s.stored := by
  unfold State.set1
  simp

@[simp] theorem State.incSat_stored (s : State) (f : Fref) (i : Nat) (n : Nat) : (@State.incSat s f i n).stored = s.stored := by
  unfold State.incSat
  simp

@[simp] theorem State.incWrap_stored (s : State) (f : Fref) (i : Nat) (n : Nat) : (@State.incWrap s f i n).stored = s.stored := by
  unfold State.incWrap
  simp

@[simp] theorem State.put64_stored (s : State) (lo : Fref) (hi : Fref) (v : Nat) (i : Nat) : (@State.put64 s lo hi v i).stored = s.stored := by
  unfold State.put64
  simp

@[simp] theorem State.putP_stored (s : State) (f : Fref) (v : Nat) (i : Nat) (j : Nat) : (@State.putP s f v i j).stored = s.stored := by
  unfold State.putP
  simp

@[simp] theorem State.putPS_stored (s : State) (f : Fref) (v : Int) (i : Nat) (j : Nat) : (@State.putPS s f v i j).stored = s.stored := by
  unfold State.putPS
  simp

@[simp] theorem State.transfer_stored (s : State) (mask : Nat) (capt : List (Nat × Word)) : (@State.transfer s mask capt).stored = s.stored := by
  unfold State.transfer
  exact foldl_stored _ _ (fun t x => by (repeat' split) <;> simp) s

@[simp] theorem State.requestCommit_stored (s : State) (mask : Nat) : (@State.requestCommit s mask).stored = s.stored := by
  unfold State.requestCommit
  simp

@[simp] theorem State.discard_stored (s : State) (mask : Nat) : (@State.discard s mask).stored = s.stored := by
  unfold State.discard
  simp

@[simp] theorem State.event_stored (s : State) (kind : Nat) (code : Nat) (tag : Nat) (arg : Nat) : (@State.event s kind code tag arg).stored = s.stored := by
  unfold State.event
  simp

@[simp] theorem State.setDebug_stored (s : State) (l : Nat) : (@State.setDebug s l).stored = s.stored := by
  unfold State.setDebug
  simp

@[simp] theorem State.enterMode_stored (s : State) (m : Nat) : (@State.enterMode s m).stored = s.stored := by
  unfold State.enterMode
  simp

@[simp] theorem State.raise_stored (s : State) (v : Nat) : (@State.raise s v).stored = s.stored := by
  unfold State.raise
  simp

@[simp] theorem freeBytes_stored (n : Nat) (s : State) : (@freeBytes n s).2.stored = s.stored := by
  unfold freeBytes
  simp

@[simp] theorem State.fluShow_stored (s : State) : (@State.fluShow s).stored = s.stored := by
  unfold State.fluShow
  simp

@[simp] theorem State.displace_stored (s : State) (v : Rec) : (@State.displace s v).stored = s.stored := by
  unfold State.displace
  simp

@[simp] theorem State.ringAppend_stored (s : State) (g : List Rec) (resv : Bool) : (@State.ringAppend s g resv).stored = s.stored := by
  unfold State.ringAppend
  simp

@[simp] theorem State.ringDrop_stored (s : State) (n : Nat) : (@State.ringDrop s n).stored = s.stored := by
  unfold State.ringDrop
  simp

@[simp] theorem State.f1Mode_stored (s : State) : (@State.f1Mode s).stored = s.stored := by
  unfold State.f1Mode
  simp

@[simp] theorem State.faultNote_stored (s : State) (src : Nat) (code : Nat) (cls : Nat) (unit : Nat) : (@State.faultNote s src code cls unit).stored = s.stored := by
  unfold State.faultNote
  repeat' first
    | (extract_lets +onlyGivenNames x; first
      | (have hx : State.stored x = State.stored s := (by first | (simp [x, *]; done) | (simp only [x]; (repeat' split) <;> simp [*]; done)); clear_value x)
      | (have hx : ∀ t : State, State.stored (x t) = State.stored t := (by intro t; first | (simp [x, *]; done) | (simp only [x]; (repeat' split) <;> simp [*]; done)); clear_value x)
      | (have hx := fun a => x a; clear hx)
      | clear_value x)
    | (simp [*]; done)
    | (split <;> try (rename_i heq; first
       | (have hk := congrArg (fun p => State.stored (Prod.snd p)) heq.symm; simp at hk)
       | (have hk := congrArg (fun p => State.stored (Prod.snd (Prod.snd p))) heq.symm; simp at hk)
       | (have hk := congrArg (fun p => State.stored (Prod.fst p)) heq.symm; simp at hk)))
    | (simp +zetaDelta [*]; done)

@[simp] theorem State.seal_stored (s : State) : (@State.seal s).stored = s.stored := by
  unfold State.seal
  simp

@[simp] theorem State.sealCheck_stored (s : State) : (@State.sealCheck s).stored = s.stored := by
  unfold State.sealCheck
  simp

@[simp] theorem State.toReserve_stored (s : State) (g : List Rec) : (@State.toReserve s g).stored = s.stored := by
  unfold State.toReserve
  simp

theorem makeRoom_stored (n sev k : Nat) (s t : State) (h : State.makeRoom n sev k s = some t) : t.stored = s.stored := by
  induction k generalizing s with
  | zero =>
    unfold State.makeRoom at h
    split at h <;> simp_all
  | succ k ih =>
    unfold State.makeRoom at h
    split at h
    · simp_all
    · split at h
      · rw [ih _ h, State.displace_stored]
      · simp at h

@[simp] theorem State.enterRecs_stored (s : State) (a1 : List Rec) : (@State.enterRecs s a1).stored = s.stored := by
  unfold State.enterRecs
  split
  · rfl
  · split
    · simp
    · split
      · rename_i h
        simp [makeRoom_stored _ _ _ _ _ h]
      · split <;> simp

@[simp] theorem State.inOrder_stored (s t : State) : (@State.inOrder s t).stored = t.stored := by
  unfold State.inOrder
  (repeat' split) <;> simp

@[simp] theorem State.gatesOff_stored (s : State) : (@State.gatesOff s).stored = s.stored := by
  unfold State.gatesOff
  simp

@[simp] theorem State.classAction_stored (s : State) (cls : Nat) : (@State.classAction s cls).stored = s.stored := by
  unfold State.classAction
  simp

@[simp] theorem State.faultWith_stored (s : State) (src : Nat) (code : Nat) (cls : Nat) (unit : Nat) (payload : List Byte) : (@State.faultWith s src code cls unit payload).stored = s.stored := by
  unfold State.faultWith
  cases faultLastAddr src <;> simp

@[simp] theorem State.fault_stored (s : State) (src : Nat) (code : Nat) (cls : Nat) (unit : Nat) (b1 : (Option Nat)) (x : (Option Nat)) : (@State.fault s src code cls unit b1 x).stored = s.stored := by
  unfold State.fault
  simp

@[simp] theorem State.dropCause_stored (s : State) (code : Nat) (unit : Nat) : (@State.dropCause s code unit).stored = s.stored := by
  unfold State.dropCause
  simp

@[simp] theorem State.reservedFault_stored (s : State) (src unit : Nat) : (@State.reservedFault s src unit).stored = s.stored := by
  unfold State.reservedFault
  simp

@[simp] theorem State.faultOnce_stored (s : State) (flag : Fref) (i : Nat) (src : Nat) (code : Nat) (cls : Nat) (unit : Nat) (b1 : (Option Nat)) (x : (Option Nat)) : (@State.faultOnce s flag i src code cls unit b1 x).stored = s.stored := by
  unfold State.faultOnce
  simp

end Sys2Proof.Machine
end

