-- ==== Sys2Proof/Laws/StoredKey.lean ====
section
/-! SUPPORT. What the operations of Machine/Key.lean keep of the memories: DRAM, the SRAM, the flash, the correction banks and the frame store. -/

namespace Sys2Proof.Machine

@[simp] theorem State.setWide_stored (s : State) (lo : Nat) (v : Nat) : (@State.setWide s lo v).stored = s.stored := by
  unfold State.setWide
  simp

@[simp] theorem State.advance_stored (s : State) (adv : Nat) : (@State.advance s adv).stored = s.stored := by
  unfold State.advance
  simp

@[simp] theorem State.tickOutEn_stored (s : State) (en : Bool) : (@State.tickOutEn s en).stored = s.stored := by
  unfold State.tickOutEn
  simp

@[simp] theorem State.showArmed_stored (s : State) : (@State.showArmed s).stored = s.stored := by
  unfold State.showArmed
  simp

@[simp] theorem execKeyCommitWrite_stored (groups : Nat) (phase : Nat) (s : State) : (resultOf (execKeyCommitWrite groups phase s) s).stored = s.stored := by
  unfold execKeyCommitWrite
  simp

@[simp] theorem State.schedArm_stored (s : State) (k : Nat) (mask : Nat) (phase : Nat) : (@State.schedArm s k mask phase).stored = s.stored := by
  unfold State.schedArm
  simp

@[simp] theorem execSchedArm_stored (k : Fin 8) (mask : Nat) (phase : Nat) (s : State) : (resultOf (execSchedArm k mask phase s) s).stored = s.stored := by
  unfold execSchedArm
  simp

@[simp] theorem execSchedDisarm_stored (k : Fin 8) (mask : Nat) (s : State) : (resultOf (execSchedDisarm k mask s) s).stored = s.stored := by
  unfold execSchedDisarm
  simp

@[simp] theorem execIncFracWrite_stored (v : Word) (s : State) : (resultOf (execIncFracWrite v s) s).stored = s.stored := by
  unfold execIncFracWrite
  simp

@[simp] theorem State.applyInc_stored (s : State) (inc : Nat) : (@State.applyInc s inc).stored = s.stored := by
  unfold State.applyInc
  simp

@[simp] theorem execIncIntWrite_stored (v : Word) (adv : Nat) (s : State) : (resultOf (execIncIntWrite v adv s) s).stored = s.stored := by
  unfold execIncIntWrite
  simp

@[simp] theorem execOfsLoWrite_stored (v : Word) (s : State) : (resultOf (execOfsLoWrite v s) s).stored = s.stored := by
  unfold execOfsLoWrite
  simp

@[simp] theorem State.acceptOfs_stored (s : State) (new : Nat) : (@State.acceptOfs s new).stored = s.stored := by
  unfold State.acceptOfs
  simp

@[simp] theorem State.refuseOfs_stored (s : State) : (@State.refuseOfs s).stored = s.stored := by
  unfold State.refuseOfs
  simp

@[simp] theorem State.snap_stored (s : State) : (@State.snap s).stored = s.stored := by
  unfold State.snap
  simp

@[simp] theorem execSnapCapture_stored (adv : Nat) (s : State) : (resultOf (execSnapCapture adv s) s).stored = s.stored := by
  unfold execSnapCapture
  simp

@[simp] theorem execOvrClear_stored (s : State) : (resultOf (execOvrClear s) s).stored = s.stored := by
  unfold execOvrClear
  simp

@[simp] theorem State.overrun_stored (s : State) (src : Nat) (p : Nat) : (@State.overrun s src p).stored = s.stored := by
  unfold State.overrun
  simp

@[simp] theorem execLatchingRead_stored (a : Nat) (adv : Nat) (s : State) : (resultOf (execLatchingRead a adv s) s).stored = s.stored := by
  unfold execLatchingRead
  simp

@[simp] theorem execTickInEdge_stored (t16 : Nat) (s : State) : (resultOf (execTickInEdge t16 s) s).stored = s.stored := by
  unfold execTickInEdge
  simp

@[simp] theorem execTickInFail_stored (s : State) : (resultOf (execTickInFail s) s).stored = s.stored := by
  unfold execTickInFail
  simp

@[simp] theorem execDiscLockGained_stored (s : State) : (resultOf (execDiscLockGained s) s).stored = s.stored := by
  unfold execDiscLockGained
  simp

@[simp] theorem execTimePllUnlock_stored (s : State) : (resultOf (execTimePllUnlock s) s).stored = s.stored := by
  unfold execTimePllUnlock
  simp

@[simp] theorem execTimePllRelock_stored (s : State) : (resultOf (execTimePllRelock s) s).stored = s.stored := by
  unfold execTimePllRelock
  simp

@[simp] theorem execRtPllUnlock_stored (s : State) : (resultOf (execRtPllUnlock s) s).stored = s.stored := by
  unfold execRtPllUnlock
  simp

end Sys2Proof.Machine
end

