-- ==== Sys2Proof/Laws/StoredOperands.lean ====
section
/-! SUPPORT. What the operations of Machine/Operands.lean keep of the memories: DRAM, the SRAM, the flash, the correction banks and the frame store. -/

namespace Sys2Proof.Machine

@[simp] theorem State.writeReply_stored (s : State) (m : Nat) (r : Reply) : (@State.writeReply s m r).stored = s.stored := by
  unfold State.writeReply
  simp

@[simp] theorem State.finish_stored (s : State) (m : Nat) (r : Reply) : (@State.finish s m r).stored = s.stored := by
  unfold State.finish
  simp

@[simp] theorem runCmd_stored (op : Nat) (s : State) (body : Req → State → State × Option Reply) (h : ∀ q t, (body q t).1.stored = t.stored) :
    (resultOf (runCmd op s body) s).stored = s.stored := by
  unfold runCmd
  cases s.mbx.taken with
  | none => simp
  | some m =>
    have e := h (s.request m) s
    cases hb : body (s.request m) s with
    | mk t r => cases r <;> simp_all

@[simp] theorem reader_stored (bad : List (Nat × Bool)) (s : State) (r : State → Reply) : (@reader bad s r).1.stored = s.stored := by
  unfold reader
  (repeat' split) <;> simp

@[simp] theorem finishWrite_stored (q : Req) (g : Nat) (s : State) (p : (List Nat)) : (@finishWrite q g s p).1.stored = s.stored := by
  unfold finishWrite
  simp

@[simp] theorem writer_stored (q : Req) (g : Nat) (bad : List (Nat × Bool)) (s : State) (w : State → State) (h : (w s).stored = s.stored) :
    (writer q g bad s w).1.stored = s.stored := by
  unfold writer
  split
  · rfl
  · split <;> simp [h]

@[simp] theorem State.startAction_stored (s : State) (q : Req) (arg : Nat) (arg2 : Nat) : (@State.startAction s q arg arg2).stored = s.stored := by
  unfold State.startAction
  simp

@[simp] theorem State.endActions_stored (s : State) (sel : Action → Bool) (st : Nat) : (@State.endActions s sel st).stored = s.stored := by
  unfold State.endActions
  simp

@[simp] theorem forPiers_stored (n : Nat) (f : Nat → State → State) (h : ∀ i s, (f i s).stored = s.stored) (s : State) :
    (forPiers n f s).stored = s.stored := by
  unfold forPiers
  exact foldl_stored _ _ (fun s x => h x s) s

end Sys2Proof.Machine
end

