-- ==== Sys2Proof/Laws/StoredFlags.lean ====
section
/-! SUPPORT. What the operations of Machine/Flags.lean keep of the memories: DRAM, the SRAM, the flash, the correction banks and the frame store. -/

namespace Sys2Proof.Machine

@[simp] theorem State.hostErr_stored (s : State) (f : Fref) : (@State.hostErr s f).stored = s.stored := by
  unfold State.hostErr
  simp

@[simp] theorem State.viaErr_stored (s : State) (e : ViaErr) (req : Nat) (isWrite : Bool) (addr : Nat) : (@State.viaErr s e req isWrite addr).stored = s.stored := by
  unfold State.viaErr
  simp

@[simp] theorem State.putSummary_stored (s : State) : (@State.putSummary s).stored = s.stored := by
  unfold State.putSummary
  simp

@[simp] theorem State.writeEvent_stored (s : State) (e : Ev) : (@State.writeEvent s e).stored = s.stored := by
  unfold State.writeEvent
  simp

@[simp] theorem State.postLost_stored (s : State) : (@State.postLost s).stored = s.stored := by
  unfold State.postLost
  simp

end Sys2Proof.Machine
end

