-- ==== Sys2Proof/Laws/StoredBus.lean ====
section
/-! SUPPORT. What the operations of Machine/Bus.lean keep of the memories: DRAM, the SRAM, the flash, the correction banks and the frame store. -/

namespace Sys2Proof.Machine

@[simp] theorem State.ueFound_stored (s : State) (beat : Nat) (req : Nat) (syn : Nat) : (@State.ueFound s beat req syn).stored = s.stored := by
  unfold State.ueFound
  simp

@[simp] theorem State.ceFound_stored (s : State) (beat : Nat) (scrub : Bool) (req : Nat) : (@State.ceFound s beat scrub req).stored = s.stored := by
  unfold State.ceFound
  simp

@[simp] theorem State.readBeat_stored (s : State) (req : Nat) (beat : Nat) : (@State.readBeat s req beat).stored = s.stored := by
  unfold State.readBeat
  (repeat' split) <;> simp

@[simp] theorem State.busErr_stored (s : State) (e : ViaErr) (req : Nat) (isWrite : Bool) (a : Nat) : (@State.busErr s e req isWrite a).stored = s.stored := by
  unfold State.busErr
  simp

@[simp] theorem State.dramWake_stored (s : State) (a : Nat) (n : Nat) : (@State.dramWake s a n).stored = s.stored := by
  unfold State.dramWake
  simp

@[simp] theorem State.portCount_stored (s : State) (req : Nat) (a : Nat) (n : Nat) : (@State.portCount s req a n).stored = s.stored := by
  unfold State.portCount
  simp

@[simp] theorem State.dramRead_stored (s : State) (req : Nat) (a : Nat) (n : Nat) : (@State.dramRead s req a n).2.2.stored = s.stored := by
  unfold State.dramRead
  repeat' first
    | (extract_lets +onlyGivenNames x; first
      | (have hx : State.stored x = State.stored s := (by first | (simp [x, *]; done) | (simp only [x]; (repeat' split) <;> simp [*]; done)); clear_value x)
      | (have hx : ∀ t : State, State.stored (x t) = State.stored t := (by intro t; first | (simp [x, *]; done) | (simp only [x]; (repeat' split) <;> simp [*]; done)); clear_value x)
      | (have hx := fun a => x a; clear hx)
      | clear_value x)
    | (simp [*]; done)
    | (split <;> try (rename_i heq; first
       | (have hk := congrArg (fun p => State.stored (Prod.snd p)) heq.symm; simp at hk)
       | (have hk := congrArg (fun p => State.stored (Prod.snd (Prod.snd p))) heq.symm; simp at hk)
       | (have hk := congrArg (fun p => State.stored (Prod.fst p)) heq.symm; simp at hk)))
    | (simp +zetaDelta [*]; done)

@[simp] theorem State.writeBeat_stored (s : State) (req : Nat) (a : Nat) (n : Nat) (beat : Nat) : (@State.writeBeat s req a n beat).stored = s.stored := by
  unfold State.writeBeat
  (repeat' split) <;> simp

@[simp] theorem State.nagusAddr_stored (s : State) (a : Nat) : (@State.nagusAddr s a).2.stored = s.stored := by
  unfold State.nagusAddr
  (repeat' split) <;> simp

@[simp] theorem State.captureAt_stored (s : State) (before : State) (a : Nat) : (@State.captureAt s before a).stored = s.stored := by
  unfold State.captureAt
  simp

@[simp] theorem State.fwRead_stored (s : State) (a : Nat) (n : Nat) : (@State.fwRead s a n).2.2.stored = s.stored := by
  unfold State.fwRead
  repeat' first
    | (extract_lets +onlyGivenNames x; first
      | (have hx : State.stored x = State.stored s := (by first | (simp [x, *]; done) | (simp only [x]; (repeat' split) <;> simp [*]; done)); clear_value x)
      | (have hx : ∀ t : State, State.stored (x t) = State.stored t := (by intro t; first | (simp [x, *]; done) | (simp only [x]; (repeat' split) <;> simp [*]; done)); clear_value x)
      | (have hx := fun a => x a; clear hx)
      | clear_value x)
    | (simp [*]; done)
    | (split <;> try (rename_i heq; first
       | (have hk := congrArg (fun p => State.stored (Prod.snd p)) heq.symm; simp at hk)
       | (have hk := congrArg (fun p => State.stored (Prod.snd (Prod.snd p))) heq.symm; simp at hk)
       | (have hk := congrArg (fun p => State.stored (Prod.fst p)) heq.symm; simp at hk)))
    | (simp +zetaDelta [*]; done)

end Sys2Proof.Machine
end

