-- ==== Sys2Proof/Laws/StoredSpn.lean ====
section
/-! SUPPORT. What the operations of Machine/Spn.lean keep of the memories: DRAM, the SRAM, the flash, the correction banks and the frame store. -/

namespace Sys2Proof.Machine

@[simp] theorem State.setPier_stored (s : State) (p : Nat) (q : PierSt) : (@State.setPier s p q).stored = s.stored := by
  unfold State.setPier
  simp

@[simp] theorem State.setPierState_stored (s : State) (p : Nat) (st : Nat) : (@State.setPierState s p st).stored = s.stored := by
  unfold State.setPierState
  simp

@[simp] theorem State.loseRecord_stored (s : State) (p : Nat) : (@State.loseRecord s p).stored = s.stored := by
  unfold State.loseRecord
  simp

@[simp] theorem State.stageRecord_stored (s : State) (p : Nat) (b : List Byte) : (@State.stageRecord s p b).stored = s.stored := by
  unfold State.stageRecord
  simp

@[simp] theorem State.closeRun_stored (s : State) (p : Nat) : (@State.closeRun s p).stored = s.stored := by
  unfold State.closeRun
  (repeat' split) <;> simp

@[simp] theorem State.showStitch_stored (s : State) : (@State.showStitch s).stored = s.stored := by
  unfold State.showStitch
  simp

@[simp] theorem State.setStitch_stored (s : State) (id : Nat) (e : Stitch) : (@State.setStitch s id e).stored = s.stored := by
  unfold State.setStitch
  simp

@[simp] theorem State.freeStitch_stored (s : State) (id : Nat) : (@State.freeStitch s id).stored = s.stored := by
  unfold State.freeStitch
  simp

@[simp] theorem State.releaseStitch_stored (s : State) (p : Nat) (role : Role) : (@State.releaseStitch s p role).stored = s.stored := by
  unfold State.releaseStitch
  (repeat' split) <;> simp

@[simp] theorem State.stitchRecord_stored (s : State) (p : Nat) (cause : Nat) (m : Motion) : (@State.stitchRecord s p cause m).stored = s.stored := by
  unfold State.stitchRecord
  simp

@[simp] theorem State.checkFade_stored (s : State) (inSide : Nat) (m : Motion) : (@State.checkFade s inSide m).stored = s.stored := by
  unfold State.checkFade
  simp

@[simp] theorem State.soloRelease_stored (s : State) (id : Nat) (e : Stitch) : (@State.soloRelease s id e).stored = s.stored := by
  unfold State.soloRelease
  repeat' first
    | (extract_lets +onlyGivenNames x; first
      | (have hx : State.stored x = State.stored s := (by first | (simp [x, *]; done) | (simp only [x]; (repeat' split) <;> simp [*]; done)); clear_value x)
      | (have hx : ∀ t : State, State.stored (x t) = State.stored t := (by intro t; first | (simp [x, *]; done) | (simp only [x]; (repeat' split) <;> simp [*]; done)); clear_value x)
      | (have hx := fun a => x a; clear hx)
      | clear_value x)
    | (simp [*]; done)
    | (split <;> try (rename_i heq; first
       | (have hk := congrArg (fun p => State.stored (Prod.snd p)) heq.symm; simp at hk)
       | (have hk := congrArg (fun p => State.stored (Prod.snd (Prod.snd p))) heq.symm; simp at hk)
       | (have hk := congrArg (fun p => State.stored (Prod.fst p)) heq.symm; simp at hk)))
    | (simp +zetaDelta [*]; done)

@[simp] theorem State.releasePair_stored (s : State) (a : Nat) (b : Nat) (id : Nat) : (@State.releasePair s a b id).stored = s.stored := by
  unfold State.releasePair
  simp

@[simp] theorem State.tickStitch_stored (s : State) (id : Nat) (e : Stitch) : (@State.tickStitch s id e).stored = s.stored := by
  unfold State.tickStitch
  simp

@[simp] theorem State.tickStitches_stored (s : State) : (@State.tickStitches s).stored = s.stored := by
  unfold State.tickStitches
  simp

@[simp] theorem State.registerStitch_stored (s : State) (c : Nat) (m : Motion) (inside : Bool) (geo : List Int) : (@State.registerStitch s c m inside geo).2.stored = s.stored := by
  unfold State.registerStitch
  (repeat' split) <;> simp

@[simp] theorem State.endStitch_stored (s : State) (p : Nat) (m : Motion) : (@State.endStitch s p m).stored = s.stored := by
  unfold State.endStitch
  repeat' first
    | (extract_lets +onlyGivenNames x; first
      | (have hx : State.stored x = State.stored s := (by first | (simp [x, *]; done) | (simp only [x]; (repeat' split) <;> simp [*]; done)); clear_value x)
      | (have hx : ∀ t : State, State.stored (x t) = State.stored t := (by intro t; first | (simp [x, *]; done) | (simp only [x]; (repeat' split) <;> simp [*]; done)); clear_value x)
      | (have hx := fun a => x a; clear hx)
      | clear_value x)
    | (simp [*]; done)
    | (split <;> try (rename_i heq; first
       | (have hk := congrArg (fun p => State.stored (Prod.snd p)) heq.symm; simp at hk)
       | (have hk := congrArg (fun p => State.stored (Prod.snd (Prod.snd p))) heq.symm; simp at hk)
       | (have hk := congrArg (fun p => State.stored (Prod.fst p)) heq.symm; simp at hk)))
    | (simp +zetaDelta [*]; done)

@[simp] theorem State.freeOrphans_stored (s : State) : (@State.freeOrphans s).stored = s.stored := by
  unfold State.freeOrphans
  simp

@[simp] theorem execStitchSoloRelease_stored (id : Fin 1024) (s : State) : (resultOf (execStitchSoloRelease id s) s).stored = s.stored := by
  unfold execStitchSoloRelease
  (repeat' split) <;> simp

@[simp] theorem State.noteGuard_stored (s : State) (v : List (Nat × Nat)) : (@State.noteGuard s v).stored = s.stored := by
  unfold State.noteGuard
  (repeat' split) <;> simp

@[simp] theorem State.runTick_stored (s : State) (p : Nat) (cause : Nat) : (@State.runTick s p cause).stored = s.stored := by
  unfold State.runTick
  repeat' first
    | (extract_lets +onlyGivenNames x; first
      | (have hx : State.stored x = State.stored s := (by first | (simp [x, *]; done) | (simp only [x]; (repeat' split) <;> simp [*]; done)); clear_value x)
      | (have hx : ∀ t : State, State.stored (x t) = State.stored t := (by intro t; first | (simp [x, *]; done) | (simp only [x]; (repeat' split) <;> simp [*]; done)); clear_value x)
      | (have hx := fun a => x a; clear hx)
      | clear_value x)
    | (simp [*]; done)
    | (split <;> try (rename_i heq; first
       | (have hk := congrArg (fun p => State.stored (Prod.snd p)) heq.symm; simp at hk)
       | (have hk := congrArg (fun p => State.stored (Prod.snd (Prod.snd p))) heq.symm; simp at hk)
       | (have hk := congrArg (fun p => State.stored (Prod.fst p)) heq.symm; simp at hk)))
    | (simp +zetaDelta [*]; done)

@[simp] theorem State.decideGates_stored (s : State) (late : List Nat) : (@State.decideGates s late).stored = s.stored := by
  unfold State.decideGates
  simp

@[simp] theorem State.patchIrq_stored (s : State) : (@State.patchIrq s).stored = s.stored := by
  unfold State.patchIrq
  simp

@[simp] theorem State.loseStaged_stored (s : State) : (@State.loseStaged s).stored = s.stored := by
  unfold State.loseStaged
  simp

@[simp] theorem State.patchOff_stored (s : State) : (@State.patchOff s).stored = s.stored := by
  unfold State.patchOff
  simp

@[simp] theorem State.stageError_stored (s : State) (n : Nat) : (@State.stageError s n).stored = s.stored := by
  unfold State.stageError
  (repeat' split) <;> simp

@[simp] theorem execPatchIrqTimeout_stored (s : State) : (resultOf (execPatchIrqTimeout s) s).stored = s.stored := by
  unfold execPatchIrqTimeout
  simp

@[simp] theorem State.patchOn_stored (s : State) : (@State.patchOn s).stored = s.stored := by
  unfold State.patchOn
  simp

@[simp] theorem execPatchEnWrite_stored (s : State) : (resultOf (execPatchEnWrite s) s).stored = s.stored := by
  unfold execPatchEnWrite
  simp

end Sys2Proof.Machine
end

