-- ==== Sys2Proof/Laws/StoredCor.lean ====
section
/-! SUPPORT. What the operations of Machine/Cor.lean keep of the memories: DRAM, the SRAM, the flash, the correction banks and the frame store. -/

namespace Sys2Proof.Machine

@[simp] theorem State.holdCodes_stored (s : State) (p : Nat) : (@State.holdCodes s p).stored = s.stored := by
  unfold State.holdCodes
  simp

@[simp] theorem State.setClamp_stored (s : State) (p : Nat) (v : Bool) : (@State.setClamp s p v).stored = s.stored := by
  unfold State.setClamp
  simp

@[simp] theorem State.clampEffect_stored (s : State) (p : Nat) (gate : Bool) : (@State.clampEffect s p gate).stored = s.stored := by
  unfold State.clampEffect
  simp

@[simp] theorem State.noGrid_stored (s : State) (p : Nat) (gate : Bool) : (@State.noGrid s p gate).stored = s.stored := by
  unfold State.noGrid
  simp

@[simp] theorem State.corTick_stored (s : State) (p : Nat) (ue : Bool) (back : Bool) : (@State.corTick s p ue back).stored = s.stored := by
  unfold State.corTick
  simp

@[simp] theorem State.swapBank_stored (s : State) (p : Nat) : (@State.swapBank s p).stored = s.stored := by
  unfold State.swapBank
  simp

@[simp] theorem State.slotWritten_stored (s : State) (p : Nat) : (@State.slotWritten s p).stored = s.stored := by
  unfold State.slotWritten
  simp

@[simp] theorem execBankReadyMark_stored (p : Fin 16) (s : State) : (resultOf (execBankReadyMark p s) s).stored = s.stored := by
  unfold execBankReadyMark
  simp

@[simp] theorem State.requestSwap_stored (s : State) (p : Nat) (v : Nat) : (@State.requestSwap s p v).stored = s.stored := by
  unfold State.requestSwap
  simp

@[simp] theorem execBankSwapRequest_stored (p : Fin 16) (layer : Bool) (ready : Bool) (s : State) : (resultOf (execBankSwapRequest p layer ready s) s).stored = s.stored := by
  unfold execBankSwapRequest
  simp

@[simp] theorem execBankSwapCancel_stored (p : Fin 16) (s : State) : (resultOf (execBankSwapCancel p s) s).stored = s.stored := by
  unfold execBankSwapCancel
  simp

@[simp] theorem execGridCrcStart_stored (bank : Fin 2) (p : Fin 16) (s : State) : (resultOf (execGridCrcStart bank p s) s).stored = s.stored := by
  unfold execGridCrcStart
  simp

@[simp] theorem State.crcEnd_stored (s : State) : (@State.crcEnd s).stored = s.stored := by
  unfold State.crcEnd
  simp

@[simp] theorem execGridCrcDone_stored (s : State) : (resultOf (execGridCrcDone s) s).stored = s.stored := by
  unfold execGridCrcDone
  simp

@[simp] theorem execCorFieldSet_stored (s : State) : (resultOf (execCorFieldSet s) s).stored = s.stored := by
  unfold execCorFieldSet
  simp

@[simp] theorem execCorSwap_stored (s : State) : (resultOf (execCorSwap s) s).stored = s.stored := by
  unfold execCorSwap
  refine runCmd_stored _ _ _ (fun q s => ?_)
  (repeat' split) <;> simp

@[simp] theorem execCorStatus_stored (s : State) : (resultOf (execCorStatus s) s).stored = s.stored := by
  unfold execCorStatus
  simp

@[simp] theorem execCorParamSet_stored (s : State) : (resultOf (execCorParamSet s) s).stored = s.stored := by
  unfold execCorParamSet
  refine runCmd_stored _ _ _ (fun q s => ?_)
  (repeat' split) <;> simp

@[simp] theorem execSpanMatrixSet_stored (s : State) : (resultOf (execSpanMatrixSet s) s).stored = s.stored := by
  unfold execSpanMatrixSet
  refine runCmd_stored _ _ _ (fun q s => ?_)
  (repeat' split) <;> simp

@[simp] theorem execSpanGasSet_stored (s : State) : (resultOf (execSpanGasSet s) s).stored = s.stored := by
  unfold execSpanGasSet
  simp

@[simp] theorem execSpanStitchSet_stored (s : State) : (resultOf (execSpanStitchSet s) s).stored = s.stored := by
  unfold execSpanStitchSet
  simp

@[simp] theorem execSpanStatus_stored (s : State) : (resultOf (execSpanStatus s) s).stored = s.stored := by
  unfold execSpanStatus
  simp

@[simp] theorem execSpanGuardSet_stored (s : State) : (resultOf (execSpanGuardSet s) s).stored = s.stored := by
  unfold execSpanGuardSet
  simp

end Sys2Proof.Machine
end

