-- ==== Sys2Proof/Laws/StoredScn.lean ====
section
/-! SUPPORT. What the operations of Machine/Scn.lean keep of the memories: DRAM, the SRAM, the flash, the correction banks and the frame store. -/

namespace Sys2Proof.Machine

@[simp] theorem State.lowWater_stored (s : State) (p : Nat) : (@State.lowWater s p).stored = s.stored := by
  unfold State.lowWater
  simp

@[simp] theorem State.lwmSet_stored (s : State) (p : Nat) : (@State.lwmSet s p).stored = s.stored := by
  unfold State.lwmSet
  simp

@[simp] theorem State.showFifo_stored (s : State) (p : Nat) : (@State.showFifo s p).stored = s.stored := by
  unfold State.showFifo
  simp

@[simp] theorem execRingIndexWrite_stored (p : Fin 16) (v : Word) (s : State) : (resultOf (execRingIndexWrite p v s) s).stored = s.stored := by
  unfold execRingIndexWrite
  simp

@[simp] theorem execFetchIssue_stored (p : Fin 16) (s : State) : (resultOf (execFetchIssue p s) s).stored = s.stored := by
  unfold execFetchIssue
  simp

@[simp] theorem State.enterFault_stored (s : State) (p : Nat) (code : Nat) : (@State.enterFault s p code).stored = s.stored := by
  unfold State.enterFault
  simp

@[simp] theorem execFetchComplete_stored (p : Fin 16) (s : State) : (resultOf (execFetchComplete p s) s).stored = s.stored := by
  unfold execFetchComplete
  repeat' first
    | (extract_lets +onlyGivenNames x; first
      | (have hx : State.stored x = State.stored s := (by first | (simp [x, *]; done) | (simp only [x]; (repeat' split) <;> simp [*]; done)); clear_value x)
      | (have hx : ∀ t : State, State.stored (x t) = State.stored t := (by intro t; first | (simp [x, *]; done) | (simp only [x]; (repeat' split) <;> simp [*]; done)); clear_value x)
      | (have hx := fun a => x a; clear hx)
      | clear_value x)
    | (simp [*]; done)
    | (split <;> try (rename_i heq; first
       | (have hk := congrArg (fun p => State.stored (Prod.snd p)) heq.symm; simp at hk)
       | (have hk := congrArg (fun p => State.stored (Prod.snd (Prod.snd p))) heq.symm; simp at hk)
       | (have hk := congrArg (fun p => State.stored (Prod.fst p)) heq.symm; simp at hk)))
    | (simp +zetaDelta [*]; done)

@[simp] theorem State.consume_stored (s : State) (p : Nat) (d : List Word) : (@State.consume s p d).stored = s.stored := by
  unfold State.consume
  simp

@[simp] theorem State.freshMessage_stored (s : State) (p : Nat) : (@State.freshMessage s p).stored = s.stored := by
  unfold State.freshMessage
  simp

@[simp] theorem State.closeDigest_stored (s : State) (p : Nat) (incomplete : Bool) : (@State.closeDigest s p incomplete).stored = s.stored := by
  unfold State.closeDigest
  simp

@[simp] theorem State.reject_stored (s : State) (p : Nat) (code : Nat) : (@State.reject s p code).stored = s.stored := by
  unfold State.reject
  simp

@[simp] theorem State.retire_stored (s : State) (p : Nat) : (@State.retire s p).stored = s.stored := by
  unfold State.retire
  (repeat' split) <;> simp

@[simp] theorem State.runStroke_stored (s : State) (p : Nat) (m : Motion) : (@State.runStroke s p m).stored = s.stored := by
  unfold State.runStroke
  simp

@[simp] theorem State.arrive_stored (s : State) (c : Nat) (id : Nat) (mask : Nat) : (@State.arrive s c id mask).stored = s.stored := by
  unfold State.arrive
  simp

@[simp] theorem State.layerEnd_stored (s : State) (p : Nat) : (@State.layerEnd s p).stored = s.stored := by
  unfold State.layerEnd
  simp

@[simp] theorem State.marker_stored (s : State) (p : Nat) (d : List Word) : (@State.marker s p d).stored = s.stored := by
  unfold State.marker
  simp

@[simp] theorem State.loadLoop_stored (s : State) (p : Nat) (img : Nat) : (@State.loadLoop s p img).stored = s.stored := by
  unfold State.loadLoop
  simp

@[simp] theorem State.carryOut_stored (s : State) (p : Nat) (d : List Word) (m : Motion) : (@State.carryOut s p d m).stored = s.stored := by
  unfold State.carryOut
  (repeat' split) <;> simp

@[simp] theorem State.takeDesc_stored (s : State) (p : Nat) : (@State.takeDesc s p).stored = s.stored := by
  unfold State.takeDesc
  repeat' first
    | (extract_lets +onlyGivenNames x; first
      | (have hx : State.stored x = State.stored s := (by first | (simp [x, *]; done) | (simp only [x]; (repeat' split) <;> simp [*]; done)); clear_value x)
      | (have hx : ∀ t : State, State.stored (x t) = State.stored t := (by intro t; first | (simp [x, *]; done) | (simp only [x]; (repeat' split) <;> simp [*]; done)); clear_value x)
      | (have hx := fun a => x a; clear hx)
      | clear_value x)
    | (simp [*]; done)
    | (split <;> try (rename_i heq; first
       | (have hk := congrArg (fun p => State.stored (Prod.snd p)) heq.symm; simp at hk)
       | (have hk := congrArg (fun p => State.stored (Prod.snd (Prod.snd p))) heq.symm; simp at hk)
       | (have hk := congrArg (fun p => State.stored (Prod.fst p)) heq.symm; simp at hk)))
    | (simp +zetaDelta [*]; done)

@[simp] theorem descCmd_stored (t : Nat) (p : Nat) (s : State) : (@descCmd t p s).stored = s.stored := by
  unfold descCmd
  repeat' first
    | (extract_lets +onlyGivenNames x; first
      | (have hx : State.stored x = State.stored s := (by first | (simp [x, *]; done) | (simp only [x]; (repeat' split) <;> simp [*]; done)); clear_value x)
      | (have hx : ∀ t : State, State.stored (x t) = State.stored t := (by intro t; first | (simp [x, *]; done) | (simp only [x]; (repeat' split) <;> simp [*]; done)); clear_value x)
      | (have hx := fun a => x a; clear hx)
      | clear_value x)
    | (simp [*]; done)
    | (split <;> try (rename_i heq; first
       | (have hk := congrArg (fun p => State.stored (Prod.snd p)) heq.symm; simp at hk)
       | (have hk := congrArg (fun p => State.stored (Prod.snd (Prod.snd p))) heq.symm; simp at hk)
       | (have hk := congrArg (fun p => State.stored (Prod.fst p)) heq.symm; simp at hk)))
    | (simp +zetaDelta [*]; done)

@[simp] theorem execDescNop_stored (p : Fin 16) (s : State) : (resultOf (execDescNop p s) s).stored = s.stored := by
  unfold execDescNop
  simp

@[simp] theorem execDescJump_stored (p : Fin 16) (s : State) : (resultOf (execDescJump p s) s).stored = s.stored := by
  unfold execDescJump
  simp

@[simp] theorem execDescMark_stored (p : Fin 16) (s : State) : (resultOf (execDescMark p s) s).stored = s.stored := by
  unfold execDescMark
  simp

@[simp] theorem execDescArc_stored (p : Fin 16) (s : State) : (resultOf (execDescArc p s) s).stored = s.stored := by
  unfold execDescArc
  simp

@[simp] theorem execDescDwell_stored (p : Fin 16) (s : State) : (resultOf (execDescDwell p s) s).stored = s.stored := by
  unfold execDescDwell
  simp

@[simp] theorem execDescWaitTick_stored (p : Fin 16) (s : State) : (resultOf (execDescWaitTick p s) s).stored = s.stored := by
  unfold execDescWaitTick
  simp

@[simp] theorem execDescBarrier_stored (p : Fin 16) (s : State) : (resultOf (execDescBarrier p s) s).stored = s.stored := by
  unfold execDescBarrier
  simp

@[simp] theorem execDescStitchOut_stored (p : Fin 16) (s : State) : (resultOf (execDescStitchOut p s) s).stored = s.stored := by
  unfold execDescStitchOut
  simp

@[simp] theorem execDescStitchIn_stored (p : Fin 16) (s : State) : (resultOf (execDescStitchIn p s) s).stored = s.stored := by
  unfold execDescStitchIn
  simp

@[simp] theorem execDescLayerEnd_stored (p : Fin 16) (s : State) : (resultOf (execDescLayerEnd p s) s).stored = s.stored := by
  unfold execDescLayerEnd
  simp

@[simp] theorem execDescLoadLoop_stored (p : Fin 16) (s : State) : (resultOf (execDescLoadLoop p s) s).stored = s.stored := by
  unfold execDescLoadLoop
  simp

@[simp] theorem execDescMarker_stored (p : Fin 16) (s : State) : (resultOf (execDescMarker p s) s).stored = s.stored := by
  unfold execDescMarker
  simp

@[simp] theorem execDescEnd_stored (p : Fin 16) (s : State) : (resultOf (execDescEnd p s) s).stored = s.stored := by
  unfold execDescEnd
  simp

@[simp] theorem State.waitExpire_stored (s : State) (p : Nat) : (@State.waitExpire s p).stored = s.stored := by
  unfold State.waitExpire
  repeat' first
    | (extract_lets +onlyGivenNames x; first
      | (have hx : State.stored x = State.stored s := (by first | (simp [x, *]; done) | (simp only [x]; (repeat' split) <;> simp [*]; done)); clear_value x)
      | (have hx : ∀ t : State, State.stored (x t) = State.stored t := (by intro t; first | (simp [x, *]; done) | (simp only [x]; (repeat' split) <;> simp [*]; done)); clear_value x)
      | (have hx := fun a => x a; clear hx)
      | clear_value x)
    | (simp [*]; done)
    | (split <;> try (rename_i heq; first
       | (have hk := congrArg (fun p => State.stored (Prod.snd p)) heq.symm; simp at hk)
       | (have hk := congrArg (fun p => State.stored (Prod.snd (Prod.snd p))) heq.symm; simp at hk)
       | (have hk := congrArg (fun p => State.stored (Prod.fst p)) heq.symm; simp at hk)))
    | (simp +zetaDelta [*]; done)

@[simp] theorem execWaitTickExpire_stored (p : Fin 16) (s : State) : (resultOf (execWaitTickExpire p s) s).stored = s.stored := by
  unfold execWaitTickExpire
  simp

@[simp] theorem State.barrierOut_stored (s : State) (b : Barrier) : (@State.barrierOut s b).stored = s.stored := by
  unfold State.barrierOut
  simp

@[simp] theorem execBarrierTimeout_stored (id : BitVec 16) (mask : BitVec 16) (s : State) : (resultOf (execBarrierTimeout id mask s) s).stored = s.stored := by
  unfold execBarrierTimeout
  (repeat' split) <;> simp

@[simp] theorem State.tickBarriers_stored (s : State) : (@State.tickBarriers s).stored = s.stored := by
  unfold State.tickBarriers
  simp

@[simp] theorem State.layerGo_stored (s : State) : (@State.layerGo s).stored = s.stored := by
  unfold State.layerGo
  simp

@[simp] theorem execLayerGoWrite_stored (s : State) : (resultOf (execLayerGoWrite s) s).stored = s.stored := by
  unfold execLayerGoWrite
  simp

@[simp] theorem State.layerEval_stored (s : State) : (@State.layerEval s).stored = s.stored := by
  unfold State.layerEval
  simp

@[simp] theorem State.layerStart_stored (s : State) : (@State.layerStart s).stored = s.stored := by
  unfold State.layerStart
  (repeat' split) <;> simp

@[simp] theorem execLayerStart_stored (s : State) : (resultOf (execLayerStart s) s).stored = s.stored := by
  unfold execLayerStart
  simp

@[simp] theorem execDigestTake_stored (p : Fin 16) (s : State) : (resultOf (execDigestTake p s) s).stored = s.stored := by
  unfold execDigestTake
  simp

@[simp] theorem State.scnRefuse_stored (s : State) : (@State.scnRefuse s).stored = s.stored := by
  unfold State.scnRefuse
  simp

@[simp] theorem State.layerSet_stored (s : State) (n : Nat) : (@State.layerSet s n).stored = s.stored := by
  unfold State.layerSet
  simp

@[simp] theorem execScnCmdStart_stored (mask : BitVec 16) (s : State) : (resultOf (execScnCmdStart mask s) s).stored = s.stored := by
  unfold execScnCmdStart
  simp

@[simp] theorem State.leaveBarrier_stored (s : State) (p : Nat) : (@State.leaveBarrier s p).stored = s.stored := by
  unfold State.leaveBarrier
  simp

@[simp] theorem State.dropStitch_stored (s : State) (p : Nat) : (@State.dropStitch s p).stored = s.stored := by
  unfold State.dropStitch
  repeat' first
    | (extract_lets +onlyGivenNames x; first
      | (have hx : State.stored x = State.stored s := (by first | (simp [x, *]; done) | (simp only [x]; (repeat' split) <;> simp [*]; done)); clear_value x)
      | (have hx : ∀ t : State, State.stored (x t) = State.stored t := (by intro t; first | (simp [x, *]; done) | (simp only [x]; (repeat' split) <;> simp [*]; done)); clear_value x)
      | (have hx := fun a => x a; clear hx)
      | clear_value x)
    | (simp [*]; done)
    | (split <;> try (rename_i heq; first
       | (have hk := congrArg (fun p => State.stored (Prod.snd p)) heq.symm; simp at hk)
       | (have hk := congrArg (fun p => State.stored (Prod.snd (Prod.snd p))) heq.symm; simp at hk)
       | (have hk := congrArg (fun p => State.stored (Prod.fst p)) heq.symm; simp at hk)))
    | (simp +zetaDelta [*]; done)

@[simp] theorem State.stopPier_stored (s : State) (p : Nat) : (@State.stopPier s p).stored = s.stored := by
  unfold State.stopPier
  simp

@[simp] theorem execScnCmdStop_stored (mask : BitVec 16) (s : State) : (resultOf (execScnCmdStop mask s) s).stored = s.stored := by
  unfold execScnCmdStop
  simp

@[simp] theorem State.resumeNow_stored (s : State) (p : Nat) : (@State.resumeNow s p).stored = s.stored := by
  unfold State.resumeNow
  repeat' first
    | (extract_lets +onlyGivenNames x; first
      | (have hx : State.stored x = State.stored s := (by first | (simp [x, *]; done) | (simp only [x]; (repeat' split) <;> simp [*]; done)); clear_value x)
      | (have hx : ∀ t : State, State.stored (x t) = State.stored t := (by intro t; first | (simp [x, *]; done) | (simp only [x]; (repeat' split) <;> simp [*]; done)); clear_value x)
      | (have hx := fun a => x a; clear hx)
      | clear_value x)
    | (simp [*]; done)
    | (split <;> try (rename_i heq; first
       | (have hk := congrArg (fun p => State.stored (Prod.snd p)) heq.symm; simp at hk)
       | (have hk := congrArg (fun p => State.stored (Prod.snd (Prod.snd p))) heq.symm; simp at hk)
       | (have hk := congrArg (fun p => State.stored (Prod.fst p)) heq.symm; simp at hk)))
    | (simp +zetaDelta [*]; done)

@[simp] theorem State.resumePier_stored (s : State) (p : Nat) : (@State.resumePier s p).stored = s.stored := by
  unfold State.resumePier
  simp

@[simp] theorem execScnCmdResume_stored (mask : BitVec 16) (s : State) : (resultOf (execScnCmdResume mask s) s).stored = s.stored := by
  unfold execScnCmdResume
  simp

@[simp] theorem execProfDataAccess_stored (v : Option (BitVec 16)) (s : State) : (resultOf (execProfDataAccess v s) s).stored = s.stored := by
  unfold execProfDataAccess
  (repeat' split) <;> simp

@[simp] theorem State.abandonRecord_stored (s : State) (p : Nat) (m : Motion) (last : Option (Nat × Nat × Int × Int)) (tick : Nat) (fail : Option (Int × Int)) : (@State.abandonRecord s p m last tick fail).stored = s.stored := by
  unfold State.abandonRecord
  (repeat' split) <;> simp

@[simp] theorem State.abandonPair_stored (s : State) (p : Nat) (d : Nat) (m : Motion) (n : Motion) (last : Option (Nat × Int × Int)) (tick : Nat) (fail : Option (Int × Int)) : (@State.abandonPair s p d m n last tick fail).stored = s.stored := by
  unfold State.abandonPair
  simp only []
  rw [State.freeStitch_stored]
  (repeat' split) <;> simp

@[simp] theorem State.cutPast_stored (s : State) (p : Nat) (lost : List Lag) : (@State.cutPast s p lost).stored = s.stored := by
  unfold State.cutPast
  simp

@[simp] theorem State.keepPast_stored (s : State) (p : Nat) (line : List Lag) : (@State.keepPast s p line).stored = s.stored := by
  unfold State.keepPast
  simp

@[simp] theorem State.partnerSolo_stored (s : State) (d : Nat) (n : Motion) : (@State.partnerSolo s d n).stored = s.stored := by
  unfold State.partnerSolo
  repeat' first
    | (extract_lets +onlyGivenNames x; first
      | (have hx : State.stored x = State.stored s := (by first | (simp [x, *]; done) | (simp only [x]; (repeat' split) <;> simp [*]; done)); clear_value x)
      | (have hx : ∀ t : State, State.stored (x t) = State.stored t := (by intro t; first | (simp [x, *]; done) | (simp only [x]; (repeat' split) <;> simp [*]; done)); clear_value x)
      | (have hx := fun a => x a; clear hx)
      | clear_value x)
    | (simp [*]; done)
    | (split <;> try (rename_i heq; first
       | (have hk := congrArg (fun p => State.stored (Prod.snd p)) heq.symm; simp at hk)
       | (have hk := congrArg (fun p => State.stored (Prod.snd (Prod.snd p))) heq.symm; simp at hk)
       | (have hk := congrArg (fun p => State.stored (Prod.fst p)) heq.symm; simp at hk)))
    | (simp +zetaDelta [*]; done)

@[simp] theorem State.abandonStroke_stored (s : State) (p : Nat) (m : Motion) (byCmd : Bool) (fail : Nat → Option (Nat × Int × Int)) (tick : Nat) : (@State.abandonStroke s p m byCmd fail tick).stored = s.stored := by
  unfold State.abandonStroke
  (repeat' split) <;> simp

@[simp] theorem State.stopPast_stored (s : State) (p : Nat) (m : Motion) : (@State.stopPast s p m).stored = s.stored := by
  unfold State.stopPast
  (repeat' split) <;> simp

@[simp] theorem State.beginStop_stored (s : State) (p : Nat) (fail : Nat → Option (Nat × Int × Int)) (tick : Nat) : (@State.beginStop s p fail tick).stored = s.stored := by
  unfold State.beginStop
  repeat' first
    | (extract_lets +onlyGivenNames x; first
      | (have hx : State.stored x = State.stored s := (by first | (simp [x, *]; done) | (simp only [x]; (repeat' split) <;> simp [*]; done)); clear_value x)
      | (have hx : ∀ t : State, State.stored (x t) = State.stored t := (by intro t; first | (simp [x, *]; done) | (simp only [x]; (repeat' split) <;> simp [*]; done)); clear_value x)
      | (have hx := fun a => x a; clear hx)
      | clear_value x)
    | (simp [*]; done)
    | (split <;> try (rename_i heq; first
       | (have hk := congrArg (fun p => State.stored (Prod.snd p)) heq.symm; simp at hk)
       | (have hk := congrArg (fun p => State.stored (Prod.snd (Prod.snd p))) heq.symm; simp at hk)
       | (have hk := congrArg (fun p => State.stored (Prod.fst p)) heq.symm; simp at hk)))
    | (simp +zetaDelta [*]; done)

@[simp] theorem State.resetPier_stored (s : State) (p : Nat) : (@State.resetPier s p).stored = s.stored := by
  unfold State.resetPier
  simp

@[simp] theorem execScnCmdReset_stored (mask : BitVec 16) (s : State) : (resultOf (execScnCmdReset mask s) s).stored = s.stored := by
  unfold execScnCmdReset
  simp

@[simp] theorem State.underflow_stored (s : State) (p : Nat) : (@State.underflow s p).stored = s.stored := by
  unfold State.underflow
  simp

@[simp] theorem State.phi0_stored (s : State) (p : Nat) (fail : Nat → Option (Nat × Int × Int)) : (@State.phi0 s p fail).stored = s.stored := by
  unfold State.phi0
  simp

@[simp] theorem State.showHand_stored (s : State) (p : Nat) : (@State.showHand s p).stored = s.stored := by
  unfold State.showHand
  simp

@[simp] theorem State.handPier_stored (s : State) (p : Nat) (late : Bool) : (@State.handPier s p late).stored = s.stored := by
  unfold State.handPier
  simp

@[simp] theorem State.slipPier_stored (s : State) (before : PierSt) (p : Nat) : (@State.slipPier s before p).stored = s.stored := by
  unfold State.slipPier
  simp

@[simp] theorem State.finishStroke_stored (s : State) (p : Nat) (before : PierSt) : (@State.finishStroke s p before).stored = s.stored := by
  unfold State.finishStroke
  (repeat' split) <;> simp

@[simp] theorem State.scnEdge_stored (s : State) (p : Nat) (forced : Bool) (lastLit : Option (Nat × Nat × Int × Int)) : (@State.scnEdge s p forced lastLit).stored = s.stored := by
  unfold State.scnEdge
  repeat' first
    | (extract_lets +onlyGivenNames x; first
      | (have hx : State.stored x = State.stored s := (by first | (simp [x, *]; done) | (simp only [x]; (repeat' split) <;> simp [*]; done)); clear_value x)
      | (have hx : ∀ t : State, State.stored (x t) = State.stored t := (by intro t; first | (simp [x, *]; done) | (simp only [x]; (repeat' split) <;> simp [*]; done)); clear_value x)
      | (have hx := fun a => x a; clear hx)
      | clear_value x)
    | (simp [*]; done)
    | (split <;> try (rename_i heq; first
       | (have hk := congrArg (fun p => State.stored (Prod.snd p)) heq.symm; simp at hk)
       | (have hk := congrArg (fun p => State.stored (Prod.snd (Prod.snd p))) heq.symm; simp at hk)
       | (have hk := congrArg (fun p => State.stored (Prod.fst p)) heq.symm; simp at hk)))
    | (simp +zetaDelta [*]; done)

@[simp] theorem execScnRingStatus_stored (s : State) : (resultOf (execScnRingStatus s) s).stored = s.stored := by
  unfold execScnRingStatus
  simp

@[simp] theorem execScnProfileLoad_stored (s : State) : (resultOf (execScnProfileLoad s) s).stored = s.stored := by
  unfold execScnProfileLoad
  refine runCmd_stored _ _ _ (fun q s => ?_)
  repeat' first
    | (extract_lets +onlyGivenNames x; first
      | (have hx : State.stored x = State.stored s := (by first | (simp [x, *]; done) | (simp only [x]; (repeat' split) <;> simp [*]; done)); clear_value x)
      | (have hx : ∀ t : State, State.stored (x t) = State.stored t := (by intro t; first | (simp [x, *]; done) | (simp only [x]; (repeat' split) <;> simp [*]; done)); clear_value x)
      | (have hx := fun a => x a; clear hx)
      | clear_value x)
    | (simp [*]; done)
    | (split <;> try (rename_i heq; first
       | (have hk := congrArg (fun p => State.stored (Prod.snd p)) heq.symm; simp at hk)
       | (have hk := congrArg (fun p => State.stored (Prod.snd (Prod.snd p))) heq.symm; simp at hk)
       | (have hk := congrArg (fun p => State.stored (Prod.fst p)) heq.symm; simp at hk)))
    | (simp +zetaDelta [*]; done)

@[simp] theorem execScnDigest_stored (s : State) : (resultOf (execScnDigest s) s).stored = s.stored := by
  unfold execScnDigest
  refine runCmd_stored _ _ _ (fun q s => ?_)
  (repeat' split) <;> simp

@[simp] theorem execScnLimitsSet_stored (s : State) : (resultOf (execScnLimitsSet s) s).stored = s.stored := by
  unfold execScnLimitsSet
  refine runCmd_stored _ _ _ (fun q s => ?_)
  (repeat' split) <;> simp

@[simp] theorem execScnBarrierSet_stored (s : State) : (resultOf (execScnBarrierSet s) s).stored = s.stored := by
  unfold execScnBarrierSet
  simp

@[simp] theorem execScnLimitsRead_stored (s : State) : (resultOf (execScnLimitsRead s) s).stored = s.stored := by
  unfold execScnLimitsRead
  simp

end Sys2Proof.Machine
end

