-- ==== Sys2Proof/Laws/StoredPlk.lean ====
section
/-! SUPPORT. What the operations of Machine/Plk.lean keep of the memories: DRAM, the SRAM, the flash, the correction banks and the frame store. -/

namespace Sys2Proof.Machine

@[simp] theorem State.setLink_stored (s : State) (p : Nat) (l : LinkSt) : (@State.setLink s p l).stored = s.stored := by
  unfold State.setLink
  simp

@[simp] theorem State.setLinkState_stored (s : State) (p : Nat) (st : Nat) : (@State.setLinkState s p st).stored = s.stored := by
  unfold State.setLinkState
  simp

@[simp] theorem State.handLinkOk_stored (s : State) (p : Nat) : (@State.handLinkOk s p).stored = s.stored := by
  unfold State.handLinkOk
  simp

@[simp] theorem State.noHead_stored (s : State) (p : Nat) : (@State.noHead s p).stored = s.stored := by
  unfold State.noHead
  simp

@[simp] theorem State.beginTraining_stored (s : State) (p : Nat) (reason : Nat) : (@State.beginTraining s p reason).stored = s.stored := by
  unfold State.beginTraining
  simp

@[simp] theorem State.failTraining_stored (s : State) (p : Nat) (reason : Nat) : (@State.failTraining s p reason).stored = s.stored := by
  unfold State.failTraining
  simp

@[simp] theorem State.linkUp_stored (s : State) (p : Nat) : (@State.linkUp s p).stored = s.stored := by
  unfold State.linkUp
  simp

@[simp] theorem State.headRun_stored (s : State) (p : Nat) (bit : Bool) (r : Nat) (flag : Fref) (code : Nat) (cls : Nat) : (@State.headRun s p bit r flag code cls).stored = s.stored := by
  unfold State.headRun
  simp

@[simp] theorem State.headStatus_stored (s : State) (p : Nat) (st : Nat) : (@State.headStatus s p st).stored = s.stored := by
  unfold State.headStatus
  simp

@[simp] theorem State.headCodes_stored (s : State) (p : Nat) (b : List Byte) : (@State.headCodes s p b).stored = s.stored := by
  unfold State.headCodes
  simp

@[simp] theorem State.failedTick_stored (s : State) (p : Nat) (dl : Bool) : (@State.failedTick s p dl).stored = s.stored := by
  unfold State.failedTick
  simp

@[simp] theorem State.judge_stored (s : State) (p : Nat) (n : Nat) (k : Nat) : (@State.judge s p n k).2.stored = s.stored := by
  unfold State.judge
  repeat' first
    | (extract_lets +onlyGivenNames x; first
      | (have hx : State.stored x = State.stored s := (by first | (simp [x, *]; done) | (simp only [x]; (repeat' split) <;> simp [*]; done)); clear_value x)
      | (have hx : ∀ t : State, State.stored (x t) = State.stored t := (by intro t; first | (simp [x, *]; done) | (simp only [x]; (repeat' split) <;> simp [*]; done)); clear_value x)
      | (have hx := fun a => x a; clear hx)
      | clear_value x)
    | (simp [*]; done)
    | (split <;> try (rename_i heq; first
       | (have hk := congrArg (fun p => State.stored (Prod.snd p)) heq.symm; simp at hk)
       | (have hk := congrArg (fun p => State.stored (Prod.snd (Prod.snd p))) heq.symm; simp at hk)
       | (have hk := congrArg (fun p => State.stored (Prod.fst p)) heq.symm; simp at hk)))
    | (simp +zetaDelta [*]; done)

@[simp] theorem State.checkIdent_stored (s : State) (p : Nat) : (@State.checkIdent s p).stored = s.stored := by
  unfold State.checkIdent
  repeat' first
    | (extract_lets +onlyGivenNames x; first
      | (have hx : State.stored x = State.stored s := (by first | (simp [x, *]; done) | (simp only [x]; (repeat' split) <;> simp [*]; done)); clear_value x)
      | (have hx : ∀ t : State, State.stored (x t) = State.stored t := (by intro t; first | (simp [x, *]; done) | (simp only [x]; (repeat' split) <;> simp [*]; done)); clear_value x)
      | (have hx := fun a => x a; clear hx)
      | clear_value x)
    | (simp [*]; done)
    | (split <;> try (rename_i heq; first
       | (have hk := congrArg (fun p => State.stored (Prod.snd p)) heq.symm; simp at hk)
       | (have hk := congrArg (fun p => State.stored (Prod.snd (Prod.snd p))) heq.symm; simp at hk)
       | (have hk := congrArg (fun p => State.stored (Prod.fst p)) heq.symm; simp at hk)))
    | (simp +zetaDelta [*]; done)

@[simp] theorem State.closeTick_stored (s : State) (p : Nat) : (@State.closeTick s p).stored = s.stored := by
  unfold State.closeTick
  simp

@[simp] theorem State.checkTick_stored (s : State) (p : Nat) : (@State.checkTick s p).stored = s.stored := by
  unfold State.checkTick
  simp only []
  have h : ∀ (t b : State) (a : Bool), t.judge p 13 9 = (a, b) → b.stored = t.stored := by
    intro t b a e
    have k := State.judge_stored t p 13 9
    rw [e] at k
    exact k
  (repeat' split) <;> first | (simp; done) | (rename_i e; simp [h _ _ _ e])

@[simp] theorem State.keepPre_stored (s : State) (p : Nat) : (@State.keepPre s p).stored = s.stored := by
  unfold State.keepPre
  simp

@[simp] theorem execUlDeadlineCheck_stored (p : Fin 16) (s : State) : (resultOf (execUlDeadlineCheck p s) s).stored = s.stored := by
  unfold execUlDeadlineCheck
  simp

@[simp] theorem State.lockLost_stored (s : State) (p : Nat) : (@State.lockLost s p).stored = s.stored := by
  unfold State.lockLost
  simp

@[simp] theorem State.rx_stored (s : State) (p : Nat) (gs : List (BitVec 10)) : (@State.rx s p gs).2.stored = s.stored := by
  unfold State.rx
  (repeat' split) <;> simp

@[simp] theorem State.heard_stored (s : State) (p : Nat) (gs : List (BitVec 10)) : (@State.heard s p gs).stored = s.stored := by
  unfold State.heard
  (repeat' split) <;> simp

@[simp] theorem State.rxFrame_stored (s : State) (p : Nat) (gs : List (BitVec 10)) (take : Bool) : (@State.rxFrame s p gs take).stored = s.stored := by
  unfold State.rxFrame
  repeat' first
    | (extract_lets +onlyGivenNames x; first
      | (have hx : State.stored x = State.stored s := (by first | (simp [x, *]; done) | (simp only [x]; (repeat' split) <;> simp [*]; done)); clear_value x)
      | (have hx : ∀ t : State, State.stored (x t) = State.stored t := (by intro t; first | (simp [x, *]; done) | (simp only [x]; (repeat' split) <;> simp [*]; done)); clear_value x)
      | (have hx := fun a => x a; clear hx)
      | clear_value x)
    | (simp [*]; done)
    | (split <;> try (rename_i heq; first
       | (have hk := congrArg (fun p => State.stored (Prod.snd p)) heq.symm; simp at hk)
       | (have hk := congrArg (fun p => State.stored (Prod.snd (Prod.snd p))) heq.symm; simp at hk)
       | (have hk := congrArg (fun p => State.stored (Prod.fst p)) heq.symm; simp at hk)))
    | (simp +zetaDelta [*]; done)

@[simp] theorem execUplinkFrame_stored (p : Fin 16) (before gs : List (BitVec 10)) (s : State) : (resultOf (execUplinkFrame p before gs s) s).stored = s.stored := by
  unfold execUplinkFrame
  simp

@[simp] theorem execLegacyUplinkFrame_stored (p : Fin 16) (before gs : List (BitVec 10)) (s : State) : (resultOf (execLegacyUplinkFrame p before gs s) s).stored = s.stored := by
  unfold execLegacyUplinkFrame
  simp

@[simp] theorem State.checkExchange_stored (s : State) (p : Nat) : (@State.checkExchange s p).stored = s.stored := by
  unfold State.checkExchange
  simp

@[simp] theorem execLegacyExchangeCheck_stored (p : Fin 16) (s : State) : (resultOf (execLegacyExchangeCheck p s) s).stored = s.stored := by
  unfold execLegacyExchangeCheck
  simp

@[simp] theorem State.quietLoss_stored (s : State) (p : Nat) : (@State.quietLoss s p).stored = s.stored := by
  unfold State.quietLoss
  simp

@[simp] theorem execSymbolLockLost_stored (p : Fin 16) (gs : List (BitVec 10)) (s : State) : (resultOf (execSymbolLockLost p gs s) s).stored = s.stored := by
  unfold execSymbolLockLost
  repeat' first
    | (extract_lets +onlyGivenNames x; first
      | (have hx : State.stored x = State.stored s := (by first | (simp [x, *]; done) | (simp only [x]; (repeat' split) <;> simp [*]; done)); clear_value x)
      | (have hx : ∀ t : State, State.stored (x t) = State.stored t := (by intro t; first | (simp [x, *]; done) | (simp only [x]; (repeat' split) <;> simp [*]; done)); clear_value x)
      | (have hx := fun a => x a; clear hx)
      | clear_value x)
    | (simp [*]; done)
    | (split <;> try (rename_i heq; first
       | (have hk := congrArg (fun p => State.stored (Prod.snd p)) heq.symm; simp at hk)
       | (have hk := congrArg (fun p => State.stored (Prod.snd (Prod.snd p))) heq.symm; simp at hk)
       | (have hk := congrArg (fun p => State.stored (Prod.fst p)) heq.symm; simp at hk)))
    | (simp +zetaDelta [*]; done)

@[simp] theorem execSymbolLockRegain_stored (p : Fin 16) (s : State) : (resultOf (execSymbolLockRegain p s) s).stored = s.stored := by
  unfold execSymbolLockRegain
  simp

@[simp] theorem State.trainStart_stored (s : State) (p : Nat) (sweep : Bool) : (@State.trainStart s p sweep).stored = s.stored := by
  unfold State.trainStart
  simp

@[simp] theorem execTrainStart_stored (p : Fin 16) (sweep : Bool) (s : State) : (resultOf (execTrainStart p sweep s) s).stored = s.stored := by
  unfold execTrainStart
  simp

@[simp] theorem State.sweepResult_stored (s : State) (p : Nat) (taps : List Bool) : (@State.sweepResult s p taps).stored = s.stored := by
  unfold State.sweepResult
  simp

@[simp] theorem State.loadHead_stored (s : State) (p : Nat) : (@State.loadHead s p).stored = s.stored := by
  unfold State.loadHead
  simp

@[simp] theorem State.advanceTraining_stored (s : State) (p : Nat) : (@State.advanceTraining s p).stored = s.stored := by
  unfold State.advanceTraining
  simp

@[simp] theorem execTrainAdvance_stored (p : Fin 16) (before after : List (BitVec 10)) (s : State) : (resultOf (execTrainAdvance p before after s) s).stored = s.stored := by
  unfold execTrainAdvance
  simp

@[simp] theorem execPlkModeWrite_stored (p : Fin 16) (v : Fin 4) (s : State) : (resultOf (execPlkModeWrite p v s) s).stored = s.stored := by
  unfold execPlkModeWrite
  simp

@[simp] theorem State.sendLine_stored (s : State) (p : Nat) (st : Nat) (f : Option (List Byte)) : (@State.sendLine s p st f).stored = s.stored := by
  unfold State.sendLine
  simp

@[simp] theorem State.sendFrame_stored (s : State) (p : Nat) (st : Nat) (fault : Bool) : (@State.sendFrame s p st fault).stored = s.stored := by
  unfold State.sendFrame
  repeat' first
    | (extract_lets +onlyGivenNames x; first
      | (have hx : State.stored x = State.stored s := (by first | (simp [x, *]; done) | (simp only [x]; (repeat' split) <;> simp [*]; done)); clear_value x)
      | (have hx : ∀ t : State, State.stored (x t) = State.stored t := (by intro t; first | (simp [x, *]; done) | (simp only [x]; (repeat' split) <;> simp [*]; done)); clear_value x)
      | (have hx := fun a => x a; clear hx)
      | clear_value x)
    | (simp [*]; done)
    | (split <;> try (rename_i heq; first
       | (have hk := congrArg (fun p => State.stored (Prod.snd p)) heq.symm; simp at hk)
       | (have hk := congrArg (fun p => State.stored (Prod.snd (Prod.snd p))) heq.symm; simp at hk)
       | (have hk := congrArg (fun p => State.stored (Prod.fst p)) heq.symm; simp at hk)))
    | (simp +zetaDelta [*]; done)

@[simp] theorem State.litWithoutLink_stored (s : State) (p : Nat) : (@State.litWithoutLink s p).stored = s.stored := by
  unfold State.litWithoutLink
  simp

@[simp] theorem State.plkTick_stored (s : State) (p : Nat) (was : Bool) : (@State.plkTick s p was).stored = s.stored := by
  unfold State.plkTick
  simp only []
  (repeat' split) <;> simp

@[simp] theorem State.plkRx_stored (s : State) (p : Nat) (up : Option (List (BitVec 10))) : (@State.plkRx s p up).stored = s.stored := by
  unfold State.plkRx
  cases up <;> simp

@[simp] theorem State.plkCount_stored (s : State) (p : Nat) : (@State.plkCount s p).stored = s.stored := by
  unfold State.plkCount
  simp

@[simp] theorem State.plkEdge_stored (s : State) (p : Nat) : (@State.plkEdge s p).stored = s.stored := by
  unfold State.plkEdge
  simp

@[simp] theorem State.retrain_stored (s : State) : (@State.retrain s).stored = s.stored := by
  unfold State.retrain
  simp

end Sys2Proof.Machine
end

