-- ==== Sys2Proof/Laws/StoredLsr.lean ====
section
/-! SUPPORT. What the operations of Machine/Lsr.lean keep of the memories: DRAM, the SRAM, the flash, the correction banks and the frame store. -/

namespace Sys2Proof.Machine

@[simp] theorem State.setPad_stored (s : State) (p : Nat) (v : Bool) : (@State.setPad s p v).stored = s.stored := by
  unfold State.setPad
  simp

@[simp] theorem State.padsOff_stored (s : State) : (@State.padsOff s).stored = s.stored := by
  unfold State.padsOff
  simp

@[simp] theorem State.padFollow_stored (s : State) (p : Nat) : (@State.padFollow s p).stored = s.stored := by
  unfold State.padFollow
  simp

@[simp] theorem State.fineRun_stored (s : State) (p : Nat) (n : Nat) : (@State.fineRun s p n).stored = s.stored := by
  unfold State.fineRun
  simp

@[simp] theorem State.fineTo_stored (s : State) (c : Nat) : (@State.fineTo s c).stored = s.stored := by
  unfold State.fineTo
  simp

@[simp] theorem State.darken_stored (s : State) : (@State.darken s).stored = s.stored := by
  unfold State.darken
  simp

@[simp] theorem State.lagTick_stored (s : State) (p : Nat) : (@State.lagTick s p).stored = s.stored := by
  unfold State.lagTick
  simp

@[simp] theorem State.lagRestart_stored (s : State) (p : Nat) : (@State.lagRestart s p).2.stored = s.stored := by
  unfold State.lagRestart
  simp

@[simp] theorem State.powerTick_stored (s : State) (p : Nat) (w : Nat) : (@State.powerTick s p w).stored = s.stored := by
  unfold State.powerTick
  simp

@[simp] theorem State.gateEdge_stored (s : State) (p : Nat) : (@State.gateEdge s p).stored = s.stored := by
  unfold State.gateEdge
  simp

@[simp] theorem State.lsrEdge_stored (s : State) (eperm : Bool) (emitEn : Bool) : (@State.lsrEdge s eperm emitEn).stored = s.stored := by
  unfold State.lsrEdge
  simp

@[simp] theorem State.readyFall_stored (s : State) (p : Nat) (early : Bool) : (@State.readyFall s p early).stored = s.stored := by
  unfold State.readyFall
  simp

@[simp] theorem State.govern_stored (s : State) (b : Nat) (v : Bool) (early : Bool) : (@State.govern s b v early).stored = s.stored := by
  unfold State.govern
  simp

@[simp] theorem State.permitAccept_stored (s : State) (ch : Fref) (v : Bool) : (@State.permitAccept s ch v).stored = s.stored := by
  unfold State.permitAccept
  simp

@[simp] theorem execStatusInputAccept_stored (b : LsrBall) (level : Bool) (phase : Nat) (s : State) : (resultOf (execStatusInputAccept b level phase s) s).stored = s.stored := by
  unfold execStatusInputAccept
  repeat' first
    | (extract_lets +onlyGivenNames x; first
      | (have hx : State.stored x = State.stored s := (by first | (simp [x, *]; done) | (simp only [x]; (repeat' split) <;> simp [*]; done)); clear_value x)
      | (have hx : ∀ t : State, State.stored (x t) = State.stored t := (by intro t; first | (simp [x, *]; done) | (simp only [x]; (repeat' split) <;> simp [*]; done)); clear_value x)
      | (have hx := fun a => x a; clear hx)
      | clear_value x)
    | (simp [*]; done)
    | (split <;> try (rename_i heq; first
       | (have hk := congrArg (fun p => State.stored (Prod.snd p)) heq.symm; simp at hk)
       | (have hk := congrArg (fun p => State.stored (Prod.snd (Prod.snd p))) heq.symm; simp at hk)
       | (have hk := congrArg (fun p => State.stored (Prod.fst p)) heq.symm; simp at hk)))
    | (simp +zetaDelta [*]; done)

@[simp] theorem execPermitPadRemoval_stored (s : State) : (resultOf (execPermitPadRemoval s) s).stored = s.stored := by
  unfold execPermitPadRemoval
  simp

@[simp] theorem execPermitDiscrepancy_stored (s : State) : (resultOf (execPermitDiscrepancy s) s).stored = s.stored := by
  unfold execPermitDiscrepancy
  simp

@[simp] theorem execDiscrepClear_stored (s : State) : (resultOf (execDiscrepClear s) s).stored = s.stored := by
  unfold execDiscrepClear
  simp

@[simp] theorem execEmaMissing_stored (p : Fin 16) (on100ns : Nat) (s : State) : (resultOf (execEmaMissing p on100ns s) s).stored = s.stored := by
  unfold execEmaMissing
  simp

@[simp] theorem execUncmdEmission_stored (p : Fin 16) (off100ns : Nat) (s : State) : (resultOf (execUncmdEmission p off100ns s) s).stored = s.stored := by
  unfold execUncmdEmission
  simp

@[simp] theorem State.testFire_stored (s : State) (p : Nat) : (@State.testFire s p).stored = s.stored := by
  unfold State.testFire
  simp

@[simp] theorem execTestFire_stored (p : Fin 16) (width : BitVec 16) (s : State) : (resultOf (execTestFire p width s) s).stored = s.stored := by
  unfold execTestFire
  simp

@[simp] theorem State.testEnd_stored (s : State) (p : Nat) : (@State.testEnd s p).stored = s.stored := by
  unfold State.testEnd
  simp

@[simp] theorem execTestPulseEnd_stored (p : Fin 16) (s : State) : (resultOf (execTestPulseEnd p s) s).stored = s.stored := by
  unfold execTestPulseEnd
  simp

@[simp] theorem execLsrGateSet_stored (s : State) : (resultOf (execLsrGateSet s) s).stored = s.stored := by
  unfold execLsrGateSet
  simp

@[simp] theorem execLsrPowerLimit_stored (s : State) : (resultOf (execLsrPowerLimit s) s).stored = s.stored := by
  unfold execLsrPowerLimit
  refine runCmd_stored _ _ _ (fun q s => ?_)
  (repeat' split) <;> simp

@[simp] theorem execLsrLaserCmd_stored (s : State) : (resultOf (execLsrLaserCmd s) s).stored = s.stored := by
  unfold execLsrLaserCmd
  simp

@[simp] theorem execLsrStatus_stored (s : State) : (resultOf (execLsrStatus s) s).stored = s.stored := by
  unfold execLsrStatus
  simp

@[simp] theorem execLsrEmaSet_stored (s : State) : (resultOf (execLsrEmaSet s) s).stored = s.stored := by
  unfold execLsrEmaSet
  refine runCmd_stored _ _ _ (fun q s => ?_)
  (repeat' split) <;> simp

end Sys2Proof.Machine
end

