-- ==== Sys2Proof/Laws/StoredAfe.lean ====
section
/-! SUPPORT. What the operations of Machine/Afe.lean keep of the memories: DRAM, the SRAM, the flash, the correction banks and the frame store. -/

namespace Sys2Proof.Machine

@[simp] theorem State.setAfeIn_stored (s : State) (i : Nat) (a : AfeIn) : (@State.setAfeIn s i a).stored = s.stored := by
  unfold State.setAfeIn
  simp

@[simp] theorem State.declareOpen_stored (s : State) (i : Nat) : (@State.declareOpen s i).stored = s.stored := by
  unfold State.declareOpen
  simp

@[simp] theorem execInputOpenDeclare_stored (i : Fin 32) (s : State) : (resultOf (execInputOpenDeclare i s) s).stored = s.stored := by
  unfold execInputOpenDeclare
  simp

@[simp] theorem State.openCount_stored (s : State) (i : Nat) (v : Nat) : (@State.openCount s i v).stored = s.stored := by
  unfold State.openCount
  simp

@[simp] theorem State.ovrCount_stored (s : State) (i : Nat) (ovr : Bool) : (@State.ovrCount s i ovr).stored = s.stored := by
  unfold State.ovrCount
  simp

@[simp] theorem State.parityFail_stored (s : State) (i : Nat) : (@State.parityFail s i).stored = s.stored := by
  unfold State.parityFail
  simp

@[simp] theorem State.xsumAdd_stored (s : State) (i : Nat) (v : Int) : (@State.xsumAdd s i v).stored = s.stored := by
  unfold State.xsumAdd
  simp

@[simp] theorem State.afeResult_stored (s : State) (i : Nat) (v : Int) (ok : Bool) (late : Bool) : (@State.afeResult s i v ok late).stored = s.stored := by
  unfold State.afeResult
  simp

@[simp] theorem State.hearthLost_stored (s : State) : (@State.hearthLost s).stored = s.stored := by
  unfold State.hearthLost
  simp

@[simp] theorem State.hearthRestored_stored (s : State) : (@State.hearthRestored s).stored = s.stored := by
  unfold State.hearthRestored
  simp

@[simp] theorem execHearthLinkLost_stored (s : State) : (resultOf (execHearthLinkLost s) s).stored = s.stored := by
  unfold execHearthLinkLost
  simp

@[simp] theorem execHearthOkRestore_stored (s : State) : (resultOf (execHearthOkRestore s) s).stored = s.stored := by
  unfold execHearthOkRestore
  simp

@[simp] theorem State.hearthCount_stored (s : State) (any : Bool) (all : Bool) : (@State.hearthCount s any all).stored = s.stored := by
  unfold State.hearthCount
  simp

@[simp] theorem State.afeSample_stored (s : State) (rs : List AfeRes) (late : Bool) : (@State.afeSample s rs late).stored = s.stored := by
  unfold State.afeSample
  simp

@[simp] theorem State.calWrite_stored (s : State) : (@State.calWrite s).stored = s.stored := by
  unfold State.calWrite
  simp

@[simp] theorem State.calReconnect_stored (s : State) (p : Nat) : (@State.calReconnect s p).stored = s.stored := by
  unfold State.calReconnect
  simp

@[simp] theorem State.afeEdge_stored (s : State) : (@State.afeEdge s).stored = s.stored := by
  unfold State.afeEdge
  simp

@[simp] theorem State.calRefuse_stored (s : State) (i : Nat) : (@State.calRefuse s i).stored = s.stored := by
  unfold State.calRefuse
  simp

@[simp] theorem State.calStart_stored (s : State) (p : Nat) : (@State.calStart s p).stored = s.stored := by
  unfold State.calStart
  simp

@[simp] theorem execOffsetMeasStart_stored (p : Fin 16) (s : State) : (resultOf (execOffsetMeasStart p s) s).stored = s.stored := by
  unfold execOffsetMeasStart
  simp

@[simp] theorem execOffsetMeasDone_stored (s : State) : (resultOf (execOffsetMeasDone s) s).stored = s.stored := by
  unfold execOffsetMeasDone
  simp

@[simp] theorem execVaaLoss_stored (s : State) : (resultOf (execVaaLoss s) s).stored = s.stored := by
  unfold execVaaLoss
  simp

@[simp] theorem State.xsyncLatch_stored (s : State) (k : Nat) : (@State.xsyncLatch s k).stored = s.stored := by
  unfold State.xsyncLatch
  simp

@[simp] theorem State.auxResult_stored (s : State) (k : Nat) (v : Nat) : (@State.auxResult s k v).stored = s.stored := by
  unfold State.auxResult
  simp

@[simp] theorem State.auxLatch_stored (s : State) (res : List Nat) : (@State.auxLatch s res).stored = s.stored := by
  unfold State.auxLatch
  simp

@[simp] theorem execAuxTimerStart_stored (res : List Nat) (s : State) : (resultOf (execAuxTimerStart res s) s).stored = s.stored := by
  unfold execAuxTimerStart
  simp

@[simp] theorem State.calEnd_stored (s : State) : (@State.calEnd s).stored = s.stored := by
  unfold State.calEnd
  simp

@[simp] theorem State.afeCommit_stored (s : State) (a1 : State) : (@State.afeCommit s a1).stored = s.stored := by
  unfold State.afeCommit
  simp

end Sys2Proof.Machine
end

