-- ==== Sys2Proof/Laws/StoredAxs.lean ====
section
/-! SUPPORT. What the operations of Machine/Axs.lean keep of the memories: DRAM, the SRAM, the flash, the correction banks and the frame store. -/

namespace Sys2Proof.Machine

@[simp] theorem State.setAxis_stored (s : State) (k : Nat) (x : Axis) : (@State.setAxis s k x).stored = s.stored := by
  unfold State.setAxis
  simp

@[simp] theorem State.setAxState_stored (s : State) (k : Nat) (st : Nat) : (@State.setAxState s k st).stored = s.stored := by
  unfold State.setAxState
  simp

@[simp] theorem State.axShow_stored (s : State) (k : Nat) : (@State.axShow s k).stored = s.stored := by
  unfold State.axShow
  simp

@[simp] theorem State.setRef_stored (s : State) (k : Nat) (r : Bool) : (@State.setRef s k r).stored = s.stored := by
  unfold State.setRef
  simp

@[simp] theorem State.zeroDev_stored (s : State) (k : Nat) : (@State.zeroDev s k).stored = s.stored := by
  unfold State.zeroDev
  simp

@[simp] theorem State.endAxis_stored (s : State) (k : Nat) (st : Nat) : (@State.endAxis s k st).stored = s.stored := by
  unfold State.endAxis
  simp

@[simp] theorem State.compare_stored (s : State) (k : Nat) : (@State.compare s k).stored = s.stored := by
  unfold State.compare
  simp

@[simp] theorem execCompareArm_stored (k : Fin 6) (v : Word) (s : State) : (resultOf (execCompareArm k v s) s).stored = s.stored := by
  unfold execCompareArm
  simp

@[simp] theorem State.fineSteps_stored (s : State) (k : Nat) (n : Int) : (@State.fineSteps s k n).stored = s.stored := by
  unfold State.fineSteps
  simp

@[simp] theorem State.coarse_stored (s : State) (k : Nat) (up : Bool) (cyc : Nat) : (@State.coarse s k up cyc).stored = s.stored := by
  unfold State.coarse
  simp

@[simp] theorem State.finishSteps_stored (s : State) (k : Nat) : (@State.finishSteps s k).stored = s.stored := by
  unfold State.finishSteps
  simp

@[simp] theorem execAxisCoarseStep_stored (k : Fin 6) (cyc : Nat) (s : State) : (resultOf (execAxisCoarseStep k cyc s) s).stored = s.stored := by
  unfold execAxisCoarseStep
  simp

@[simp] theorem execAxisFineStep_stored (k : Fin 6) (s : State) : (resultOf (execAxisFineStep k s) s).stored = s.stored := by
  unfold execAxisFineStep
  simp

@[simp] theorem State.stepDrop_stored (s : State) (k : Nat) : (@State.stepDrop s k).stored = s.stored := by
  unfold State.stepDrop
  simp

@[simp] theorem execExtStepEdge_stored (k : Fin 6) (dir : Bool) (cyc : Nat) (s : State) : (resultOf (execExtStepEdge k dir cyc s) s).stored = s.stored := by
  unfold execExtStepEdge
  simp

@[simp] theorem execAxisPwmPeriodStart_stored (k : Fin 6) (b : Bool) (s : State) : (resultOf (execAxisPwmPeriodStart k b s) s).stored = s.stored := by
  unfold execAxisPwmPeriodStart
  simp

@[simp] theorem State.axHalt_stored (s : State) (k : Nat) : (@State.axHalt s k).stored = s.stored := by
  unfold State.axHalt
  simp

@[simp] theorem State.stall_stored (s : State) (k : Nat) : (@State.stall s k).stored = s.stored := by
  unfold State.stall
  simp

@[simp] theorem State.axLeave_stored (s : State) (k : Nat) : (@State.axLeave s k).stored = s.stored := by
  unfold State.axLeave
  simp

@[simp] theorem State.encCount_stored (s : State) (k : Nat) (d : Int) : (@State.encCount s k d).stored = s.stored := by
  unfold State.encCount
  simp

@[simp] theorem execQuadTransition_stored (k : Fin 6) (ab : BitVec 2) (cyc : Nat) (s : State) : (resultOf (execQuadTransition k ab cyc s) s).stored = s.stored := by
  unfold execQuadTransition
  simp

@[simp] theorem execIndexPulse_stored (k : Fin 6) (rising : Bool) (s : State) : (resultOf (execIndexPulse k rising s) s).stored = s.stored := by
  unfold execIndexPulse
  simp

@[simp] theorem execSsiReadStart_stored (k : Fin 6) (s : State) : (resultOf (execSsiReadStart k s) s).stored = s.stored := by
  unfold execSsiReadStart
  simp

@[simp] theorem State.ssiDiscard_stored (s : State) (k : Nat) : (@State.ssiDiscard s k).stored = s.stored := by
  unfold State.ssiDiscard
  simp

@[simp] theorem execSsiFrameDone_stored (k : Fin 6) (idle : Bool) (bits : Word) (cyc : Nat) (s : State) : (resultOf (execSsiFrameDone k idle bits cyc s) s).stored = s.stored := by
  unfold execSsiFrameDone
  repeat' first
    | (extract_lets +onlyGivenNames x; first
      | (have hx : State.stored x = State.stored s := (by first | (simp [x, *]; done) | (simp only [x]; (repeat' split) <;> simp [*]; done)); clear_value x)
      | (have hx : ∀ t : State, State.stored (x t) = State.stored t := (by intro t; first | (simp [x, *]; done) | (simp only [x]; (repeat' split) <;> simp [*]; done)); clear_value x)
      | (have hx := fun a => x a; clear hx)
      | clear_value x)
    | (simp [*]; done)
    | (split <;> try (rename_i heq; first
       | (have hk := congrArg (fun p => State.stored (Prod.snd p)) heq.symm; simp at hk)
       | (have hk := congrArg (fun p => State.stored (Prod.snd (Prod.snd p))) heq.symm; simp at hk)
       | (have hk := congrArg (fun p => State.stored (Prod.fst p)) heq.symm; simp at hk)))
    | (simp +zetaDelta [*]; done)

@[simp] theorem execSpeedTimeout_stored (k : Fin 6) (s : State) : (resultOf (execSpeedTimeout k s) s).stored = s.stored := by
  unfold execSpeedTimeout
  simp

@[simp] theorem State.qualify_stored (s : State) (k : Nat) (sw : Nat) (level : Bool) : (@State.qualify s k sw level).stored = s.stored := by
  unfold State.qualify
  simp

@[simp] theorem execSwitchTransition_stored (k : Fin 6) (sw : Fin 3) (level : Bool) (s : State) : (resultOf (execSwitchTransition k sw level s) s).stored = s.stored := by
  unfold execSwitchTransition
  simp

@[simp] theorem execSwitchQualified_stored (k : Fin 6) (sw : Fin 3) (level : Bool) (s : State) : (resultOf (execSwitchQualified k sw level s) s).stored = s.stored := by
  unfold execSwitchQualified
  simp

@[simp] theorem State.follow_stored (s : State) (k : Nat) (q : AxPlan) (acc : Nat) (jrk : Nat) : (@State.follow s k q acc jrk).stored = s.stored := by
  unfold State.follow
  simp

@[simp] theorem State.axStop_stored (s : State) (k : Nat) (acc : Nat) (jrk : Nat) (after : Nat) : (@State.axStop s k acc jrk after).stored = s.stored := by
  unfold State.axStop
  simp

@[simp] theorem State.homeRun_stored (s : State) (k : Nat) (d : Int) : (@State.homeRun s k d).stored = s.stored := by
  unfold State.homeRun
  simp

@[simp] theorem State.homeStart_stored (s : State) (k : Nat) (stall : Bool) : (@State.homeStart s k stall).stored = s.stored := by
  unfold State.homeStart
  simp

@[simp] theorem State.setPos_stored (s : State) (k : Nat) (pos : Nat) (frac : Nat) : (@State.setPos s k pos frac).stored = s.stored := by
  unfold State.setPos
  simp

@[simp] theorem State.homeEnd_stored (s : State) (k : Nat) : (@State.homeEnd s k).stored = s.stored := by
  unfold State.homeEnd
  simp

@[simp] theorem State.backoff_stored (s : State) (k : Nat) : (@State.backoff s k).stored = s.stored := by
  unfold State.backoff
  simp

@[simp] theorem State.setReference_stored (s : State) (k : Nat) : (@State.setReference s k).stored = s.stored := by
  unfold State.setReference
  simp

@[simp] theorem State.stallReference_stored (s : State) (k : Nat) : (@State.stallReference s k).stored = s.stored := by
  unfold State.stallReference
  simp

@[simp] theorem State.axMove_stored (s : State) (k : Nat) (o : AxOp) : (@State.axMove s k o).stored = s.stored := by
  unfold State.axMove
  simp

@[simp] theorem State.reAcc_stored (s : State) (k : Nat) (acc : Nat) : (@State.reAcc s k acc).stored = s.stored := by
  unfold State.reAcc
  repeat' first
    | (extract_lets +onlyGivenNames x; first
      | (have hx : State.stored x = State.stored s := (by first | (simp [x, *]; done) | (simp only [x]; (repeat' split) <;> simp [*]; done)); clear_value x)
      | (have hx : ∀ t : State, State.stored (x t) = State.stored t := (by intro t; first | (simp [x, *]; done) | (simp only [x]; (repeat' split) <;> simp [*]; done)); clear_value x)
      | (have hx := fun a => x a; clear hx)
      | clear_value x)
    | (simp [*]; done)
    | (split <;> try (rename_i heq; first
       | (have hk := congrArg (fun p => State.stored (Prod.snd p)) heq.symm; simp at hk)
       | (have hk := congrArg (fun p => State.stored (Prod.snd (Prod.snd p))) heq.symm; simp at hk)
       | (have hk := congrArg (fun p => State.stored (Prod.fst p)) heq.symm; simp at hk)))
    | (simp +zetaDelta [*]; done)

@[simp] theorem State.axOp_stored (s : State) (k : Nat) (o : AxOp) : (@State.axOp s k o).stored = s.stored := by
  unfold State.axOp
  repeat' first
    | (extract_lets +onlyGivenNames x; first
      | (have hx : State.stored x = State.stored s := (by first | (simp [x, *]; done) | (simp only [x]; (repeat' split) <;> simp [*]; done)); clear_value x)
      | (have hx : ∀ t : State, State.stored (x t) = State.stored t := (by intro t; first | (simp [x, *]; done) | (simp only [x]; (repeat' split) <;> simp [*]; done)); clear_value x)
      | (have hx := fun a => x a; clear hx)
      | clear_value x)
    | (simp [*]; done)
    | (split <;> try (rename_i heq; first
       | (have hk := congrArg (fun p => State.stored (Prod.snd p)) heq.symm; simp at hk)
       | (have hk := congrArg (fun p => State.stored (Prod.snd (Prod.snd p))) heq.symm; simp at hk)
       | (have hk := congrArg (fun p => State.stored (Prod.fst p)) heq.symm; simp at hk)))
    | (simp +zetaDelta [*]; done)

@[simp] theorem State.axRest_stored (s : State) (k : Nat) : (@State.axRest s k).stored = s.stored := by
  unfold State.axRest
  repeat' first
    | (extract_lets +onlyGivenNames x; first
      | (have hx : State.stored x = State.stored s := (by first | (simp [x, *]; done) | (simp only [x]; (repeat' split) <;> simp [*]; done)); clear_value x)
      | (have hx : ∀ t : State, State.stored (x t) = State.stored t := (by intro t; first | (simp [x, *]; done) | (simp only [x]; (repeat' split) <;> simp [*]; done)); clear_value x)
      | (have hx := fun a => x a; clear hx)
      | clear_value x)
    | (simp [*]; done)
    | (split <;> try (rename_i heq; first
       | (have hk := congrArg (fun p => State.stored (Prod.snd p)) heq.symm; simp at hk)
       | (have hk := congrArg (fun p => State.stored (Prod.snd (Prod.snd p))) heq.symm; simp at hk)
       | (have hk := congrArg (fun p => State.stored (Prod.fst p)) heq.symm; simp at hk)))
    | (simp +zetaDelta [*]; done)

@[simp] theorem State.axWatch_stored (s : State) (k : Nat) : (@State.axWatch s k).stored = s.stored := by
  unfold State.axWatch
  simp

@[simp] theorem State.axDev_stored (s : State) (k : Nat) : (@State.axDev s k).stored = s.stored := by
  unfold State.axDev
  simp

@[simp] theorem State.axUpdate_stored (s : State) (k : Nat) : (@State.axUpdate s k).stored = s.stored := by
  unfold State.axUpdate
  repeat' first
    | (extract_lets +onlyGivenNames x; first
      | (have hx : State.stored x = State.stored s := (by first | (simp [x, *]; done) | (simp only [x]; (repeat' split) <;> simp [*]; done)); clear_value x)
      | (have hx : ∀ t : State, State.stored (x t) = State.stored t := (by intro t; first | (simp [x, *]; done) | (simp only [x]; (repeat' split) <;> simp [*]; done)); clear_value x)
      | (have hx := fun a => x a; clear hx)
      | clear_value x)
    | (simp [*]; done)
    | (split <;> try (rename_i heq; first
       | (have hk := congrArg (fun p => State.stored (Prod.snd p)) heq.symm; simp at hk)
       | (have hk := congrArg (fun p => State.stored (Prod.snd (Prod.snd p))) heq.symm; simp at hk)
       | (have hk := congrArg (fun p => State.stored (Prod.fst p)) heq.symm; simp at hk)))
    | (simp +zetaDelta [*]; done)

@[simp] theorem execAxisUpdate_stored (s : State) : (resultOf (execAxisUpdate s) s).stored = s.stored := by
  unfold execAxisUpdate
  simp

@[simp] theorem State.axQueue_stored (s : State) (k : Nat) (o : AxOp) : (@State.axQueue s k o).stored = s.stored := by
  unfold State.axQueue
  simp

@[simp] theorem State.axReplaced_stored (s : State) (k : Nat) : (@State.axReplaced s k).stored = s.stored := by
  unfold State.axReplaced
  simp

@[simp] theorem execAxsMovePosition_stored (k : Fin 6) (s : State) : (resultOf (execAxsMovePosition k s) s).stored = s.stored := by
  unfold execAxsMovePosition
  simp

@[simp] theorem execAxsMoveVelocity_stored (k : Fin 6) (s : State) : (resultOf (execAxsMoveVelocity k s) s).stored = s.stored := by
  unfold execAxsMoveVelocity
  simp

@[simp] theorem execAxsStop_stored (k : Fin 6) (s : State) : (resultOf (execAxsStop k s) s).stored = s.stored := by
  unfold execAxsStop
  simp

@[simp] theorem execAxsHomeSwitch_stored (k : Fin 6) (s : State) : (resultOf (execAxsHomeSwitch k s) s).stored = s.stored := by
  unfold execAxsHomeSwitch
  simp

@[simp] theorem execAxsHomeStall_stored (k : Fin 6) (s : State) : (resultOf (execAxsHomeStall k s) s).stored = s.stored := by
  unfold execAxsHomeStall
  simp

@[simp] theorem execAxsClear_stored (k : Fin 6) (s : State) : (resultOf (execAxsClear k s) s).stored = s.stored := by
  unfold execAxsClear
  simp

@[simp] theorem execAccWrite_stored (k : Fin 6) (v : Word) (s : State) : (resultOf (execAccWrite k v s) s).stored = s.stored := by
  unfold execAccWrite
  simp

@[simp] theorem State.axWord_stored (s : State) (k : Nat) (w : Nat) (v : Word) : (@State.axWord s k w v).stored = s.stored := by
  unfold State.axWord
  simp

@[simp] theorem execAxisConfig_stored (s : State) : (resultOf (execAxisConfig s) s).stored = s.stored := by
  unfold execAxisConfig
  refine runCmd_stored _ _ _ (fun q s => ?_)
  repeat' first
    | (extract_lets +onlyGivenNames x; first
      | (have hx : State.stored x = State.stored s := (by first | (simp [x, *]; done) | (simp only [x]; (repeat' split) <;> simp [*]; done)); clear_value x)
      | (have hx : ∀ t : State, State.stored (x t) = State.stored t := (by intro t; first | (simp [x, *]; done) | (simp only [x]; (repeat' split) <;> simp [*]; done)); clear_value x)
      | (have hx := fun a => x a; clear hx)
      | clear_value x)
    | (simp [*]; done)
    | (split <;> try (rename_i heq; first
       | (have hk := congrArg (fun p => State.stored (Prod.snd p)) heq.symm; simp at hk)
       | (have hk := congrArg (fun p => State.stored (Prod.snd (Prod.snd p))) heq.symm; simp at hk)
       | (have hk := congrArg (fun p => State.stored (Prod.fst p)) heq.symm; simp at hk)))
    | (simp +zetaDelta [*]; done)

@[simp] theorem execAxisMove_stored (s : State) : (resultOf (execAxisMove s) s).stored = s.stored := by
  unfold execAxisMove
  refine runCmd_stored _ _ _ (fun q s => ?_)
  repeat' first
    | (extract_lets +onlyGivenNames x; first
      | (have hx : State.stored x = State.stored s := (by first | (simp [x, *]; done) | (simp only [x]; (repeat' split) <;> simp [*]; done)); clear_value x)
      | (have hx : ∀ t : State, State.stored (x t) = State.stored t := (by intro t; first | (simp [x, *]; done) | (simp only [x]; (repeat' split) <;> simp [*]; done)); clear_value x)
      | (have hx := fun a => x a; clear hx)
      | clear_value x)
    | (simp [*]; done)
    | (split <;> try (rename_i heq; first
       | (have hk := congrArg (fun p => State.stored (Prod.snd p)) heq.symm; simp at hk)
       | (have hk := congrArg (fun p => State.stored (Prod.snd (Prod.snd p))) heq.symm; simp at hk)
       | (have hk := congrArg (fun p => State.stored (Prod.fst p)) heq.symm; simp at hk)))
    | (simp +zetaDelta [*]; done)

@[simp] theorem execAxisHome_stored (s : State) : (resultOf (execAxisHome s) s).stored = s.stored := by
  unfold execAxisHome
  refine runCmd_stored _ _ _ (fun q t => ?_)
  simp only []
  (repeat' split) <;> simp

@[simp] theorem execAxisStop_stored (s : State) : (resultOf (execAxisStop s) s).stored = s.stored := by
  unfold execAxisStop
  refine runCmd_stored _ _ _ (fun q s => ?_)
  (repeat' split) <;> simp

@[simp] theorem execAxisStatus_stored (s : State) : (resultOf (execAxisStatus s) s).stored = s.stored := by
  unfold execAxisStatus
  simp

end Sys2Proof.Machine
end

