-- ==== Sys2Proof/Laws/StoredPci.lean ====
section
/-! SUPPORT. What the operations of Machine/Pci.lean keep of the memories: DRAM, the SRAM, the flash, the correction banks and the frame store. -/

namespace Sys2Proof.Machine

@[simp] theorem State.bar2Deny_stored (s : State) (a : Nat) (w : Bool) : (@State.bar2Deny s a w).stored = s.stored := by
  unfold State.bar2Deny
  simp

@[simp] theorem State.endpointReset_stored (s : State) : (@State.endpointReset s).stored = s.stored := by
  unfold State.endpointReset
  simp

@[simp] theorem execPcieReset_stored (s : State) : (resultOf (execPcieReset s) s).stored = s.stored := by
  unfold execPcieReset
  simp

@[simp] theorem execFunctionLevelReset_stored (s : State) : (resultOf (execFunctionLevelReset s) s).stored = s.stored := by
  unfold execFunctionLevelReset
  simp

@[simp] theorem execD3hotEntry_stored (s : State) : (resultOf (execD3hotEntry s) s).stored = s.stored := by
  unfold execD3hotEntry
  simp

@[simp] theorem execPcieLinkUp_stored (speed : Fin 3) (width : Fin 3) (s : State) : (resultOf (execPcieLinkUp speed width s) s).stored = s.stored := by
  unfold execPcieLinkUp
  simp

@[simp] theorem State.vecRelease_stored (s : State) : (@State.vecRelease s).stored = s.stored := by
  unfold State.vecRelease
  simp

@[simp] theorem execPcieConfigRequest_stored (r : CfgReq) (s : State) : (resultOf (execPcieConfigRequest r s) s).stored = s.stored := by
  unfold execPcieConfigRequest
  (repeat' split) <;> simp

end Sys2Proof.Machine
end

