-- ==== Sys2Proof/Laws/StoredLit.lean ====
section
/-! SUPPORT. What the operations of Machine/Lit.lean keep of the memories: DRAM, the SRAM, the flash, the correction banks and the frame store. -/

namespace Sys2Proof.Machine

@[simp] theorem State.setLitCh_stored (s : State) (k : Nat) (c : LitCh) : (@State.setLitCh s k c).stored = s.stored := by
  unfold State.setLitCh
  simp

@[simp] theorem State.litShow_stored (k : Nat) (s : State) : (@State.litShow k s).stored = s.stored := by
  unfold State.litShow
  simp

@[simp] theorem State.litGroupEval_stored (g : Nat) (s : State) : (@State.litGroupEval g s).stored = s.stored := by
  unfold State.litGroupEval
  simp

@[simp] theorem State.emitEval_stored (s : State) : (@State.emitEval s).stored = s.stored := by
  unfold State.emitEval
  simp

@[simp] theorem State.litSettle_stored (s : State) : (@State.litSettle s).stored = s.stored := by
  unfold State.litSettle
  simp

@[simp] theorem State.litIeff_stored (k : Nat) (s : State) : (@State.litIeff k s).stored = s.stored := by
  unfold State.litIeff
  simp

@[simp] theorem State.litLatch_stored (s : State) (k : Nat) (short : Bool) : (@State.litLatch s k short).stored = s.stored := by
  unfold State.litLatch
  simp

@[simp] theorem State.litCount_stored (s : State) (k : Nat) (toward : Nat) : (@State.litCount s k toward).stored = s.stored := by
  unfold State.litCount
  simp

@[simp] theorem State.litDmax_stored (s : State) (k : Nat) : (@State.litDmax s k).stored = s.stored := by
  unfold State.litDmax
  simp

@[simp] theorem execLightDmaxReached_stored (k : Fin 16) (s : State) : (resultOf (execLightDmaxReached k s) s).stored = s.stored := by
  unfold execLightDmaxReached
  simp

@[simp] theorem execSwitchPeriodStart_stored (k : Fin 16) (s : State) : (resultOf (execSwitchPeriodStart k s) s).stored = s.stored := by
  unfold execSwitchPeriodStart
  simp

@[simp] theorem execLightTrip_stored (k : Fin 16) (uv : Nat) (cyc : Nat) (s : State) : (resultOf (execLightTrip k uv cyc s) s).stored = s.stored := by
  unfold execLightTrip
  simp

@[simp] theorem State.dimBegin_stored (s : State) (k : Nat) (duty : Nat) (per : Nat) (phase : Nat) : (@State.dimBegin s k duty per phase).stored = s.stored := by
  unfold State.dimBegin
  simp

@[simp] theorem execDimOnStart_stored (k : Fin 16) (c : Nat) (s : State) : (resultOf (execDimOnStart k c s) s).stored = s.stored := by
  unfold execDimOnStart
  simp

@[simp] theorem State.onEnd_stored (s : State) (k : Nat) : (@State.onEnd s k).stored = s.stored := by
  unfold State.onEnd
  simp

@[simp] theorem execDimOnEnd_stored (k : Fin 16) (s : State) : (resultOf (execDimOnEnd k s) s).stored = s.stored := by
  unfold execDimOnEnd
  simp

@[simp] theorem State.strobeBegin_stored (s : State) (k : Nat) : (@State.strobeBegin s k).stored = s.stored := by
  unfold State.strobeBegin
  simp

@[simp] theorem execStrobeStart_stored (k : Fin 16) (s : State) : (resultOf (execStrobeStart k s) s).stored = s.stored := by
  unfold execStrobeStart
  simp

@[simp] theorem execStrobeEnd_stored (k : Fin 16) (s : State) : (resultOf (execStrobeEnd k s) s).stored = s.stored := by
  unfold execStrobeEnd
  simp

@[simp] theorem State.strobeFire_stored (s : State) (g : Nat) : (@State.strobeFire s g).stored = s.stored := by
  unfold State.strobeFire
  simp

@[simp] theorem execLitClearWrite_stored (mask : BitVec 16) (s : State) : (resultOf (execLitClearWrite mask s) s).stored = s.stored := by
  unfold execLitClearWrite
  simp

@[simp] theorem State.groupWrite_stored (s : State) (g : Nat) (v : Word) : (@State.groupWrite s g v).stored = s.stored := by
  unfold State.groupWrite
  simp

@[simp] theorem execGroupWrite_stored (g : Fin 4) (v : Word) (s : State) : (resultOf (execGroupWrite g v s) s).stored = s.stored := by
  unfold execGroupWrite
  simp

@[simp] theorem State.litCommit_stored (s : State) (a1 : State) : (@State.litCommit s a1).stored = s.stored := by
  unfold State.litCommit
  simp

@[simp] theorem State.ntcChannel_stored (s : State) (j : Nat) (bad : Bool) (k : Nat) : (@State.ntcChannel s j bad k).stored = s.stored := by
  unfold State.ntcChannel
  simp

@[simp] theorem execNtcConvert_stored (j : Fin 4) (c : BitVec 12) (s : State) : (resultOf (execNtcConvert j c s) s).stored = s.stored := by
  unfold execNtcConvert
  simp

@[simp] theorem execLiteChannelSet_stored (s : State) : (resultOf (execLiteChannelSet s) s).stored = s.stored := by
  unfold execLiteChannelSet
  simp

@[simp] theorem execLiteGroupSet_stored (s : State) : (resultOf (execLiteGroupSet s) s).stored = s.stored := by
  unfold execLiteGroupSet
  refine runCmd_stored _ _ _ (fun q s => ?_)
  repeat' first
    | (extract_lets +onlyGivenNames x; first
      | (have hx : State.stored x = State.stored s := (by first | (simp [x, *]; done) | (simp only [x]; (repeat' split) <;> simp [*]; done)); clear_value x)
      | (have hx : ∀ t : State, State.stored (x t) = State.stored t := (by intro t; first | (simp [x, *]; done) | (simp only [x]; (repeat' split) <;> simp [*]; done)); clear_value x)
      | (have hx := fun a => x a; clear hx)
      | clear_value x)
    | (simp [*]; done)
    | (split <;> try (rename_i heq; first
       | (have hk := congrArg (fun p => State.stored (Prod.snd p)) heq.symm; simp at hk)
       | (have hk := congrArg (fun p => State.stored (Prod.snd (Prod.snd p))) heq.symm; simp at hk)
       | (have hk := congrArg (fun p => State.stored (Prod.fst p)) heq.symm; simp at hk)))
    | (simp +zetaDelta [*]; done)

@[simp] theorem execLiteStatus_stored (s : State) : (resultOf (execLiteStatus s) s).stored = s.stored := by
  unfold execLiteStatus
  simp

@[simp] theorem execLiteDerateSet_stored (s : State) : (resultOf (execLiteDerateSet s) s).stored = s.stored := by
  unfold execLiteDerateSet
  simp

@[simp] theorem execLiteCurveSet_stored (s : State) : (resultOf (execLiteCurveSet s) s).stored = s.stored := by
  unfold execLiteCurveSet
  refine runCmd_stored _ _ _ (fun q s => ?_)
  (repeat' split) <;> simp

@[simp] theorem execLiteStrobeSet_stored (s : State) : (resultOf (execLiteStrobeSet s) s).stored = s.stored := by
  unfold execLiteStrobeSet
  simp

@[simp] theorem execLiteDriveSet_stored (s : State) : (resultOf (execLiteDriveSet s) s).stored = s.stored := by
  unfold execLiteDriveSet
  simp

end Sys2Proof.Machine
end

