-- ==== Sys2Proof/Laws/StoredLop.lean ====
section
/-! SUPPORT. What the operations of Machine/Lop.lean keep of the memories: DRAM, the SRAM, the flash, the correction banks and the frame store. -/

namespace Sys2Proof.Machine

@[simp] theorem State.setSlot_stored (s : State) (k : Nat) (l : Slot) : (@State.setSlot s k l).stored = s.stored := by
  unfold State.setSlot
  simp

@[simp] theorem State.setImgBit_stored (s : State) (lo : Fref) (hi : Fref) (i : Nat) (v : Bool) : (@State.setImgBit s lo hi i v).stored = s.stored := by
  unfold State.setImgBit
  simp

@[simp] theorem State.imageWrite_stored (s : State) (i : Nat) (a2 : Nat) (ws : List Word) : (@State.imageWrite s i a2 ws).stored = s.stored := by
  unfold State.imageWrite
  simp

@[simp] theorem State.imageCheck_stored (s : State) (i : Nat) (count : Nat) (kind : Nat) : (@State.imageCheck s i count kind).2.2.stored = s.stored := by
  unfold State.imageCheck
  (repeat' split) <;> simp

@[simp] theorem State.imgAdvance_stored (s : State) : (@State.imgAdvance s).stored = s.stored := by
  unfold State.imgAdvance
  simp

@[simp] theorem execImgDataAccess_stored (v : Option Word) (s : State) : (resultOf (execImgDataAccess v s) s).stored = s.stored := by
  unfold execImgDataAccess
  (repeat' split) <;> simp

@[simp] theorem execImgMark_stored (count : Fin 64) (slow : Bool) (s : State) : (resultOf (execImgMark count slow s) s).stored = s.stored := by
  unfold execImgMark
  simp

@[simp] theorem execImgCheckDone_stored (s : State) : (resultOf (execImgCheckDone s) s).stored = s.stored := by
  unfold execImgCheckDone
  (repeat' split) <;> simp

@[simp] theorem State.setImage_stored (s : State) (p : Nat) (img : Nat) : (@State.setImage s p img).stored = s.stored := by
  unfold State.setImage
  simp

@[simp] theorem State.setSlowImage_stored (s : State) (k : Nat) (img : Nat) : (@State.setSlowImage s k img).stored = s.stored := by
  unfold State.setSlowImage
  simp

@[simp] theorem State.showSlot_stored (s : State) (k : Nat) : (@State.showSlot s k).stored = s.stored := by
  unfold State.showSlot
  simp

@[simp] theorem State.rearm_stored (s : State) (k : Nat) : (@State.rearm s k).stored = s.stored := by
  unfold State.rearm
  simp

@[simp] theorem execLoopRearm_stored (mask : Nat) (s : State) : (resultOf (execLoopRearm mask s) s).stored = s.stored := by
  unfold execLoopRearm
  simp

@[simp] theorem State.cancelImages_stored (s : State) (p : Nat) : (@State.cancelImages s p).stored = s.stored := by
  unfold State.cancelImages
  simp

@[simp] theorem State.progInForce_stored (s : State) (k : Nat) (img : Nat) : (@State.progInForce s k img).stored = s.stored := by
  unfold State.progInForce
  simp

@[simp] theorem State.lopCommit_stored (s : State) (a1 : State) (nagus : Nat) : (@State.lopCommit s a1 nagus).stored = s.stored := by
  unfold State.lopCommit
  simp

@[simp] theorem State.orFlags_stored (s : State) (p : Nat) (f : Nat) : (@State.orFlags s p f).stored = s.stored := by
  unfold State.orFlags
  simp

@[simp] theorem State.camSince_stored (s : State) (p : Nat) (live : Bool) : (@State.camSince s p live).stored = s.stored := by
  unfold State.camSince
  simp

@[simp] theorem State.camTrim_stored (s : State) (p : Nat) (gm : Bool) (live : Bool) : (@State.camTrim s p gm live).stored = s.stored := by
  unfold State.camTrim
  repeat' first
    | (extract_lets +onlyGivenNames x; first
      | (have hx : State.stored x = State.stored s := (by first | (simp [x, *]; done) | (simp only [x]; (repeat' split) <;> simp [*]; done)); clear_value x)
      | (have hx : ∀ t : State, State.stored (x t) = State.stored t := (by intro t; first | (simp [x, *]; done) | (simp only [x]; (repeat' split) <;> simp [*]; done)); clear_value x)
      | (have hx := fun a => x a; clear hx)
      | clear_value x)
    | (simp [*]; done)
    | (split <;> try (rename_i heq; first
       | (have hk := congrArg (fun p => State.stored (Prod.snd p)) heq.symm; simp at hk)
       | (have hk := congrArg (fun p => State.stored (Prod.snd (Prod.snd p))) heq.symm; simp at hk)
       | (have hk := congrArg (fun p => State.stored (Prod.fst p)) heq.symm; simp at hk)))
    | (simp +zetaDelta [*]; done)

@[simp] theorem State.plausTrip_stored (s : State) (p : Nat) (r : BF) (x : BF) : (@State.plausTrip s p r x).stored = s.stored := by
  unfold State.plausTrip
  simp

@[simp] theorem State.plausSample_stored (s : State) (p : Nat) (i : LInstr) (u : BF) (w : Nat) (check : Bool) : (@State.plausSample s p i u w check).stored = s.stored := by
  unfold State.plausSample
  simp

@[simp] theorem State.loopSaturate_stored (s : State) (p : Nat) : (@State.loopSaturate s p).stored = s.stored := by
  unfold State.loopSaturate
  simp

@[simp] theorem State.fastStages_stored (s : State) (p : Nat) (prog : List LInstr) (ops : Nat → BF) (u : BF) (mid : Nat) (fin : Nat) (all : Bool) (pre : Bool) (quiet : Bool) : (@State.fastStages s p prog ops u mid fin all pre quiet).stored = s.stored := by
  unfold State.fastStages
  simp

@[simp] theorem State.countSubst_stored (s : State) (p : Nat) (r : RunIn) : (@State.countSubst s p r).stored = s.stored := by
  unfold State.countSubst
  simp

@[simp] theorem State.runEnd_stored (s : State) (p : Nat) (kind : Nat) (n : Nat) (planned : Nat) (live : Bool) (forced0 : Bool) : (@State.runEnd s p kind n planned live forced0).stored = s.stored := by
  unfold State.runEnd
  simp

@[simp] theorem State.loadedRun_stored (s : State) (p : Nat) (r : RunIn) : (@State.loadedRun s p r).stored = s.stored := by
  unfold State.loadedRun
  simp

@[simp] theorem State.emptyRun_stored (s : State) (p : Nat) (planned : Nat) : (@State.emptyRun s p planned).stored = s.stored := by
  unfold State.emptyRun
  simp

@[simp] theorem State.takeImage_stored (s : State) (p : Nat) : (@State.takeImage s p).stored = s.stored := by
  unfold State.takeImage
  (repeat' split) <;> simp

@[simp] theorem State.skipRun_stored (s : State) (p : Nat) : (@State.skipRun s p).stored = s.stored := by
  unfold State.skipRun
  simp

@[simp] theorem State.fastRun_stored (s : State) (p : Nat) (mid0 : Nat) (mid1 : Nat) : (@State.fastRun s p mid0 mid1).stored = s.stored := by
  unfold State.fastRun
  simp

@[simp] theorem State.slowStart_stored (s : State) (mask : Nat) (early : Bool) : (@State.slowStart s mask early).stored = s.stored := by
  unfold State.slowStart
  simp

@[simp] theorem State.slowFallBack_stored (s : State) (k : Nat) (code : Nat) : (@State.slowFallBack s k code).stored = s.stored := by
  unfold State.slowFallBack
  simp

@[simp] theorem State.slowStages_stored (s : State) (k : Nat) (prog : List LInstr) (pre : Bool) : (@State.slowStages s k prog pre).stored = s.stored := by
  unfold State.slowStages
  simp

@[simp] theorem State.slowRun_stored (s : State) (k : Nat) : (@State.slowRun s k).stored = s.stored := by
  unfold State.slowRun
  simp

@[simp] theorem State.slowTick_stored (s : State) : (@State.slowTick s).stored = s.stored := by
  unfold State.slowTick
  simp

@[simp] theorem execSlowPwmPeriodStart_stored (k : Fin 8) (s : State) : (resultOf (execSlowPwmPeriodStart k s) s).stored = s.stored := by
  unfold execSlowPwmPeriodStart
  simp

@[simp] theorem State.loopUe_stored (s : State) (k : Nat) : (@State.loopUe s k).stored = s.stored := by
  unfold State.loopUe
  simp

@[simp] theorem State.fastTick_stored (s : State) (skip : List Nat) (mids : List Nat) (odd : Bool) : (@State.fastTick s skip mids odd).stored = s.stored := by
  unfold State.fastTick
  simp

@[simp] theorem State.putImage_stored (s : State) (k : Nat) (img : Nat) : (@State.putImage s k img).stored = s.stored := by
  unfold State.putImage
  simp

@[simp] theorem execLoopProgLoad_stored (s : State) : (resultOf (execLoopProgLoad s) s).stored = s.stored := by
  unfold execLoopProgLoad
  refine runCmd_stored _ _ _ (fun q s => ?_)
  repeat' first
    | (extract_lets +onlyGivenNames x; first
      | (have hx : State.stored x = State.stored s := (by first | (simp [x, *]; done) | (simp only [x]; (repeat' split) <;> simp [*]; done)); clear_value x)
      | (have hx : ∀ t : State, State.stored (x t) = State.stored t := (by intro t; first | (simp [x, *]; done) | (simp only [x]; (repeat' split) <;> simp [*]; done)); clear_value x)
      | (have hx := fun a => x a; clear hx)
      | clear_value x)
    | (simp [*]; done)
    | (split <;> try (rename_i heq; first
       | (have hk := congrArg (fun p => State.stored (Prod.snd p)) heq.symm; simp at hk)
       | (have hk := congrArg (fun p => State.stored (Prod.snd (Prod.snd p))) heq.symm; simp at hk)
       | (have hk := congrArg (fun p => State.stored (Prod.fst p)) heq.symm; simp at hk)))
    | (simp +zetaDelta [*]; done)

@[simp] theorem execLoopPlausSet_stored (s : State) : (resultOf (execLoopPlausSet s) s).stored = s.stored := by
  unfold execLoopPlausSet
  simp

@[simp] theorem execLoopLoopMode_stored (s : State) : (resultOf (execLoopLoopMode s) s).stored = s.stored := by
  unfold execLoopLoopMode
  refine runCmd_stored _ _ _ (fun q s => ?_)
  (repeat' split) <;> simp

@[simp] theorem execLoopStatus_stored (s : State) : (resultOf (execLoopStatus s) s).stored = s.stored := by
  unfold execLoopStatus
  simp

@[simp] theorem execLoopInputSet_stored (s : State) : (resultOf (execLoopInputSet s) s).stored = s.stored := by
  unfold execLoopInputSet
  refine runCmd_stored _ _ _ (fun q s => ?_)
  (repeat' split) <;> simp

@[simp] theorem execLoopAuxSet_stored (s : State) : (resultOf (execLoopAuxSet s) s).stored = s.stored := by
  unfold execLoopAuxSet
  refine runCmd_stored _ _ _ (fun q s => ?_)
  (repeat' split) <;> simp

end Sys2Proof.Machine
end

