-- ==== Sys2Proof/Laws/StoredFlu.lean ====
section
/-! SUPPORT. What the operations of Machine/Flu.lean keep of the memories: DRAM, the SRAM, the flash, the correction banks and the frame store. -/

namespace Sys2Proof.Machine

@[simp] theorem State.moveWp_stored (s : State) (n : Nat) : (@State.moveWp s n).stored = s.stored := by
  unfold State.moveWp
  simp

@[simp] theorem State.startPage_stored (s : State) (ue : List Nat) : (@State.startPage s ue).stored = s.stored := by
  unfold State.startPage
  (repeat' split) <;> simp

@[simp] theorem State.flushOn_stored (s : State) (ue : List Nat) : (@State.flushOn s ue).stored = s.stored := by
  unfold State.flushOn
  simp

@[simp] theorem State.shutFlush_stored (s : State) : (@State.shutFlush s).stored = s.stored := by
  unfold State.shutFlush
  simp

@[simp] theorem State.blockBad_stored (s : State) (b : Nat) : (@State.blockBad s b).stored = s.stored := by
  unfold State.blockBad
  simp

@[simp] theorem execDropFaultEntry_stored (s : State) : (resultOf (execDropFaultEntry s) s).stored = s.stored := by
  unfold execDropFaultEntry
  simp

@[simp] theorem execFluFlushWrite_stored (v : Word) (s : State) : (resultOf (execFluFlushWrite v s) s).stored = s.stored := by
  unfold execFluFlushWrite
  simp

@[simp] theorem State.eraseAbort_stored (s : State) : (@State.eraseAbort s).stored = s.stored := by
  unfold State.eraseAbort
  simp

@[simp] theorem State.xspiCut_stored (s : State) (op : Nat) : (@State.xspiCut s op).stored = s.stored := by
  unfold State.xspiCut
  simp

@[simp] theorem State.pfwAccept_stored (s : State) : (@State.pfwAccept s).stored = s.stored := by
  unfold State.pfwAccept
  simp

@[simp] theorem execPfwAccept_stored (s : State) : (resultOf (execPfwAccept s) s).stored = s.stored := by
  unfold execPfwAccept
  simp

@[simp] theorem execPfwRelease_stored (s : State) : (resultOf (execPfwRelease s) s).stored = s.stored := by
  unfold execPfwRelease
  repeat' first
    | (extract_lets +onlyGivenNames x; first
      | (have hx : State.stored x = State.stored s := (by first | (simp [x, *]; done) | (simp only [x]; (repeat' split) <;> simp [*]; done)); clear_value x)
      | (have hx : ∀ t : State, State.stored (x t) = State.stored t := (by intro t; first | (simp [x, *]; done) | (simp only [x]; (repeat' split) <;> simp [*]; done)); clear_value x)
      | (have hx := fun a => x a; clear hx)
      | clear_value x)
    | (simp [*]; done)
    | (split <;> try (rename_i heq; first
       | (have hk := congrArg (fun p => State.stored (Prod.snd p)) heq.symm; simp at hk)
       | (have hk := congrArg (fun p => State.stored (Prod.snd (Prod.snd p))) heq.symm; simp at hk)
       | (have hk := congrArg (fun p => State.stored (Prod.fst p)) heq.symm; simp at hk)))
    | (simp +zetaDelta [*]; done)

@[simp] theorem State.scanPlace_stored (s : State) (c : Nat × Rec) : (@State.scanPlace s c).stored = s.stored := by
  unfold State.scanPlace
  (repeat' split) <;> simp

@[simp] theorem State.scanPoints_stored (s : State) (newest : Option Nat) : (@State.scanPoints s newest).stored = s.stored := by
  unfold State.scanPoints
  simp

@[simp] theorem State.submit_stored (s : State) (g : List Rec) : (@State.submit s g).stored = s.stored := by
  unfold State.submit
  simp

@[simp] theorem State.numberRing_stored (s : State) : (@State.numberRing s).stored = s.stored := by
  unfold State.numberRing
  simp

@[simp] theorem State.scanRecord_stored (s : State) (hi : Option Nat) (torn : Nat) (dup : Nat) (dead : Nat) : (@State.scanRecord s hi torn dup dead).stored = s.stored := by
  unfold State.scanRecord
  simp

@[simp] theorem execFluSubmitGo_stored (v : Word) (s : State) : (resultOf (execFluSubmitGo v s) s).stored = s.stored := by
  unfold execFluSubmitGo
  simp

@[simp] theorem State.xspiGo_stored (s : State) (op : Nat) : (@State.xspiGo s op).stored = s.stored := by
  unfold State.xspiGo
  simp

@[simp] theorem execXspiRead_stored (s : State) : (resultOf (execXspiRead s) s).stored = s.stored := by
  unfold execXspiRead
  simp

@[simp] theorem execXspiErase_stored (s : State) : (resultOf (execXspiErase s) s).stored = s.stored := by
  unfold execXspiErase
  simp

@[simp] theorem execXspiProgram_stored (s : State) : (resultOf (execXspiProgram s) s).stored = s.stored := by
  unfold execXspiProgram
  simp

@[simp] theorem execFlueRead_stored (s : State) : (resultOf (execFlueRead s) s).stored = s.stored := by
  unfold execFlueRead
  refine runCmd_stored _ _ _ (fun q t => ?_)
  split
  · rfl
  · simp only []
    cases (t.fluFrom (q.w64 0)).take (q.w 2) <;> simp [State.fresh]

@[simp] theorem execFlueStatus_stored (s : State) : (resultOf (execFlueStatus s) s).stored = s.stored := by
  unfold execFlueStatus
  exact runCmd_stored _ _ _ (fun _ t => reader_stored _ t _)

@[simp] theorem execFlueNote_stored (s : State) : (resultOf (execFlueNote s) s).stored = s.stored := by
  unfold execFlueNote
  refine runCmd_stored _ _ _ (fun q s => ?_)
  (repeat' split) <;> simp

end Sys2Proof.Machine
end

