-- ==== Sys2Proof/Laws/StoredThm.lean ====
section
/-! SUPPORT. What the operations of Machine/Thm.lean keep of the memories: DRAM, the SRAM, the flash, the correction banks and the frame store. -/

namespace Sys2Proof.Machine

@[simp] theorem State.thmRuns_stored (s : State) : (@State.thmRuns s).stored = s.stored := by
  unfold State.thmRuns
  simp

@[simp] theorem State.declareBroken_stored (s : State) (i : Nat) : (@State.declareBroken s i).stored = s.stored := by
  unfold State.declareBroken
  simp

@[simp] theorem State.thmTmax_stored (s : State) (first : Bool) : (@State.thmTmax s first).stored = s.stored := by
  unfold State.thmTmax
  (repeat' split) <;> simp

@[simp] theorem State.thmLowEval_stored (s : State) : (@State.thmLowEval s).stored = s.stored := by
  unfold State.thmLowEval
  simp

@[simp] theorem State.shutBegin_stored (s : State) : (@State.shutBegin s).stored = s.stored := by
  unfold State.shutBegin
  simp

@[simp] theorem State.thmEnter_stored (s : State) (l : Nat) : (@State.thmEnter s l).stored = s.stored := by
  unfold State.thmEnter
  simp

@[simp] theorem State.thmLevel_stored (s : State) : (@State.thmLevel s).stored = s.stored := by
  unfold State.thmLevel
  simp

@[simp] theorem State.redEval_stored (s : State) : (@State.redEval s).stored = s.stored := by
  unfold State.redEval
  simp

@[simp] theorem State.redSeconds_stored (s : State) : (@State.redSeconds s).stored = s.stored := by
  unfold State.redSeconds
  simp

@[simp] theorem execThermalUpdate_stored (ts : List (BitVec 16)) (s : State) : (resultOf (execThermalUpdate ts s) s).stored = s.stored := by
  unfold execThermalUpdate
  repeat' first
    | (extract_lets +onlyGivenNames x; first
      | (have hx : State.stored x = State.stored s := (by first | (simp [x, *]; done) | (simp only [x]; (repeat' split) <;> simp [*]; done)); clear_value x)
      | (have hx : ∀ t : State, State.stored (x t) = State.stored t := (by intro t; first | (simp [x, *]; done) | (simp only [x]; (repeat' split) <;> simp [*]; done)); clear_value x)
      | (have hx := fun a => x a; clear hx)
      | clear_value x)
    | (simp [*]; done)
    | (split <;> try (rename_i heq; first
       | (have hk := congrArg (fun p => State.stored (Prod.snd p)) heq.symm; simp at hk)
       | (have hk := congrArg (fun p => State.stored (Prod.snd (Prod.snd p))) heq.symm; simp at hk)
       | (have hk := congrArg (fun p => State.stored (Prod.fst p)) heq.symm; simp at hk)))
    | (simp +zetaDelta [*]; done)

@[simp] theorem execDamperRelax_stored (s : State) : (resultOf (execDamperRelax s) s).stored = s.stored := by
  unfold execDamperRelax
  simp

@[simp] theorem execSensorClear_stored (mask : BitVec 12) (s : State) : (resultOf (execSensorClear mask s) s).stored = s.stored := by
  unfold execSensorClear
  simp

@[simp] theorem State.peakClear_stored (s : State) : (@State.peakClear s).stored = s.stored := by
  unfold State.peakClear
  simp

@[simp] theorem State.threshWrite_stored (s : State) (b : Bool) (v : Word) : (@State.threshWrite s b v).stored = s.stored := by
  unfold State.threshWrite
  simp

@[simp] theorem execThrmStatus_stored (s : State) : (resultOf (execThrmStatus s) s).stored = s.stored := by
  unfold execThrmStatus
  simp

@[simp] theorem execThrmSensorRead_stored (s : State) : (resultOf (execThrmSensorRead s) s).stored = s.stored := by
  unfold execThrmSensorRead
  simp

end Sys2Proof.Machine
end

