-- ==== Sys2Proof/Laws/StoredCal.lean ====
section
/-! SUPPORT. What the operations of Machine/Cal.lean keep of the memories: DRAM, the SRAM, the flash, the correction banks and the frame store. -/

namespace Sys2Proof.Machine

@[simp] theorem State.trimApply_stored (s : State) (ws : List Nat) : (@State.trimApply s ws).stored = s.stored := by
  unfold State.trimApply
  simp

@[simp] theorem State.trimCommit_stored (s : State) (a1 : State) : (@State.trimCommit s a1).stored = s.stored := by
  unfold State.trimCommit
  simp

@[simp] theorem State.calFinish_stored (s : State) (a : Action) (st : Nat) : (@State.calFinish s a st).stored = s.stored := by
  unfold State.calFinish
  simp

@[simp] theorem State.calTrimWritten_stored (s : State) (a : Action) : (@State.calTrimWritten s a).stored = s.stored := by
  unfold State.calTrimWritten
  simp

@[simp] theorem State.afeTrims_stored (s : State) (p : Nat) : (@State.afeTrims s p).stored = s.stored := by
  unfold State.afeTrims
  simp

@[simp] theorem State.calModeEnd_stored (s : State) (a : Action) : (@State.calModeEnd s a).stored = s.stored := by
  unfold State.calModeEnd
  simp

@[simp] theorem State.calPoll1_stored (s : State) (a : Action) : (@State.calPoll1 s a).stored = s.stored := by
  unfold State.calPoll1
  simp

@[simp] theorem State.calPoll_stored (s : State) : (@State.calPoll s).stored = s.stored := by
  unfold State.calPoll
  simp

@[simp] theorem execLongActionFinish_stored (tag : BitVec 16) (s : State) : (resultOf (execLongActionFinish tag s) s).stored = s.stored := by
  unfold execLongActionFinish
  repeat' first
    | (extract_lets +onlyGivenNames x; first
      | (have hx : State.stored x = State.stored s := (by first | (simp [x, *]; done) | (simp only [x]; (repeat' split) <;> simp [*]; done)); clear_value x)
      | (have hx : ∀ t : State, State.stored (x t) = State.stored t := (by intro t; first | (simp [x, *]; done) | (simp only [x]; (repeat' split) <;> simp [*]; done)); clear_value x)
      | (have hx := fun a => x a; clear hx)
      | clear_value x)
    | (simp [*]; done)
    | (split <;> try (rename_i heq; first
       | (have hk := congrArg (fun p => State.stored (Prod.snd p)) heq.symm; simp at hk)
       | (have hk := congrArg (fun p => State.stored (Prod.snd (Prod.snd p))) heq.symm; simp at hk)
       | (have hk := congrArg (fun p => State.stored (Prod.fst p)) heq.symm; simp at hk)))
    | (simp +zetaDelta [*]; done)

@[simp] theorem State.gapOpen_stored (s : State) : (@State.gapOpen s).stored = s.stored := by
  unfold State.gapOpen
  simp

@[simp] theorem State.gapCount_stored (s : State) : (@State.gapCount s).stored = s.stored := by
  unfold State.gapCount
  simp

@[simp] theorem State.gapClose_stored (s : State) : (@State.gapClose s).stored = s.stored := by
  unfold State.gapClose
  simp

@[simp] theorem State.gapEdge_stored (s : State) : (@State.gapEdge s).stored = s.stored := by
  unfold State.gapEdge
  (repeat' split) <;> simp

@[simp] theorem execGapPieceClose_stored (s : State) : (resultOf (execGapPieceClose s) s).stored = s.stored := by
  unfold execGapPieceClose
  simp

@[simp] theorem execMcStart_stored (v : Word) (s : State) : (resultOf (execMcStart v s) s).stored = s.stored := by
  unfold execMcStart
  simp

@[simp] theorem execGapWaitTimeout_stored (s : State) : (resultOf (execGapWaitTimeout s) s).stored = s.stored := by
  unfold execGapWaitTimeout
  simp

@[simp] theorem State.sweepEnd_stored (s : State) (w : Sweep) (st : Nat) : (@State.sweepEnd s w st).stored = s.stored := by
  unfold State.sweepEnd
  simp

@[simp] theorem State.sweepFire_stored (s : State) (w : Sweep) : (@State.sweepFire s w).stored = s.stored := by
  unfold State.sweepFire
  simp

@[simp] theorem execSweepPulse_stored (s : State) : (resultOf (execSweepPulse s) s).stored = s.stored := by
  unfold execSweepPulse
  repeat' first
    | (extract_lets +onlyGivenNames x; first
      | (have hx : State.stored x = State.stored s := (by first | (simp [x, *]; done) | (simp only [x]; (repeat' split) <;> simp [*]; done)); clear_value x)
      | (have hx : ∀ t : State, State.stored (x t) = State.stored t := (by intro t; first | (simp [x, *]; done) | (simp only [x]; (repeat' split) <;> simp [*]; done)); clear_value x)
      | (have hx := fun a => x a; clear hx)
      | clear_value x)
    | (simp [*]; done)
    | (split <;> try (rename_i heq; first
       | (have hk := congrArg (fun p => State.stored (Prod.snd p)) heq.symm; simp at hk)
       | (have hk := congrArg (fun p => State.stored (Prod.snd (Prod.snd p))) heq.symm; simp at hk)
       | (have hk := congrArg (fun p => State.stored (Prod.fst p)) heq.symm; simp at hk)))
    | (simp +zetaDelta [*]; done)

@[simp] theorem State.sweepSample_stored (s : State) (late : Bool) : (@State.sweepSample s late).stored = s.stored := by
  unfold State.sweepSample
  (repeat' split) <;> simp

@[simp] theorem State.sweepStart_stored (s : State) : (@State.sweepStart s).stored = s.stored := by
  unfold State.sweepStart
  simp

@[simp] theorem State.sweepWrite_stored (s : State) (v : Word) : (@State.sweepWrite s v).stored = s.stored := by
  unfold State.sweepWrite
  simp

@[simp] theorem execSweepStart_stored (v : Word) (s : State) : (resultOf (execSweepStart v s) s).stored = s.stored := by
  unfold execSweepStart
  simp

@[simp] theorem State.ltWrite_stored (s : State) (v : Word) : (@State.ltWrite s v).stored = s.stored := by
  unfold State.ltWrite
  simp

@[simp] theorem execThresholdStart_stored (v : Word) (s : State) : (resultOf (execThresholdStart v s) s).stored = s.stored := by
  unfold execThresholdStart
  simp

@[simp] theorem State.ltEnd_stored (s : State) (r : Option Int) : (@State.ltEnd s r).stored = s.stored := by
  unfold State.ltEnd
  (repeat' split) <;> simp

@[simp] theorem execThresholdStep_stored (trip : Bool) (s : State) : (resultOf (execThresholdStep trip s) s).stored = s.stored := by
  unfold execThresholdStep
  simp

@[simp] theorem State.storeEnd_stored (s : State) (ok : Bool) : (@State.storeEnd s ok).stored = s.stored := by
  unfold State.storeEnd
  simp

@[simp] theorem State.calDrive_stored (s : State) (proc : Nat) (u : Nat) : (@State.calDrive s proc u).stored = s.stored := by
  unfold State.calDrive
  (repeat' split) <;> simp

@[simp] theorem execCalRun_stored (s : State) : (resultOf (execCalRun s) s).stored = s.stored := by
  unfold execCalRun
  refine runCmd_stored _ _ _ (fun q s => ?_)
  repeat' first
    | (extract_lets +onlyGivenNames x; first
      | (have hx : State.stored x = State.stored s := (by first | (simp [x, *]; done) | (simp only [x]; (repeat' split) <;> simp [*]; done)); clear_value x)
      | (have hx : ∀ t : State, State.stored (x t) = State.stored t := (by intro t; first | (simp [x, *]; done) | (simp only [x]; (repeat' split) <;> simp [*]; done)); clear_value x)
      | (have hx := fun a => x a; clear hx)
      | clear_value x)
    | (simp [*]; done)
    | (split <;> try (rename_i heq; first
       | (have hk := congrArg (fun p => State.stored (Prod.snd p)) heq.symm; simp at hk)
       | (have hk := congrArg (fun p => State.stored (Prod.snd (Prod.snd p))) heq.symm; simp at hk)
       | (have hk := congrArg (fun p => State.stored (Prod.fst p)) heq.symm; simp at hk)))
    | (simp +zetaDelta [*]; done)

@[simp] theorem execCalTrimRead_stored (s : State) : (resultOf (execCalTrimRead s) s).stored = s.stored := by
  unfold execCalTrimRead
  refine runCmd_stored _ _ _ (fun q s => ?_)
  (repeat' split) <;> simp

@[simp] theorem execCalTrimWrite_stored (s : State) : (resultOf (execCalTrimWrite s) s).stored = s.stored := by
  unfold execCalTrimWrite
  simp

end Sys2Proof.Machine
end

