-- ==== Sys2Proof/Laws/StoredDmc.lean ====
section
/-! SUPPORT. What the operations of Machine/Dmc.lean keep of the memories: DRAM, the SRAM, the flash, the correction banks and the frame store. -/

namespace Sys2Proof.Machine

@[simp] theorem State.dramTrainStart_stored (s : State) : (@State.dramTrainStart s).stored = s.stored := by
  unfold State.dramTrainStart
  simp

@[simp] theorem execDramTrainStart_stored (s : State) : (resultOf (execDramTrainStart s) s).stored = s.stored := by
  unfold execDramTrainStart
  simp

@[simp] theorem State.trainVals_stored (s : State) (vals : List Word) : (@State.trainVals s vals).stored = s.stored := by
  unfold State.trainVals
  simp

@[simp] theorem State.rhEvict_stored (s : State) (req : Nat) : (@State.rhEvict s req).stored = s.stored := by
  unfold State.rhEvict
  simp

@[simp] theorem State.activate_stored (s : State) (req : Nat) (a : Nat) : (@State.activate s req a).stored = s.stored := by
  unfold State.activate
  simp

@[simp] theorem State.dramErrors_stored (s : State) (errs : List (Nat × Nat)) : (@State.dramErrors s errs).stored = s.stored := by
  unfold State.dramErrors
  simp

@[simp] theorem State.afterReplay_stored (s : State) (c : Nat) (k : Nat) : (@State.afterReplay s c k).stored = s.stored := by
  unfold State.afterReplay
  simp

@[simp] theorem State.rhTableUe_stored (s : State) (a : Nat) : (@State.rhTableUe s a).stored = s.stored := by
  unfold State.rhTableUe
  simp

@[simp] theorem State.rankIdle_stored (s : State) (k : Nat) : (@State.rankIdle s k).stored = s.stored := by
  unfold State.rankIdle
  simp

@[simp] theorem execRefreshDue_stored (c : Fin 2) (r : Fin 2) (busy : Bool) (s : State) : (resultOf (execRefreshDue c r busy s) s).stored = s.stored := by
  unfold execRefreshDue
  simp

@[simp] theorem execRhTableReset_stored (s : State) : (resultOf (execRhTableReset s) s).stored = s.stored := by
  unfold execRhTableReset
  simp

@[simp] theorem execEvictPeriod_stored (s : State) : (resultOf (execEvictPeriod s) s).stored = s.stored := by
  unfold execEvictPeriod
  simp

@[simp] theorem State.reqDead_stored (s : State) (d : DReq) : (@State.reqDead s d).stored = s.stored := by
  unfold State.reqDead
  simp

@[simp] theorem State.parFatal_stored (s : State) (c : Nat) : (@State.parFatal s c).stored = s.stored := by
  unfold State.parFatal
  simp

@[simp] theorem State.nextAttempt_stored (s : State) (c : Nat) : (@State.nextAttempt s c).stored = s.stored := by
  unfold State.nextAttempt
  simp

@[simp] theorem execCaParityAlert_stored (c : Fin 2) (s : State) : (resultOf (execCaParityAlert c s) s).stored = s.stored := by
  unfold execCaParityAlert
  simp

@[simp] theorem execCaAlertRelease_stored (c : Fin 2) (ue : Bool) (s : State) : (resultOf (execCaAlertRelease c ue s) s).stored = s.stored := by
  unfold execCaAlertRelease
  simp

@[simp] theorem execCaAlertTimeout_stored (c : Fin 2) (s : State) : (resultOf (execCaAlertTimeout c s) s).stored = s.stored := by
  unfold execCaAlertTimeout
  simp

@[simp] theorem execZqCalibrate_stored (s : State) : (resultOf (execZqCalibrate s) s).stored = s.stored := by
  unfold execZqCalibrate
  simp

@[simp] theorem execDqsTrack_stored (vals : List Word) (s : State) : (resultOf (execDqsTrack vals s) s).stored = s.stored := by
  unfold execDqsTrack
  simp

@[simp] theorem State.scrubBeat_stored (s : State) (beat : Nat) : (@State.scrubBeat s beat).stored = s.stored := by
  unfold State.scrubBeat
  (repeat' split) <;> simp

@[simp] theorem execScrubRead_stored (errs : List (Nat × Nat)) (s : State) : (resultOf (execScrubRead errs s) s).stored = s.stored := by
  unfold execScrubRead
  simp

@[simp] theorem execEccClear_stored (s : State) : (resultOf (execEccClear s) s).stored = s.stored := by
  unfold execEccClear
  simp

@[simp] theorem execPowerDownEntry_stored (c : Fin 2) (r : Fin 2) (s : State) : (resultOf (execPowerDownEntry c r s) s).stored = s.stored := by
  unfold execPowerDownEntry
  simp

end Sys2Proof.Machine
end

