-- ==== Sys2Proof/Laws/StoredSec.lean ====
section
/-! SUPPORT. What the operations of Machine/Sec.lean keep of the memories: DRAM, the SRAM, the flash, the correction banks and the frame store. -/

namespace Sys2Proof.Machine

@[simp] theorem State.putBytes_stored (s : State) (f : Fref) (bs : List Byte) : (@State.putBytes s f bs).stored = s.stored := by
  unfold State.putBytes
  simp

@[simp] theorem State.debugInBuild_stored (s : State) : (@State.debugInBuild s).stored = s.stored := by
  unfold State.debugInBuild
  simp

@[simp] theorem State.takeMode_stored (s : State) (m : Nat) (lasers : Bool) : (@State.takeMode s m lasers).stored = s.stored := by
  unfold State.takeMode
  simp

@[simp] theorem State.hostHold_stored (s : State) : (@State.hostHold s).stored = s.stored := by
  unfold State.hostHold
  simp

@[simp] theorem State.modeWrite_stored (s : State) (m : Nat) (lasers : Bool) : (@State.modeWrite s m lasers).1.stored = s.stored := by
  unfold State.modeWrite
  simp

@[simp] theorem execModeWrite_stored (v : Word) (s : State) : (resultOf (execModeWrite v s) s).stored = s.stored := by
  unfold execModeWrite
  simp

@[simp] theorem State.drawChallenge_stored (s : State) (lvl : Nat) : (@State.drawChallenge s lvl).stored = s.stored := by
  unfold State.drawChallenge
  simp

@[simp] theorem execChallengeNew_stored (v : Word) (s : State) : (resultOf (execChallengeNew v s) s).stored = s.stored := by
  unfold execChallengeNew
  simp

@[simp] theorem execChallengeExpire_stored (s : State) : (resultOf (execChallengeExpire s) s).stored = s.stored := by
  unfold execChallengeExpire
  simp

@[simp] theorem State.refuseToken_stored (s : State) : (@State.refuseToken s).1.stored = s.stored := by
  unfold State.refuseToken
  simp

@[simp] theorem State.grant_stored (s : State) (lvl : Nat) (hash : List Byte) : (@State.grant s lvl hash).stored = s.stored := by
  unfold State.grant
  simp

@[simp] theorem State.tokenCheck_stored (s : State) (t : List Byte) : (@State.tokenCheck s t).1.stored = s.stored := by
  unfold State.tokenCheck
  simp

@[simp] theorem execTokenCheck_stored (v : Word) (s : State) : (resultOf (execTokenCheck v s) s).stored = s.stored := by
  unfold execTokenCheck
  simp

@[simp] theorem execDebugClose_stored (s : State) : (resultOf (execDebugClose s) s).stored = s.stored := by
  unfold execDebugClose
  simp

@[simp] theorem execDebugHaltRequest_stored (s : State) : (resultOf (execDebugHaltRequest s) s).stored = s.stored := by
  unfold execDebugHaltRequest
  simp

@[simp] theorem execSecDebugChallenge_stored (s : State) : (resultOf (execSecDebugChallenge s) s).stored = s.stored := by
  unfold execSecDebugChallenge
  simp

@[simp] theorem execSecDebugResponse_stored (s : State) : (resultOf (execSecDebugResponse s) s).stored = s.stored := by
  unfold execSecDebugResponse
  refine runCmd_stored _ _ _ (fun q s => ?_)
  repeat' first
    | (extract_lets +onlyGivenNames x; first
      | (have hx : State.stored x = State.stored s := (by first | (simp [x, *]; done) | (simp only [x]; (repeat' split) <;> simp [*]; done)); clear_value x)
      | (have hx : ∀ t : State, State.stored (x t) = State.stored t := (by intro t; first | (simp [x, *]; done) | (simp only [x]; (repeat' split) <;> simp [*]; done)); clear_value x)
      | (have hx := fun a => x a; clear hx)
      | clear_value x)
    | (simp [*]; done)
    | (split <;> try (rename_i heq; first
       | (have hk := congrArg (fun p => State.stored (Prod.snd p)) heq.symm; simp at hk)
       | (have hk := congrArg (fun p => State.stored (Prod.snd (Prod.snd p))) heq.symm; simp at hk)
       | (have hk := congrArg (fun p => State.stored (Prod.fst p)) heq.symm; simp at hk)))
    | (simp +zetaDelta [*]; done)

@[simp] theorem execAttStart_stored (v : Word) (s : State) : (resultOf (execAttStart v s) s).stored = s.stored := by
  unfold execAttStart
  simp

@[simp] theorem execSecAttest_stored (ok : Bool) (s : State) : (resultOf (execSecAttest ok s) s).stored = s.stored := by
  unfold execSecAttest
  simp

@[simp] theorem State.jobCheck_stored (s : State) (a : Nat) (n : Nat) (id : Option Nat) : (@State.jobCheck s a n id).1.stored = s.stored := by
  unfold State.jobCheck
  repeat' first
    | (extract_lets +onlyGivenNames x; first
      | (have hx : State.stored x = State.stored s := (by first | (simp [x, *]; done) | (simp only [x]; (repeat' split) <;> simp [*]; done)); clear_value x)
      | (have hx : ∀ t : State, State.stored (x t) = State.stored t := (by intro t; first | (simp [x, *]; done) | (simp only [x]; (repeat' split) <;> simp [*]; done)); clear_value x)
      | (have hx := fun a => x a; clear hx)
      | clear_value x)
    | (simp [*]; done)
    | (split <;> try (rename_i heq; first
       | (have hk := congrArg (fun p => State.stored (Prod.snd p)) heq.symm; simp at hk)
       | (have hk := congrArg (fun p => State.stored (Prod.snd (Prod.snd p))) heq.symm; simp at hk)
       | (have hk := congrArg (fun p => State.stored (Prod.fst p)) heq.symm; simp at hk)))
    | (simp +zetaDelta [*]; done)

@[simp] theorem State.measClear_stored (s : State) : (@State.measClear s).stored = s.stored := by
  unfold State.measClear
  simp

@[simp] theorem execJobCheckStart_stored (s : State) : (resultOf (execJobCheckStart s) s).stored = s.stored := by
  unfold execJobCheckStart
  simp

@[simp] theorem execJobCheckDone_stored (s : State) : (resultOf (execJobCheckDone s) s).stored = s.stored := by
  unfold execJobCheckDone
  (repeat' split) <;> simp

@[simp] theorem execJobMeasClear_stored (s : State) : (resultOf (execJobMeasClear s) s).stored = s.stored := by
  unfold execJobMeasClear
  simp

@[simp] theorem State.lifeMove_stored (s : State) (lc : Nat) : (s.lifeMove lc).stored = s.stored := by
  unfold State.lifeMove
  (repeat' split) <;> simp

@[simp] theorem State.provision_stored (s : State) (rec : List Byte) : (s.provision rec).stored = s.stored := by
  unfold State.provision
  (repeat' split) <;> simp

@[simp] theorem State.sealOwner_stored (s : State) (rec : List Byte) : (s.sealOwner rec).stored = s.stored := by
  unfold State.sealOwner
  (repeat' split) <;> simp

@[simp] theorem execLifecycleProgram_stored (v : Word) (s : State) : (resultOf (execLifecycleProgram v s) s).stored = s.stored := by
  unfold execLifecycleProgram
  (repeat' split) <;> simp

@[simp] theorem execSecProvision_stored (s : State) : (resultOf (execSecProvision s) s).stored = s.stored := by
  unfold execSecProvision
  refine runCmd_stored _ _ _ (fun q s => ?_)
  (repeat' split) <;> simp

@[simp] theorem execSecSeal_stored (s : State) : (resultOf (execSecSeal s) s).stored = s.stored := by
  unfold execSecSeal
  refine runCmd_stored _ _ _ (fun q s => ?_)
  (repeat' split) <;> simp

@[simp] theorem execSecRetire_stored (s : State) : (resultOf (execSecRetire s) s).stored = s.stored := by
  unfold execSecRetire
  refine runCmd_stored _ _ _ (fun q s => ?_)
  (repeat' split) <;> simp

@[simp] theorem execKeyPairReady_stored (s : State) : (resultOf (execKeyPairReady s) s).stored = s.stored := by
  unfold execKeyPairReady
  simp

@[simp] theorem State.arbRaise_stored (s : State) (goal : Nat) : (s.arbRaise goal).stored = s.stored := by
  unfold State.arbRaise
  (repeat' split) <;> simp

@[simp] theorem execArbRaise_stored (v : Word) (s : State) : (resultOf (execArbRaise v s) s).stored = s.stored := by
  unfold execArbRaise
  (repeat' split) <;> simp

end Sys2Proof.Machine
end

