-- ==== Sys2Proof/Laws/StoredVlt.lean ====
section
/-! SUPPORT. What the operations of Machine/Vlt.lean keep of the memories: DRAM, the SRAM, the flash, the correction banks and the frame store. -/

namespace Sys2Proof.Machine

@[simp] theorem execPorEnd_stored (s : State) : (resultOf (execPorEnd s) s).stored = s.stored := by
  unfold execPorEnd
  simp

@[simp] theorem State.vaultAdvance_stored (s : State) (adv : Nat) : (@State.vaultAdvance s adv).stored = s.stored := by
  unfold State.vaultAdvance
  simp

@[simp] theorem execRtcSet_stored (v : Word) (s : State) : (resultOf (execRtcSet v s) s).stored = s.stored := by
  unfold execRtcSet
  simp

@[simp] theorem execOpsecSecond_stored (adv : Nat) (s : State) : (resultOf (execOpsecSecond adv s) s).stored = s.stored := by
  unfold execOpsecSecond
  simp

@[simp] theorem State.psuOn_stored (s : State) (cause : Nat) : (@State.psuOn s cause).stored = s.stored := by
  unfold State.psuOn
  simp

@[simp] theorem execWakeRequest_stored (adv : Nat) (s : State) : (resultOf (execWakeRequest adv s) s).stored = s.stored := by
  unfold execWakeRequest
  simp

@[simp] theorem execRtcAlarm_stored (adv : Nat) (s : State) : (resultOf (execRtcAlarm adv s) s).stored = s.stored := by
  unfold execRtcAlarm
  simp

@[simp] theorem execSleepRequest_stored (v : Word) (s : State) : (resultOf (execSleepRequest v s) s).stored = s.stored := by
  unfold execSleepRequest
  simp

@[simp] theorem execPsuEnDrop_stored (s : State) : (resultOf (execPsuEnDrop s) s).stored = s.stored := by
  unfold execPsuEnDrop
  simp

@[simp] theorem execVltClearLost_stored (s : State) : (resultOf (execVltClearLost s) s).stored = s.stored := by
  unfold execVltClearLost
  simp

@[simp] theorem State.clearTlog_stored (s : State) : (@State.clearTlog s).stored = s.stored := by
  unfold State.clearTlog
  simp

@[simp] theorem execVltClearTlog_stored (s : State) : (resultOf (execVltClearTlog s) s).stored = s.stored := by
  unfold execVltClearTlog
  simp

@[simp] theorem execVltClearTrip_stored (s : State) : (resultOf (execVltClearTrip s) s).stored = s.stored := by
  unfold execVltClearTrip
  simp

@[simp] theorem State.tlogAdd_stored (s : State) (src : Nat) (detail : Nat) : (@State.tlogAdd s src detail).stored = s.stored := by
  unfold State.tlogAdd
  (repeat' split) <;> simp

@[simp] theorem State.markTampered_stored (s : State) : (@State.markTampered s).stored = s.stored := by
  unfold State.markTampered
  simp

@[simp] theorem State.tamper_stored (s : State) (src : Nat) (detail : Nat) : (@State.tamper s src detail).stored = s.stored := by
  unfold State.tamper
  simp

@[simp] theorem execTamperSample_stored (lidIn : Bool) (tampA : Bool) (tampB : Bool) (adv : Nat) (s : State) : (resultOf (execTamperSample lidIn tampA tampB adv s) s).stored = s.stored := by
  unfold execTamperSample
  simp

@[simp] theorem execVbatLow_stored (low : Bool) (mv : BitVec 16) (adv : Nat) (s : State) : (resultOf (execVbatLow low mv adv s) s).stored = s.stored := by
  unfold execVbatLow
  simp

@[simp] theorem execVaultClockFault_stored (adv : Nat) (s : State) : (resultOf (execVaultClockFault adv s) s).stored = s.stored := by
  unfold execVaultClockFault
  simp

@[simp] theorem execVaultTempCheck_stored (t : BitVec 16) (adv : Nat) (s : State) : (resultOf (execVaultTempCheck t adv s) s).stored = s.stored := by
  unfold execVaultTempCheck
  simp

@[simp] theorem execVbatInsert_stored (s : State) : (resultOf (execVbatInsert s) s).stored = s.stored := by
  unfold execVbatInsert
  simp

end Sys2Proof.Machine
end

