-- ==== Sys2Proof/Laws/StoredBoot.lean ====
section
/-! SUPPORT. What the operations of Machine/Boot.lean keep of the memories: DRAM, the SRAM, the flash, the correction banks and the frame store. -/

namespace Sys2Proof.Machine

@[simp] theorem State.boardSetup_stored (s : State) (b : Option (Nat × Nat × Nat × Nat)) : (@State.boardSetup s b).stored = s.stored := by
  unfold State.boardSetup
  simp

@[simp] theorem State.recover_stored (s : State) : (@State.recover s).stored = s.stored := by
  unfold State.recover
  simp

@[simp] theorem State.raiseCounter_stored (s : State) (f : Fref) (v : Nat) : (@State.raiseCounter s f v).stored = s.stored := by
  unfold State.raiseCounter
  simp

@[simp] theorem execCounterRestore_stored (s : State) : (resultOf (execCounterRestore s) s).stored = s.stored := by
  unfold execCounterRestore
  repeat' first
    | (extract_lets +onlyGivenNames x; first
      | (have hx : State.stored x = State.stored s := (by first | (simp [x, *]; done) | (simp only [x]; (repeat' split) <;> simp [*]; done)); clear_value x)
      | (have hx : ∀ t : State, State.stored (x t) = State.stored t := (by intro t; first | (simp [x, *]; done) | (simp only [x]; (repeat' split) <;> simp [*]; done)); clear_value x)
      | (have hx := fun a => x a; clear hx)
      | clear_value x)
    | (simp [*]; done)
    | (split <;> try (rename_i heq; first
       | (have hk := congrArg (fun p => State.stored (Prod.snd p)) heq.symm; simp at hk)
       | (have hk := congrArg (fun p => State.stored (Prod.snd (Prod.snd p))) heq.symm; simp at hk)
       | (have hk := congrArg (fun p => State.stored (Prod.fst p)) heq.symm; simp at hk)))
    | (simp +zetaDelta [*]; done)

@[simp] theorem State.tlogFault_stored (s : State) (i : Nat) : (@State.tlogFault s i).stored = s.stored := by
  unfold State.tlogFault
  simp

@[simp] theorem State.copyTlog_stored (s : State) : (@State.copyTlog s).stored = s.stored := by
  unfold State.copyTlog
  simp

@[simp] theorem State.readTrip_stored (s : State) : (@State.readTrip s).stored = s.stored := by
  unfold State.readTrip
  simp

@[simp] theorem State.loadTrims_stored (s : State) : (@State.loadTrims s).stored = s.stored := by
  unfold State.loadTrims
  (repeat' split) <;> simp

@[simp] theorem State.bootRecord_stored (s : State) : (@State.bootRecord s).stored = s.stored := by
  unfold State.bootRecord
  simp

@[simp] theorem State.recoveryWindow_stored (s : State) : (@State.recoveryWindow s).stored = s.stored := by
  unfold State.recoveryWindow
  simp

@[simp] theorem execFwReadySet_stored (s : State) : (resultOf (execFwReadySet s) s).stored = s.stored := by
  unfold execFwReadySet
  simp

@[simp] theorem State.fwEnd_stored (s : State) (st : Nat) : (@State.fwEnd s st).stored = s.stored := by
  unfold State.fwEnd
  simp

end Sys2Proof.Machine
end

