-- ==== Sys2Proof/Laws/StoredCam.lean ====
section
/-! SUPPORT. What the operations of Machine/Cam.lean keep of the memories: DRAM, the SRAM, the flash, the correction banks and the frame store. -/

namespace Sys2Proof.Machine

@[simp] theorem State.setCamCtx_stored (s : State) (c : Nat) (x : CamCtx) : (@State.setCamCtx s c x).stored = s.stored := by
  unfold State.setCamCtx
  simp

@[simp] theorem State.camShow_stored (s : State) : (@State.camShow s).stored = s.stored := by
  unfold State.camShow
  simp

@[simp] theorem State.camLoad_stored (s : State) (c : Nat) : (@State.camLoad s c).stored = s.stored := by
  unfold State.camLoad
  simp

@[simp] theorem State.camApply_stored (s : State) (c : Nat) : (@State.camApply s c).stored = s.stored := by
  unfold State.camApply
  simp

@[simp] theorem execCtxApply_stored (v : Word) (s : State) : (resultOf (execCtxApply v s) s).stored = s.stored := by
  unfold execCtxApply
  simp

@[simp] theorem State.camComplete_stored (s : State) (f : CamFrame) (words : List Word) (tick : Nat) (phase : Nat) : (@State.camComplete s f words tick phase).stored = s.stored := by
  unfold State.camComplete
  repeat' first
    | (extract_lets +onlyGivenNames x; first
      | (have hx : State.stored x = State.stored s := (by first | (simp [x, *]; done) | (simp only [x]; (repeat' split) <;> simp [*]; done)); clear_value x)
      | (have hx : ∀ t : State, State.stored (x t) = State.stored t := (by intro t; first | (simp [x, *]; done) | (simp only [x]; (repeat' split) <;> simp [*]; done)); clear_value x)
      | (have hx := fun a => x a; clear hx)
      | clear_value x)
    | (simp [*]; done)
    | (split <;> try (rename_i heq; first
       | (have hk := congrArg (fun p => State.stored (Prod.snd p)) heq.symm; simp at hk)
       | (have hk := congrArg (fun p => State.stored (Prod.snd (Prod.snd p))) heq.symm; simp at hk)
       | (have hk := congrArg (fun p => State.stored (Prod.fst p)) heq.symm; simp at hk)))
    | (simp +zetaDelta [*]; done)

@[simp] theorem State.camEdge_stored (s : State) : (@State.camEdge s).stored = s.stored := by
  unfold State.camEdge
  simp

@[simp] theorem State.camDrop_stored (s : State) (f : CamFrame) (code : Nat) (flag : Fref) (once : Bool) (phase : Nat) : (@State.camDrop s f code flag once phase).stored = s.stored := by
  unfold State.camDrop
  simp

@[simp] theorem State.dropOpen_stored (s : State) (c : Nat) (code : Nat) (flag : Fref) (phase : Nat) : (@State.dropOpen s c code flag phase).stored = s.stored := by
  unfold State.dropOpen
  (repeat' split) <;> simp

@[simp] theorem State.dropMalformed_stored (s : State) (c : Nat) (phase : Nat) : (@State.dropMalformed s c phase).stored = s.stored := by
  unfold State.dropMalformed
  (repeat' split) <;> simp

@[simp] theorem State.dropOverflow_stored (s : State) (c : Nat) (phase : Nat) : (@State.dropOverflow s c phase).stored = s.stored := by
  unfold State.dropOverflow
  (repeat' split) <;> simp

@[simp] theorem State.unsupported_stored (s : State) (port : Nat) : (@State.unsupported s port).stored = s.stored := by
  unfold State.unsupported
  simp

@[simp] theorem State.eccCorr_stored (s : State) (port : Nat) (corr : Bool) : (@State.eccCorr s port corr).stored = s.stored := by
  unfold State.eccCorr
  simp

@[simp] theorem State.camSync_stored (s : State) (n : Nat) : (@State.camSync s n).stored = s.stored := by
  unfold State.camSync
  simp

@[simp] theorem State.camUlps_stored (s : State) (n : Nat) (enter : Bool) : (@State.camUlps s n enter).stored = s.stored := by
  unfold State.camUlps
  simp

@[simp] theorem State.camPortOff_stored (s : State) (n : Nat) : (@State.camPortOff s n).stored = s.stored := by
  unfold State.camPortOff
  simp

@[simp] theorem State.crcErr_stored (s : State) (port : Nat) (c : Nat) : (@State.crcErr s port c).stored = s.stored := by
  unfold State.crcErr
  simp

@[simp] theorem State.trigLost_stored (s : State) (c : Nat) : (@State.trigLost s c).stored = s.stored := by
  unfold State.trigLost
  simp

@[simp] theorem State.trigDiscard_stored (s : State) (c : Nat) : (@State.trigDiscard s c).stored = s.stored := by
  unfold State.trigDiscard
  simp

@[simp] theorem State.openFrame_stored (s : State) (c : Nat) (w : Nat) (fits : Bool) (phase : Nat) : (@State.openFrame s c w fits phase).stored = s.stored := by
  unfold State.openFrame
  simp

@[simp] theorem State.abandonOpen_stored (s : State) (c : Nat) (phase : Nat) : (@State.abandonOpen s c phase).stored = s.stored := by
  unfold State.abandonOpen
  simp

@[simp] theorem execCsiFrameStart_stored (port : Fin 4) (vc : Fin 16) (w : BitVec 16) (corr : Bool) (phase : Nat) (s : State) : (resultOf (execCsiFrameStart port vc w corr phase s) s).stored = s.stored := by
  unfold execCsiFrameStart
  simp

@[simp] theorem State.frameLine_stored (s : State) (c : Nat) (port : Nat) (px : List Nat) (crcOk : Bool) (phase : Nat) : (@State.frameLine s c port px crcOk phase).stored = s.stored := by
  unfold State.frameLine
  (repeat' split) <;> simp

@[simp] theorem execCsiLine_stored (port : Fin 4) (vc : Fin 16) (dt : BitVec 6) (px : List Nat) (corr : Bool) (crcOk : Bool) (phase : Nat) (s : State) : (resultOf (execCsiLine port vc dt px corr crcOk phase s) s).stored = s.stored := by
  unfold execCsiLine
  repeat' first
    | (extract_lets +onlyGivenNames x; first
      | (have hx : State.stored x = State.stored s := (by first | (simp [x, *]; done) | (simp only [x]; (repeat' split) <;> simp [*]; done)); clear_value x)
      | (have hx : ∀ t : State, State.stored (x t) = State.stored t := (by intro t; first | (simp [x, *]; done) | (simp only [x]; (repeat' split) <;> simp [*]; done)); clear_value x)
      | (have hx := fun a => x a; clear hx)
      | clear_value x)
    | (simp [*]; done)
    | (split <;> try (rename_i heq; first
       | (have hk := congrArg (fun p => State.stored (Prod.snd p)) heq.symm; simp at hk)
       | (have hk := congrArg (fun p => State.stored (Prod.snd (Prod.snd p))) heq.symm; simp at hk)
       | (have hk := congrArg (fun p => State.stored (Prod.fst p)) heq.symm; simp at hk)))
    | (simp +zetaDelta [*]; done)

@[simp] theorem State.closeFrame_stored (s : State) (c : Nat) (stamp : Nat) (phase : Nat) : (@State.closeFrame s c stamp phase).stored = s.stored := by
  unfold State.closeFrame
  repeat' first
    | (extract_lets +onlyGivenNames x; first
      | (have hx : State.stored x = State.stored s := (by first | (simp [x, *]; done) | (simp only [x]; (repeat' split) <;> simp [*]; done)); clear_value x)
      | (have hx : ∀ t : State, State.stored (x t) = State.stored t := (by intro t; first | (simp [x, *]; done) | (simp only [x]; (repeat' split) <;> simp [*]; done)); clear_value x)
      | (have hx := fun a => x a; clear hx)
      | clear_value x)
    | (simp [*]; done)
    | (split <;> try (rename_i heq; first
       | (have hk := congrArg (fun p => State.stored (Prod.snd p)) heq.symm; simp at hk)
       | (have hk := congrArg (fun p => State.stored (Prod.snd (Prod.snd p))) heq.symm; simp at hk)
       | (have hk := congrArg (fun p => State.stored (Prod.fst p)) heq.symm; simp at hk)))
    | (simp +zetaDelta [*]; done)

@[simp] theorem execCsiFrameEnd_stored (port : Fin 4) (vc : Fin 16) (corr : Bool) (same : Bool) (phase : Nat) (s : State) : (resultOf (execCsiFrameEnd port vc corr same phase s) s).stored = s.stored := by
  unfold execCsiFrameEnd
  simp

@[simp] theorem State.embedded_stored (s : State) (c : Nat) (port : Nat) (bs : List Byte) (crcOk : Bool) (phase : Nat) : (@State.embedded s c port bs crcOk phase).stored = s.stored := by
  unfold State.embedded
  repeat' first
    | (extract_lets +onlyGivenNames x; first
      | (have hx : State.stored x = State.stored s := (by first | (simp [x, *]; done) | (simp only [x]; (repeat' split) <;> simp [*]; done)); clear_value x)
      | (have hx : ∀ t : State, State.stored (x t) = State.stored t := (by intro t; first | (simp [x, *]; done) | (simp only [x]; (repeat' split) <;> simp [*]; done)); clear_value x)
      | (have hx := fun a => x a; clear hx)
      | clear_value x)
    | (simp [*]; done)
    | (split <;> try (rename_i heq; first
       | (have hk := congrArg (fun p => State.stored (Prod.snd p)) heq.symm; simp at hk)
       | (have hk := congrArg (fun p => State.stored (Prod.snd (Prod.snd p))) heq.symm; simp at hk)
       | (have hk := congrArg (fun p => State.stored (Prod.fst p)) heq.symm; simp at hk)))
    | (simp +zetaDelta [*]; done)

@[simp] theorem State.otherPacket_stored (s : State) (n : Nat) (vc : Nat) (dt : Nat) (bs : List Byte) (crcOk : Bool) (phase : Nat) : (@State.otherPacket s n vc dt bs crcOk phase).stored = s.stored := by
  unfold State.otherPacket
  simp

@[simp] theorem execCsiOtherPacket_stored (port : Fin 4) (vc : Fin 16) (dt : BitVec 6) (bs : List Byte) (form : CsiForm) (crcOk : Bool) (phase : Nat) (s : State) : (resultOf (execCsiOtherPacket port vc dt bs form crcOk phase s) s).stored = s.stored := by
  unfold execCsiOtherPacket
  (repeat' split) <;> simp

@[simp] theorem execCsiLaneSyncError_stored (port : Fin 4) (lanes : BitVec 4) (s : State) : (resultOf (execCsiLaneSyncError port lanes s) s).stored = s.stored := by
  unfold execCsiLaneSyncError
  simp

@[simp] theorem execFrameOpenTimeout_stored (c : Fin 32) (phase : Nat) (s : State) : (resultOf (execFrameOpenTimeout c phase s) s).stored = s.stored := by
  unfold execFrameOpenTimeout
  simp

@[simp] theorem State.admitLine_stored (s : State) (c : Nat) (ue : Bool) (phase : Nat) : (@State.admitLine s c ue phase).stored = s.stored := by
  unfold State.admitLine
  repeat' first
    | (extract_lets +onlyGivenNames x; first
      | (have hx : State.stored x = State.stored s := (by first | (simp [x, *]; done) | (simp only [x]; (repeat' split) <;> simp [*]; done)); clear_value x)
      | (have hx : ∀ t : State, State.stored (x t) = State.stored t := (by intro t; first | (simp [x, *]; done) | (simp only [x]; (repeat' split) <;> simp [*]; done)); clear_value x)
      | (have hx := fun a => x a; clear hx)
      | clear_value x)
    | (simp [*]; done)
    | (split <;> try (rename_i heq; first
       | (have hk := congrArg (fun p => State.stored (Prod.snd p)) heq.symm; simp at hk)
       | (have hk := congrArg (fun p => State.stored (Prod.snd (Prod.snd p))) heq.symm; simp at hk)
       | (have hk := congrArg (fun p => State.stored (Prod.fst p)) heq.symm; simp at hk)))
    | (simp +zetaDelta [*]; done)

@[simp] theorem execFrameAdmit_stored (ue : Bool) (phase : Nat) (s : State) : (resultOf (execFrameAdmit ue phase s) s).stored = s.stored := by
  unfold execFrameAdmit
  (repeat' split) <;> simp

@[simp] theorem State.dlogLose_stored (s : State) (c : Nat) : (@State.dlogLose s c).stored = s.stored := by
  unfold State.dlogLose
  simp

@[simp] theorem State.camLog_stored (s : State) (f : CamFrame) (desc : List Word) : (@State.camLog s f desc).stored = s.stored := by
  unfold State.camLog
  simp

@[simp] theorem State.dlogLoseAll_stored (s : State) : (@State.dlogLoseAll s).stored = s.stored := by
  unfold State.dlogLoseAll
  simp

@[simp] theorem State.camLogEn_stored (s : State) (en : Bool) : (@State.camLogEn s en).stored = s.stored := by
  unfold State.camLogEn
  simp

@[simp] theorem State.camShowDef_stored (s : State) : (@State.camShowDef s).stored = s.stored := by
  unfold State.camShowDef
  simp

@[simp] theorem execDefDataAccess_stored (v : Option Word) (s : State) : (resultOf (execDefDataAccess v s) s).stored = s.stored := by
  unfold execDefDataAccess
  (repeat' split) <;> simp

@[simp] theorem State.camTrigger_stored (s : State) (o : Nat) : (@State.camTrigger s o).stored = s.stored := by
  unfold State.camTrigger
  repeat' first
    | (extract_lets +onlyGivenNames x; first
      | (have hx : State.stored x = State.stored s := (by first | (simp [x, *]; done) | (simp only [x]; (repeat' split) <;> simp [*]; done)); clear_value x)
      | (have hx : ∀ t : State, State.stored (x t) = State.stored t := (by intro t; first | (simp [x, *]; done) | (simp only [x]; (repeat' split) <;> simp [*]; done)); clear_value x)
      | (have hx := fun a => x a; clear hx)
      | clear_value x)
    | (simp [*]; done)
    | (split <;> try (rename_i heq; first
       | (have hk := congrArg (fun p => State.stored (Prod.snd p)) heq.symm; simp at hk)
       | (have hk := congrArg (fun p => State.stored (Prod.snd (Prod.snd p))) heq.symm; simp at hk)
       | (have hk := congrArg (fun p => State.stored (Prod.fst p)) heq.symm; simp at hk)))
    | (simp +zetaDelta [*]; done)

@[simp] theorem execTriggerPulseEnd_stored (o : Fin 17) (s : State) : (resultOf (execTriggerPulseEnd o s) s).stored = s.stored := by
  unfold execTriggerPulseEnd
  simp

@[simp] theorem execExposureArm_stored (c : Fin 32) (phase : Nat) (s : State) : (resultOf (execExposureArm c phase s) s).stored = s.stored := by
  unfold execExposureArm
  simp

@[simp] theorem State.cciStart_stored (s : State) (n : Nat) : (@State.cciStart s n).stored = s.stored := by
  unfold State.cciStart
  (repeat' split) <;> simp

@[simp] theorem State.camCommit_stored (s : State) (arms : Nat) : (@State.camCommit s arms).stored = s.stored := by
  unfold State.camCommit
  simp

@[simp] theorem execCciWriteDone_stored (port : Fin 4) (ok : Bool) (s : State) : (resultOf (execCciWriteDone port ok s) s).stored = s.stored := by
  unfold execCciWriteDone
  repeat' first
    | (extract_lets +onlyGivenNames x; first
      | (have hx : State.stored x = State.stored s := (by first | (simp [x, *]; done) | (simp only [x]; (repeat' split) <;> simp [*]; done)); clear_value x)
      | (have hx : ∀ t : State, State.stored (x t) = State.stored t := (by intro t; first | (simp [x, *]; done) | (simp only [x]; (repeat' split) <;> simp [*]; done)); clear_value x)
      | (have hx := fun a => x a; clear hx)
      | clear_value x)
    | (simp [*]; done)
    | (split <;> try (rename_i heq; first
       | (have hk := congrArg (fun p => State.stored (Prod.snd p)) heq.symm; simp at hk)
       | (have hk := congrArg (fun p => State.stored (Prod.snd (Prod.snd p))) heq.symm; simp at hk)
       | (have hk := congrArg (fun p => State.stored (Prod.fst p)) heq.symm; simp at hk)))
    | (simp +zetaDelta [*]; done)

@[simp] theorem execCamPortSet_stored (s : State) : (resultOf (execCamPortSet s) s).stored = s.stored := by
  unfold execCamPortSet
  refine runCmd_stored _ _ _ (fun q s => ?_)
  (repeat' split) <;> simp

@[simp] theorem execCamContextSet_stored (s : State) : (resultOf (execCamContextSet s) s).stored = s.stored := by
  unfold execCamContextSet
  refine runCmd_stored _ _ _ (fun q s => ?_)
  (repeat' split) <;> simp

@[simp] theorem execCamExposureSet_stored (s : State) : (resultOf (execCamExposureSet s) s).stored = s.stored := by
  unfold execCamExposureSet
  refine runCmd_stored _ _ _ (fun q s => ?_)
  repeat' first
    | (extract_lets +onlyGivenNames x; first
      | (have hx : State.stored x = State.stored s := (by first | (simp [x, *]; done) | (simp only [x]; (repeat' split) <;> simp [*]; done)); clear_value x)
      | (have hx : ∀ t : State, State.stored (x t) = State.stored t := (by intro t; first | (simp [x, *]; done) | (simp only [x]; (repeat' split) <;> simp [*]; done)); clear_value x)
      | (have hx := fun a => x a; clear hx)
      | clear_value x)
    | (simp [*]; done)
    | (split <;> try (rename_i heq; first
       | (have hk := congrArg (fun p => State.stored (Prod.snd p)) heq.symm; simp at hk)
       | (have hk := congrArg (fun p => State.stored (Prod.snd (Prod.snd p))) heq.symm; simp at hk)
       | (have hk := congrArg (fun p => State.stored (Prod.fst p)) heq.symm; simp at hk)))
    | (simp +zetaDelta [*]; done)

@[simp] theorem execCamStatsRead_stored (s : State) : (resultOf (execCamStatsRead s) s).stored = s.stored := by
  unfold execCamStatsRead
  refine runCmd_stored _ _ _ (fun q s => ?_)
  (repeat' split) <;> simp

end Sys2Proof.Machine
end

