-- ==== Sys2Proof/Laws/StoredTrigger.lean ====
section
/-! SUPPORT. What the operations of Machine/Trigger.lean keep of the memories: DRAM, the SRAM, the flash, the correction banks and the frame store. -/

namespace Sys2Proof.Machine

@[simp] theorem State.putTarget_stored (s : State) (k : Nat) (v : Nat) : (@State.putTarget s k v).stored = s.stored := by
  unfold State.putTarget
  simp

@[simp] theorem State.ttAction_stored (s : State) (k : Nat) (phase : Nat) (aux : List Nat) : (@State.ttAction s k phase aux).stored = s.stored := by
  unfold State.ttAction
  (repeat' split) <;> simp

@[simp] theorem State.ttFire_stored (s : State) (k : Nat) (phase : Nat) (aux : List Nat) (jumped : Bool) : (@State.ttFire s k phase aux jumped).stored = s.stored := by
  unfold State.ttFire
  simp

@[simp] theorem State.ttUnjump_stored (s : State) : (@State.ttUnjump s).stored = s.stored := by
  unfold State.ttUnjump
  simp

@[simp] theorem execTriggerFire_stored (k : Fin 16) (adv : Nat) (phase : Nat) (aux : List Nat) (s : State) : (resultOf (execTriggerFire k adv phase aux s) s).stored = s.stored := by
  unfold execTriggerFire
  simp

@[simp] theorem State.ttArm_stored (s : State) (k : Nat) : (@State.ttArm s k).stored = s.stored := by
  unfold State.ttArm
  simp

@[simp] theorem State.ttCtrlWrite_stored (s : State) (k : Nat) (v : Word) : (@State.ttCtrlWrite s k v).stored = s.stored := by
  unfold State.ttCtrlWrite
  simp

@[simp] theorem execTriggerArm_stored (k : Fin 16) (v : Word) (adv : Nat) (s : State) : (resultOf (execTriggerArm k v adv s) s).stored = s.stored := by
  unfold execTriggerArm
  simp

@[simp] theorem State.ttRegWrite_stored (s : State) (k : Nat) (a : Nat) (v : Word) : (@State.ttRegWrite s k a v).stored = s.stored := by
  unfold State.ttRegWrite
  simp

@[simp] theorem State.ofsChange_stored (s : State) (new : Nat) (phase : Nat) (aux : List Nat) : (@State.ofsChange s new phase aux).stored = s.stored := by
  unfold State.ofsChange
  simp

@[simp] theorem execOfsHiWrite_stored (v : Word) (adv : Nat) (phase : Nat) (aux : List Nat) (s : State) : (resultOf (execOfsHiWrite v adv phase aux s) s).stored = s.stored := by
  unfold execOfsHiWrite
  simp

@[simp] theorem State.ttEdge_stored (s : State) (aux : List Nat) : (@State.ttEdge s aux).stored = s.stored := by
  unfold State.ttEdge
  simp

@[simp] theorem State.ttTick_stored (s : State) (f : Nat) (phase : Nat) (aux : List Nat) : (@State.ttTick s f phase aux).stored = s.stored := by
  unfold State.ttTick
  simp

end Sys2Proof.Machine
end

