-- ==== Sys2Proof/Laws/StoredNet.lean ====
section
/-! SUPPORT. What the operations of Machine/Net.lean keep of the memories: DRAM, the SRAM, the flash, the correction banks and the frame store. -/

namespace Sys2Proof.Machine

@[simp] theorem State.setPort_stored (s : State) (n : Nat) (p : PortSt) : (@State.setPort s n p).stored = s.stored := by
  unfold State.setPort
  simp

@[simp] theorem State.txtsShow_stored (s : State) (n : Nat) : (@State.txtsShow s n).stored = s.stored := by
  unfold State.txtsShow
  repeat' first
    | (extract_lets +onlyGivenNames x; first
      | (have hx : State.stored x = State.stored s := (by first | (simp [x, *]; done) | (simp only [x]; (repeat' split) <;> simp [*]; done)); clear_value x)
      | (have hx : ∀ t : State, State.stored (x t) = State.stored t := (by intro t; first | (simp [x, *]; done) | (simp only [x]; (repeat' split) <;> simp [*]; done)); clear_value x)
      | (have hx := fun a => x a; clear hx)
      | clear_value x)
    | (simp [*]; done)
    | (split <;> try (rename_i heq; first
       | (have hk := congrArg (fun p => State.stored (Prod.snd p)) heq.symm; simp at hk)
       | (have hk := congrArg (fun p => State.stored (Prod.snd (Prod.snd p))) heq.symm; simp at hk)
       | (have hk := congrArg (fun p => State.stored (Prod.fst p)) heq.symm; simp at hk)))
    | (simp +zetaDelta [*]; done)

@[simp] theorem State.txtsPush_stored (s : State) (n : Nat) (e : TxTs) : (@State.txtsPush s n e).stored = s.stored := by
  unfold State.txtsPush
  simp

@[simp] theorem execTxKick_stored (n : Fin 2) (v : Word) (s : State) : (resultOf (execTxKick n v s) s).stored = s.stored := by
  unfold execTxKick
  simp

@[simp] theorem execTxtsPop_stored (n : Fin 2) (v : Word) (s : State) : (resultOf (execTxtsPop n v s) s).stored = s.stored := by
  unfold execTxtsPop
  (repeat' split) <;> simp

@[simp] theorem execMdioFrame_stored (v : Word) (s : State) : (resultOf (execMdioFrame v s) s).stored = s.stored := by
  unfold execMdioFrame
  simp

@[simp] theorem execMdioDone_stored (data : BitVec 16) (answered : Bool) (s : State) : (resultOf (execMdioDone data answered s) s).stored = s.stored := by
  unfold execMdioDone
  simp

@[simp] theorem execEthLinkChange_stored (n : Fin 2) (up : Bool) (s : State) : (resultOf (execEthLinkChange n up s) s).stored = s.stored := by
  unfold execEthLinkChange
  simp

@[simp] theorem State.ptpSelect_stored (s : State) (n : Nat) (ds : List Nat) (qualify : Bool) : (@State.ptpSelect s n ds qualify).stored = s.stored := by
  unfold State.ptpSelect
  simp

@[simp] theorem execPtpAnnounce_stored (n : Fin 2) (ds : List Nat) (s : State) : (resultOf (execPtpAnnounce n ds s) s).stored = s.stored := by
  unfold execPtpAnnounce
  (repeat' split) <;> simp

@[simp] theorem execPtpAnnounceTimeout_stored (s : State) : (resultOf (execPtpAnnounceTimeout s) s).stored = s.stored := by
  unfold execPtpAnnounceTimeout
  simp

@[simp] theorem State.servoInc_stored (s : State) : (@State.servoInc s).stored = s.stored := by
  unfold State.servoInc
  simp

@[simp] theorem State.ptpQualified_stored (s : State) (offs : List Int) (phase : Nat) (aux : List Nat) : (@State.ptpQualified s offs phase aux).stored = s.stored := by
  unfold State.ptpQualified
  simp

@[simp] theorem execPtpSyncExchange_stored (t1 : Nat) (t2 : Nat) (t3 : Nat) (t4 : Nat) (phase : Nat) (aux : List Nat) (s : State) : (resultOf (execPtpSyncExchange t1 t2 t3 t4 phase aux s) s).stored = s.stored := by
  unfold execPtpSyncExchange
  simp

@[simp] theorem execTimeRead_stored (s : State) : (resultOf (execTimeRead s) s).stored = s.stored := by
  unfold execTimeRead
  simp

@[simp] theorem execTimeIncSet_stored (s : State) : (resultOf (execTimeIncSet s) s).stored = s.stored := by
  unfold execTimeIncSet
  refine runCmd_stored _ _ _ (fun q s => ?_)
  (repeat' split) <;> simp

@[simp] theorem execTimeOfsSet_stored (aux : List Nat) (s : State) : (resultOf (execTimeOfsSet aux s) s).stored = s.stored := by
  unfold execTimeOfsSet
  refine runCmd_stored _ _ _ (fun q s => ?_)
  split
  · rfl
  · split
    · rfl
    · have e := State.set1_stored s KEY_TIME_CTRL_JUMP_ARM 0 0
      unfold State.stored at e
      simp only [Prod.mk.injEq] at e
      by_cases h : q.w 2 = 1 <;> simp [h, e]

@[simp] theorem execTimeDiscSet_stored (s : State) : (resultOf (execTimeDiscSet s) s).stored = s.stored := by
  unfold execTimeDiscSet
  refine runCmd_stored _ _ _ (fun q s => ?_)
  repeat' first
    | (extract_lets +onlyGivenNames x; first
      | (have hx : State.stored x = State.stored s := (by first | (simp [x, *]; done) | (simp only [x]; (repeat' split) <;> simp [*]; done)); clear_value x)
      | (have hx : ∀ t : State, State.stored (x t) = State.stored t := (by intro t; first | (simp [x, *]; done) | (simp only [x]; (repeat' split) <;> simp [*]; done)); clear_value x)
      | (have hx := fun a => x a; clear hx)
      | clear_value x)
    | (simp [*]; done)
    | (split <;> try (rename_i heq; first
       | (have hk := congrArg (fun p => State.stored (Prod.snd p)) heq.symm; simp at hk)
       | (have hk := congrArg (fun p => State.stored (Prod.snd (Prod.snd p))) heq.symm; simp at hk)
       | (have hk := congrArg (fun p => State.stored (Prod.fst p)) heq.symm; simp at hk)))
    | (simp +zetaDelta [*]; done)

@[simp] theorem execTimeTriggerSet_stored (s : State) : (resultOf (execTimeTriggerSet s) s).stored = s.stored := by
  unfold execTimeTriggerSet
  refine runCmd_stored _ _ _ (fun q s => ?_)
  repeat' first
    | (extract_lets +onlyGivenNames x; first
      | (have hx : State.stored x = State.stored s := (by first | (simp [x, *]; done) | (simp only [x]; (repeat' split) <;> simp [*]; done)); clear_value x)
      | (have hx : ∀ t : State, State.stored (x t) = State.stored t := (by intro t; first | (simp [x, *]; done) | (simp only [x]; (repeat' split) <;> simp [*]; done)); clear_value x)
      | (have hx := fun a => x a; clear hx)
      | clear_value x)
    | (simp [*]; done)
    | (split <;> try (rename_i heq; first
       | (have hk := congrArg (fun p => State.stored (Prod.snd p)) heq.symm; simp at hk)
       | (have hk := congrArg (fun p => State.stored (Prod.snd (Prod.snd p))) heq.symm; simp at hk)
       | (have hk := congrArg (fun p => State.stored (Prod.fst p)) heq.symm; simp at hk)))
    | (simp +zetaDelta [*]; done)

end Sys2Proof.Machine
end

