-- ==== Sys2Proof/Laws/StoredSys.lean ====
section
/-! SUPPORT. What the operations of Machine/Sys.lean keep of the memories: DRAM, the SRAM, the flash, the correction banks and the frame store. -/

namespace Sys2Proof.Machine

@[simp] theorem execSysNop_stored (s : State) : (resultOf (execSysNop s) s).stored = s.stored := by
  unfold execSysNop
  simp

@[simp] theorem execSysInfo_stored (s : State) : (resultOf (execSysInfo s) s).stored = s.stored := by
  unfold execSysInfo
  simp

@[simp] theorem execSysMode_stored (s : State) : (resultOf (execSysMode s) s).stored = s.stored := by
  unfold execSysMode
  simp

@[simp] theorem execSysResume_stored (s : State) : (resultOf (execSysResume s) s).stored = s.stored := by
  unfold execSysResume
  refine runCmd_stored _ _ _ (fun q s => ?_)
  (repeat' split) <;> simp

@[simp] theorem State.unstage_stored (s : State) (g : Nat) : (@State.unstage s g).stored = s.stored := by
  unfold State.unstage
  simp

@[simp] theorem execSysCommit_stored (s : State) : (resultOf (execSysCommit s) s).stored = s.stored := by
  unfold execSysCommit
  refine runCmd_stored _ _ _ (fun q s => ?_)
  (repeat' split) <;> simp

@[simp] theorem execSysDiscard_stored (s : State) : (resultOf (execSysDiscard s) s).stored = s.stored := by
  unfold execSysDiscard
  simp

@[simp] theorem execSysReset_stored (s : State) : (resultOf (execSysReset s) s).stored = s.stored := by
  unfold execSysReset
  simp

@[simp] theorem execSysActionStatus_stored (s : State) : (resultOf (execSysActionStatus s) s).stored = s.stored := by
  unfold execSysActionStatus
  simp

@[simp] theorem State.stopAction_stored (s : State) (a : Action) : (@State.stopAction s a).stored = s.stored := by
  unfold State.stopAction
  simp

@[simp] theorem execSysActionStop_stored (s : State) : (resultOf (execSysActionStop s) s).stored = s.stored := by
  unfold execSysActionStop
  refine runCmd_stored _ _ _ (fun q s => ?_)
  (repeat' split) <;> simp

@[simp] theorem State.openWindow_stored (s : State) (a : Nat) (n : Nat) (use : Nat) (w : Bool) : (@State.openWindow s a n use w).2.stored = s.stored := by
  unfold State.openWindow
  (repeat' split) <;> simp

@[simp] theorem execSysWindowOpen_stored (s : State) : (resultOf (execSysWindowOpen s) s).stored = s.stored := by
  unfold execSysWindowOpen
  refine runCmd_stored _ _ _ (fun q s => ?_)
  repeat' first
    | (extract_lets +onlyGivenNames x; first
      | (have hx : State.stored x = State.stored s := (by first | (simp [x, *]; done) | (simp only [x]; (repeat' split) <;> simp [*]; done)); clear_value x)
      | (have hx : ∀ t : State, State.stored (x t) = State.stored t := (by intro t; first | (simp [x, *]; done) | (simp only [x]; (repeat' split) <;> simp [*]; done)); clear_value x)
      | (have hx := fun a => x a; clear hx)
      | clear_value x)
    | (simp [*]; done)
    | (split <;> try (rename_i heq; first
       | (have hk := congrArg (fun p => State.stored (Prod.snd p)) heq.symm; simp at hk)
       | (have hk := congrArg (fun p => State.stored (Prod.snd (Prod.snd p))) heq.symm; simp at hk)
       | (have hk := congrArg (fun p => State.stored (Prod.fst p)) heq.symm; simp at hk)))
    | (simp +zetaDelta [*]; done)

@[simp] theorem execSysWindowClose_stored (s : State) : (resultOf (execSysWindowClose s) s).stored = s.stored := by
  unfold execSysWindowClose
  simp

@[simp] theorem execScnRingSet_stored (s : State) : (resultOf (execScnRingSet s) s).stored = s.stored := by
  unfold execScnRingSet
  refine runCmd_stored _ _ _ (fun q s => ?_)
  repeat' first
    | (extract_lets +onlyGivenNames x; first
      | (have hx : State.stored x = State.stored s := (by first | (simp [x, *]; done) | (simp only [x]; (repeat' split) <;> simp [*]; done)); clear_value x)
      | (have hx : ∀ t : State, State.stored (x t) = State.stored t := (by intro t; first | (simp [x, *]; done) | (simp only [x]; (repeat' split) <;> simp [*]; done)); clear_value x)
      | (have hx := fun a => x a; clear hx)
      | clear_value x)
    | (simp [*]; done)
    | (split <;> try (rename_i heq; first
       | (have hk := congrArg (fun p => State.stored (Prod.snd p)) heq.symm; simp at hk)
       | (have hk := congrArg (fun p => State.stored (Prod.snd (Prod.snd p))) heq.symm; simp at hk)
       | (have hk := congrArg (fun p => State.stored (Prod.fst p)) heq.symm; simp at hk)))
    | (simp +zetaDelta [*]; done)

@[simp] theorem execSpanPatchRing_stored (s : State) : (resultOf (execSpanPatchRing s) s).stored = s.stored := by
  unfold execSpanPatchRing
  refine runCmd_stored _ _ _ (fun q s => ?_)
  repeat' first
    | (extract_lets +onlyGivenNames x; first
      | (have hx : State.stored x = State.stored s := (by first | (simp [x, *]; done) | (simp only [x]; (repeat' split) <;> simp [*]; done)); clear_value x)
      | (have hx : ∀ t : State, State.stored (x t) = State.stored t := (by intro t; first | (simp [x, *]; done) | (simp only [x]; (repeat' split) <;> simp [*]; done)); clear_value x)
      | (have hx := fun a => x a; clear hx)
      | clear_value x)
    | (simp [*]; done)
    | (split <;> try (rename_i heq; first
       | (have hk := congrArg (fun p => State.stored (Prod.snd p)) heq.symm; simp at hk)
       | (have hk := congrArg (fun p => State.stored (Prod.snd (Prod.snd p))) heq.symm; simp at hk)
       | (have hk := congrArg (fun p => State.stored (Prod.fst p)) heq.symm; simp at hk)))
    | (simp +zetaDelta [*]; done)

@[simp] theorem State.loadImages_stored (s : State) (i : Nat) (l : List (List Byte)) : (s.loadImages i l).1.stored = s.stored := by
  induction l generalizing s i with
  | nil => rfl
  | cons b t ih =>
    unfold State.loadImages
    simp only []
    split
    · rename_i heq
      have hk := congrArg (fun p => State.stored (Prod.snd (Prod.snd p))) heq.symm
      simp at hk
      rw [ih, hk]
    · rename_i heq
      have hk := congrArg (fun p => State.stored (Prod.snd (Prod.snd p))) heq.symm
      simp at hk
      exact hk

@[simp] theorem State.jobOpenRecord_stored (s : State) (m : Manifest) : (@State.jobOpenRecord s m).stored = s.stored := by
  unfold State.jobOpenRecord
  simp

@[simp] theorem execJobOpen_stored (s : State) : (resultOf (execJobOpen s) s).stored = s.stored := by
  unfold execJobOpen
  refine runCmd_stored _ _ _ (fun q s => ?_)
  repeat' first
    | (extract_lets +onlyGivenNames x; first
      | (have hx : State.stored x = State.stored s := (by first | (simp [x, *]; done) | (simp only [x]; (repeat' split) <;> simp [*]; done)); clear_value x)
      | (have hx : ∀ t : State, State.stored (x t) = State.stored t := (by intro t; first | (simp [x, *]; done) | (simp only [x]; (repeat' split) <;> simp [*]; done)); clear_value x)
      | (have hx := fun a => x a; clear hx)
      | clear_value x)
    | (simp [*]; done)
    | (split <;> try (rename_i heq; first
       | (have hk := congrArg (fun p => State.stored (Prod.snd p)) heq.symm; simp at hk)
       | (have hk := congrArg (fun p => State.stored (Prod.snd (Prod.snd p))) heq.symm; simp at hk)
       | (have hk := congrArg (fun p => State.stored (Prod.fst p)) heq.symm; simp at hk)))
    | (simp +zetaDelta [*]; done)

@[simp] theorem execJobStart_stored (s : State) : (resultOf (execJobStart s) s).stored = s.stored := by
  unfold execJobStart
  simp

@[simp] theorem execJobStatus_stored (s : State) : (resultOf (execJobStatus s) s).stored = s.stored := by
  unfold execJobStatus
  simp

@[simp] theorem State.jobEnd_stored (s : State) : (@State.jobEnd s).stored = s.stored := by
  unfold State.jobEnd
  simp

@[simp] theorem State.jobPoll_stored (s : State) : (@State.jobPoll s).stored = s.stored := by
  unfold State.jobPoll
  simp

@[simp] theorem execJobStop_stored (s : State) : (resultOf (execJobStop s) s).stored = s.stored := by
  unfold execJobStop
  simp

@[simp] theorem State.dropJobImages_stored (s : State) : (@State.dropJobImages s).stored = s.stored := by
  unfold State.dropJobImages
  simp

@[simp] theorem execJobClose_stored (s : State) : (resultOf (execJobClose s) s).stored = s.stored := by
  unfold execJobClose
  simp

end Sys2Proof.Machine
end

