-- ==== Sys2Proof/Laws/StoredCommit.lean ====
section
/-! SUPPORT. What the operations of Machine/Commit.lean keep of the memories: DRAM, the SRAM, the flash, the correction banks and the frame store. -/

namespace Sys2Proof.Machine

@[simp] theorem State.capture_stored (s : State) (groups : Nat) : (@State.capture s groups).stored = s.stored := by
  unfold State.capture
  simp

@[simp] theorem State.keyCommit_stored (s : State) (a1 : State) : (@State.keyCommit s a1).stored = s.stored := by
  unfold State.keyCommit
  simp

@[simp] theorem State.corCommit_stored (s : State) (swaps : Nat) : (@State.corCommit s swaps).stored = s.stored := by
  unfold State.corCommit
  simp

@[simp] theorem State.lsrCommit_stored (s : State) (a1 : State) : (@State.lsrCommit s a1).stored = s.stored := by
  unfold State.lsrCommit
  simp

@[simp] theorem State.commit_stored (s : State) (mask : Nat) : (@State.commit s mask).stored = s.stored := by
  unfold State.commit
  simp

@[simp] theorem State.periodRefuse_stored (s : State) : (@State.periodRefuse s).stored = s.stored := by
  unfold State.periodRefuse
  simp

@[simp] theorem State.keyReply_stored (s : State) (refused : Bool) : (@State.keyReply s refused).stored = s.stored := by
  unfold State.keyReply
  (repeat' split) <;> simp

@[simp] theorem State.phi380_stored (s : State) : (@State.phi380 s).stored = s.stored := by
  unfold State.phi380
  simp

@[simp] theorem State.slotFired_stored (s : State) (k : Nat) : (@State.slotFired s k).stored = s.stored := by
  unfold State.slotFired
  simp

@[simp] theorem State.commitEdge_stored (s : State) : (@State.commitEdge s).stored = s.stored := by
  unfold State.commitEdge
  simp

@[simp] theorem State.schedFire_stored (s : State) (k : Nat) : (@State.schedFire s k).stored = s.stored := by
  unfold State.schedFire
  simp

@[simp] theorem execSchedCommitFire_stored (k : Fin 8) (s : State) : (resultOf (execSchedCommitFire k s) s).stored = s.stored := by
  unfold execSchedCommitFire
  simp

end Sys2Proof.Machine
end

