-- ==== Sys2Proof/Laws/StoredDma.lean ====
section
/-! SUPPORT. What the operations of Machine/Dma.lean keep of the memories: DRAM, the SRAM, the flash, the correction banks and the frame store. -/

namespace Sys2Proof.Machine

@[simp] theorem State.setDmaCh_stored (s : State) (ch : Nat) (c : DmaCh) : (@State.setDmaCh s ch c).stored = s.stored := by
  unfold State.setDmaCh
  simp

@[simp] theorem State.dmaComplete_stored (f ch : Nat) (s : State) : (State.dmaComplete f ch s).stored = s.stored := by
  induction f generalizing s with
  | zero => rfl
  | succ f ih =>
    unfold State.dmaComplete
    split
    · rfl
    · split
      · rfl
      · simp only []
        split <;> cases (s.dmaCh ch).next <;> simp [ih]

@[simp] theorem State.dmaBegin_stored (s : State) (ch : Nat) (x : DmaX) : (@State.dmaBegin s ch x).stored = s.stored := by
  unfold State.dmaBegin
  simp

@[simp] theorem State.dmaStart_stored (s : State) (ch : Nat) : (@State.dmaStart s ch).stored = s.stored := by
  unfold State.dmaStart
  repeat' first
    | (extract_lets +onlyGivenNames x; first
      | (have hx : State.stored x = State.stored s := (by first | (simp [x, *]; done) | (simp only [x]; (repeat' split) <;> simp [*]; done)); clear_value x)
      | (have hx : ∀ t : State, State.stored (x t) = State.stored t := (by intro t; first | (simp [x, *]; done) | (simp only [x]; (repeat' split) <;> simp [*]; done)); clear_value x)
      | (have hx := fun a => x a; clear hx)
      | clear_value x)
    | (simp [*]; done)
    | (split <;> try (rename_i heq; first
       | (have hk := congrArg (fun p => State.stored (Prod.snd p)) heq.symm; simp at hk)
       | (have hk := congrArg (fun p => State.stored (Prod.snd (Prod.snd p))) heq.symm; simp at hk)
       | (have hk := congrArg (fun p => State.stored (Prod.fst p)) heq.symm; simp at hk)))
    | (simp +zetaDelta [*]; done)

@[simp] theorem execDmaStart_stored (ch : Fin 32) (v : Word) (s : State) : (resultOf (execDmaStart ch v s) s).stored = s.stored := by
  unfold execDmaStart
  simp

@[simp] theorem State.dmaStopped_stored (s : State) (ch : Nat) : (@State.dmaStopped s ch).stored = s.stored := by
  unfold State.dmaStopped
  repeat' first
    | (extract_lets +onlyGivenNames x; first
      | (have hx : State.stored x = State.stored s := (by first | (simp [x, *]; done) | (simp only [x]; (repeat' split) <;> simp [*]; done)); clear_value x)
      | (have hx : ∀ t : State, State.stored (x t) = State.stored t := (by intro t; first | (simp [x, *]; done) | (simp only [x]; (repeat' split) <;> simp [*]; done)); clear_value x)
      | (have hx := fun a => x a; clear hx)
      | clear_value x)
    | (simp [*]; done)
    | (split <;> try (rename_i heq; first
       | (have hk := congrArg (fun p => State.stored (Prod.snd p)) heq.symm; simp at hk)
       | (have hk := congrArg (fun p => State.stored (Prod.snd (Prod.snd p))) heq.symm; simp at hk)
       | (have hk := congrArg (fun p => State.stored (Prod.fst p)) heq.symm; simp at hk)))
    | (simp +zetaDelta [*]; done)

@[simp] theorem State.dmaStop_stored (s : State) (ch : Nat) : (@State.dmaStop s ch).stored = s.stored := by
  unfold State.dmaStop
  simp

@[simp] theorem execDmaStop_stored (ch : Fin 32) (s : State) : (resultOf (execDmaStop ch s) s).stored = s.stored := by
  unfold execDmaStop
  simp

@[simp] theorem State.dmaHalt_stored (s : State) (ch : Nat) (err : Nat) (a : Nat) (code : Nat) (late : Bool) : (@State.dmaHalt s ch err a code late).stored = s.stored := by
  unfold State.dmaHalt
  simp

@[simp] theorem execDmaHaltClear_stored (s : State) : (resultOf (execDmaHaltClear s) s).stored = s.stored := by
  unfold execDmaHaltClear
  simp

end Sys2Proof.Machine
end

