-- ==== Sys2Proof/Laws/StoredDsp.lean ====
section
/-! SUPPORT. What the operations of Machine/Dsp.lean keep of the memories: DRAM, the SRAM, the flash, the correction banks and the frame store. -/

namespace Sys2Proof.Machine

@[simp] theorem State.setLayer_stored (s : State) (n : Nat) (l : DspLayer) : (@State.setLayer s n l).stored = s.stored := by
  unfold State.setLayer
  simp

@[simp] theorem State.dspGo_stored (s : State) (mask : Nat) : (@State.dspGo s mask).stored = s.stored := by
  unfold State.dspGo
  simp

@[simp] theorem State.layerTake_stored (s : State) (n : Nat) (ws : List Word) : (@State.layerTake s n ws).stored = s.stored := by
  unfold State.layerTake
  simp

@[simp] theorem State.layerNew_stored (s : State) (n : Nat) (ws : List Word) : (@State.layerNew s n ws).stored = s.stored := by
  unfold State.layerNew
  simp

@[simp] theorem State.fetchFault_stored (s : State) (n : Nat) : (@State.fetchFault s n).stored = s.stored := by
  unfold State.fetchFault
  simp

@[simp] theorem State.fenceCheck_stored (s : State) (n : Nat) : (@State.fenceCheck s n).stored = s.stored := by
  unfold State.fenceCheck
  (repeat' split) <;> simp

@[simp] theorem State.linkTrain_stored (s : State) : (@State.linkTrain s).stored = s.stored := by
  unfold State.linkTrain
  simp

@[simp] theorem State.snapInForce_stored (s : State) : (@State.snapInForce s).stored = s.stored := by
  unfold State.snapInForce
  (repeat' split) <;> simp

@[simp] theorem State.frameStart_stored (s : State) : (@State.frameStart s).stored = s.stored := by
  unfold State.frameStart
  simp

@[simp] theorem State.frameEnd_stored (s : State) : (@State.frameEnd s).stored = s.stored := by
  unfold State.frameEnd
  simp

@[simp] theorem State.frameBegin_stored (s : State) : (@State.frameBegin s).stored = s.stored := by
  unfold State.frameBegin
  simp

@[simp] theorem State.scanStop_stored (s : State) : (@State.scanStop s).stored = s.stored := by
  unfold State.scanStop
  simp

@[simp] theorem State.staticEntry_stored (s : State) (blank : Bool) : (@State.staticEntry s blank).stored = s.stored := by
  unfold State.staticEntry
  simp

@[simp] theorem State.vsyncRun_stored (s : State) : (@State.vsyncRun s).stored = s.stored := by
  unfold State.vsyncRun
  simp

@[simp] theorem State.vsync_stored (s : State) : (@State.vsync s).stored = s.stored := by
  unfold State.vsync
  simp

@[simp] theorem execVsync_stored (s : State) : (resultOf (execVsync s) s).stored = s.stored := by
  unfold execVsync
  simp

@[simp] theorem State.porchGo_stored (s : State) (porch : Bool) : (@State.porchGo s porch).stored = s.stored := by
  unfold State.porchGo
  simp

@[simp] theorem execDspCommitGo_stored (v : Word) (porch : Bool) (s : State) : (resultOf (execDspCommitGo v porch s) s).stored = s.stored := by
  unfold execDspCommitGo
  simp

@[simp] theorem execScanEnable_stored (en : Bool) (s : State) : (resultOf (execScanEnable en s) s).stored = s.stored := by
  unfold execScanEnable
  simp

@[simp] theorem execLinkTrainDone_stored (ok : Bool) (vs : Fin 4) (pe : Fin 4) (s : State) : (resultOf (execLinkTrainDone ok vs pe s) s).stored = s.stored := by
  unfold execLinkTrainDone
  simp

@[simp] theorem execIrqHpd_stored (lost : Bool) (s : State) : (resultOf (execIrqHpd lost s) s).stored = s.stored := by
  unfold execIrqHpd
  simp

@[simp] theorem execHpdLost_stored (s : State) : (resultOf (execHpdLost s) s).stored = s.stored := by
  unfold execHpdLost
  simp

@[simp] theorem execHpdRestored_stored (s : State) : (resultOf (execHpdRestored s) s).stored = s.stored := by
  unfold execHpdRestored
  simp

@[simp] theorem State.fetchRow_stored (s : State) (n : Nat) (l : LayerRec) (j : Nat) : (@State.fetchRow s n l j).stored = s.stored := by
  unfold State.fetchRow
  extract_lets len a
  have h : ∀ (l : List Nat) (f : List (Option Byte) × State → Nat → List (Option Byte) × State)
      (_ : ∀ acc b, (f acc b).2.stored = acc.2.stored) (acc : List (Option Byte) × State), (l.foldl f acc).2.stored = acc.2.stored := by
    intro t f hf acc
    induction t generalizing acc with
    | nil => rfl
    | cons b t ih => rw [List.foldl_cons, ih, hf]
  split
  rename_i heq
  have hk := congrArg (fun p => State.stored (Prod.snd p)) heq.symm
  simp only [] at hk
  rw [h] at hk
  · simp [hk]
  · intro acc b
    split
    · simp
    · simp

@[simp] theorem State.fetchFor_stored (s : State) (n : Nat) (y : Nat) : (@State.fetchFor s n y).stored = s.stored := by
  unfold State.fetchFor
  simp

@[simp] theorem State.composed_stored (s : State) (y : Nat) (ue : Bool) : (@State.composed s y ue).2.stored = s.stored := by
  unfold State.composed
  simp

@[simp] theorem State.wbFail_stored (s : State) : (@State.wbFail s).stored = s.stored := by
  unfold State.wbFail
  simp

@[simp] theorem execAuxTransaction_stored (v : Word) (s : State) : (resultOf (execAuxTransaction v s) s).stored = s.stored := by
  unfold execAuxTransaction
  simp

@[simp] theorem execAuxDone_stored (res : Fin 4) (bs : List Byte) (s : State) : (resultOf (execAuxDone res bs s) s).stored = s.stored := by
  unfold execAuxDone
  simp

@[simp] theorem State.readRect_stored (s : State) (a pitch n h : Nat) : (s.readRect a pitch n h).2.2.stored = s.stored := by
  induction h with
  | zero => rfl
  | succ h ih =>
    unfold State.readRect
    simp [ih]

@[simp] theorem State.accStart_stored (s : State) : (@State.accStart s).stored = s.stored := by
  unfold State.accStart
  simp

@[simp] theorem execAccumStart_stored (v : Word) (s : State) : (resultOf (execAccumStart v s) s).stored = s.stored := by
  unfold execAccumStart
  simp

@[simp] theorem execDispTimingSet_stored (porch : Bool) (s : State) : (resultOf (execDispTimingSet porch s) s).stored = s.stored := by
  unfold execDispTimingSet
  refine runCmd_stored _ _ _ (fun q s => ?_)
  repeat' first
    | (extract_lets +onlyGivenNames x; first
      | (have hx : State.stored x = State.stored s := (by first | (simp [x, *]; done) | (simp only [x]; (repeat' split) <;> simp [*]; done)); clear_value x)
      | (have hx : ∀ t : State, State.stored (x t) = State.stored t := (by intro t; first | (simp [x, *]; done) | (simp only [x]; (repeat' split) <;> simp [*]; done)); clear_value x)
      | (have hx := fun a => x a; clear hx)
      | clear_value x)
    | (simp [*]; done)
    | (split <;> try (rename_i heq; first
       | (have hk := congrArg (fun p => State.stored (Prod.snd p)) heq.symm; simp at hk)
       | (have hk := congrArg (fun p => State.stored (Prod.snd (Prod.snd p))) heq.symm; simp at hk)
       | (have hk := congrArg (fun p => State.stored (Prod.fst p)) heq.symm; simp at hk)))
    | (simp +zetaDelta [*]; done)

@[simp] theorem execDispLayerSet_stored (porch : Bool) (s : State) : (resultOf (execDispLayerSet porch s) s).stored = s.stored := by
  unfold execDispLayerSet
  refine runCmd_stored _ _ _ (fun q s => ?_)
  repeat' first
    | (extract_lets +onlyGivenNames x; first
      | (have hx : State.stored x = State.stored s := (by first | (simp [x, *]; done) | (simp only [x]; (repeat' split) <;> simp [*]; done)); clear_value x)
      | (have hx : ∀ t : State, State.stored (x t) = State.stored t := (by intro t; first | (simp [x, *]; done) | (simp only [x]; (repeat' split) <;> simp [*]; done)); clear_value x)
      | (have hx := fun a => x a; clear hx)
      | clear_value x)
    | (simp [*]; done)
    | (split <;> try (rename_i heq; first
       | (have hk := congrArg (fun p => State.stored (Prod.snd p)) heq.symm; simp at hk)
       | (have hk := congrArg (fun p => State.stored (Prod.snd (Prod.snd p))) heq.symm; simp at hk)
       | (have hk := congrArg (fun p => State.stored (Prod.fst p)) heq.symm; simp at hk)))
    | (simp +zetaDelta [*]; done)

@[simp] theorem execDispWritebackSet_stored (porch : Bool) (s : State) : (resultOf (execDispWritebackSet porch s) s).stored = s.stored := by
  unfold execDispWritebackSet
  refine runCmd_stored _ _ _ (fun q s => ?_)
  repeat' first
    | (extract_lets +onlyGivenNames x; first
      | (have hx : State.stored x = State.stored s := (by first | (simp [x, *]; done) | (simp only [x]; (repeat' split) <;> simp [*]; done)); clear_value x)
      | (have hx : ∀ t : State, State.stored (x t) = State.stored t := (by intro t; first | (simp [x, *]; done) | (simp only [x]; (repeat' split) <;> simp [*]; done)); clear_value x)
      | (have hx := fun a => x a; clear hx)
      | clear_value x)
    | (simp [*]; done)
    | (split <;> try (rename_i heq; first
       | (have hk := congrArg (fun p => State.stored (Prod.snd p)) heq.symm; simp at hk)
       | (have hk := congrArg (fun p => State.stored (Prod.snd (Prod.snd p))) heq.symm; simp at hk)
       | (have hk := congrArg (fun p => State.stored (Prod.fst p)) heq.symm; simp at hk)))
    | (simp +zetaDelta [*]; done)

@[simp] theorem execDispAccumRun_stored (s : State) : (resultOf (execDispAccumRun s) s).stored = s.stored := by
  unfold execDispAccumRun
  refine runCmd_stored _ _ _ (fun q s => ?_)
  (repeat' split) <;> simp

end Sys2Proof.Machine
end

