-- ==== Sys2Proof/Laws/StoredMbx.lean ====
section
/-! SUPPORT. What the operations of Machine/Mbx.lean keep of the memories: DRAM, the SRAM, the flash, the correction banks and the frame store. -/

namespace Sys2Proof.Machine

@[simp] theorem State.haltNagus_stored (s : State) : (@State.haltNagus s).stored = s.stored := by
  unfold State.haltNagus
  simp

@[simp] theorem execLockstepMismatch_stored (s : State) : (resultOf (execLockstepMismatch s) s).stored = s.stored := by
  unfold execLockstepMismatch
  simp

@[simp] theorem execWdogKick_stored (v : BitVec 16) (s : State) : (resultOf (execWdogKick v s) s).stored = s.stored := by
  unfold execWdogKick
  simp

@[simp] theorem execWdogExpire_stored (since : Nat) (s : State) : (resultOf (execWdogExpire since s) s).stored = s.stored := by
  unfold execWdogExpire
  simp

@[simp] theorem State.hwReply_stored (s : State) (m : Nat) (st : Nat) : (@State.hwReply s m st).stored = s.stored := by
  unfold State.hwReply
  simp

@[simp] theorem State.openReply_stored (s : State) (m : Nat) : (@State.openReply s m).stored = s.stored := by
  unfold State.openReply
  simp

@[simp] theorem execDoorbellRing_stored (m : Fin 8) (s : State) : (resultOf (execDoorbellRing m s) s).stored = s.stored := by
  unfold execDoorbellRing
  simp

@[simp] theorem execDoorbellAbort_stored (m : Fin 8) (s : State) : (resultOf (execDoorbellAbort m s) s).stored = s.stored := by
  unfold execDoorbellAbort
  simp

@[simp] theorem execMailboxTake_stored (s : State) : (resultOf (execMailboxTake s) s).stored = s.stored := by
  unfold execMailboxTake
  repeat' first
    | (extract_lets +onlyGivenNames x; first
      | (have hx : State.stored x = State.stored s := (by first | (simp [x, *]; done) | (simp only [x]; (repeat' split) <;> simp [*]; done)); clear_value x)
      | (have hx : ∀ t : State, State.stored (x t) = State.stored t := (by intro t; first | (simp [x, *]; done) | (simp only [x]; (repeat' split) <;> simp [*]; done)); clear_value x)
      | (have hx := fun a => x a; clear hx)
      | clear_value x)
    | (simp [*]; done)
    | (split <;> try (rename_i heq; first
       | (have hk := congrArg (fun p => State.stored (Prod.snd p)) heq.symm; simp at hk)
       | (have hk := congrArg (fun p => State.stored (Prod.snd (Prod.snd p))) heq.symm; simp at hk)
       | (have hk := congrArg (fun p => State.stored (Prod.fst p)) heq.symm; simp at hk)))
    | (simp +zetaDelta [*]; done)

@[simp] theorem execUnknownOpcode_stored (s : State) : (resultOf (execUnknownOpcode s) s).stored = s.stored := by
  unfold execUnknownOpcode
  (repeat' split) <;> simp

@[simp] theorem State.complete_stored (s : State) (m : Nat) : (@State.complete s m).stored = s.stored := by
  unfold State.complete
  simp

@[simp] theorem State.release_stored (s : State) : (@State.release s).stored = s.stored := by
  unfold State.release
  simp

@[simp] theorem execMailboxComplete_stored (m : Fin 8) (s : State) : (resultOf (execMailboxComplete m s) s).stored = s.stored := by
  unfold execMailboxComplete
  simp

@[simp] theorem State.completeWrite_stored (s : State) (m : Nat) : (@State.completeWrite s m).stored = s.stored := by
  unfold State.completeWrite
  simp

@[simp] theorem execEvtRdWrite_stored (v : Word) (s : State) : (resultOf (execEvtRdWrite v s) s).stored = s.stored := by
  unfold execEvtRdWrite
  simp

@[simp] theorem execEventPost_stored (s : State) : (resultOf (execEventPost s) s).stored = s.stored := by
  unfold execEventPost
  (repeat' split) <;> simp

@[simp] theorem execSummaryRefresh_stored (s : State) : (resultOf (execSummaryRefresh s) s).stored = s.stored := by
  unfold execSummaryRefresh
  simp

@[simp] theorem execHostErrClear_stored (s : State) : (resultOf (execHostErrClear s) s).stored = s.stored := by
  unfold execHostErrClear
  simp

@[simp] theorem execViaErrClear_stored (s : State) : (resultOf (execViaErrClear s) s).stored = s.stored := by
  unfold execViaErrClear
  simp

end Sys2Proof.Machine
end

