-- ==== Sys2Proof/Laws/StoredRegWrite.lean ====
section
/-! SUPPORT. What the operations of Machine/RegWrite.lean keep of the memories: DRAM, the SRAM, the flash, the correction banks and the frame store. -/

namespace Sys2Proof.Machine

@[simp] theorem State.pendWrite_stored (s : State) (r : RegDesc) (a : Nat) (v : Word) : (@State.pendWrite s r a v).stored = s.stored := by
  unfold State.pendWrite
  simp

@[simp] theorem State.plainWrite_stored (s : State) (a : Nat) (v : Word) : (@State.plainWrite s a v).stored = s.stored := by
  unfold State.plainWrite
  (repeat' split) <;> simp

@[simp] theorem State.gated_stored (s : State) (ok : Bool) (flag : Fref) (a : Nat) (v : Word) : (@State.gated s ok flag a v).stored = s.stored := by
  unfold State.gated
  simp

@[simp] theorem State.schedCtrlWrite_stored (s : State) (k : Nat) (v : Word) : (@State.schedCtrlWrite s k v).stored = s.stored := by
  unfold State.schedCtrlWrite
  simp

@[simp] theorem State.keyWrite_stored (s : State) (a : Nat) (v : Word) : (@State.keyWrite s a v).stored = s.stored := by
  unfold State.keyWrite
  simp

@[simp] theorem State.mbxWrite_stored (s : State) (a : Nat) (v : Word) : (@State.mbxWrite s a v).stored = s.stored := by
  unfold State.mbxWrite
  simp

@[simp] theorem State.pierEnWrite_stored (s : State) (v : Word) : (@State.pierEnWrite s v).stored = s.stored := by
  unfold State.pierEnWrite
  simp

@[simp] theorem State.scnWrite_stored (s : State) (a : Nat) (v : Word) : (@State.scnWrite s a v).stored = s.stored := by
  unfold State.scnWrite
  (repeat' split) <;> simp

@[simp] theorem State.corWrite_stored (s : State) (a : Nat) (v : Word) : (@State.corWrite s a v).stored = s.stored := by
  unfold State.corWrite
  (repeat' split) <;> simp

@[simp] theorem State.spnWrite_stored (s : State) (a : Nat) (v : Word) : (@State.spnWrite s a v).stored = s.stored := by
  unfold State.spnWrite
  simp

@[simp] theorem State.plkWrite_stored (s : State) (a : Nat) (v : Word) : (@State.plkWrite s a v).stored = s.stored := by
  unfold State.plkWrite
  simp

@[simp] theorem State.lsrWrite_stored (s : State) (a : Nat) (v : Word) : (@State.lsrWrite s a v).stored = s.stored := by
  unfold State.lsrWrite
  simp

@[simp] theorem State.afeWrite_stored (s : State) (a : Nat) (v : Word) : (@State.afeWrite s a v).stored = s.stored := by
  unfold State.afeWrite
  simp

@[simp] theorem State.lopWrite_stored (s : State) (a : Nat) (v : Word) : (@State.lopWrite s a v).stored = s.stored := by
  unfold State.lopWrite
  simp

@[simp] theorem State.camPortWrite_stored (s : State) (n : Nat) (a : Nat) (v : Word) (map : Bool) : (@State.camPortWrite s n a v map).stored = s.stored := by
  unfold State.camPortWrite
  simp

@[simp] theorem State.camWrite__stored (s : State) (a : Nat) (v : Word) : (@State.camWrite_ s a v).stored = s.stored := by
  unfold State.camWrite_
  simp

@[simp] theorem State.axsWrite_stored (s : State) (a : Nat) (v : Word) : (@State.axsWrite s a v).stored = s.stored := by
  unfold State.axsWrite
  (repeat' split) <;> simp

@[simp] theorem State.dmcWrite_stored (s : State) (a : Nat) (v : Word) : (@State.dmcWrite s a v).stored = s.stored := by
  unfold State.dmcWrite
  simp

@[simp] theorem State.dmaWrite_stored (s : State) (a : Nat) (v : Word) : (@State.dmaWrite s a v).stored = s.stored := by
  unfold State.dmaWrite
  simp

@[simp] theorem State.dspWrite_stored (s : State) (a : Nat) (v : Word) : (@State.dspWrite s a v).stored = s.stored := by
  unfold State.dspWrite
  simp

@[simp] theorem State.litWrite_stored (s : State) (a : Nat) (v : Word) : (@State.litWrite s a v).stored = s.stored := by
  unfold State.litWrite
  simp

@[simp] theorem State.thmWrite_stored (s : State) (a : Nat) (v : Word) : (@State.thmWrite s a v).stored = s.stored := by
  unfold State.thmWrite
  simp

@[simp] theorem State.calRegWrite_stored (s : State) (a : Nat) (v : Word) : (@State.calRegWrite s a v).stored = s.stored := by
  unfold State.calRegWrite
  simp

@[simp] theorem State.netWrite_stored (s : State) (a : Nat) (v : Word) : (@State.netWrite s a v).stored = s.stored := by
  unfold State.netWrite
  simp

@[simp] theorem State.vltWrite_stored (s : State) (a : Nat) (v : Word) : (@State.vltWrite s a v).stored = s.stored := by
  unfold State.vltWrite
  simp

@[simp] theorem State.regRead_stored (s : State) (a : Nat) : (@State.regRead s a).stored = s.stored := by
  unfold State.regRead
  simp

@[simp] theorem State.mapErr_stored (s : State) (e : ViaErr) (req : Nat) (a : Nat) (n : Nat) (w : Bool) : (@State.mapErr s e req a n w).2.stored = s.stored := by
  unfold State.mapErr
  simp

@[simp] theorem State.mailWrite_stored (s : State) (o : Nat) (bs : List Byte) : (@State.mailWrite s o bs).stored = s.stored := by
  unfold State.mailWrite
  simp

@[simp] theorem State.bar0Word_stored (s : State) (o : Nat) (v : Word) : (@State.bar0Word s o v).stored = s.stored := by
  unfold State.bar0Word
  simp

@[simp] theorem State.bar0_stored (s : State) (o n : Nat) (w : Option (List Byte)) : (@State.bar0 s o n w).2.stored = s.stored := by
  unfold State.bar0
  (repeat' split) <;> simp

end Sys2Proof.Machine
end

