-- ==== Sys2Proof/Laws/StoredDmaRun.lean ====
section
/-! SUPPORT. What the operations of Machine/DmaRun.lean keep of the memories: DRAM, the SRAM, the flash, the correction banks and the frame store. -/

namespace Sys2Proof.Machine

@[simp] theorem State.dmaDone_stored (s : State) (ch : Nat) (id : Nat) (n : Nat) : (@State.dmaDone s ch id n).stored = s.stored := by
  unfold State.dmaDone
  (repeat' split) <;> simp

@[simp] theorem State.dmaShow_stored (s : State) : (@State.dmaShow s).stored = s.stored := by
  unfold State.dmaShow
  simp

@[simp] theorem State.dmaIssue_stored (s : State) (ch : Nat) (o : DmaAcc) : (@State.dmaIssue s ch o).stored = s.stored := by
  unfold State.dmaIssue
  (repeat' split) <;> simp

@[simp] theorem execDmaBurstIssue_stored (ue : Option (Fin 32)) (s : State) : (resultOf (execDmaBurstIssue ue s) s).stored = s.stored := by
  unfold execDmaBurstIssue
  (repeat' split) <;> simp

@[simp] theorem State.dmaFill_stored (s : State) (o : DmaAcc) (bs : List Byte) : (@State.dmaFill s o bs).stored = s.stored := by
  unfold State.dmaFill
  (repeat' split) <;> simp

@[simp] theorem State.dmaError_stored (s : State) (o : DmaAcc) (r : BusRes) : (@State.dmaError s o r).stored = s.stored := by
  unfold State.dmaError
  simp

@[simp] theorem State.gridRegs_stored (s : State) (ch : Nat) (a : Nat) (b : Nat) (p : Nat) : (@State.gridRegs s ch a b p).stored = s.stored := by
  unfold State.gridRegs
  simp

@[simp] theorem State.burstsRead_stored (f req a n : Nat) (s : State) : (State.burstsRead f req a n s).2.2.stored = s.stored := by
  induction f generalizing a n s with
  | zero => rfl
  | succ f ih =>
    unfold State.burstsRead
    split
    · rfl
    · simp only []
      split <;> rename_i heq <;> have hk := congrArg (fun p => State.stored (Prod.snd (Prod.snd p))) heq.symm <;> simp at hk <;> simp [ih, hk]

@[simp] theorem State.gridMoved_stored (s : State) (ch : Nat) : (@State.gridMoved s ch).stored = s.stored := by
  unfold State.gridMoved
  (repeat' split) <;> simp

@[simp] theorem State.gridDone_stored (s : State) (b : Nat) (p : Nat) : (@State.gridDone s b p).stored = s.stored := by
  unfold State.gridDone
  simp

end Sys2Proof.Machine
end

