-- ==== Sys2Proof/Laws/StoredJtag.lean ====
section
/-! SUPPORT. What the operations of Machine/Jtag.lean keep of the memories: DRAM, the SRAM, the flash, the correction banks and the frame store. -/

namespace Sys2Proof.Machine

@[simp] theorem State.loadJtag_stored (s : State) (j : JtagReg) (cells : List (Ball × Bool)) : (@State.loadJtag s j cells).stored = s.stored := by
  unfold State.loadJtag
  simp

@[simp] theorem State.debugResume_stored (s : State) : (@State.debugResume s).stored = s.stored := by
  unfold State.debugResume
  simp

end Sys2Proof.Machine
end

