-- ==== Sys2Proof/Laws/StoredTick.lean ====
section
/-! SUPPORT. What the operations of Machine/Tick.lean keep of the memories: DRAM, the SRAM, the flash, the correction banks and the frame store. -/

namespace Sys2Proof.Machine

@[simp] theorem State.stitchError_stored (s : State) (id : Nat) : (@State.stitchError s id).stored = s.stored := by
  unfold State.stitchError
  (repeat' split) <;> simp

@[simp] theorem State.linkParity_stored (s : State) (src : Nat) (p : Nat) : (@State.linkParity s src p).stored = s.stored := by
  unfold State.linkParity
  simp

@[simp] theorem State.sramErrors_stored (s : State) (i : TickIn) : (@State.sramErrors s i).stored = s.stored := by
  unfold State.sramErrors
  extract_lets s1 s2 s3 s4 s5
  have h1 : s1.stored = s.stored := by simp only [s1]; split <;> simp
  have h2 : s2.stored = s.stored := by simp only [s2]; split <;> simp [h1]
  have h3 : s3.stored = s.stored := by simp [s3, h2]
  have h4 : s4.stored = s.stored := by simp [s4, h3]
  have h5 : s5.stored = s.stored := by simp [s5, h4]
  clear_value s5
  refine (forN_stored _ _ (fun p t => ?_) _).trans h5
  split
  · split <;> simp
  · rfl

@[simp] theorem State.profError_stored (s : State) (ps : List Nat) : (@State.profError s ps).stored = s.stored := by
  unfold State.profError
  refine forN_stored _ _ (fun p t => ?_) _
  split
  · split <;> simp
  · rfl

@[simp] theorem State.overruns_stored (s : State) (src : Nat) (ps : List Nat) : (@State.overruns s src ps).stored = s.stored := by
  unfold State.overruns
  simp

@[simp] theorem State.frontPart_stored (s : State) (i : TickIn) : (@State.frontPart s i).stored = s.stored := by
  unfold State.frontPart
  simp

@[simp] theorem State.handPart_stored (s : State) (i : TickIn) : (@State.handPart s i).stored = s.stored := by
  unfold State.handPart
  simp

@[simp] theorem State.corCorrected_stored (s : State) (ps : List Nat) : (@State.corCorrected s ps).stored = s.stored := by
  unfold State.corCorrected
  simp

@[simp] theorem State.corPart_stored (s : State) (i : TickIn) (before : Tab PierSt) (own : List Nat) (forced : List Nat) : (@State.corPart s i before own forced).stored = s.stored := by
  unfold State.corPart
  simp

@[simp] theorem State.samplePart_stored (s : State) (i : TickIn) (late : Bool) : (@State.samplePart s i late).stored = s.stored := by
  unfold State.samplePart
  simp

@[simp] theorem State.powerPart_stored (s : State) (p : Nat) (lost : Bool) : (@State.powerPart s p lost).stored = s.stored := by
  unfold State.powerPart
  simp

@[simp] theorem State.gatePart_stored (s : State) (i : TickIn) : (@State.gatePart s i).stored = s.stored := by
  unfold State.gatePart
  simp

@[simp] theorem State.linkPart_stored (s : State) (i : TickIn) (was : Bool) : (@State.linkPart s i was).stored = s.stored := by
  unfold State.linkPart
  simp

@[simp] theorem State.loopPart_stored (s : State) (i : TickIn) (noRun : List Nat) (mids : List Nat) (was : Bool) : (@State.loopPart s i noRun mids was).stored = s.stored := by
  unfold State.loopPart
  simp

@[simp] theorem State.tickWork_stored (s : State) (i : TickIn) : (@State.tickWork s i).stored = s.stored := by
  unfold State.tickWork
  simp

@[simp] theorem State.wireCheck_stored (s : State) : (@State.wireCheck s).stored = s.stored := by
  unfold State.wireCheck
  simp

@[simp] theorem State.discipline_stored (s : State) (next : Option Nat) : (@State.discipline s next).stored = s.stored := by
  unfold State.discipline
  (repeat' split) <;> simp

@[simp] theorem State.lagCut_stored (s : State) (p : Nat) (forced : Bool) : (@State.lagCut s p forced).stored = s.stored := by
  unfold State.lagCut
  simp

@[simp] theorem State.layerSwaps_stored (s : State) : (@State.layerSwaps s).stored = s.stored := by
  unfold State.layerSwaps
  simp

@[simp] theorem State.inForce_stored (s : State) : (@State.inForce s).stored = s.stored := by
  unfold State.inForce
  simp

@[simp] theorem State.countEdge_stored (s : State) (d : Nat) : (s.countEdge d).stored = s.stored := by
  unfold State.countEdge
  (repeat' split) <;> simp

@[simp] theorem State.haltEdge_stored (s : State) (off : Bool) : (@State.haltEdge s off).stored = s.stored := by
  unfold State.haltEdge
  simp

@[simp] theorem State.tickEdge_stored (s : State) (i : TickIn) : (s.tickEdge i).stored = s.stored := by
  unfold State.tickEdge
  simp

@[simp] theorem execTickEdge_stored (i : TickIn) (s : State) : (resultOf (execTickEdge i s) s).stored = s.stored := by
  unfold execTickEdge
  (repeat' split) <;> simp

end Sys2Proof.Machine
end

