-- ==== Sys2Proof/WellFormed.lean ====
section
/-! DEFINITION. Which commands can be sent: every operand lies in the range its source can give. A command that is not
well formed cannot come from the part's balls, ports or links. -/

namespace Sys2Proof

/-- A phase within a tick, in RT cycles: at most 4,000 and the idle cycle of a lengthened tick (R56, R60). -/
def phaseOk (phase : Nat) : Bool := decide (phase ≤ 4000)

/-- A span of time or a count of cycles that a command carries. -/
def timeOk (t : Nat) : Bool := decide (t < 2 ^ 40)

/-- The outputs of the eight auxiliary filters, 24 bits each (R355). -/
def auxOk (aux : List Nat) : Bool := decide (aux.length ≤ 8) && aux.all (fun v => decide (v < 2 ^ 24))

/-- A write carries as many bytes as its length says. -/
def lenOk (n : Nat) (bs : Option (List Byte)) : Bool := match bs with
  | some b => b.length == n
  | none => true

/-- A result of a melt-pool input (R344): one of 32 inputs. -/
def AfeRes.wellFormed (r : AfeRes) : Bool := decide (r.i < 32)

/-- The inputs of a tick: late pairs name a block with a deadline (R61) and a pier; SRAM errors name a slot, pier or
stitch. -/
def TickIn.wellFormed (i : TickIn) : Bool :=
  let pier (p : Nat) : Bool := decide (p < 16)
  timeOk i.dfrc && i.late.all (fun c => [2, 3, 4, 7, 8].contains c.1 && pier c.2) && i.afe.all AfeRes.wellFormed && auxOk i.aux &&
    i.loopUe.all (fun k => decide (k < 24)) && i.fifoUe.all pier && i.profUe.all pier && i.corUe.all pier && i.corCe.all pier &&
    i.stitchUe.all (fun k => decide (k < 1024)) && i.late368.all pier && i.up.all (fun c => pier c.1) &&
    i.linkUe.all (fun c => [5, 6, 13, 17, 18].contains c.1 && pier c.2)

/-- A request at a DRAM port lies in the 40-bit address space. -/
def DReq.wellFormed (d : DReq) : Bool := decide (1 ≤ d.n ∧ d.a + d.n ≤ 2 ^ 40) && lenOk d.n d.bs

/-- The requesters of each DRAM port (R38). -/
def portReqs (port : Nat) (ds : List DReq) : Bool :=
  ds.all (fun d => d.wellFormed && match d.req.toNat with
    | 1 => port == 3
    | 2 => port == 0
    | 3 => port == 0
    | 4 => port == 1
    | 5 => port == 2
    | 0 => port == 5
    | 6 => port == 5
    | 7 => port == 5
    | r => port == 4 && decide (32 ≤ r))

/-- A state of the lanes carries no packet (R409). -/
def CsiForm.wellFormed (f : CsiForm) (vc : Fin 16) (dt : BitVec 6) (bs : List Byte) (crcOk : Bool) : Bool := match f with
  | .packet _ => true
  | _ => vc == 0 && dt == 0 && bs.isEmpty && crcOk

/-- A configuration request addresses a register of the function's 4,096 bytes (R645). -/
def CfgReq.wellFormed (r : CfgReq) : Bool := match r with
  | .read off => decide (off < 4096)
  | .msix _ _ => true
  | .busMaster _ => true
  | .toD0 => true
  | .bar0 _ => true
  | .bar2 _ => true

/-- An access carries as many bytes as its length says, at least one. -/
def Access.wellFormed (x : Access) : Bool := match x with
  | .via _ a n bs => decide (1 ≤ n ∧ a < 2 ^ 40) && lenOk n bs
  | .host off n bs => decide (1 ≤ n ∧ off < 2 ^ 32) && lenOk n bs
  | .vaultFail => true

/-- A JTAG access carries at least one byte. -/
def Jtag.wellFormed (j : Jtag) : Bool := match j with
  | .bypass => true
  | .idcode => true
  | .sample => true
  | .extest _ => true
  | .read a n => decide (1 ≤ n ∧ a < 2 ^ 32)
  | .write a bs => decide (1 ≤ bs.length ∧ a < 2 ^ 32)
  | .trace => true
  | .step => true
  | .resume => true

/-- The command can come from outside: every operand lies in its range. -/
def Instr.wellFormed (i : Instr) : Bool :=
  match i with
  | .tickEdge x => x.wellFormed
  | .discLockGained => true
  | .keyCommitWrite groups phase => decide (groups < 1024) && phaseOk phase
  | .schedArm _ mask phase => decide (mask < 1024) && phaseOk phase
  | .schedDisarm _ mask => decide (mask < 1024)
  | .schedCommitFire _ => true
  | .incFracWrite _ => true
  | .incIntWrite _ adv => timeOk adv
  | .ofsLoWrite _ => true
  | .ofsHiWrite _ adv phase aux => timeOk adv && phaseOk phase && auxOk aux
  | .snapCapture adv => timeOk adv
  | .ovrClear => true
  | .latchingRead a adv => decide (a % 4 = 0 ∧ 0x20000000 ≤ a ∧ a < 0x20160000) && timeOk adv
  | .tickInEdge t16 => decide (t16 < 16 * 2 ^ 64)
  | .tickInFail => true
  | .timePllUnlock => true
  | .rtPllUnlock => true
  | .triggerArm _ _ adv => timeOk adv
  | .triggerFire _ adv phase aux => timeOk adv && phaseOk phase && auxOk aux
  | .lockstepMismatch => true
  | .wdogKick _ => true
  | .wdogExpire since => timeOk since
  | .doorbellRing _ => true
  | .doorbellAbort _ => true
  | .mailboxTake => true
  | .mailboxComplete _ => true
  | .unknownOpcode => true
  | .evtRdWrite _ => true
  | .eventPost => true
  | .summaryRefresh => true
  | .hostErrClear => true
  | .viaErrClear => true
  | .registerWrite x => x.wellFormed
  | .sysNop => true
  | .sysInfo => true
  | .sysMode => true
  | .sysResume => true
  | .sysCommit => true
  | .sysDiscard => true
  | .sysReset => true
  | .commandResetDelay => true
  | .sysActionStatus => true
  | .sysActionStop => true
  | .sysWindowOpen => true
  | .sysWindowClose => true
  | .jobOpen => true
  | .jobStart => true
  | .jobStatus => true
  | .jobStop => true
  | .jobClose => true
  | .longActionFinish _ => true
  | .scnRingSet => true
  | .scnRingStatus => true
  | .scnProfileLoad => true
  | .scnDigest => true
  | .scnLimitsSet => true
  | .scnBarrierSet => true
  | .scnLimitsRead => true
  | .corGridLoad => true
  | .corFieldSet => true
  | .corSwap => true
  | .corStatus => true
  | .corParamSet => true
  | .spanMatrixSet => true
  | .spanGasSet => true
  | .spanPatchRing => true
  | .spanStitchSet => true
  | .spanStatus => true
  | .spanGuardSet => true
  | .lsrGateSet => true
  | .lsrPowerLimit => true
  | .lsrLaserCmd => true
  | .lsrStatus => true
  | .lsrEmaSet => true
  | .loopProgLoad => true
  | .loopPlausSet => true
  | .loopLoopMode => true
  | .loopStatus => true
  | .loopInputSet => true
  | .loopAuxSet => true
  | .camPortSet => true
  | .camContextSet => true
  | .camExposureSet => true
  | .camStatsRead => true
  | .axisConfig => true
  | .axisMove => true
  | .axisHome => true
  | .axisStop => true
  | .axisStatus => true
  | .dispTimingSet _ => true
  | .dispLayerSet _ => true
  | .dispWritebackSet _ => true
  | .dispAccumRun => true
  | .liteChannelSet => true
  | .liteGroupSet => true
  | .liteStatus => true
  | .liteDerateSet => true
  | .liteCurveSet => true
  | .liteStrobeSet => true
  | .liteDriveSet => true
  | .thrmStatus => true
  | .thrmSensorRead => true
  | .calRun => true
  | .calTrimRead => true
  | .calTrimWrite => true
  | .calStore => true
  | .timeRead => true
  | .timeIncSet => true
  | .timeOfsSet aux => auxOk aux
  | .timeDiscSet => true
  | .timeTriggerSet => true
  | .secAttest _ => true
  | .secDebugChallenge => true
  | .secDebugResponse => true
  | .secFwWrite => true
  | .secFwActivate => true
  | .secFwConfirm => true
  | .secProvision => true
  | .secSeal => true
  | .secRetire => true
  | .flueRead => true
  | .flueStatus => true
  | .flueNote => true
  | .ringIndexWrite _ _ => true
  | .fetchIssue _ => true
  | .fetchComplete _ => true
  | .descNop _ => true
  | .descJump _ => true
  | .descMark _ => true
  | .descArc _ => true
  | .descDwell _ => true
  | .descWaitTick _ => true
  | .waitTickExpire _ => true
  | .descBarrier _ => true
  | .barrierTimeout _ _ => true
  | .descStitchOut _ => true
  | .descStitchIn _ => true
  | .descLayerEnd _ => true
  | .descLoadLoop _ => true
  | .descMarker _ => true
  | .descEnd _ => true
  | .layerGoWrite => true
  | .layerStart => true
  | .digestTake _ => true
  | .scnCmdStart _ => true
  | .scnCmdStop _ => true
  | .scnCmdReset _ => true
  | .scnCmdResume _ => true
  | .profDataAccess _ => true
  | .bankReadyMark _ => true
  | .bankSwapRequest _ _ _ => true
  | .bankSwapCancel _ => true
  | .gridSlotWrite req off bs => decide (req < 64) && decide (off < 2 ^ 28) && decide (1 ≤ bs.length ∧ bs.length ≤ 64)
  | .gridCrcStart _ _ => true
  | .gridCrcDone => true
  | .bankInitDone => true
  | .stitchSoloRelease _ => true
  | .patchRecordWrite => true
  | .patchIrqTimeout => true
  | .patchEnWrite => true
  | .uplinkFrame _ _ gs => decide (gs.length = 14)
  | .ulDeadlineCheck _ => true
  | .legacyUplinkFrame _ _ gs => decide (gs.length = 5)
  | .legacyExchangeCheck _ => true
  | .symbolLockLost _ _ => true
  | .trainStart _ _ => true
  | .trainAdvance _ _ _ => true
  | .plkModeWrite _ _ => true
  | .statusInputAccept _ _ phase => phaseOk phase
  | .permitPadRemoval => true
  | .permitDiscrepancy => true
  | .discrepClear => true
  | .emaMissing _ on100ns => decide (on100ns < 65536)
  | .uncmdEmission _ off100ns => decide (off100ns < 65536)
  | .testFire _ _ => true
  | .testPulseEnd _ => true
  | .inputOpenDeclare _ => true
  | .hearthLinkLost => true
  | .hearthOkRestore => true
  | .vaaLoss => true
  | .offsetMeasStart _ => true
  | .offsetMeasDone => true
  | .auxTimerStart res => auxOk res
  | .ntcConvert _ _ => true
  | .imgDataAccess _ => true
  | .imgMark _ _ => true
  | .imgCheckDone => true
  | .loopRearm mask => decide (mask < 2 ^ 24)
  | .csiFrameStart _ _ _ _ phase => phaseOk phase
  | .csiLine _ _ _ px _ _ phase => px.all (fun v => decide (v < 65536)) && phaseOk phase
  | .csiFrameEnd _ _ _ _ phase => phaseOk phase
  | .csiOtherPacket _ vc dt bs form crcOk phase => decide (bs.length < 65536) && phaseOk phase && form.wellFormed vc dt bs crcOk
  | .frameOpenTimeout _ phase => phaseOk phase
  | .frameAdmit _ phase => phaseOk phase
  | .frameDone _ phase => phaseOk phase
  | .triggerPulseEnd _ => true
  | .ctxApply _ => true
  | .exposureArm _ phase => phaseOk phase
  | .cciWriteDone _ _ => true
  | .bufferHeaderWrite _ => true
  | .dlogRecordWrite => true
  | .defDataAccess _ => true
  | .axisUpdate => true
  | .extStepEdge _ _ cyc => timeOk cyc
  | .quadTransition _ _ cyc => timeOk cyc
  | .indexPulse _ _ => true
  | .ssiReadStart _ => true
  | .ssiFrameDone _ _ _ cyc => timeOk cyc
  | .speedTimeout _ => true
  | .switchTransition _ _ _ => true
  | .switchQualified _ _ _ => true
  | .axsMovePosition _ => true
  | .axsMoveVelocity _ => true
  | .axsStop _ => true
  | .axsHomeSwitch _ => true
  | .axsHomeStall _ => true
  | .axsClear _ => true
  | .accWrite _ _ => true
  | .compareArm _ _ => true
  | .dramTrainStart => true
  | .dramTrainDone _ _ => true
  | .dramRequest p0 p1 p2 p3 p4 p5 e => portReqs 0 p0 && portReqs 1 p1 && portReqs 2 p2 && portReqs 3 p3 && portReqs 4 p4 && portReqs 5 p5 &&
    timeOk e.clk && e.errs.all (fun e => decide (e.1 < 2 ^ 37 ∧ e.2 < 256))
  | .refreshDue _ _ _ => true
  | .rhTableReset => true
  | .evictPeriod => true
  | .caParityAlert _ => true
  | .zqCalibrate => true
  | .dqsTrack _ => true
  | .scrubRead errs => errs.all (fun e => decide (e.1 < 2 ^ 37 ∧ e.2 < 256))
  | .eccClear => true
  | .powerDownEntry _ _ => true
  | .dmaStart _ _ => true
  | .dmaStop _ => true
  | .dmaBurstIssue _ => true
  | .dmaAccessResponse _ => true
  | .dmaHaltClear => true
  | .vsync => true
  | .dspCommitGo _ _ => true
  | .scanEnable _ => true
  | .linkTrainDone _ _ _ => true
  | .irqHpd _ => true
  | .hpdLost => true
  | .hpdRestored => true
  | .composeLine e => decide (e.lead < 65536)
  | .scanoutLine px par _ => decide (px ≤ 1920) && par.all (fun x => decide (x < 1920))
  | .wbHeaderWrite => true
  | .auxTransaction _ => true
  | .auxDone _ bs => decide (bs.length ≤ 16)
  | .accumStart _ => true
  | .accumRunDone => true
  | .switchPeriodStart _ => true
  | .lightTrip _ uv cyc => decide (uv < 4294967296) && timeOk cyc
  | .dimOnStart _ c => timeOk c
  | .dimOnEnd _ => true
  | .strobeStart _ => true
  | .strobeEnd _ => true
  | .litClearWrite _ => true
  | .groupWrite _ _ => true
  | .thermalUpdate ts => decide (ts.length = 12)
  | .shutdownFlashEnd => true
  | .damperRelax => true
  | .sensorClear _ => true
  | .analogTrip => true
  | .gapPieceClose => true
  | .gapWaitTimeout => true
  | .mcStart _ => true
  | .sweepStart _ => true
  | .sweepPulse => true
  | .thresholdStart _ => true
  | .thresholdStep _ => true
  | .ethRxFrame _ bs _ adv => decide (14 ≤ bs.length) && timeOk adv
  | .ethTxFrame _ _ adv => timeOk adv
  | .txKick _ _ => true
  | .txtsPop _ _ => true
  | .mdioFrame _ => true
  | .mdioDone _ _ => true
  | .ethLinkChange _ _ => true
  | .ptpSyncExchange t1 t2 t3 t4 phase aux => decide (t1 < 2 ^ 64) && decide (t2 < 2 ^ 64) && decide (t3 < 2 ^ 64) && decide (t4 < 2 ^ 64) && phaseOk phase && auxOk aux
  | .ptpAnnounce _ ds => ds.all (fun d => decide (d < 2 ^ 64))
  | .ptpAnnounceTimeout => true
  | .bar2Request a n w _ => decide (1 ≤ n ∧ a + n ≤ 2 ^ 40) && lenOk n w
  | .pcieReset => true
  | .functionLevelReset => true
  | .d3hotEntry => true
  | .attStart _ => true
  | .attDone _ => true
  | .tokenCheck _ => true
  | .challengeNew _ => true
  | .challengeExpire => true
  | .jobCheckStart => true
  | .jobCheckDone => true
  | .jobMeasClear => true
  | .lifecycleProgram _ => true
  | .arbRaise _ => true
  | .debugClose => true
  | .modeWrite _ => true
  | .debugHaltRequest => true
  | .jtagInstruction j => j.wellFormed
  | .keyPairReady => true
  | .bootMeasureDone => true
  | .fwReadySet => true
  | .counterRestore => true
  | .tamperSample _ _ _ adv => timeOk adv
  | .vbatLow _ _ adv => timeOk adv
  | .vaultClockFault adv => timeOk adv
  | .vaultTempCheck _ adv => timeOk adv
  | .wakeRequest adv => timeOk adv
  | .rtcAlarm adv => timeOk adv
  | .vbatInsert => true
  | .rtcSet _ => true
  | .sleepRequest _ => true
  | .psuEnDrop => true
  | .vltClearLost => true
  | .vltClearTlog => true
  | .vltClearTrip => true
  | .opsecSecond adv => timeOk adv
  | .supplyRise => true
  | .supplyMonitorTrip _ _ => true
  | .resetPin ns => timeOk ns
  | .porEnd => true
  | .dropFaultEntry => true
  | .flushStart ue => ue.all (fun x => decide (x < 2048))
  | .pageProgramDone _ ue => ue.all (fun x => decide (x < 2048))
  | .blockCompact => true
  | .eraseDone _ => true
  | .pfwAccept => true
  | .pfwRelease => true
  | .bootScanDone => true
  | .fluFlushWrite _ => true
  | .fluSubmitGo _ => true
  | .fluReadStart _ => true
  | .xspiRead => true
  | .xspiErase => true
  | .xspiProgram => true
  | .xspiOpDone _ => true
  | .timePllRelock => true
  | .axisCoarseStep _ cyc => timeOk cyc
  | .axisFineStep _ => true
  | .axisPwmPeriodStart _ _ => true
  | .slowPwmPeriodStart _ => true
  | .lightDmaxReached _ => true
  | .caAlertRelease _ _ => true
  | .caAlertTimeout _ => true
  | .csiLaneSyncError _ _ => true
  | .symbolLockRegain _ => true
  | .pcieLinkUp _ _ => true
  | .pcieConfigRequest r => r.wellFormed

end Sys2Proof
end

