-- ==== Sys2Proof/Tests/Slice0.lean ====
section
/-! SUPPORT. Tests on small states, and the witnesses of the statements' hypotheses. -/

namespace Sys2Proof.Tests
open Sys2Proof Sys2Proof.Machine

set_option Elab.async false

/-- The bytes of a request of opcode `op` with payload `p`. -/
def reqBytes (op : Nat) (p : List Nat) (flags : Nat) : List Byte :=
  leBytes 2 op ++ leBytes 2 1 ++ leBytes 2 (4 * p.length) ++ leBytes 2 flags ++ wordsBytes (p.map word)

/-- A state in which firmware carries out, from mailbox 0, a request of opcode `op` with payload `p`. -/
def serve (op : Nat) (p : List Nat) (s : State := State.reset) (flags : Nat := 0) : State :=
  { s with mbx := { s.mbx with taken := some 0, mem := Memory.writeBytes 0 [] 0 (reqBytes op p flags) } }

/-- The same with DEFER in the request's FLAGS. -/
def deferred (s : State) : State :=
  { s with mbx := { s.mbx with mem := Memory.writeBytes 0 s.mbx.mem 6 [2#8] } }

/-- The same with every group staged. -/
def allStaged (s : State) : State := { s with mbx := { s.mbx with staged := 1023 } }

/-- The state after boot: firmware is ready and the mode is IDLE. -/
def idle : State := (State.reset.put MBX_READY_FW_READY 1).put SEC_STATUS_MODE 2

/-- A state whose latest TICK_IN edge was at time 0. -/
def edgeSeen : State := { State.reset with key := { State.reset.key with tickIn := 1 } }

/-- A state with mailbox 0 rung for SYS NOP. -/
def rung : State := let s := (serve 0 []).put MBX_READY_FW_READY 1
  { s with mbx := { s.mbx with taken := none, order := [0] } }

/-- An unsigned manifest of 64 bytes. -/
def manifest : List Byte :=
  leBytes 4 0x4A4F4231 ++ leBytes 4 1 ++ leBytes 4 77 ++ leBytes 4 3 ++ leBytes 2 0x8001 ++ leBytes 2 0 ++ leBytes 4 64

/-- PREP, PROVISIONED, DRAM of 1 GiB with the manifest at 1000_0000h. -/
def prep : State :=
  let s := ((idle.put SEC_STATUS_MODE 3).put SEC_STATUS_LIFECYCLE 1).put DMC_STATUS_SIZE 1
  { s with dram := Memory.writeBytes 0 [] 0x10000000 manifest }

/-- `prep` with window 15 enabled for writes over 4 KiB at 1000_0000h. -/
def windowed : State := ((prep.put PCI_WIN_BASE_LO_BASE_LO 0x10000 15).put PCI_WIN_CTRL_EN 1 15).put PCI_WIN_CTRL_WRITE 1 15

/-- A pier in state `st` over `prep`, with the FIFO given. -/
def pierIn (p st : Nat) (fifo : List (List Word)) (s : State := prep) : State :=
  (s.setPier p { s.pier p with fifo := fifo }).setPierState p st

/-- A layer start received in tick 0, in tick 1, with pier 3 enabled and in LAYER_WAIT. -/
def layerWaiting : State :=
  let s := (pierIn 3 psLayerWait []).put SCN_CTRL_PIER_EN 8
  { s with scn := { s.scn with go := [0] }, key := { s.key with tick := 1 } }

/-- A descriptor of TYPE `t`, SEQ 0. -/
def desc (t : Nat) (w2 w3 w4 speed w6 w7 : Nat) (flags : Nat := 0) : List Word :=
  [word (t * 2 ^ 28 + flags * 2 ^ 24), 0#32, word w2, word w3, word w4, word speed, word w6, word w7]

/-- Pier 3 in RUN with one descriptor. -/
def runs (d : List Word) (s : State := prep) : State := pierIn 3 psRun [d] (s.put SCN_CTRL_PIER_EN 8)

/-- The descriptor is taken, whatever motion it gives. -/
def taken (t : Nat) (d : List Word) (s : State := runs d) : Bool :=
  decide (s.pierState 3 = psRun ∧ (s.pier 3).due = true ∧ (s.pier 3).fifo.head? = some d ∧ dType d = t ∧ s.descFault 3 d = none) &&
    (s.strokeOf 3 d).isSome

/-- `runs d` with a waiting entry of ID 0, its first side inside or not, of pier 0 with partner 3. -/
def paired (d : List Word) (inside : Bool) (st : Nat) : State :=
  (runs d).setStitch 0 { state := st, inside := inside, pier := 0, partner := 3, tick := 0, left := 9, geo := [0] }

/-- A state that serves a GRID_LOAD of `p` from system address `a`. -/
def gridLoads (p a : Nat) (s : State := (prep.put DMC_STATUS_READY 1).put COR_STATUS_INIT_DONE 1) : State := serve 0xC00 [p, a, 0] s

/-- A patch record staged and the ring enabled, over `s`. -/
def staging (s : State := prep.put DMC_STATUS_READY 1) : State :=
  let s := (s.put SPN_PATCH_BASE_LO_BASE_LO 0x10000).put SPN_PATCH_CTRL_EN 1
  { s with spn := { s.spn with staged := [List.replicate 32 7#8] } }

/-- The answer to the write of `staging`'s record. -/
def stagedWrite (s : State) : BusRes × State :=
  (State.put { s with spn := { s.spn with staged := [] } } SPN_PATCH_STAGE_STAGED 0).dramWrite 3
    (s.get SPN_PATCH_BASE_LO_BASE_LO * 4096 + s.get SPN_PATCH_BASE_HI_BASE_HI * 2 ^ 32 +
      32 * (s.get SPN_PATCH_WR_WR % (2 ^ (12 + s.get SPN_PATCH_SIZE_SIZE) / 32))) (List.replicate 32 7#8)

/-- Pier 15's link in state `st` and mode `m`. -/
def linkIn (st m : Nat) (l : LinkSt) : State := (((idle.put PLK_CTRL_MODE m 15).setLinkState 15 st).setLink 15 l)

/-- The code groups of a frame of the bytes `b`, from negative running disparity. -/
def frameGroups (b : List Byte) : List (BitVec 10) := (encodeRun false (symSof :: b.map (fun b => symData b.toNat))).1

/-- An uplink frame of STATUS `st` with its CRC. -/
def upFrame (n st : Nat) : List Byte := withCrc (List.replicate n 0#8 ++ beBytes 2 st)

/-- A code group that no symbol has at either disparity. -/
def badGroup : BitVec 10 := 0b1111111111

/-- SERVICE with lasers allowed, READY, link, permit: pier 15 may fire a test pulse. -/
def testReady : State := ((((idle.put SEC_STATUS_MODE 6).set1 LSR_PERMIT_MODE_ALLOW).set1 LSR_PERMIT_PERMIT).putBit
  LSR_IN_A_READY 15 true).set1 PLK_STATE_LINK_OK 15

/-- A fast program of two instructions: PLAUS with k1 = 1 in exponent 24, OUT of y0. -/
def goodWords : List Nat := [0x70000000, 0, 0, 0x60000100, 0x80000000, 0, 0, 0]

/-- The memory of an image that holds it. -/
def goodImage (i : Nat) : Memory := Memory.writeBytes 0 [] (i * 768) (wordsBytes (goodWords.map word))

/-- A context record: the reset record with fields set. -/
def camRec (l : List (Fref × Nat)) : List Word :=
  l.foldl (fun c x => c.set (x.1.base % 64 / 4) (wset (c.getD (x.1.base % 64 / 4) 0) x.1.hi x.1.lo x.2))
    ((List.range 16).map (fun w => resetWord (0x20091000 + 4 * w)))

/-- Context 31 takes RAW8 frames of 2 × 1 pixels on virtual channel 15 of port 3. -/
def camCfg : List Word := camRec [(CAM_CTX0_PORT, 3), (CAM_CTX0_VC, 15), (CAM_CTX0_DT, 0x2A), (CAM_CTX1_FRAME_W, 2), (CAM_CTX1_FRAME_H, 1),
  (CAM_CTX3_ROI_W, 2), (CAM_CTX3_ROI_H, 1), (CAM_CTX8_TRIG, 31)]

/-- Port 3 enabled, context 31 in force. -/
def camReady : State := (idle.set1 CAM_PORT_CTRL_EN 3).setCamCtx 31 { work := camCfg }

/-- The open frame, with the rows given. -/
def camFrame (rows : List (List Nat)) : CamFrame :=
  { c := 31, n := 1, num := 0, cfg := camCfg, set := {}, ref := 0, loc := [], untrig := false, skip := false, fresh := false, rows := rows }

/-- The frame is open. -/
def camOpened (rows : List (List Nat)) : State := camReady.setCamCtx 31 { work := camCfg, opn := some (camFrame rows) }

/-- The same with trigger output 0 bound, and the events given. -/
def camBoundTo (evs : List CamEv) : State := (idle.set1 CAM_PORT_CTRL_EN 3).setCamCtx 31 { work := camCfg.set 8 (wset (camCfg.getD 8 0) CAM_CTX8_TRIG.hi CAM_CTX8_TRIG.lo 0), w := some 7, evs := evs }

/-- A dropped or held frame of context 31 with `h` bytes in the FIFO. -/
def camHeld (h : Nat) (drop : Bool) : State :=
  camReady.setCamCtx 31 { work := camCfg, opn := some { c := 31, n := 1, num := 0, cfg := camCfg, set := {}, ref := 0, loc := [], untrig := false, skip := false, fresh := false, held := h, drop := drop } }

/-- A large frame of context 31, its end received, with `a` of its lines admitted. -/
def camLargeEnd (a : Nat) : CamFrame :=
  { c := 31, n := 1, num := 0, cfg := camRec [(CAM_CTX0_DT, 0x2A), (CAM_CTX1_FRAME_W, 4096), (CAM_CTX1_FRAME_H, 17)], set := {}, ref := 0, loc := [], untrig := false, skip := false, fresh := false, rows := [[1]], adm := a }

/-- Two contexts with the same record, one of them in force. -/
def camClash : State := forN 16 (fun w s => s.wr (0x20091000 + 64 * 30 + 4 * w) (camCfg.getD w 0)) camReady

/-- The exposure write of context 31 is on the bus of port 3. -/
def camWriting : State := camReady.setCamCtx 31 { work := camCfg, started := some ({}, 1) }

/-- A header of context 31 and a log record wait for DRAM, whose channel of 10000000h is out of service where `dead`. -/
def camStaged (dead : Bool) : State :=
  let s := (camReady.put DMC_STATUS_READY 1).put DMC_STATUS_SIZE 1
  let s := (if dead then s.put DMC_PAR_FATAL 1 (dramChannel 0x10000000) else s).put CAM_DLOG_BASE_LO_BASE_LO 0x10000
  { s with cam := { camReady.cam with ctx := [(31, { work := camCfg, headers := [(0x10000000, [1#8])] })], staged := [[1#8]] } }

/-- The answer to the write of the staged log record. -/
def dlogWrite (s : State) : BusRes := (State.dramWrite { s with cam := { s.cam with staged := [] } } 4 (s.get CAM_DLOG_BASE_LO_BASE_LO * 4096 +
  s.get CAM_DLOG_BASE_HI_BASE_HI * 2 ^ 32 + 64 * (s.get CAM_DLOG_WR_WR % (2 ^ (12 + s.get CAM_DLOG_SIZE_SIZE) / 64))) [1#8]).1

/-- The payload of CONTEXT_SET that gives context 31 the reset record. -/
def camCtxReset : List Nat := 31 :: (List.range 16).map (fun w => (resetWord (0x20091000 + 64 * 31 + 4 * w)).toNat)

/-- Axis 5 in state `st`. -/
def axIn (st : Nat) : State := idle.put AXS_STAT_STATE st 5

/-- Axis 5 idle with limits of speed, acceleration and jerk. -/
def axLimits : State := (((axIn axIdle).put AXS_CFG1_V_MAX 1000 5).put AXS_CFG2_A_MAX 1000 5).put AXS_CFG3_J_MAX 1000 5

/-- Axis 5 takes external steps, in state `st`. -/
def axExt (st : Nat) : State := (axIn st).put AXS_CFG0_SRC 1 5

/-- An SSI read of axis 5 is on the line, after `u`. -/
def axSsi (u : Option Nat) : State := ((axIn axIdle).put AXS_CFG0_ENC 2 5).setAxis 5 { ssiBusy := true, ssi := u }

/-- The payload of AXIS CONFIG that writes the reset record of axis 5. -/
def axRecord : List Nat := 5 :: (List.range 22).map (fun w => (resetWord (0x200A0100 + 0x100 * 5 + 4 * w)).toNat) ++ [0, 0]

/-- A MOVE of axis 5 to position 100. -/
def axMoves (s : State) : State := serve 0x2001 [5, 0, 100, 1000, 1000, 1000] s

/-- Every place of the action table taken. -/
def axFull (s : State) : State := { s with mbx := { s.mbx with actions := (List.range 16).map (fun _ => { tag := 0, op := 0 }) } }

/-- DRAM of 1 GiB is ready. -/
def ram : State := (idle.put DMC_STATUS_READY 1).put DMC_STATUS_SIZE 1

/-- A request of an image read and one of requester `r` wait on channel 0. -/
def twoWait (r : BitVec 6) (df : Tab Int) : State :=
  { ram with dmc := { ram.dmc with queue := [({ req := 1, a := 0, n := 64 }, true), ({ req := r, a := 0, n := 64 }, true)], deficit := df } }

/-- A replay of channel 1 is at attempt `n`. -/
def replaying (n : Nat) : State := { (ram.set1 DMC_CFG_CA_PAR_EN) with dmc := { ram.dmc with replay := [(1, (n, 0))] } }

/-- Channel 31 describes a transfer of 64 bytes from 1000_0000h to 1000_0040h. -/
def dmaSet : State := ((ram.put DMA_SRC_LO_SRC_LO 0x10000000 31).put DMA_DST_LO_DST_LO 0x10000040 31).put DMA_LEN_LEN 64 31

/-- That transfer. -/
def dmaMove : DmaX :=
  { id := 1, src := 0x10000000, dst := 0x10000040, len := 64, burst := 64, half := false, full := false, sfix := false, dfix := false }

/-- Channel 31 has it active. -/
def dmaActive : State := dmaSet.setDmaCh 31 { act := some dmaMove }

/-- The engine has stopped; one read is outstanding where `b`. -/
def dmaStoppedBy (b : Bool) : State := let s := idle.set1 DMA_STATUS_HALTED
  { s with dma := { s.dma with out := if b then [{ ch := 31, id := 1, write := false, addr := 0x10000000, n := 64 }] else [] } }

/-- A write of channel `ch` of the on-chip alias, or of a missing address where `bad`, is outstanding. -/
def dmaWriting (ch : Nat) (w bad : Bool) : State := { ram with dma := { ram.dma with
  out := [{ ch := ch, id := 1, write := w, addr := if bad then 0x80000000 else 0x10000000, n := 1, data := [1#8] }] } }

/-- The answer to the access of channel `ch`. -/
def dmaAnswer (ch : Nat) (w bad : Bool) : BusRes := (State.sysAccess { ram with dma := { ram.dma with out := [] } } (0x20 + ch)
  (if bad then 0x80000000 else 0x10000000) 1 (if w then some [1#8] else none)).1

/-- Scan-out is enabled and runs. -/
def scanning : State := let s := idle.set1 DSP_CTRL_SCAN_EN
  { s with dsp := { s.dsp with run := true } }

/-- The link is up and a frame of one line of four pixels is live. -/
def frameLive : State := let s := (scanning.set1 DSP_STATUS_LINK_UP).wr 0x200D0060 0x10004
  { s with dsp := { s.dsp with live := true } }

/-- A writeback header waits; the DRAM channel of its buffer is out of service where `dead`. -/
def wbWaits (dead : Bool) : State :=
  let s := if dead then ram.put DMC_PAR_FATAL 1 (dramChannel (ram.wbAddr 0)) else ram
  { s with dsp := { s.dsp with hdrs := [[1#8]] } }

/-- The result of a run of `n` entries at 0 of a DRAM whose first channel is out of service where `dead`. -/
def accResult (n : Nat) (dead : Bool) : Nat :=
  let s := if dead then ram.put DMC_PAR_FATAL 1 (dramChannel 0) else ram
  (State.accList n 0 s).1

/-- The payload of TIMING_SET that writes the timing in force at reset. -/
def timings : List Nat := (List.range 8).map (fun i => (resetWord (0x200D0040 + 4 * i)).toNat)

/-- The payload of LAYER_SET for layer `n` with word 0 `w`: one source pixel, one destination pixel. -/
def layerSets (n w : Nat) : List Nat := [n, w, 0, 0, 64, 0x10001, 0, 0x10001, 0, 0, 0, 0, 0]

/-- Channel 15 with internal state `c`. -/
def litIn (c : LitCh) : State := ((idle.put LIT_CFG_EN 1 15).put LIT_CFG_IREF 1000 15).setLitCh 15 c

/-- The Flue is ready, its write points at the starts of the regions, and its state `f`. -/
def fluIn (f : FluSt) : State := { idle.set1 FLU_STATUS_READY with flu := f }

/-- A record of severity 4 waits in the ring. -/
def fluRec : Rec := { sev := 4, code := 0x5200, hasSeq := true, seq := 0 }

/-- Only the first block of the main region is in use, and it has one void slot. -/
def fluFull : State := { fluIn { wp := 0x1001000, bad := (List.range 8193).map (fun i => fluMain0 + 4096 * (i + 1)) } with
  flash := [(0x100001E, 0#8), (0x100001F, 0#8)] }

/-- An action that has ended and is not yet announced. -/
def doneAction : Action := { op := 0x2002, tag := 9, finished := true }

/-- A run of the threshold procedure in mode BUILD, which it may not run in. -/
def strayRun : State := { idle.put SEC_STATUS_MODE 4 with mbx := { idle.mbx with actions := [{ op := 0x3000, tag := 9, arg := 3, arg2 := 15 }] } }

/-- A piece is on and its span has ended. -/
def gapOver : State := { idle with cal := { idle.cal with piece := some (0, 0), pieceOn := true } }

/-- A sweep of pier 15 at the last pulse of its search. -/
def lastPulse : Sweep := { pier := 15, input := 30, win := 4, rep := 1, tick := 0, lev := true, h := 1, s1 := 3, f := 5, lo := 4, hi := 5, smp := [0, 0, 0, 1] }

/-- A valid trim set: every trim 0, SET_ID 7. -/
def trims : List Nat :=
  let b := (0x10007 :: List.replicate 42 0)
  b ++ [crc32 (b.flatMap (leBytes 4))]

/-- Port 1 is linked and enabled, with rings of two descriptors at 1000_0000h whose first is owned where `b`. -/
def netUp (b : Bool) : State :=
  let s := ((idle.putBit NET_STATUS_LINK 1 true).set1 NET_CTRL_EN 1).put NET_RXR_BASE_RXR_BASE 0x10000000 1
  let s := ((s.put NET_TXR_BASE_TXR_BASE 0x10000000 1).put NET_RXR_SIZE_COUNT 2 1).put NET_TXR_SIZE_COUNT 2 1
  { s with sram := if b then [(0x10000003, 0x80#8), (0x10000007, 0x10#8)] else [] }

/-- A broadcast frame. -/
def bcast : List Byte := List.replicate 6 0xFF#8 ++ List.replicate 8 0#8

/-- The servo in state `st` with data set `ds` in use. -/
def ptpIn (st : Nat) (ds : List Nat) : State := { idle.put NET_PTP_STATE st with net := { idle.net with tx := some ds } }

/-- The servo in QUALIFY with seven offsets. -/
def sevenOffs (v : Int) : State := { idle.put NET_PTP_STATE 1 with net := { idle.net with offs := List.replicate 7 v } }

/-- The link is up. -/
def linked : State := idle.set1 PCI_STATUS_LINK_UP

/-- Window 15 opens 64 MiB of DRAM to writes. -/
def linkedWindow : State := ((((((linked.put DMC_STATUS_READY 1).put DMC_STATUS_SIZE 1).put PCI_WIN_BASE_LO_BASE_LO 0x10000 15).put
  PCI_WIN_SIZE_LOG2 26 15).put PCI_WIN_CTRL_EN 1 15).put PCI_WIN_CTRL_WRITE 1 15)

/-- The same with the channel of the window's memory under a CA parity error. -/
def linkedDead : State := (linkedWindow.put DMC_PAR_FATAL 1 0).put DMC_PAR_FATAL 1 1

/-- Debug level `l`, firmware measured. -/
def debugAt (l : Nat) : State := (idle.set1 SEC_STATUS_MEAS_DONE).put SEC_STATUS_DEBUG l

/-- A 196-byte token for OBSERVE lies at the start of the SRAM, its key's hash in the fuses, and the challenge is drawn. -/
def tokenThere : State :=
  let s := (((debugAt 0).put SEC_CHAL_CTRL_VALID 1).put SEC_TOKEN_ADDR_ADDR 0x10000000)
  { s with sram := [(0x10000000, 1#8), (0x10000002, 1#8)], sec := { s.sec with chal := 1 }, otp := { s.otp with vndDbg := sha384 (List.replicate 96 0#8) } }

/-- A report is being signed. -/
def signing : State := { idle.set1 SEC_ATT_CTRL_BUSY with sec := { idle.sec with att := some ([1#8], 0x10000000) } }

/-- A check of the 64-byte manifest at 1000_0000h is under way; `n` bytes of it are read. -/
def jobChecking (n : Nat) : State := let s := prep.put DMC_STATUS_READY 1
  { s with sec := { s.sec with job := some (0x10000000, n) } }

/-- BOOT, power stable, nothing measured. -/
def booting : State := { State.reset.put SEC_STATUS_MODE 1 with vlt := { State.reset.vlt with por := false } }

/-- The newest record of the Flue. -/
def newest : Rec := { sev := 4, code := 0, seq := 7, hasSeq := true, opsec := 4294967295 }

/-- Everything FW_READY waits for has happened. -/
def bootDone : State := (((booting.set1 SEC_STATUS_MEAS_DONE).set1 FLU_STATUS_READY).set1 DMC_STATUS_READY).put VLT_STATUS_LOST 0

/-- The main supplies are absent. -/
def vaultOnly : State := { idle.put VLT_STATUS_PSU_EN 0 with vlt := { idle.vlt with main := false } }

/-- A state in BUILD whose pier 0 asks for light with every permit given. -/
def litUp : State := let s := (idle.put SEC_STATUS_MODE 4).put PLK_STATE_LINK_OK 1 0
  { s with lsr := { s.lsr with gov := 1, out := [(0, { g := true })] } }

/-- Witnesses of `Obligations.KeyCommits`. -/
theorem wit_keyCommits_late_write : (3 : Nat) % 1024 ≠ 0 ∧ 380 ≤ 380 ∧ 379 < 380 ∧ 0x400 % 1024 = 0 := by decide
theorem wit_keyCommits_arm : let s := State.reset.put KEY_SCHED_TICK_LO_TICK_LO 2 7
    s.on KEY_SCHED_CTRL_ARM 7 = false ∧ s.key.tick + 1 < s.schedTarget 7 := by decide
theorem wit_keyCommits_arm_edge : let s := State.reset.put KEY_SCHED_TICK_LO_TICK_LO 1 7
    s.on KEY_SCHED_CTRL_ARM 7 = false ∧ s.schedTarget 7 = s.key.tick + 1 := by decide
theorem wit_keyCommits_late : State.reset.schedTarget 0 ≤ State.reset.key.tick := by decide
theorem wit_keyCommits_fire : let s := (State.reset.put KEY_SCHED_CTRL_ARM 1 0).put KEY_SCHED_CTRL_MASK 6 0
    s.on KEY_SCHED_CTRL_ARM 0 = true ∧ s.schedTarget 0 ≤ s.key.tick := by decide

theorem wit_keyTime_inc : 0xC0000000 ≤ (1#32).toNat * 2 ^ 32 + State.reset.key.fracHeld ∧
    (1#32).toNat * 2 ^ 32 + State.reset.key.fracHeld ≤ 0x140000000 ∧ State.reset.key.fracHeld < 2 ^ 32 := by decide
theorem wit_keyTime_incRefused : 0x140000000 < (2#32).toNat * 2 ^ 32 + State.reset.key.fracHeld := by decide
theorem wit_keyTime_ofsRefused : let s := State.reset.put KEY_JUMP_LIMIT_LIMIT 1
    s.get KEY_JUMP_LIMIT_LIMIT < (s.ofsDelta ((1#32).toNat * 2 ^ 32 + s.key.ofsLoHeld)).natAbs ∧
    s.on KEY_TIME_CTRL_JUMP_ARM = false := by decide
theorem wit_keyTime_ofs : let s := State.reset.put KEY_JUMP_LIMIT_LIMIT 0
    (s.ofsDelta ((0#32).toNat * 2 ^ 32 + s.key.ofsLoHeld)).natAbs ≤ s.get KEY_JUMP_LIMIT_LIMIT ∧
    s.ofsDelta ((0#32).toNat * 2 ^ 32 + s.key.ofsLoHeld) ≤ 0 := by decide
theorem wit_keyTime_ofsBack : let s := (State.reset.put KEY_JUMP_LIMIT_LIMIT 0).put KEY_TIME_CTRL_JUMP_ARM 1
    s.get KEY_JUMP_LIMIT_LIMIT < (s.ofsDelta ((0xFFFFFFFF#32).toNat * 2 ^ 32 + s.key.ofsLoHeld)).natAbs ∧
    s.on KEY_TIME_CTRL_JUMP_ARM = true ∧ s.ofsDelta ((0xFFFFFFFF#32).toNat * 2 ^ 32 + s.key.ofsLoHeld) ≤ 0 := by decide
theorem wit_keyTime_ofsForward : let s := (State.reset.put KEY_JUMP_LIMIT_LIMIT 0).put KEY_TIME_CTRL_JUMP_ARM 1
    s.on KEY_TIME_CTRL_JUMP_ARM = true ∧ 0 < s.ofsDelta ((1#32).toNat * 2 ^ 32 + s.key.ofsLoHeld) ∧
    s.get KEY_JUMP_LIMIT_LIMIT < (s.ofsDelta ((1#32).toNat * 2 ^ 32 + s.key.ofsLoHeld)).natAbs ∧
    (∀ k : Nat, k < 16 → s.on KEY_TT_CTRL_EN k = false) := by decide
theorem wit_keyTime_latch : isLatching 0x20000008 = true ∧ isLatching 0x20070404 = true := by decide

theorem wit_keyClocks_first : State.reset.key.tickIn = 0 := by decide
theorem wit_keyClocks_bad : edgeSeen.key.tickIn ≠ 0 ∧
    80 < (((160081 : Nat) : Int) - ((edgeSeen.key.tickIn - 1 : Nat) : Int) - (16 * edgeSeen.periodNs : Nat)).natAbs := by decide
theorem wit_keyClocks_good : edgeSeen.key.tickIn ≠ 0 ∧
    (((16 * edgeSeen.periodNs : Nat) : Int) - ((edgeSeen.key.tickIn - 1 : Nat) : Int) - (16 * edgeSeen.periodNs : Nat)).natAbs ≤ 80 := by decide
theorem wit_keyClocks_fail : let s := { State.reset.put KEY_CTRL_DISC_MODE 2 with key := { State.reset.key with badRun := 8 } }
    s.get KEY_CTRL_DISC_MODE = 2 ∧ s.key.tickInFailed = false ∧ s.wireLost = true := by decide
theorem wit_keyClocks_idle : State.reset.get KEY_CTRL_DISC_MODE ≠ 2 ∧ State.reset.key.lockRun < 1000 ∧
    (State.reset.put KEY_STATUS_TIME_PLL_LOCK 0).on KEY_STATUS_TIME_PLL_LOCK = false := by decide
theorem wit_keyClocks_locked : let s := { State.reset.put KEY_CTRL_DISC_MODE 1 with key := { State.reset.key with lockRun := 1000 } }
    s.get KEY_CTRL_DISC_MODE ≠ 0 ∧ 1000 ≤ s.key.lockRun := by decide
theorem wit_keyClocks_pll : (State.reset.set1 KEY_STATUS_TIME_PLL_LOCK).on KEY_STATUS_TIME_PLL_LOCK = true := by decide

theorem wit_triggers_arm : let s := State.reset.put KEY_TT_TARGET_LO_TARGET 5 15
    s.on KEY_TT_CTRL_EN 15 = false ∧ ttDestOk (wfield 0x80000000#32 20 16) (wfield 0x80000000#32 7 0) = true ∧
    (s.advance 4).nt < s.ttTarget 15 ∧ (0x80000000#32).toNat.testBit 31 = true ∧ (0x80000000#32).toNat.testBit 30 = false := by decide
theorem wit_triggers_missed : let s := State.reset
    s.on KEY_TT_CTRL_EN 0 = false ∧ s.ttTarget 0 ≤ (s.advance 0).nt := by decide
theorem wit_triggers_periodic : let s := State.reset.put KEY_TT_PERIOD_PERIOD 1000 3
    s.on KEY_TT_CTRL_EN 3 = false ∧ (0xC0000000#32).toNat.testBit 30 = true ∧ 1000 ≤ s.get KEY_TT_PERIOD_PERIOD 3 := by decide
theorem wit_triggers_reserved : (0x80000000#32).toNat.testBit 31 = true ∧ ttDestOk (wfield 0x80060000#32 20 16) 0 = false ∧
    State.reset.get KEY_TT_PERIOD_PERIOD 3 < 1000 := by decide
theorem wit_triggers_ignored : (State.reset.put KEY_TT_CTRL_EN 1 3).on KEY_TT_CTRL_EN 3 = true := by decide
theorem wit_triggers_fire : let s := (State.reset.put KEY_TT_CTRL_EN 1 3).put KEY_TT_TARGET_LO_TARGET 4 3
    (s.advance 5).ttDue 3 = true ∧ s.on KEY_TT_CTRL_ALIGN 3 = false ∧ s.key.ttJump.testBit 3 = false ∧
    (s.advance 3).ttDue 3 = false := by decide
theorem wit_triggers_dest : State.reset.get KEY_TT_CTRL_DEST 0 = 0 ∧ (State.reset.put KEY_TT_CTRL_DEST 2 15).get KEY_TT_CTRL_DEST 15 = 2 ∧
    (State.reset.put KEY_TT_CTRL_DEST 4 15).get KEY_TT_CTRL_DEST 15 = 4 := by decide

theorem wit_nagusHalts_wdog : let s := State.reset.put MBX_WDOG_EN 1
    s.on MBX_WDOG_EN = true ∧ s.halted = false ∧ (0#16) ≠ 0xA5C3#16 := by decide
theorem wit_nagusHalts_kicked : State.reset.mbx.wdogKicks ≠ 1 := by decide
theorem wit_nagusHalts_halted : State.reset.haltNagus.on MBX_READY_HALTED = true ∧
    (let s := State.reset.put SEC_DEBUG_HALTED 1; s.on MBX_READY_HALTED = false ∧ s.halted = true) := by decide
theorem wit_nagusHalts_unknown : let s := serve 0xFFFF []
    s.mbx.taken = some 0 ∧ s.mayBegin = true ∧ cmdInfo (s.request 0).op = none := by decide

theorem wit_mailboxFlow_hw : State.reset.get MBX_STATE_STATE 3 ≠ 1 ∧ State.reset.on MBX_READY_HALTED = false ∧
    State.reset.on MBX_READY_FW_READY = false ∧ (State.reset.put MBX_READY_HALTED 1).get MBX_STATE_STATE 3 ≠ 1 ∧
    (State.reset.put MBX_READY_HALTED 1).on MBX_READY_HALTED = true := by decide
theorem wit_mailboxFlow_ring : let s := State.reset.put MBX_READY_FW_READY 1
    s.get MBX_STATE_STATE 7 ≠ 1 ∧ s.on MBX_READY_HALTED = false ∧ s.on MBX_READY_FW_READY = true ∧ s.mbx.recovery = false := by decide
theorem wit_mailboxFlow_busy : (State.reset.put MBX_STATE_STATE 1 7).get MBX_STATE_STATE 7 = 1 := by decide
theorem wit_mailboxFlow_take :
    rung.mbx.order = 0 :: [] ∧ rung.halted = false ∧ rung.on MBX_READY_FW_READY = true ∧ rung.mbx.taken = none := by decide
theorem wit_mailboxFlow_noTake : State.reset.mbx.order = [] := by decide
theorem wit_mailboxFlow_complete : let s := (serve 0 [] State.reset 1).put MBX_STATE_STATE 1 0
    let t := { s with mbx := { s.mbx with replied := true } }
    t.mbx.taken = some 0 ∧ t.mbx.replied = true ∧ t.halted = false ∧ t.get MBX_STATE_STATE 0 = 1 ∧
    (t.request 0).flags.testBit 0 = true ∧ s.mbx.replied = false := by decide
theorem wit_mailboxFlow_rd : let s := State.reset.put MBX_EVT_WR_WR 256
    (s.get MBX_EVT_WR_WR + 2 ^ 32 - (0#32).toNat) % 2 ^ 32 ≤ 256 ∧ s.halted = false ∧ s.mbx.evLost = 0 ∧
    256 < (s.get MBX_EVT_WR_WR + 2 ^ 32 - (257#32).toNat) % 2 ^ 32 := by decide
theorem wit_mailboxFlow_post : let s := State.reset.event 1 2 3 4
    s.halted = false ∧ s.mbx.evq = Ev.mk 1 2 3 4 0 :: [] ∧ State.reset.mbx.evq = [] := by decide

theorem wit_sysCommands_nop : (serve 0 []).serving 0 ((serve 0 []).request 0) := by decide
theorem wit_sysCommands_info : let s := serve 1 []
    s.serving 1 (s.request 0) ∧ s.mbx.recovery = false := by decide
theorem wit_sysCommands_recovery : let s := serve 1 [] { State.reset with mbx := { State.reset.mbx with recovery := true } }
    s.serving 1 (s.request 0) ∧ s.mbx.recovery = true := by decide
theorem wit_sysCommands_modeBits : let s := serve 2 [8] idle
    s.serving 2 (s.request 0) ∧ 7 < (s.request 0).w 0 % 16 := by decide
theorem wit_sysCommands_modeState : let s := serve 2 [4] idle
    s.serving 2 (s.request 0) ∧ (s.request 0).w 0 = 4 + (if false then 256 else 0) ∧ (modeTargets s.mode).contains 4 = false := by decide
theorem wit_sysCommands_modeDenied : let s := serve 2 [4] { idle.put SEC_STATUS_MODE 3 with job := { idle.job with st := 2 } }
    s.serving 2 (s.request 0) ∧ (s.request 0).w 0 = 4 + (if false then 256 else 0) ∧ (modeTargets s.mode).contains 4 = true ∧
    s.job.st = 2 ∧ s.modeRefused 4 false = true := by decide
theorem wit_sysCommands_modeHot : let s := serve 2 [3] { (idle.putS THM_STATUS_TMAX 1900).put SEC_STATUS_LIFECYCLE 1 with thm := { idle.thm with after := true } }
    s.serving 2 (s.request 0) ∧ (s.request 0).w 0 = 3 + (if false then 256 else 0) ∧ (modeTargets s.mode).contains 3 = true ∧
    s.modeRefused 3 false = false ∧ s.tooHot 3 = true := by decide
theorem wit_sysCommands_mode : let s := serve 2 [0x106] idle
    s.serving 2 (s.request 0) ∧ (s.request 0).w 0 = 6 + 256 ∧ (modeTargets s.mode).contains 6 = true ∧
    s.modeRefused 6 true = false ∧ s.modeAllow = false ∧ s.tooHot 6 = false := by decide
theorem wit_sysCommands_vault : let s := serve 2 [0] idle
    s.serving 2 (s.request 0) ∧ (s.request 0).w 0 = 0 ∧ s.mode = 2 ∧ s.modeRefused 0 false = false ∧
    s.thm.after = false := by decide
theorem wit_sysCommands_resume : let s := serve 3 [] (idle.put SEC_STATUS_MODE 5)
    s.serving 3 (s.request 0) ∧ s.mode = 5 ∧ (∀ c, c ∈ s.causes → s.persists c.1 c.2 = false) := by decide
theorem wit_sysCommands_held : let s := { serve 3 [] (idle.put SEC_STATUS_MODE 5) with causes := [(0x1412, 4)] }
    s.serving 3 (s.request 0) ∧ s.mode = 5 ∧ s.causes.find? (fun c => s.persists c.1 c.2) = some (0x1412, 4) := by decide
theorem wit_sysCommands_commit : let s := serve 4 [2, 0, 0] idle
    s.serving 4 (s.request 0) ∧ 0 < (s.request 0).w 0 ∧ (s.request 0).w 0 ≤ 1023 ∧ ((s.request 0).w 0).testBit 0 = false ∧
    (s.request 0).w64 1 = 0 := by decide
theorem wit_sysCommands_commitKey : let s := serve 4 [1023, 0, 0] idle
    s.serving 4 (s.request 0) ∧ (s.request 0).w 0 = 1023 ∧ ((s.request 0).w 0).testBit 0 = true ∧ (s.request 0).w64 1 = 0 := by decide
theorem wit_sysCommands_commitAt : let s := serve 4 [1, 9, 0] idle
    s.serving 4 (s.request 0) ∧ (s.request 0).w 0 = 1 ∧ (s.request 0).w64 1 ≠ 0 ∧ s.freeSlot = some 0 := by decide
theorem wit_sysDiscard :
  let s := serve 5 [1023] idle
  let q := s.request 0
  s.serving 0x0005 q ∧ firstBad ([(0, decide (q.w 0 ≤ 1023))]) = none := by decide
theorem wit_sysDiscard_bad :
  let s := serve 5 [1024] idle
  let q := s.request 0
  s.serving 0x0005 q ∧ firstBad ([(0, decide (q.w 0 ≤ 1023))]) ≠ none := by decide
theorem wit_sysReset :
  let s := serve 6 [1] idle
  let q := s.request 0
  s.serving 0x0006 q ∧ firstBad ([(0, decide (q.w 0 = 1))]) = none := by decide
theorem wit_sysReset_bad :
  let s := serve 6 [0] idle
  let q := s.request 0
  s.serving 0x0006 q ∧ firstBad ([(0, decide (q.w 0 = 1))]) ≠ none := by decide
theorem wit_sysCommands_noResume : let s := serve 3 [] idle
    s.serving 3 (s.request 0) ∧ s.mode ≠ 5 := by decide
theorem wit_sysCommands_noGroup : let s := serve 4 [0, 0, 0] idle
    s.serving 4 (s.request 0) ∧ (s.request 0).w 0 = 0 := by decide
theorem wit_sysCommands_noSlot : let s := serve 4 [1, 9, 0] (forN 8 (fun k s => s.put KEY_SCHED_CTRL_ARM 1 k) idle)
    s.serving 4 (s.request 0) ∧ (s.request 0).w64 1 ≠ 0 ∧ s.freeSlot = none := by decide
theorem wit_sysCommands_noAction : let s := serve 8 [5] idle
    s.serving 8 (s.request 0) ∧ (s.request 0).w 0 < 65536 ∧ s.unfinished.find? (fun a => a.tag == (s.request 0).w 0) = none := by decide
theorem wit_sysCommands_noTag : let s := serve 8 [65536] idle
    s.serving 8 (s.request 0) ∧ 65536 ≤ (s.request 0).w 0 := by decide
theorem wit_sysCommands_delay : let s := { idle with mbx := { idle.mbx with resetPend := true } }
    s.mbx.resetPend = true := by decide
theorem wit_sysActionStatus :
  let s := serve 7 [65535] idle
  let q := s.request 0
  s.serving 0x0007 q ∧ firstBad ([(0, decide (q.w 0 < 65536))]) = none := by decide
theorem wit_sysActionStatus_bad :
  let s := serve 7 [65536] idle
  let q := s.request 0
  s.serving 0x0007 q ∧ firstBad ([(0, decide (q.w 0 < 65536))]) ≠ none := by decide
theorem wit_sysCommands_stop : let s := serve 8 [5] { idle with mbx := { idle.mbx with actions := [{ tag := 5, op := 0x3003 }] } }
    s.serving 8 (s.request 0) ∧ (s.request 0).w 0 < 65536 ∧
    s.unfinished.find? (fun a => a.tag == (s.request 0).w 0) = some { tag := 5, op := 0x3003 } := by decide

theorem wit_jobOpen :
    let s := serve 0x400 [77, 0x10000000, 0, 64] (prep.put DMC_STATUS_READY 1)
    let q := s.request 0
    let r := s.jobCheck (q.addr 1) (q.w 3) (some (q.w 0))
    s.serving 0x0400 q ∧ 64 ≤ q.w 3 ∧ q.w 3 ≤ 65536 ∧ s.job.st = 0 ∧
    (List.range 24).any s.jobImage = false ∧ s.rangeAllowed (q.addr 1) (q.w 3) = true ∧
    r.2.map (fun m => (m.id, m.layers, m.piers, m.images)) = some (77, 3, 0x8001, []) ∧
    r.2.map Manifest.period = some (s.get KEY_CTRL_PERIOD) ∧ (r.1.loadImages 48 []).2 = true := by decide
theorem wit_jobStart :
  let s := serve 0x401 [5] ({ (prep.put SEC_STATUS_JOB_OK 1) with job := { st := 1 } })
  let q := s.request 0
  s.serving 0x0401 q ∧ firstBad ([(0, decide (q.w 0 < 2 ^ 20))]) = none ∧ (s.mode = 3 ∧ s.job.st = 1 ∧ s.modeRefused 4 false = false) := by decide
theorem wit_jobStart_bad :
  let s := serve 0x401 [0x100000] prep
  let q := s.request 0
  s.serving 0x0401 q ∧ firstBad ([(0, decide (q.w 0 < 2 ^ 20))]) ≠ none := by decide
theorem wit_jobStatus :
  let s := serve 0x402 [] idle
  let q := s.request 0
  s.serving 0x0402 q ∧ firstBad ([]) = none := by decide
theorem wit_jobStop :
  let s := serve 0x403 [0] ({ prep with job := { st := 2, piers := 0x8001 } })
  let q := s.request 0
  s.serving 0x0403 q ∧ firstBad ([(0, decide (q.w 0 ≤ 1))]) = none ∧ (s.noPlace = false ∧ s.job.st = 2 ∧ q.w 0 = 0) := by decide
theorem wit_jobStop_bad :
  let s := serve 0x403 [2] prep
  let q := s.request 0
  s.serving 0x0403 q ∧ firstBad ([(0, decide (q.w 0 ≤ 1))]) ≠ none := by decide
theorem wit_jobClose :
    let s := serve 0x404 [] ({ (prep.put FLU_STATUS_READY 1) with job := { st := 4 } })
    s.serving 0x0404 (s.request 0) ∧ s.mbx.staged.testBit 7 = false ∧ s.job.st = 4 ∧ s.fluTakes 1 := by decide
theorem wit_sysWindowOpen :
    let s := serve 9 [0x10000000, 0, 4096, 1] windowed
    let q := s.request 0
    s.serving 9 q ∧ firstBad [(0, baseOk (q.addr 0)), (2, pow2In (q.w 2) 12 36), (3, decide (q.w 3 < 2))] = none ∧
    (List.range 16).find? (s.winCovers (q.addr 0) (q.w 2) (q.w 3 == 1)) = some 15 := by decide
theorem wit_sysWindowOpen_new :
    let s := serve 9 [0x10001000, 0, 4096, 1] windowed
    let q := s.request 0
    s.serving 9 q ∧ baseOk (q.addr 0) = true ∧ pow2In (q.w 2) 12 36 = true ∧ q.w 3 < 2 ∧
    (List.range 16).find? (s.winCovers (q.addr 0) (q.w 2) (q.w 3 == 1)) = none ∧
    (List.range 16).find? (fun k => !s.on PCI_WIN_CTRL_EN k) = some 0 ∧ s.rangeAllowed (q.addr 0) (q.w 2) = true := by decide
theorem wit_sysWindowClose :
  let s := serve 10 [15] windowed
  let q := s.request 0
  s.serving 0x000A q ∧ firstBad ([(0, decide (q.w 0 ≤ 15))]) = none ∧ (s.on PCI_WIN_CTRL_EN (q.w 0) = true ∧ s.ringInside (s.winBase (q.w 0)) (s.winSize (q.w 0)) = false) := by decide
theorem wit_sysWindowClose_bad :
  let s := serve 10 [16] windowed
  let q := s.request 0
  s.serving 0x000A q ∧ firstBad ([(0, decide (q.w 0 ≤ 15))]) ≠ none := by decide
theorem wit_scnRingSet :
    let s := serve 0x800 [15, 0x10000000, 0, 4096, 127] windowed
    let q := s.request 0
    s.serving 0x800 q ∧ q.w 0 < 16 ∧ baseOk (q.addr 1) = true ∧ pow2In (q.w 3) 12 28 = true ∧ 1 ≤ q.w 4 ∧
    q.w 4 + 1 ≤ q.w 3 / 32 ∧ s.pierState (q.w 0) ≤ psIdle ∧ (s.openWindow (q.addr 1) (q.w 3) 1 true).1 = .inl 15 := by decide
theorem wit_spanPatchRing :
    let s := serve 0x1002 [0x10000000, 0, 4096, 128] windowed
    let q := s.request 0
    s.serving 0x1002 q ∧ baseOk (q.addr 0) = true ∧ pow2In (q.w 2) 12 24 = true ∧ 1 ≤ q.w 3 ∧
    q.w 3 ≤ q.w 2 / 32 ∧ (s.openWindow (q.addr 0) (q.w 2) 2 true).1 = .inl 15 := by decide

theorem wit_jobOpen_refused :
    let s := serve 0x400 [77, 0, 0, 64] prep
    let t := serve 0x400 [77, 0x10000000, 0, 63] prep
    let u := serve 0x400 [77, 0x10000000, 0, 64] { prep with job := { st := 1 } }
    s.serving 0x0400 (s.request 0) ∧ s.rangeAllowed ((s.request 0).addr 1) 64 = false ∧
    t.serving 0x0400 (t.request 0) ∧ t.rangeAllowed ((t.request 0).addr 1) 63 = true ∧ (t.request 0).w 3 < 64 ∧
    u.serving 0x0400 (u.request 0) ∧ u.rangeAllowed ((u.request 0).addr 1) 64 = true ∧ u.job.st ≠ 0 := by decide
theorem wit_jobOpen_unread :
    let s := serve 0x400 [78, 0x10000000, 0, 64] (prep.put DMC_STATUS_READY 1)
    s.serving 0x0400 (s.request 0) ∧ s.rangeAllowed 0x10000000 64 = true ∧ s.job.st = 0 ∧ (List.range 24).any s.jobImage = false ∧
    ((s.jobCheck ((s.request 0).addr 1) 64 (some 78)).2.map Manifest.id) = none := by decide
theorem wit_jobOpen_period :
    let s := serve 0x400 [77, 0x10000000, 0, 64] ((prep.put DMC_STATUS_READY 1).put KEY_CTRL_PERIOD 1)
    s.serving 0x0400 (s.request 0) ∧ ((s.jobCheck ((s.request 0).addr 1) 64 (some 77)).2.map Manifest.period) = some 0 ∧
    s.get KEY_CTRL_PERIOD ≠ 0 := by decide
theorem wit_jobStart_refused :
    let s := serve 0x401 [5] { prep with job := { st := 1 } }
    s.serving 0x0401 (s.request 0) ∧ (s.request 0).w 0 < 2 ^ 20 ∧ s.mode = 3 ∧ s.job.st = 1 ∧ s.modeRefused 4 false = true ∧
    prep.job.st ≠ 1 := by decide
theorem wit_jobStop_now :
    let s := serve 0x403 [1] { prep with job := { st := 2, piers := 0x8001 } }
    let t := serve 0x403 [0] { prep with job := { st := 2, piers := 0x8001 } }
    s.serving 0x0403 (s.request 0) ∧ s.noPlace = false ∧ s.job.st = 2 ∧ (s.request 0).w 0 = 1 ∧
    t.serving 0x0403 (t.request 0) ∧ (∀ p, p ∈ piersOf t.job.piers → t.pierState p ≤ psIdle) ∧ prep.job.st ≠ 2 := by decide
theorem wit_jobStop_noPlace :
    let s := serve 0x403 [0] { prep with mbx := { prep.mbx with actions := (List.range 16).map (fun k => { tag := k, op := 0x3003 }) } }
    s.serving 0x0403 (s.request 0) ∧ (s.request 0).w 0 ≤ 1 ∧ s.noPlace = true := by decide
theorem wit_jobClose_refused :
    let s := serve 0x404 [] { prep with job := { st := 2 } }
    s.serving 0x0404 (s.request 0) ∧ s.mbx.staged.testBit 7 = false ∧ s.job.st = 2 ∧ (allStaged s).mbx.staged.testBit 7 = true ∧
    (allStaged s).serving 0x0404 ((allStaged s).request 0) := by decide
theorem wit_sysWindowOpen_refused :
    let s := serve 9 [0x1000, 0, 4096, 1] windowed
    let q := s.request 0
    s.serving 9 q ∧ baseOk (q.addr 0) = true ∧ pow2In (q.w 2) 12 36 = true ∧ q.w 3 < 2 ∧
    (List.range 16).find? (s.winCovers (q.addr 0) (q.w 2) (q.w 3 == 1)) = none ∧ s.rangeAllowed (q.addr 0) (q.w 2) = false := by decide
theorem wit_sysWindowClose_refused :
    let s := serve 10 [0] windowed
    s.serving 10 (s.request 0) ∧ (s.request 0).w 0 ≤ 15 ∧ s.on PCI_WIN_CTRL_EN 0 = false := by decide
theorem wit_scnRingSet_refused :
    let s := serve 0x800 [15, 0x10000000, 0, 4096, 127] (windowed.setPierState 15 psRun)
    let t := serve 0x800 [15, 0x1000, 0, 4096, 127] windowed
    let u := serve 0x800 [16, 0x1000, 0, 4096, 127] windowed
    s.serving 0x800 (s.request 0) ∧ psIdle < s.pierState 15 ∧ t.serving 0x800 (t.request 0) ∧ t.pierState 15 ≤ psIdle ∧
    (t.openWindow 0x1000 4096 1 true).1 = .inr stDenied ∧ u.serving 0x800 (u.request 0) ∧ 16 ≤ (u.request 0).w 0 := by decide
theorem wit_spanPatchRing_refused :
    let t := serve 0x1002 [0x1000, 0, 4096, 128] windowed
    let u := serve 0x1002 [0x1000, 0, 4096, 129] windowed
    t.serving 0x1002 (t.request 0) ∧ (t.openWindow 0x1000 4096 2 true).1 = .inr stDenied ∧ (t.request 0).w 3 ≤ (t.request 0).w 2 / 32 ∧
    u.serving 0x1002 (u.request 0) ∧ (u.request 0).w 2 / 32 < (u.request 0).w 3 := by decide

theorem wit_scnRingStatus :
  let s := serve 0x801 [15] idle
  let q := s.request 0
  s.serving 0x0801 q ∧ firstBad ([(0, decide (q.w 0 < 16))]) = none := by decide
theorem wit_scnRingStatus_bad :
  let s := serve 0x801 [16] idle
  let q := s.request 0
  s.serving 0x0801 q ∧ firstBad ([(0, decide (q.w 0 < 16))]) ≠ none := by decide
theorem wit_scnLimitsRead :
  let s := serve 0x806 [15] idle
  let q := s.request 0
  s.serving 0x0806 q ∧ firstBad ([(0, decide (q.w 0 < 16))]) = none := by decide
theorem wit_scnLimitsRead_bad :
  let s := serve 0x806 [16] idle
  let q := s.request 0
  s.serving 0x0806 q ∧ firstBad ([(0, decide (q.w 0 < 16))]) ≠ none := by decide
theorem wit_scnLimitsSet :
  let s := serve 0x804 [0xFFFF, 20000000, 1, 4000000000, 1000000] idle
  let q := s.request 0
  s.serving 0x0804 q ∧ firstBad ([(0, decide (0 < q.w 0 ∧ q.w 0 < 65536)), (1, decide (1 ≤ q.w 1 ∧ q.w 1 ≤ 20000000)), (2, decide (1 ≤ q.w 2 ∧ q.w 2 ≤ 1000000)), (3, decide (1 ≤ q.w 3 ∧ q.w 3 ≤ 4000000000)), (4, decide (1 ≤ q.w 4 ∧ q.w 4 ≤ 1000000))]) = none ∧ q.defer = false ∧ s.mbx.staged &&& 2 = 0 := by decide
theorem wit_scnLimitsSet_defer :
  let s := deferred (serve 0x804 [0xFFFF, 20000000, 1, 4000000000, 1000000] idle)
  let q := s.request 0
  s.serving 0x0804 q ∧ firstBad ([(0, decide (0 < q.w 0 ∧ q.w 0 < 65536)), (1, decide (1 ≤ q.w 1 ∧ q.w 1 ≤ 20000000)), (2, decide (1 ≤ q.w 2 ∧ q.w 2 ≤ 1000000)), (3, decide (1 ≤ q.w 3 ∧ q.w 3 ≤ 4000000000)), (4, decide (1 ≤ q.w 4 ∧ q.w 4 ≤ 1000000))]) = none ∧ q.defer = true := by decide
theorem wit_scnLimitsSet_staged :
  let s := allStaged (serve 0x804 [0xFFFF, 20000000, 1, 4000000000, 1000000] idle)
  let q := s.request 0
  s.serving 0x0804 q ∧ firstBad ([(0, decide (0 < q.w 0 ∧ q.w 0 < 65536)), (1, decide (1 ≤ q.w 1 ∧ q.w 1 ≤ 20000000)), (2, decide (1 ≤ q.w 2 ∧ q.w 2 ≤ 1000000)), (3, decide (1 ≤ q.w 3 ∧ q.w 3 ≤ 4000000000)), (4, decide (1 ≤ q.w 4 ∧ q.w 4 ≤ 1000000))]) = none ∧ q.defer = false ∧ s.mbx.staged &&& 2 ≠ 0 := by decide
theorem wit_scnLimitsSet_bad :
  let s := serve 0x804 [1, 1, 1, 0, 1] idle
  let q := s.request 0
  s.serving 0x0804 q ∧ firstBad ([(0, decide (0 < q.w 0 ∧ q.w 0 < 65536)), (1, decide (1 ≤ q.w 1 ∧ q.w 1 ≤ 20000000)), (2, decide (1 ≤ q.w 2 ∧ q.w 2 ≤ 1000000)), (3, decide (1 ≤ q.w 3 ∧ q.w 3 ≤ 4000000000)), (4, decide (1 ≤ q.w 4 ∧ q.w 4 ≤ 1000000))]) ≠ none := by decide
theorem wit_scnBarrierSet :
  let s := serve 0x805 [1] idle
  let q := s.request 0
  s.serving 0x0805 q ∧ firstBad ([(0, q.w 0 != 0)]) = none ∧ q.defer = false ∧ s.mbx.staged &&& 2 = 0 := by decide
theorem wit_scnBarrierSet_defer :
  let s := deferred (serve 0x805 [1] idle)
  let q := s.request 0
  s.serving 0x0805 q ∧ firstBad ([(0, q.w 0 != 0)]) = none ∧ q.defer = true := by decide
theorem wit_scnBarrierSet_staged :
  let s := allStaged (serve 0x805 [1] idle)
  let q := s.request 0
  s.serving 0x0805 q ∧ firstBad ([(0, q.w 0 != 0)]) = none ∧ q.defer = false ∧ s.mbx.staged &&& 2 ≠ 0 := by decide
theorem wit_scnBarrierSet_bad :
  let s := serve 0x805 [0] idle
  let q := s.request 0
  s.serving 0x0805 q ∧ firstBad ([(0, q.w 0 != 0)]) ≠ none := by decide
theorem wit_scnProfileLoad :
    let s := serve 0x802 [0x8001, 255, 0x10000000, 0] (prep.put DMC_STATUS_READY 1)
    let q := s.request 0
    s.serving 0x802 q ∧ 0 < q.w 0 ∧ q.w 0 < 65536 ∧ q.w 1 < 256 ∧
    s.rangeAllowed (q.addr 2) 128 = true ∧ (s.fwRead (q.addr 2) 128).1 = .ok := by decide
theorem wit_scnProfileLoad_denied : let s := serve 0x802 [1, 0, 0xFFFFFFF, 0] prep
    s.serving 0x802 (s.request 0) ∧ s.rangeAllowed ((s.request 0).addr 2) 128 = false := by decide
theorem wit_scnProfileLoad_mask : let s := serve 0x802 [65536, 255, 0x10000000, 0] prep
    s.serving 0x802 (s.request 0) ∧ s.rangeAllowed ((s.request 0).addr 2) 128 = true ∧ 65536 ≤ (s.request 0).w 0 := by decide
theorem wit_scnProfileLoad_index : let s := serve 0x802 [1, 256, 0x10000000, 0] prep
    s.serving 0x802 (s.request 0) ∧ s.rangeAllowed ((s.request 0).addr 2) 128 = true ∧ 0 < (s.request 0).w 0 ∧
    256 ≤ (s.request 0).w 1 := by decide
theorem wit_scnProfileLoad_fails : let s := serve 0x802 [1, 0, 0x10000000, 0] (prep.put DMC_STATUS_READY 0)
    s.serving 0x802 (s.request 0) ∧ s.rangeAllowed ((s.request 0).addr 2) 128 = true ∧
    (s.fwRead ((s.request 0).addr 2) 128).1 ≠ .ok := by decide
theorem wit_scnDigest :
  let s := serve 0x803 [15, 0xFFFFF] idle
  let q := s.request 0
  s.serving 0x0803 q ∧ firstBad ([(0, decide (q.w 0 < 16)), (1, decide (q.w 1 < 2 ^ 20))]) = none ∧ (s.findDigest (q.w 0) (q.w 1) = none) := by decide
theorem wit_scnDigest_bad :
  let s := serve 0x803 [15, 0x100000] idle
  let q := s.request 0
  s.serving 0x0803 q ∧ firstBad ([(0, decide (q.w 0 < 16)), (1, decide (q.w 1 < 2 ^ 20))]) ≠ none := by decide
theorem wit_scnDigest_found :
    let r : Rec := { seq := 9, code := 0x901, payload := [15#8, 1#8] }
    let s := serve 0x803 [15, 1] { idle with flu := { idle.flu with ring := [r] } }
    s.serving 0x803 (s.request 0) ∧ s.findDigest 15 1 = some r := by decide

theorem wit_pierCommands_wr : let s := State.reset
    ((128#32).toNat + 2 ^ 32 - s.get SCN_RING_WR_WR 15) % 2 ^ 32 ≠ 0 ∧
    ((128#32).toNat + 2 ^ 32 - s.get SCN_RING_WR_WR 15) % 2 ^ 32 ≤ s.ringSlots 15 - s.ringFill 15 ∧
    s.ringSlots 15 - s.ringFill 15 < ((129#32).toNat + 2 ^ 32 - s.get SCN_RING_WR_WR 15) % 2 ^ 32 := by decide
theorem wit_pierCommands_wrSame : (0#32).toNat = State.reset.get SCN_RING_WR_WR 0 := by decide
theorem wit_pierCommands_fetch : let s := (pierIn 15 psIdle []).put SCN_RING_WR_WR 9 15
    s.fetchRuns 15 = true ∧ (s.pier 15).reads.length < 4 ∧
    0 < min (s.ringFill 15 - 0) (min (8 - (s.get SCN_RING_RD_RD 15 + 0) % 2 ^ 32 % 8) (512 - (s.pier 15).fifo.length - 0)) := by decide
theorem wit_pierCommands_noFetch : State.reset.fetchRuns 15 = false ∧ (State.reset.pier 15).reads = [] := by decide
theorem wit_pierCommands_fetched : let s := (pierIn 15 psIdle []).put DMC_STATUS_READY 1
    let s := s.setPier 15 { s.pier 15 with reads := [(0, 1, 0x10000000)] }
    s.fetchRuns 15 = true ∧ ((s.setPier 15 { s.pier 15 with reads := [] }).dramRead 2 0x10000000 32).1 = .ok := by decide
theorem wit_pierCommands_fetchFails : let s := pierIn 15 psIdle []
    let s := s.setPier 15 { s.pier 15 with reads := [(0, 1, 0x900000000000)] }
    s.fetchRuns 15 = true ∧ ((s.setPier 15 { s.pier 15 with reads := [] }).dramRead 2 0x900000000000 32).1 ≠ .ok := by decide
theorem wit_pierCommands_dropped : let s := (pierIn 15 psOff [])
    let s := s.setPier 15 { s.pier 15 with reads := [(0, 1, 0x10000000)] }
    (s.pier 15).reads ≠ [] ∧ s.fetchRuns 15 = false := by decide
theorem wit_pierCommands_start : (pierIn 15 psIdle []).pierState 15 = psIdle ∧ (pierIn 15 psRun []).pierState 15 = psRun ∧
    (pierIn 0 psSync []).pierState 0 = psSync ∧ (pierIn 0 psFault []).pierState 0 = psFault := by decide
theorem wit_pierCommands_resume : let s := pierIn 3 psHalt []
    s.pierState 3 = psHalt ∧ (s.pier 3).byStop = false ∧ (s.pier 3).atRest = true ∧ (s.pier 3).stop = 0 ∧ (s.pier 3).back = none := by
  decide
theorem wit_pierCommands_resumeBack : let s := pierIn 3 psHalt []
    let s := s.setPier 3 { s.pier 3 with back := some (100, 0, 0) }
    s.pierState 3 = psHalt ∧ (s.pier 3).byStop = false ∧ (s.pier 3).atRest = true ∧ (s.pier 3).stop = 0 ∧
    (s.pier 3).back = some (100, 0, 0) := by decide
theorem wit_pierCommands_resumeWaits : let s := pierIn 3 psHalt []
    let s := s.setPier 3 { s.pier 3 with stop := 2 }
    s.pierState 3 = psHalt ∧ (s.pier 3).byStop = false ∧ (s.pier 3).stop ≠ 0 := by decide
theorem wit_pierCommands_stopped : let s := pierIn 3 psHalt []
    let s := s.setPier 3 { s.pier 3 with byStop := true }
    s.pierState 3 = psHalt ∧ (s.pier 3).byStop = true ∧ (pierIn 3 psRun []).pierState 3 = psRun ∧
    (pierIn 3 psHalt []).pierState 3 ≠ psSync := by decide
theorem wit_pierCommands_layer : let s := layerWaiting
    s.scn.go = [0] ∧ 0 < s.key.tick ∧ s.layerReady = true ∧ (s.setPierState 3 psRun).layerReady = false ∧
    (∀ n, n ∈ State.reset.scn.go → State.reset.key.tick ≤ n) := by decide
theorem wit_pierCommands_digest : let s := (idle.put FLU_STATUS_READY 1).put SCN_DIG_STATUS_VALID 1 15
    s.on SCN_DIG_STATUS_VALID 15 = true ∧ s.on SCN_DIG_STATUS_TAKEN 15 = false ∧ s.fluTakes 6 ∧
    s.flu.ring.length + 6 ≤ fluRingCap ∧ State.reset.on SCN_DIG_STATUS_VALID 15 = false := by decide

theorem wit_descNop : taken 0 (desc 0 0 0 0 0 0 0) = true := by decide
theorem wit_descJump_still : taken 1 (desc 1 0 0 0 1 0 0) = true := by decide
theorem wit_descMark : let d := desc 2 0 0 0 1 0x10000 0
    taken 2 d = true ∧ (runs d).skyShort 3 d 0 0 0 = false ∧ ((runs d).pier 3).x = 0 ∧ ((runs d).pier 3).y = 0 ∧
    ((runs d).pier 3).z = 0 := by decide
theorem wit_descMark_sky : let d := desc 2 1000 0 0 5000000 0x10000 0 8
    taken 2 d = true ∧ (runs d).skyShort 3 d 0 0 0 = true := by decide +kernel
theorem wit_descArc : taken 3 (desc 3 1000 0 0 5000000 0xFFFF0000 0x1000000) = true := by decide +kernel
theorem wit_descDwell : taken 4 (desc 4 0 0 0 0 0x10000 3) = true := by decide
theorem wit_descLoadLoop : taken 10 (desc 10 0 0 0 0 0 63) = true := by decide
theorem wit_descMarker : taken 11 (desc 11 0 0 0 0 0 7) = true ∧ dRecord (desc 11 0 0 0 0 0 7) = false ∧
    taken 11 (desc 11 0 0 0 0 0 7 1) = true ∧ dRecord (desc 11 0 0 0 0 0 7 1) = true := by decide
theorem wit_descReject : let d := desc 1 0 0 0 0 0 0
    let s := runs d
    s.pierState 3 = psRun ∧ (s.pier 3).due = true ∧ (s.pier 3).fifo = d :: [] ∧ dType d = 1 ∧ s.descFault 3 d = some 1 := by decide
theorem wit_descNoPlan : let d := desc 3 0 0 0 1 0x10000 0x1000000
    let s := runs d
    s.pierState 3 = psRun ∧ (s.pier 3).due = true ∧ (s.pier 3).fifo = d :: [] ∧ dType d = 3 ∧ s.descFault 3 d = none ∧
    s.strokeOf 3 d = none := by decide +kernel
theorem wit_descNotDue : (pierIn 3 psIdle []).pierState 3 ≠ psRun ∧ (pierIn 3 psRun []).pierState 3 = psRun ∧
    ((pierIn 3 psRun []).pier 3).fifo = [] := by decide

theorem wit_descWaitTick : let d := desc 5 0 0 0 0 0 9
    taken 5 d = true ∧ (runs d).key.tick < ((runs d).get64 SCN_LAYER_TICK_LO_TICK_LO SCN_LAYER_TICK_HI_TICK_HI + dParam d) % 2 ^ 64 := by decide
theorem wit_descWaitTick_late : let d := desc 5 0 0 0 0 0 0
    taken 5 d = true ∧ ((runs d).get64 SCN_LAYER_TICK_LO_TICK_LO SCN_LAYER_TICK_HI_TICK_HI + dParam d) % 2 ^ 64 ≤ (runs d).key.tick := by
  decide
theorem wit_descBarrier : taken 6 (desc 6 0 0 0 0 0 8) = true ∧ (runs (desc 6 0 0 0 0 0 8)).scn.bars = [] := by decide
theorem wit_descBarrier_first : let d := desc 6 0 0 0 0 0 9
    let s := (runs d).put SCN_CTRL_PIER_EN 9
    taken 6 d s = true ∧ s.scn.bars.find? (fun b => b.id == dParam d / 65536 && b.mask == dParam d % 65536) = none ∧
    s.scn.bars.any (fun b => (b.id != dParam d / 65536 || b.mask != dParam d % 65536) && (b.mask &&& (dParam d % 65536)) != 0) = false ∧
    2 ^ 3 &&& (dParam d % 65536) ≠ dParam d % 65536 := by decide
theorem wit_descBarrier_last : let d := desc 6 0 0 0 0 0 9
    let b : Barrier := ⟨0, 9, 0, 1, 4, false⟩
    let s := (runs d).put SCN_CTRL_PIER_EN 9
    let s := { s with scn := { s.scn with bars := [b] } }
    taken 6 d s = true ∧ s.scn.bars.find? (fun b => b.id == dParam d / 65536 && b.mask == dParam d % 65536) = some b ∧
    s.scn.bars.any (fun b => (b.id != dParam d / 65536 || b.mask != dParam d % 65536) && (b.mask &&& (dParam d % 65536)) != 0) = false ∧
    (b.came ||| 2 ^ 3) &&& (dParam d % 65536) = dParam d % 65536 := by decide
theorem wit_descStitchOut : let d := desc 7 1000 0 0 5000000 0x10000 0
    taken 7 d = true ∧ (runs d).skyShort 3 d 0 0 0 = false ∧ Tab.find (runs d).spn.table (dAux d % 1024) = none := by decide +kernel
theorem wit_descStitchIn : let d := desc 8 1000 0 0 5000000 0x10FFF 255
    taken 8 d = false ∧ taken 8 (desc 8 1000 0 0 5000000 0x13BFF 255) = true ∧
    (runs (desc 8 1000 0 0 5000000 0x13BFF 255)).skyShort 3 (desc 8 1000 0 0 5000000 0x13BFF 255) 0 0 0 = false ∧
    Tab.find (runs d).spn.table 1023 = none := by decide +kernel
theorem wit_descStitch_refused : let d := desc 7 1000 0 0 5000000 0x10000 0
    taken 7 d (paired d false 1) = true ∧ (∃ e, Tab.find (paired d false 1).spn.table (dAux d % 1024) = some e ∧ e.inside = false) ∧
    taken 8 (desc 8 1000 0 0 5000000 0x10000 0) (paired (desc 8 1000 0 0 5000000 0x10000 0) false 2) = true := by
  refine ⟨?_, ⟨_, rfl, rfl⟩, ?_⟩ <;> decide +kernel
theorem wit_descStitch_geometry : let d := desc 7 1000 0 0 5000000 0x10000 0
    taken 7 d (paired d true 1) = true ∧ (∃ e, Tab.find (paired d true 1).spn.table (dAux d % 1024) = some e ∧ e.state ≠ 2 ∧ e.state ≠ 5 ∧
      e.pier = dAux d / 1024 % 16 ∧ e.partner = 3 ∧ e.inside = !false ∧ e.geo ≠ [0, 0, 0, 1000, 0, 0, 5000000, 0, 0,
        ((paired d true 1).get SCN_LIM_AM_A 3 : Int)]) := by
  refine ⟨?_, ⟨_, rfl, ?_⟩⟩ <;> decide +kernel
theorem wit_descLayerEnd : taken 9 (desc 9 0 0 0 0 0 0) = true ∧ (runs (desc 9 0 0 0 0 0 0)).job.st ≠ 2 ∧
    (runs (desc 9 0 0 0 0 0 0)).job.st ≠ 3 := by decide
theorem wit_descEnd : taken 15 (desc 15 0 0 0 0 0 0) = true := by decide
theorem wit_waitTickExpire : let s := pierIn 3 psSync []
    let s := s.setPier 3 { s.pier 3 with waitTo := some 0 }
    (s.pier 3).waitTo = some 0 ∧ s.pierState 3 = psSync ∧ 0 ≤ s.key.tick ∧ (pierIn 3 psSync []).pierState 3 = psSync ∧
    ((pierIn 3 psSync []).pier 3).waitTo = none := by decide
theorem wit_barrierTimeout : let b : Barrier := ⟨7, 9, 0, 1, 0xFFFFFFFF, false⟩
    let s := { idle with scn := { idle.scn with bars := [b] } }
    s.scn.bars.find? (fun b => b.id == (7#16).toNat && b.mask == (9#16).toNat) = some b ∧ b.timed = false ∧
    s.get SCN_BARRIER_WAIT_WAIT ≤ b.ticks ∧ idle.scn.bars = [] := by decide

theorem wit_bankSwapRequest : let s := idle.put COR_BANK_READY 1 15
    s.on COR_BANK_READY 15 = true ∧ s.get COR_BANK_SWAP_PEND 15 = 0 ∧ s.on COR_BANK_READY 0 = false := by decide
theorem wit_gridSlotWrite : let s := idle.put COR_STATUS_INIT_DONE 1
    (0x1FC60B : Nat) % 0x10000 + [1#8].length ≤ gridBytes ∧ 0x1FC60B / 0x100000 = s.inactiveBank 15 ∧
    0x1FC60B % 0x100000 / 0x10000 = 15 ∧ s.on COR_STATUS_INIT_DONE = true ∧ 0 = s.get COR_BANK_ACTIVE 15 := by decide
theorem wit_gridCrc : idle.on COR_CRC_CTRL_BUSY = false ∧ (idle.put COR_CRC_CTRL_BUSY 1).on COR_CRC_CTRL_BUSY = true ∧
    idle.cor.crcDirty = false ∧ idle.on COR_STATUS_INIT_DONE = false ∧ (idle.put COR_STATUS_INIT_DONE 1).on COR_STATUS_INIT_DONE = true := by
  decide
theorem wit_gridCrc_dirty : let s := { idle.put COR_CRC_CTRL_BUSY 1 with cor := { idle.cor with crcDirty := true } }
    s.on COR_CRC_CTRL_BUSY = true ∧ s.cor.crcDirty = true := by decide
theorem wit_gridSlotWrite_out : gridBytes < 0xC60C % 0x10000 + [1#8].length ∧ (0xC60B : Nat) / 0x100000 ≠ idle.get COR_BANK_ACTIVE 0 + 1 ∧
    (0x10C60B : Nat) / 0x100000 ≠ idle.get COR_BANK_ACTIVE 0 ∧ idle.on COR_STATUS_INIT_DONE = false := by decide
theorem wit_corGridLoad :
    let s := gridLoads 15 0x10000000
    let q := s.request 0
    let u := s.gridRegs s.gridCh (q.addr 1) (s.inactiveBank (q.w 0)) (q.w 0)
    s.serving 0xC00 q ∧ s.rangeAllowed (q.addr 1) gridBytes = true ∧ q.w 0 < 16 ∧ s.get COR_BANK_SWAP_PEND (q.w 0) = 0 ∧
    (u.dmaRefusal s.gridCh (u.dmaXfer s.gridCh)).isSome = false ∧
    (State.burstsRead 1024 (0x20 + s.gridCh) (q.addr 1) gridBytes (u.dmaStart s.gridCh)).1 = none := by
  decide +kernel
theorem wit_corGridLoad_stopped :
    let s := gridLoads 15 0x10000000 (((prep.put DMC_STATUS_READY 1).put COR_STATUS_INIT_DONE 1).put DMC_PAR_FATAL 1 (dramChannel 0x10000000))
    let q := s.request 0
    let u := s.gridRegs s.gridCh (q.addr 1) (s.inactiveBank (q.w 0)) (q.w 0)
    s.serving 0xC00 q ∧ s.rangeAllowed (q.addr 1) gridBytes = true ∧ q.w 0 < 16 ∧ s.get COR_BANK_SWAP_PEND (q.w 0) = 0 ∧
    (u.dmaRefusal s.gridCh (u.dmaXfer s.gridCh)).isSome = false ∧
    (State.burstsRead 1024 (0x20 + s.gridCh) (q.addr 1) gridBytes (u.dmaStart s.gridCh)).1 = some (.target, 0x10000000) := by
  decide +kernel
theorem wit_corGridLoad_refused :
    let s := gridLoads 15 0x10000000 ((prep.put COR_STATUS_INIT_DONE 1).put DMA_STATUS_HALTED 1)
    let q := s.request 0
    let u := s.gridRegs s.gridCh (q.addr 1) (s.inactiveBank (q.w 0)) (q.w 0)
    s.serving 0xC00 q ∧ s.rangeAllowed (q.addr 1) gridBytes = true ∧ q.w 0 < 16 ∧ s.get COR_BANK_SWAP_PEND (q.w 0) = 0 ∧
    (u.dmaRefusal s.gridCh (u.dmaXfer s.gridCh)).isSome = true := by decide
theorem wit_corGridLoad_others :
    (gridLoads 0 0).serving 0xC00 ((gridLoads 0 0).request 0) ∧
    (gridLoads 0 0).rangeAllowed (((gridLoads 0 0).request 0).addr 1) gridBytes = false ∧
    (gridLoads 16 0x10000000).rangeAllowed (((gridLoads 16 0x10000000).request 0).addr 1) gridBytes = true ∧
    16 ≤ ((gridLoads 16 0x10000000).request 0).w 0 ∧
    (gridLoads 0 0x10000000 (prep.put COR_BANK_SWAP_PEND 1)).get COR_BANK_SWAP_PEND 0 ≠ 0 := by decide
theorem wit_corFieldSet :
  let s := serve 0xC01 [15, 0, 0, 6400000, 6400000] idle
  let q := s.request 0
  s.serving 0x0C01 q ∧ firstBad ([(0, decide (q.w 0 < 16)), (3, (pitchOf (q.sw 1) (q.sw 3)).isSome), (4, (pitchOf (q.sw 2) (q.sw 4)).isSome)]) = none ∧ q.defer = false ∧ s.mbx.staged &&& 4 = 0 := by decide
theorem wit_corFieldSet_defer :
  let s := deferred (serve 0xC01 [15, 0, 0, 6400000, 6400000] idle)
  let q := s.request 0
  s.serving 0x0C01 q ∧ firstBad ([(0, decide (q.w 0 < 16)), (3, (pitchOf (q.sw 1) (q.sw 3)).isSome), (4, (pitchOf (q.sw 2) (q.sw 4)).isSome)]) = none ∧ q.defer = true := by decide
theorem wit_corFieldSet_staged :
  let s := allStaged (serve 0xC01 [15, 0, 0, 6400000, 6400000] idle)
  let q := s.request 0
  s.serving 0x0C01 q ∧ firstBad ([(0, decide (q.w 0 < 16)), (3, (pitchOf (q.sw 1) (q.sw 3)).isSome), (4, (pitchOf (q.sw 2) (q.sw 4)).isSome)]) = none ∧ q.defer = false ∧ s.mbx.staged &&& 4 ≠ 0 := by decide
theorem wit_corFieldSet_bad :
  let s := serve 0xC01 [15, 0, 0, 0, 6400000] idle
  let q := s.request 0
  s.serving 0x0C01 q ∧ firstBad ([(0, decide (q.w 0 < 16)), (3, (pitchOf (q.sw 1) (q.sw 3)).isSome), (4, (pitchOf (q.sw 2) (q.sw 4)).isSome)]) ≠ none := by decide
theorem wit_corSwap : let s := serve 0xC02 [0x8000, 1] (idle.put COR_BANK_READY 1 15)
    let q := s.request 0
    s.serving 0xC02 q ∧ firstBad [(0, decide (q.w 0 < 65536)), (1, decide (q.w 1 ≤ 1))] = none ∧
    (∀ p, p ∈ piersOf (q.w 0) → s.on COR_BANK_READY p = true) := by decide
theorem wit_corSwap_bad : let s := serve 0xC02 [65536, 0] idle
    let q := s.request 0
    s.serving 0xC02 q ∧ firstBad [(0, decide (q.w 0 < 65536)), (1, decide (q.w 1 ≤ 1))] ≠ none := by decide
theorem wit_corSwap_notReady : let s := serve 0xC02 [3, 1] (idle.put COR_BANK_READY 1 0)
    let q := s.request 0
    s.serving 0xC02 q ∧ q.w 0 < 65536 ∧ q.w 1 ≤ 1 ∧ (∃ p, p ∈ piersOf (q.w 0) ∧ s.on COR_BANK_READY p = false) := by
  refine ⟨?_, ?_, ?_, 1, ?_, ?_⟩ <;> decide
theorem wit_corStatus :
  let s := serve 0xC03 [15] idle
  let q := s.request 0
  s.serving 0x0C03 q ∧ firstBad ([(0, decide (q.w 0 < 16))]) = none := by decide
theorem wit_corStatus_bad :
  let s := serve 0xC03 [16] idle
  let q := s.request 0
  s.serving 0x0C03 q ∧ firstBad ([(0, decide (q.w 0 < 16))]) ≠ none := by decide
theorem wit_corParamSet :
  let s := serve 0xC04 [0xFFFF, 0xFFFFFFFF, 1] idle
  let q := s.request 0
  s.serving 0x0C04 q ∧ firstBad ([(0, decide (0 < q.w 0 ∧ q.w 0 < 65536)), (2, decide (q.w 2 ≤ 1))]) = none ∧ q.defer = false ∧ s.mbx.staged &&& 4 = 0 := by decide
theorem wit_corParamSet_defer :
  let s := deferred (serve 0xC04 [0xFFFF, 0xFFFFFFFF, 1] idle)
  let q := s.request 0
  s.serving 0x0C04 q ∧ firstBad ([(0, decide (0 < q.w 0 ∧ q.w 0 < 65536)), (2, decide (q.w 2 ≤ 1))]) = none ∧ q.defer = true := by decide
theorem wit_corParamSet_staged :
  let s := allStaged (serve 0xC04 [0xFFFF, 0xFFFFFFFF, 1] idle)
  let q := s.request 0
  s.serving 0x0C04 q ∧ firstBad ([(0, decide (0 < q.w 0 ∧ q.w 0 < 65536)), (2, decide (q.w 2 ≤ 1))]) = none ∧ q.defer = false ∧ s.mbx.staged &&& 4 ≠ 0 := by decide
theorem wit_corParamSet_bad :
  let s := serve 0xC04 [0, 0, 0] idle
  let q := s.request 0
  s.serving 0x0C04 q ∧ firstBad ([(0, decide (0 < q.w 0 ∧ q.w 0 < 65536)), (2, decide (q.w 2 ≤ 1))]) ≠ none := by decide

theorem wit_stitchSoloRelease : let e : Stitch := { state := 1, inside := false, pier := 3, partner := 14, tick := 0, left := 1, geo := [] }
    let m : Motion := { mkMotion (restPlan 0 0 0 1) [] 1 0 0 0 0 0 none with sid := 1023 }
    let s := { idle with spn := { idle.spn with table := [(1023, e)] }, key := { idle.key with tick := 1 } }
    let s := s.setPier 3 { s.pier 3 with stitch := some m }
    let s := s.setPierState 3 psSync
    Tab.find s.spn.table 1023 = some e ∧ e.state = 1 ∧ e.tick < s.key.tick ∧ e.left ≤ 1 ∧ s.mode ≠ 5 ∧ s.mode ≠ 7 ∧
    s.awaits 3 1023 = true ∧ s.pierState e.pier = psSync ∧ (s.pier e.pier).stitch = some m ∧ m.sid = 1023 ∧
    Tab.find s.spn.table 0 = none := by decide +kernel
theorem wit_patchRecordWrite : let s := (staging).put SPN_PATCH_THRESH_THRESH 2
    s.spn.staged = List.replicate 32 7#8 :: [] ∧ s.on SPN_PATCH_CTRL_EN = true ∧ (stagedWrite s).1 = .ok ∧
    (stagedWrite s).2.spn.unsig + 1 < ((stagedWrite s).2.incWrap SPN_PATCH_WR_WR).get SPN_PATCH_THRESH_THRESH := by decide
theorem wit_patchRecordWrite_irq : let s := (staging).put SPN_PATCH_THRESH_THRESH 1
    s.on SPN_PATCH_CTRL_EN = true ∧ (stagedWrite s).1 = .ok ∧
    ((stagedWrite s).2.incWrap SPN_PATCH_WR_WR).get SPN_PATCH_THRESH_THRESH ≤ (stagedWrite s).2.spn.unsig + 1 := by decide
theorem wit_patchRecordWrite_fails : let s := staging ((prep.put DMC_STATUS_READY 1).put DMC_PAR_FATAL 1 (dramChannel 0x10000000))
    s.on SPN_PATCH_CTRL_EN = true ∧ (stagedWrite s).1 = .target := by decide
theorem wit_patchRecordWrite_off : ((staging).put SPN_PATCH_CTRL_EN 0).spn.staged ≠ [] ∧
    ((staging).put SPN_PATCH_CTRL_EN 0).on SPN_PATCH_CTRL_EN = false ∧ idle.spn.staged = [] := by decide
theorem wit_patchEnWrite : idle.on SPN_PATCH_CTRL_EN = false ∧ (idle.set1 SPN_PATCH_CTRL_EN).on SPN_PATCH_CTRL_EN = true ∧
    { idle with spn := { idle.spn with unsig := 1 } }.spn.unsig ≠ 0 ∧ idle.spn.unsig = 0 := by decide
theorem wit_spanMatrixSet :
  let s := serve 0x1000 (List.replicate 64 0) idle
  let q := s.request 0
  s.serving 0x1000 q ∧ firstBad (matrixBad q) = none ∧ q.defer = false ∧ s.mbx.staged &&& 8 = 0 := by decide +kernel
theorem wit_spanMatrixSet_defer :
  let s := deferred (serve 0x1000 (List.replicate 64 0) idle)
  let q := s.request 0
  s.serving 0x1000 q ∧ firstBad (matrixBad q) = none ∧ q.defer = true := by decide +kernel
theorem wit_spanMatrixSet_staged :
  let s := allStaged (serve 0x1000 (List.replicate 64 0) idle)
  let q := s.request 0
  s.serving 0x1000 q ∧ firstBad (matrixBad q) = none ∧ q.defer = false ∧ s.mbx.staged &&& 8 ≠ 0 := by decide +kernel
theorem wit_spanMatrixSet_bad :
  let s := serve 0x1000 (1 :: List.replicate 63 0) idle
  let q := s.request 0
  s.serving 0x1000 q ∧ firstBad (matrixBad q) ≠ none := by decide +kernel
theorem wit_spanGasSet :
  let s := serve 0x1001 [32767, 0xFFFF8000] idle
  let q := s.request 0
  s.serving 0x1001 q ∧ firstBad ([(0, decide (-32768 ≤ q.sw 0 ∧ q.sw 0 ≤ 32767)), (1, decide (-32768 ≤ q.sw 1 ∧ q.sw 1 ≤ 32767)), (0, !(q.w 0 == 0 && q.w 1 == 0))]) = none ∧ q.defer = false ∧ s.mbx.staged &&& 8 = 0 := by decide
theorem wit_spanGasSet_defer :
  let s := deferred (serve 0x1001 [32767, 0xFFFF8000] idle)
  let q := s.request 0
  s.serving 0x1001 q ∧ firstBad ([(0, decide (-32768 ≤ q.sw 0 ∧ q.sw 0 ≤ 32767)), (1, decide (-32768 ≤ q.sw 1 ∧ q.sw 1 ≤ 32767)), (0, !(q.w 0 == 0 && q.w 1 == 0))]) = none ∧ q.defer = true := by decide
theorem wit_spanGasSet_staged :
  let s := allStaged (serve 0x1001 [32767, 0xFFFF8000] idle)
  let q := s.request 0
  s.serving 0x1001 q ∧ firstBad ([(0, decide (-32768 ≤ q.sw 0 ∧ q.sw 0 ≤ 32767)), (1, decide (-32768 ≤ q.sw 1 ∧ q.sw 1 ≤ 32767)), (0, !(q.w 0 == 0 && q.w 1 == 0))]) = none ∧ q.defer = false ∧ s.mbx.staged &&& 8 ≠ 0 := by decide
theorem wit_spanGasSet_bad :
  let s := serve 0x1001 [0, 0] idle
  let q := s.request 0
  s.serving 0x1001 q ∧ firstBad ([(0, decide (-32768 ≤ q.sw 0 ∧ q.sw 0 ≤ 32767)), (1, decide (-32768 ≤ q.sw 1 ∧ q.sw 1 ≤ 32767)), (0, !(q.w 0 == 0 && q.w 1 == 0))]) ≠ none := by decide
theorem wit_spanStitchSet :
  let s := serve 0x1003 [65535] idle
  let q := s.request 0
  s.serving 0x1003 q ∧ firstBad ([(0, decide (0 < q.w 0 ∧ q.w 0 < 65536))]) = none ∧ q.defer = false ∧ s.mbx.staged &&& 8 = 0 := by decide
theorem wit_spanStitchSet_defer :
  let s := deferred (serve 0x1003 [65535] idle)
  let q := s.request 0
  s.serving 0x1003 q ∧ firstBad ([(0, decide (0 < q.w 0 ∧ q.w 0 < 65536))]) = none ∧ q.defer = true := by decide
theorem wit_spanStitchSet_staged :
  let s := allStaged (serve 0x1003 [65535] idle)
  let q := s.request 0
  s.serving 0x1003 q ∧ firstBad ([(0, decide (0 < q.w 0 ∧ q.w 0 < 65536))]) = none ∧ q.defer = false ∧ s.mbx.staged &&& 8 ≠ 0 := by decide
theorem wit_spanStitchSet_bad :
  let s := serve 0x1003 [65536] idle
  let q := s.request 0
  s.serving 0x1003 q ∧ firstBad ([(0, decide (0 < q.w 0 ∧ q.w 0 < 65536))]) ≠ none := by decide
theorem wit_spanGuardSet :
  let s := serve 0x1005 [1] idle
  let q := s.request 0
  s.serving 0x1005 q ∧ firstBad ([(0, decide (q.w 0 ≤ 1))]) = none ∧ q.defer = false ∧ s.mbx.staged &&& 8 = 0 := by decide
theorem wit_spanGuardSet_defer :
  let s := deferred (serve 0x1005 [1] idle)
  let q := s.request 0
  s.serving 0x1005 q ∧ firstBad ([(0, decide (q.w 0 ≤ 1))]) = none ∧ q.defer = true := by decide
theorem wit_spanGuardSet_staged :
  let s := allStaged (serve 0x1005 [1] idle)
  let q := s.request 0
  s.serving 0x1005 q ∧ firstBad ([(0, decide (q.w 0 ≤ 1))]) = none ∧ q.defer = false ∧ s.mbx.staged &&& 8 ≠ 0 := by decide
theorem wit_spanGuardSet_bad :
  let s := serve 0x1005 [2] idle
  let q := s.request 0
  s.serving 0x1005 q ∧ firstBad ([(0, decide (q.w 0 ≤ 1))]) ≠ none := by decide
theorem wit_spanStatus :
  let s := serve 0x1004 [] idle
  let q := s.request 0
  s.serving 0x1004 q ∧ firstBad ([]) = none := by decide

theorem wit_uplinkFrame : let s := linkIn lsUp 1 { locked := true }
    let v := s.heard 15 (frameGroups []).tail
    let r := (v.link 15).rxRun (frameGroups (upFrame 9 0x8000))
    v.linkState 15 ≠ lsOff ∧ (v.link 15).locked = true ∧ (!(s.link 15).checked) = true ∧ r.lost = false ∧
    frameGood 13 (frameOf r.syms) = true := by decide +kernel
theorem wit_uplinkFrame_lost : let s := (linkIn lsUp 1 { locked := true }).heard 15 []
    s.linkState 15 = lsUp ∧    ((s.link 15).rxRun (List.replicate 4 badGroup)).lost = true ∧ ((s.link 15).rxRun (List.replicate 4 badGroup)).l.locked = false ∧
    (((linkIn lsUp 1 {}).heard 15 []).link 15).locked = false ∧ ((((linkIn lsUp 1 {}).heard 15 []).link 15).rxRun []).lost = false ∧
    ((linkIn lsSweep 1 { locked := true }).heard 15 []).linkState 15 ≠ lsUp ∧ (linkIn lsOff 1 {}).linkState 15 = lsOff := by decide +kernel
theorem wit_symbolLockLost : let s := linkIn lsUp 1 { locked := true, quiet := 2 }
    s.linkState 15 = lsUp ∧ ((s.link 15).rxRun []).lost = false ∧ ((s.link 15).rxRun []).l.locked = true ∧ 2 ≤ ((s.link 15).rxRun []).l.quiet ∧
    (linkIn lsAlign 1 { locked := true, quiet := 2 }).linkState 15 ≠ lsUp ∧ (linkIn lsUp 1 {}).linkState 15 ≠ lsOff := by decide
theorem wit_legacyUplinkFrame : let s := linkIn lsVerify 2 { locked := true, outst := true, exch := 30 }
    s.legacy 15 = true ∧ (s.link 15).locked = true ∧ (s.legacy 15 && (s.link 15).outst) = true ∧ (s.link 15).frame = none ∧
    s.linkState 15 = lsVerify ∧ (s.link 15).exch < 31 ∧ 31 ≤ ((linkIn lsVerify 2 { outst := true, exch := 31 }).link 15).exch := by decide
theorem wit_legacyExchange : let f := (upFrame 0 0x8000, 0)
    let s := linkIn lsVerify 2 { locked := true, outst := true, good := 7, frame := some f }
    s.legacy 15 = true ∧ (s.link 15).outst = true ∧ (s.link 15).frame = some f ∧ frameGood 4 f = true ∧
    (beNat (f.1.take 2)).testBit 12 = false ∧ s.linkState 15 = lsVerify ∧ 7 ≤ (s.link 15).good ∧
    (linkIn lsUp 2 { outst := true }).linkState 15 = lsUp ∧ (linkIn lsUp 2 { outst := true }).legacy 15 = true ∧
    (linkIn lsUp 2 { outst := true }).get PLK_STATE_CONSEC 15 < 2 ∧ (linkIn lsUp 1 {}).legacy 15 = false := by decide +kernel
theorem wit_ulDeadlineCheck : let f := (upFrame 9 0x8000, 0)
    let s := linkIn lsUp 1 { locked := true, frame := some f }
    (s.link 15).checked = false ∧ s.legacy 15 = false ∧ s.linkState 15 = lsUp ∧ (s.link 15).frame = some f ∧
    frameGood 13 f = true ∧ (beNat ((f.1.drop 9).take 2)).testBit 12 = false ∧
    (beNat (((upFrame 9 0x9000).drop 9).take 2)).testBit 12 = true ∧ frameGood 13 (upFrame 9 0x9000, 0) = true := by decide +kernel
theorem wit_ulDeadlineCheck_failed : let s := linkIn lsUp 1 {}
    (s.link 15).checked = false ∧ s.legacy 15 = false ∧ s.linkState 15 = lsUp ∧ (∀ f, (s.link 15).frame = some f → frameGood 13 f = false) ∧
    s.get PLK_STATE_CONSEC 15 < 2 ∧ 2 ≤ (s.put PLK_STATE_CONSEC 2 15).get PLK_STATE_CONSEC 15 ∧
    (linkIn lsAlign 1 { train := 52 }).linkState 15 = lsAlign ∧ ((linkIn lsAlign 1 { train := 52 }).link 15).train = 52 ∧
    (linkIn lsVerify 1 {}).linkState 15 = lsVerify ∧ ((linkIn lsVerify 1 { checked := true }).link 15).checked = true := by
  refine ⟨by decide, by decide, by decide, ?_, by decide, by decide, by decide, by decide, by decide, by decide⟩
  intro f h
  cases h
theorem wit_trainAdvance : let s := ((linkIn lsWake 1 { train := 16, k28 := true }).heard 15 [])
    s.legacy 15 = false ∧ s.linkState 15 = lsWake ∧ 16 ≤ (s.link 15).train ∧ (s.link 15).k28 = true ∧
    s.linkState 15 ≠ lsOff ∧ s.linkState 15 ≠ lsUp ∧ s.linkState 15 ≠ lsFailed ∧
    ((((linkIn lsWake 1 { train := 16 }).heard 15 [])).link 15).k28 = false ∧ (s.link 15).locked = false := by decide
theorem wit_trainAdvance_sweep : let s := ((linkIn lsSweep 1 { train := 48, taps := List.replicate 32 true }).heard 15 [])
    s.legacy 15 = false ∧ s.linkState 15 = lsSweep ∧ (s.put PLK_TRAIN_SWEEP 0 15).on PLK_TRAIN_SWEEP 15 = false ∧ (s.link 15).taps.any not = false ∧
    48 ≤ (s.link 15).train ∧ (s.put PLK_TRAIN_SWEEP 1 15).on PLK_TRAIN_SWEEP 15 = true ∧ 8 ≤ (eyeOf (s.link 15).taps).1 ∧
    (eyeOf ((((linkIn lsSweep 1 { train := 48, taps := [false] }).heard 15 [])).link 15).taps).1 < 8 ∧
    ((((linkIn lsSweep 1 { train := 48, taps := [false] }).heard 15 [])).link 15).taps.any not = true := by decide +kernel
theorem wit_trainAdvance_up : let s := ((linkIn lsVerify 1 { train := 64 }).heard 15 [])
    s.legacy 15 = false ∧ s.linkState 15 = lsVerify ∧ 64 ≤ (s.link 15).train ∧ (((linkIn lsAlign 1 { train := 56 }).heard 15 [])).linkState 15 = lsAlign ∧
    ((((linkIn lsUp 1 {}).heard 15 [])).link 15).train < 16 ∧ (((linkIn lsUp 1 {}).heard 15 [])).linkState 15 ≠ lsSweep := by decide
theorem wit_trainAdvance_legacy : let s := ((linkIn lsWake 2 { train := 16 }).heard 15 [])
    s.legacy 15 = true ∧ s.linkState 15 = lsWake ∧ 16 ≤ (s.link 15).train ∧ (((linkIn lsAlign 2 { k28 := true, locked := true }).heard 15 [])).linkState 15 = lsAlign ∧
    ((((linkIn lsAlign 2 { k28 := true, locked := true }).heard 15 [])).link 15).k28 = true ∧ ((((linkIn lsAlign 2 {}).heard 15 [])).link 15).k28 = false := by decide
theorem wit_trainStart : (linkIn lsUp 1 {}).linkState 15 = lsUp ∧ (linkIn lsUp 1 {}).get PLK_CTRL_MODE 15 ≠ 0 ∧
    idle.get PLK_CTRL_MODE 15 = 0 := by decide
theorem wit_plkModeWrite : idle.linkState 15 = lsOff ∧ (linkIn lsUp 1 {}).linkState 15 ≠ lsOff := by decide

theorem wit_statusInputAccept : idle.bit LSR_IN_A_READY 15 = false ∧ (idle.putBit LSR_IN_A_READY 15 true).bit LSR_IN_A_READY 15 = true ∧
    idle.bit LSR_IN_A_ALARM 15 = false ∧ (idle.fineTo 240).bit LSR_IN_A_READY 15 = false ∧ ((idle.putBit LSR_IN_A_READY 15 true).fineTo 240).bit LSR_IN_A_READY 15 = true ∧
    ((idle.set1 LSR_PERMIT_CH_B).fineTo 9).on LSR_PERMIT_CH_B = true ∧ (idle.putBit LSR_IN_A_ALARM 15 true).bit LSR_IN_A_ALARM 15 = true ∧
    (idle.putBit LSR_IN_B_GATE_PAD 15 true).bit LSR_IN_B_GATE_PAD 15 = true ∧ (idle.set1 LSR_PERMIT_PERMIT).permit = true ∧ idle.bit LSR_IN_B_GATE_PAD 15 = false ∧ (idle.set1 LSR_PERMIT_CH_B).on LSR_PERMIT_CH_B = true := by
  decide
theorem wit_permitDiscrepancy : let s := idle.set1 LSR_PERMIT_CH_B
    s.get LSR_PERMIT_CH_A ≠ s.get LSR_PERMIT_CH_B ∧ s.on LSR_PERMIT_DISCREP = false ∧ idle.on LSR_PERMIT_CH_A = false ∧
    idle.on LSR_PERMIT_CH_B = false := by decide
theorem wit_emaMissing : let s := (idle.set1 LSR_CTRL_EMA_CHECK 15).putBit LSR_IN_B_GATE_PAD 15 true
    s.on LSR_CTRL_EMA_CHECK 15 = true ∧ s.bit LSR_IN_B_GATE_PAD 15 = true ∧ s.get LSR_EMA_WIN_ON_MAX 15 ≤ 65535 ∧
    s.lsr.seen.testBit 15 = false ∧ s.lsr.missed.testBit 15 = false := by decide
theorem wit_uncmdEmission : let s := (idle.set1 LSR_CTRL_EMA_CHECK 15).putBit LSR_IN_B_EMA 15 true
    s.on LSR_CTRL_EMA_CHECK 15 = true ∧ s.bit LSR_IN_B_GATE_PAD 15 = false ∧ s.get LSR_EMA_WIN_OFF_MAX 15 ≤ 65535 ∧
    s.bit LSR_IN_B_EMA 15 = true ∧ s.lsr.uncmd.testBit 15 = false ∧ 2 ≤ s.mode ∧ idle.on LSR_CTRL_EMA_CHECK 15 = false := by decide
theorem wit_testFire : testReady.testOk 15 = true ∧ 10 ≤ (10#16).toNat ∧ idle.on LSR_TEST_BUSY 15 = false ∧ idle.testOk 15 = false ∧
    (idle.put LSR_TEST_BUSY 1 15).on LSR_TEST_BUSY 15 = true ∧ (9#16).toNat < 10 := by decide
theorem wit_testPulseEnd : Tab.get 0 ({ idle with lsr := { idle.lsr with test := [(15, 3)] } }).lsr.test 15 = 3 ∧ Tab.get 0 idle.lsr.test 15 ≠ 3 := by decide
theorem wit_lsrGateSet :
  let s := serve 0x1400 [15, 255, 1999, 1] idle
  let q := s.request 0
  s.serving 0x1400 q ∧ firstBad ([(0, decide (q.w 0 < 16)), (1, decide (q.w 1 < 256)), (2, decide (q.w 2 < 2000)), (3, decide (q.w 3 < 2))]) = none ∧ q.defer = false ∧ s.mbx.staged &&& 0x220 = 0 := by decide
theorem wit_lsrGateSet_defer :
  let s := deferred (serve 0x1400 [15, 255, 1999, 1] idle)
  let q := s.request 0
  s.serving 0x1400 q ∧ firstBad ([(0, decide (q.w 0 < 16)), (1, decide (q.w 1 < 256)), (2, decide (q.w 2 < 2000)), (3, decide (q.w 3 < 2))]) = none ∧ q.defer = true := by decide
theorem wit_lsrGateSet_staged :
  let s := allStaged (serve 0x1400 [15, 255, 1999, 1] idle)
  let q := s.request 0
  s.serving 0x1400 q ∧ firstBad ([(0, decide (q.w 0 < 16)), (1, decide (q.w 1 < 256)), (2, decide (q.w 2 < 2000)), (3, decide (q.w 3 < 2))]) = none ∧ q.defer = false ∧ s.mbx.staged &&& 0x220 ≠ 0 := by decide
theorem wit_lsrGateSet_bad :
  let s := serve 0x1400 [15, 255, 2000, 1] idle
  let q := s.request 0
  s.serving 0x1400 q ∧ firstBad ([(0, decide (q.w 0 < 16)), (1, decide (q.w 1 < 256)), (2, decide (q.w 2 < 2000)), (3, decide (q.w 3 < 2))]) ≠ none := by decide
theorem wit_lsrPowerLimit :
  let s := serve 0x1401 [0xFFFF, 0xFFFF] idle
  let q := s.request 0
  s.serving 0x1401 q ∧ firstBad ([(0, decide (0 < q.w 0 ∧ q.w 0 < 65536)), (1, decide (0 < q.w 1 ∧ q.w 1 < 65536))]) = none ∧ q.defer = false ∧ s.mbx.staged &&& 0x20 = 0 := by decide
theorem wit_lsrPowerLimit_defer :
  let s := deferred (serve 0x1401 [0xFFFF, 0xFFFF] idle)
  let q := s.request 0
  s.serving 0x1401 q ∧ firstBad ([(0, decide (0 < q.w 0 ∧ q.w 0 < 65536)), (1, decide (0 < q.w 1 ∧ q.w 1 < 65536))]) = none ∧ q.defer = true := by decide
theorem wit_lsrPowerLimit_staged :
  let s := allStaged (serve 0x1401 [0xFFFF, 0xFFFF] idle)
  let q := s.request 0
  s.serving 0x1401 q ∧ firstBad ([(0, decide (0 < q.w 0 ∧ q.w 0 < 65536)), (1, decide (0 < q.w 1 ∧ q.w 1 < 65536))]) = none ∧ q.defer = false ∧ s.mbx.staged &&& 0x20 ≠ 0 := by decide
theorem wit_lsrPowerLimit_bad :
  let s := serve 0x1401 [1, 0] idle
  let q := s.request 0
  s.serving 0x1401 q ∧ firstBad ([(0, decide (0 < q.w 0 ∧ q.w 0 < 65536)), (1, decide (0 < q.w 1 ∧ q.w 1 < 65536))]) ≠ none := by decide
theorem wit_lsrLaserCmd :
  let s := serve 0x1402 [15, 0xBF] idle
  let q := s.request 0
  s.serving 0x1402 q ∧ firstBad ([(0, decide (q.w 0 < 16)), (1, decide (q.w 1 < 256) && !(q.w 1).testBit 6)]) = none ∧ q.defer = false ∧ s.mbx.staged &&& 0x20 = 0 := by decide
theorem wit_lsrLaserCmd_defer :
  let s := deferred (serve 0x1402 [15, 0xBF] idle)
  let q := s.request 0
  s.serving 0x1402 q ∧ firstBad ([(0, decide (q.w 0 < 16)), (1, decide (q.w 1 < 256) && !(q.w 1).testBit 6)]) = none ∧ q.defer = true := by decide
theorem wit_lsrLaserCmd_staged :
  let s := allStaged (serve 0x1402 [15, 0xBF] idle)
  let q := s.request 0
  s.serving 0x1402 q ∧ firstBad ([(0, decide (q.w 0 < 16)), (1, decide (q.w 1 < 256) && !(q.w 1).testBit 6)]) = none ∧ q.defer = false ∧ s.mbx.staged &&& 0x20 ≠ 0 := by decide
theorem wit_lsrLaserCmd_bad :
  let s := serve 0x1402 [15, 0x40] idle
  let q := s.request 0
  s.serving 0x1402 q ∧ firstBad ([(0, decide (q.w 0 < 16)), (1, decide (q.w 1 < 256) && !(q.w 1).testBit 6)]) ≠ none := by decide
theorem wit_lsrEmaSet :
  let s := serve 0x1404 [0xFFFF, 1, 0xFFFF, 1] idle
  let q := s.request 0
  s.serving 0x1404 q ∧ firstBad ([(0, decide (0 < q.w 0 ∧ q.w 0 < 65536)), (1, decide (q.w 1 < 2)), (2, decide (0 < q.w 2 ∧ q.w 2 < 65536)), (3, decide (0 < q.w 3 ∧ q.w 3 < 65536))]) = none ∧ q.defer = false ∧ s.mbx.staged &&& 0x20 = 0 := by decide
theorem wit_lsrEmaSet_defer :
  let s := deferred (serve 0x1404 [0xFFFF, 1, 0xFFFF, 1] idle)
  let q := s.request 0
  s.serving 0x1404 q ∧ firstBad ([(0, decide (0 < q.w 0 ∧ q.w 0 < 65536)), (1, decide (q.w 1 < 2)), (2, decide (0 < q.w 2 ∧ q.w 2 < 65536)), (3, decide (0 < q.w 3 ∧ q.w 3 < 65536))]) = none ∧ q.defer = true := by decide
theorem wit_lsrEmaSet_staged :
  let s := allStaged (serve 0x1404 [0xFFFF, 1, 0xFFFF, 1] idle)
  let q := s.request 0
  s.serving 0x1404 q ∧ firstBad ([(0, decide (0 < q.w 0 ∧ q.w 0 < 65536)), (1, decide (q.w 1 < 2)), (2, decide (0 < q.w 2 ∧ q.w 2 < 65536)), (3, decide (0 < q.w 3 ∧ q.w 3 < 65536))]) = none ∧ q.defer = false ∧ s.mbx.staged &&& 0x20 ≠ 0 := by decide
theorem wit_lsrEmaSet_bad :
  let s := serve 0x1404 [0xFFFF, 2, 1, 1] idle
  let q := s.request 0
  s.serving 0x1404 q ∧ firstBad ([(0, decide (0 < q.w 0 ∧ q.w 0 < 65536)), (1, decide (q.w 1 < 2)), (2, decide (0 < q.w 2 ∧ q.w 2 < 65536)), (3, decide (0 < q.w 3 ∧ q.w 3 < 65536))]) ≠ none := by decide
theorem wit_lsrStatus :
  let s := serve 0x1403 [] idle
  let q := s.request 0
  s.serving 0x1403 q ∧ firstBad ([]) = none := by decide

theorem wit_offsetMeasStart : idle.on AFE_CAL_CTRL_BUSY = false ∧ (idle.set1 AFE_CAL_CTRL_BUSY).on AFE_CAL_CTRL_BUSY = true := by decide
theorem wit_offsetMeasDone : let s := { idle with afe := { idle.afe with calDue := true, calPier := 15 } }
    s.afe.calDue = true ∧ s.afe.calPier < 16 ∧ idle.afe.calDue = false := by decide
theorem wit_inputOpenDeclare : let s := idle.setAfeIn 31 { low := 64 }
    64 ≤ (s.afeIn 31).low ∧ s.on AFE_IN_STAT_OPEN 31 = false ∧ (idle.afeIn 31).low < 64 := by decide
theorem wit_hearth : let s := State.set1 { idle with afe := { idle.afe with bad := 4, good := 64, armed := true } } AFE_STATUS_HEARTH_OK
    4 ≤ s.afe.bad ∧ s.afe.armed = true ∧ s.on AFE_STATUS_HEARTH_OK = true ∧ 64 ≤ s.afe.good ∧ idle.on AFE_STATUS_HEARTH_OK = false ∧
    idle.afe.bad < 4 ∧ idle.afe.good < 64 ∧ idle.afe.armed = false := by decide
theorem wit_auxTimerStart : let s := idle.set1 AFE_AUX_CTRL_TIMER_EN
    let u := { s with afe := { s.afe with auxAt := some 0 } }
    s.on AFE_AUX_CTRL_TIMER_EN = true ∧ s.key.tick % (1000000 / s.periodNs) = 0 ∧ s.afe.auxTick ≠ s.key.tick + 1 ∧
    s.afe.auxAt = none ∧ u.afe.auxAt = some 0 ∧ u.key.frc < 0 + 1000000 ∧ idle.on AFE_AUX_CTRL_TIMER_EN = false := by decide

theorem wit_imgDataAccess : let s := idle.put LOP_IMG_SEL_IMAGE 62
    s.imageInForce (s.get LOP_IMG_SEL_IMAGE) = false ∧ s.get LOP_IMG_SEL_INDEX * 4 + s.get LOP_IMG_SEL_WORD < 192 ∧
    (idle.put LOP_IMG_SEL_IMAGE 63).imageInForce 63 = true ∧ (s.put LOP_IMG_SEL_INDEX 48).imageInForce 62 = false ∧
    192 ≤ (s.put LOP_IMG_SEL_INDEX 48).get LOP_IMG_SEL_INDEX * 4 + (s.put LOP_IMG_SEL_INDEX 48).get LOP_IMG_SEL_WORD := by decide
theorem wit_imgCheckDone_bad : let s := { idle with lop := { idle.lop with check := some (62, 1, 0) } }
    s.lop.check = some (62, 1, 0) ∧ (checkImage (s.program 62 1) 0 (s.imageInForce 62)).1 ≠ 0 ∧ idle.lop.check = none := by decide
theorem wit_imgCheckDone : let s := { idle with lop := { idle.lop with check := some (62, 2, 0), imgs := goodImage 62 } }
    s.lop.check = some (62, 2, 0) ∧ (checkImage (s.program 62 2) 0 (s.imageInForce 62)).1 = 0 := by decide
theorem wit_loopProgLoad_others : (serve 0x1800 [24, 1]).serving 0x1800 ((serve 0x1800 [24, 1]).request 0) ∧
    24 ≤ ((serve 0x1800 [24, 1]).request 0).w 0 ∧ ((serve 0x1800 [23, 0]).request 0).w 1 = 0 ∧
    (allStaged (serve 0x1800 [23, 1])).mbx.staged &&& 0x80 ≠ 0 ∧
    (serve 0x1800 [16, 1] ((idle.put LOP_SSTAT_IMAGE_IF 32 0).put LOP_SSTAT_IMAGE_IF 33 1)).imageInForce 33 = true := by decide
theorem wit_loopProgLoad_bad : let s := serve 0x1800 [15, 1, 0, 0, 0, 0] idle
    let q := s.request 0
    s.serving 0x1800 q ∧ s.imageInForce 30 = false ∧
    ((s.imageWrite 30 0 ((q.p.drop 2).take (4 * q.w 1))).imageCheck 30 (q.w 1) 0).1 ≠ 0 := by decide
theorem wit_slowPwm : 2 ≤ idle.mode ∧ idle.mode < 7 ∧ idle.on LOP_SCTRL_MODE 7 = false ∧ (idle.put SEC_STATUS_MODE 7).mode = 7 := by decide
theorem wit_loopProgLoad : let s := serve 0x1800 ([15, 2] ++ goodWords) idle
    let q := s.request 0
    s.serving 0x1800 q ∧ q.w 0 < 24 ∧ 1 ≤ q.w 1 ∧ q.w 1 ≤ 48 ∧ q.defer = false ∧ s.mbx.staged &&& 0x80 = 0 ∧
    s.imageInForce (2 * q.w 0) = false ∧
    ((s.imageWrite (2 * q.w 0) 0 ((q.p.drop 2).take (4 * q.w 1))).imageCheck (2 * q.w 0) (q.w 1) (if q.w 0 < 16 then 0 else 1)).1 = 0 := by decide
theorem wit_loopPlausSet :
  let s := serve 0x1801 [15, 0xFDFFFF, 65535, 65535, 1] idle
  let q := s.request 0
  s.serving 0x1801 q ∧ firstBad ([(0, decide (q.w 0 < 16)), (1, decide (q.w 1 < 2 ^ 24) && !(q.w 1).testBit 17), (2, decide (q.w 2 < 65536)), (3, decide (0 < q.w 3 ∧ q.w 3 < 65536)), (4, decide (q.w 4 < 2))]) = none ∧ q.defer = false ∧ s.mbx.staged &&& 0x80 = 0 := by decide
theorem wit_loopPlausSet_defer :
  let s := deferred (serve 0x1801 [15, 0xFDFFFF, 65535, 65535, 1] idle)
  let q := s.request 0
  s.serving 0x1801 q ∧ firstBad ([(0, decide (q.w 0 < 16)), (1, decide (q.w 1 < 2 ^ 24) && !(q.w 1).testBit 17), (2, decide (q.w 2 < 65536)), (3, decide (0 < q.w 3 ∧ q.w 3 < 65536)), (4, decide (q.w 4 < 2))]) = none ∧ q.defer = true := by decide
theorem wit_loopPlausSet_staged :
  let s := allStaged (serve 0x1801 [15, 0xFDFFFF, 65535, 65535, 1] idle)
  let q := s.request 0
  s.serving 0x1801 q ∧ firstBad ([(0, decide (q.w 0 < 16)), (1, decide (q.w 1 < 2 ^ 24) && !(q.w 1).testBit 17), (2, decide (q.w 2 < 65536)), (3, decide (0 < q.w 3 ∧ q.w 3 < 65536)), (4, decide (q.w 4 < 2))]) = none ∧ q.defer = false ∧ s.mbx.staged &&& 0x80 ≠ 0 := by decide
theorem wit_loopPlausSet_bad :
  let s := serve 0x1801 [15, 0x20000, 0, 1, 0] idle
  let q := s.request 0
  s.serving 0x1801 q ∧ firstBad ([(0, decide (q.w 0 < 16)), (1, decide (q.w 1 < 2 ^ 24) && !(q.w 1).testBit 17), (2, decide (q.w 2 < 65536)), (3, decide (0 < q.w 3 ∧ q.w 3 < 65536)), (4, decide (q.w 4 < 2))]) ≠ none := by decide
theorem wit_loopLoopMode :
  let s := serve 0x1802 [0xFFFFFF, 1] idle
  let q := s.request 0
  s.serving 0x1802 q ∧ firstBad ([(0, decide (0 < q.w 0 ∧ q.w 0 < 2 ^ 24)), (1, decide (q.w 1 < 2))]) = none ∧ q.defer = false ∧ s.mbx.staged &&& 0x80 = 0 := by decide
theorem wit_loopLoopMode_defer :
  let s := deferred (serve 0x1802 [0xFFFFFF, 1] idle)
  let q := s.request 0
  s.serving 0x1802 q ∧ firstBad ([(0, decide (0 < q.w 0 ∧ q.w 0 < 2 ^ 24)), (1, decide (q.w 1 < 2))]) = none ∧ q.defer = true := by decide
theorem wit_loopLoopMode_staged :
  let s := allStaged (serve 0x1802 [0xFFFFFF, 1] idle)
  let q := s.request 0
  s.serving 0x1802 q ∧ firstBad ([(0, decide (0 < q.w 0 ∧ q.w 0 < 2 ^ 24)), (1, decide (q.w 1 < 2))]) = none ∧ q.defer = false ∧ s.mbx.staged &&& 0x80 ≠ 0 := by decide
theorem wit_loopLoopMode_bad :
  let s := serve 0x1802 [0x1000000, 1] idle
  let q := s.request 0
  s.serving 0x1802 q ∧ firstBad ([(0, decide (0 < q.w 0 ∧ q.w 0 < 2 ^ 24)), (1, decide (q.w 1 < 2))]) ≠ none := by decide
theorem wit_loopStatus :
  let s := serve 0x1803 [15] idle
  let q := s.request 0
  s.serving 0x1803 q ∧ firstBad ([(0, decide (q.w 0 < 24))]) = none := by decide
theorem wit_loopStatus_bad :
  let s := serve 0x1803 [24] idle
  let q := s.request 0
  s.serving 0x1803 q ∧ firstBad ([(0, decide (q.w 0 < 24))]) ≠ none := by decide
theorem wit_loopInputSet :
  let s := serve 0x1804 [0x80000000, 6, 1] idle
  let q := s.request 0
  s.serving 0x1804 q ∧ firstBad ([(0, q.w 0 != 0), (1, decide (q.w 1 ≤ 6)), (2, decide (q.w 2 < 2))]) = none ∧ q.defer = false ∧ s.mbx.staged &&& 0x40 = 0 := by decide
theorem wit_loopInputSet_defer :
  let s := deferred (serve 0x1804 [0x80000000, 6, 1] idle)
  let q := s.request 0
  s.serving 0x1804 q ∧ firstBad ([(0, q.w 0 != 0), (1, decide (q.w 1 ≤ 6)), (2, decide (q.w 2 < 2))]) = none ∧ q.defer = true := by decide
theorem wit_loopInputSet_staged :
  let s := allStaged (serve 0x1804 [0x80000000, 6, 1] idle)
  let q := s.request 0
  s.serving 0x1804 q ∧ firstBad ([(0, q.w 0 != 0), (1, decide (q.w 1 ≤ 6)), (2, decide (q.w 2 < 2))]) = none ∧ q.defer = false ∧ s.mbx.staged &&& 0x40 ≠ 0 := by decide
theorem wit_loopInputSet_bad :
  let s := serve 0x1804 [1, 7, 1] idle
  let q := s.request 0
  s.serving 0x1804 q ∧ firstBad ([(0, q.w 0 != 0), (1, decide (q.w 1 ≤ 6)), (2, decide (q.w 2 < 2))]) ≠ none := by decide
theorem wit_loopAuxSet :
  let s := serve 0x1805 [255, 7, 3, 0x144] idle
  let q := s.request 0
  s.serving 0x1805 q ∧ firstBad ([(0, decide (q.w 0 < 256)), (1, decide (q.w 1 < 8)), (2, decide (q.w 2 < 4)), (3, decide (q.w 3 < 512) && !(q.w 3).testBit 3 && !(q.w 3).testBit 7 && decide (q.w 3 % 8 ≤ 4) && decide (q.w 3 / 16 % 8 ≤ 4))]) = none ∧ q.defer = false ∧ s.mbx.staged &&& 0x40 = 0 := by decide
theorem wit_loopAuxSet_defer :
  let s := deferred (serve 0x1805 [255, 7, 3, 0x144] idle)
  let q := s.request 0
  s.serving 0x1805 q ∧ firstBad ([(0, decide (q.w 0 < 256)), (1, decide (q.w 1 < 8)), (2, decide (q.w 2 < 4)), (3, decide (q.w 3 < 512) && !(q.w 3).testBit 3 && !(q.w 3).testBit 7 && decide (q.w 3 % 8 ≤ 4) && decide (q.w 3 / 16 % 8 ≤ 4))]) = none ∧ q.defer = true := by decide
theorem wit_loopAuxSet_staged :
  let s := allStaged (serve 0x1805 [255, 7, 3, 0x144] idle)
  let q := s.request 0
  s.serving 0x1805 q ∧ firstBad ([(0, decide (q.w 0 < 256)), (1, decide (q.w 1 < 8)), (2, decide (q.w 2 < 4)), (3, decide (q.w 3 < 512) && !(q.w 3).testBit 3 && !(q.w 3).testBit 7 && decide (q.w 3 % 8 ≤ 4) && decide (q.w 3 / 16 % 8 ≤ 4))]) = none ∧ q.defer = false ∧ s.mbx.staged &&& 0x40 ≠ 0 := by decide
theorem wit_loopAuxSet_bad :
  let s := serve 0x1805 [255, 7, 3, 0x145] idle
  let q := s.request 0
  s.serving 0x1805 q ∧ firstBad ([(0, decide (q.w 0 < 256)), (1, decide (q.w 1 < 8)), (2, decide (q.w 2 < 4)), (3, decide (q.w 3 < 512) && !(q.w 3).testBit 3 && !(q.w 3).testBit 7 && decide (q.w 3 % 8 ≤ 4) && decide (q.w 3 / 16 % 8 ≤ 4))]) ≠ none := by decide

theorem wit_csiFrameStart : let s := camReady
    s.on CAM_PORT_CTRL_EN 3 = true ∧ s.get CAM_CTX_PEND_PEND = 0 ∧ s.camTakers 3 15 = [31] ∧ s.camFill 3 < 393216 ∧
    (s.camCtx 31).opn = none ∧ camF (s.camWork 31) CAM_CTX8_TRIG = 31 ∧ (s.camCtx 31).evs = [] ∧ frameStep (s.camCtx 31).w (7#16).toNat = some 1 := by
  decide +kernel
theorem wit_csiFrameStart_forms : let s := camBoundTo []
    let e : CamEv := { set := {}, tick := 0, loc := [] }
    s.on CAM_PORT_CTRL_EN 3 = true ∧ s.camTakers 3 15 = [31] ∧ camF (s.camWork 31) CAM_CTX8_TRIG ≠ 31 ∧ (s.camCtx 31).evs = [] ∧
    frameStep (s.camCtx 31).w (7#16).toNat = none ∧ ((camBoundTo [e]).camCtx 31).evs = e :: [] ∧
    (camBoundTo [e]).key.tick ≤ e.tick + camF ((camBoundTo [e]).camWork 31) CAM_CTX8_TRIG_AGE ∧ idle.on CAM_PORT_CTRL_EN 3 = false := by decide +kernel
theorem wit_csi_fifo : let s := { camReady with cam := { (camHeld 393216 false).cam with ctx := [(31, { work := camCfg })],
                                                                                          elig := (camHeld 393216 false).camOpen } }
    s.camTakers 3 15 = [31] ∧ 393216 ≤ s.camFill 3 ∧ (s.camCtx 31).opn = none := by decide +kernel
theorem wit_csiLine_forms : 393216 < (camHeld 393216 false).camFill 3 + camBytes camCfg 2 ∧
    (∃ f, ((camHeld 0 true).camCtx 31).opn = some f ∧ f.drop = true ∧ f.c = 31) ∧ (camReady.camCtx 31).opn = none ∧
    ([1, 2, 3] : List Nat).length ≠ camF camCfg CAM_CTX1_FRAME_W ∧
    (camReady.camTakers 3 14).find? (fun c => camF (camReady.camWork c) CAM_CTX0_DT == (0x2A#6).toNat) = none ∧
    camReady.camTakers 3 14 = [] ∧ camReady.camIgnored 3 14 = false ∧ camReady.camTakers 0 0 = [] ∧ camReady.camIgnored 0 0 = true := by
  refine ⟨by decide +kernel, ⟨_, rfl, rfl, rfl⟩, ?_⟩
  decide +kernel
theorem wit_csiLine_crc : let cfg := camRec [(CAM_CTX0_PORT, 3), (CAM_CTX0_VC, 15), (CAM_CTX0_DT, 0x2A), (CAM_CTX0_CRC_DROP, 1), (CAM_CTX1_FRAME_W, 2)]
    camF cfg CAM_CTX0_CRC_DROP = 1 ∧ ([1, 2] : List Nat).length = camF cfg CAM_CTX1_FRAME_W := by decide +kernel
theorem wit_csiLine : let s := camOpened []
    s.on CAM_PORT_CTRL_EN 3 = true ∧ (s.camTakers 3 15).find? (fun c => camF (s.camWork c) CAM_CTX0_DT == (0x2A#6).toNat) = some 31 ∧
    (s.camCtx 31).opn = some (camFrame []) ∧ (camFrame []).drop = false ∧ s.camFill 3 + camBytes (camFrame []).cfg [1, 2].length ≤ 393216 ∧
    [1, 2].length = camF (camFrame []).cfg CAM_CTX1_FRAME_W := by decide +kernel
theorem wit_csiFrameEnd : let s := camOpened [[1, 2]]
    s.camTakers 3 15 = [31] ∧ (s.camCtx 31).opn = some (camFrame [[1, 2]]) ∧
    (camFrame [[1, 2]]).rows.length = camF (camFrame [[1, 2]]).cfg CAM_CTX1_FRAME_H ∧ camLarge (camFrame [[1, 2]]).cfg = false := by decide +kernel
theorem wit_csiFrameEnd_forms : let cfg := camRec [(CAM_CTX0_DT, 0x2A), (CAM_CTX1_FRAME_W, 4096), (CAM_CTX1_FRAME_H, 17)]
    camLarge cfg = true ∧ ([] : List (List Nat)).length ≠ camF camCfg CAM_CTX1_FRAME_H := by decide +kernel
theorem wit_csiOther : camReady.on CAM_PORT_CTRL_EN 3 = true ∧ (1 : Fin 3).val ≠ 2 ∧ (8#6).toNat = 8 ∧ (0x12#6).toNat = 0x12 ∧ camReady.camTakers 3 15 ≠ [] ∧
    (1#6).toNat < 2 ∧ 0x10 ≤ (0x3F#6).toNat := by decide +kernel
theorem wit_frameOpenTimeout : let s := camOpened [[1, 2]]
    (s.camCtx 31).opn = some (camFrame [[1, 2]]) ∧ (camFrame [[1, 2]]).drop = false ∧ (camFrame [[1, 2]]).c = 31 ∧
    (camReady.camCtx 31).opn = none := by decide +kernel
theorem wit_frameAdmit : let s := { camReady with cam := { camReady.cam with elig := [camFrame [[1, 2]]] } }
    s.cam.cur = none ∧ s.cam.elig = camFrame [[1, 2]] :: [] ∧ camReady.cam.elig = [] ∧ camReady.largeReady = [] := by decide +kernel
theorem wit_frameDone : let s := { camReady with cam := { camReady.cam with cur := some (camFrame [[1, 2]]) } }
    s.cam.cur = some (camFrame [[1, 2]]) ∧ (camFrame [[1, 2]]).c = 31 ∧ s.cam.cur ≠ none := by decide +kernel
theorem wit_frameLarge : let s (a : Nat) : State := { camReady with cam := { camReady.cam with large := [camLargeEnd a] } }
    (s 0).cam.cur = none ∧ (s 0).cam.elig = [] ∧ (s 0).largeReady = 31 :: [] ∧
    (s 1).cam.large.find? (fun f => f.c == 31 && f.waiting == 0) = some (camLargeEnd 1) ∧
    (s 0).cam.large.find? (fun f => f.c == 31 && f.waiting == 0) = none := by decide +kernel

theorem wit_ctxApply : (idle.camCtx 31).opn = none ∧ idle.camConflict 31 (idle.camReg 31) = false ∧
    ((camOpened []).camCtx 31).opn = some (camFrame []) := by decide +kernel
theorem wit_ctxApply_conflict : (camClash.camCtx 30).opn = none ∧ camClash.camConflict 30 (camClash.camReg 30) = true := by decide +kernel
theorem wit_cciWriteDone : let s := camWriting
    (List.range 32).find? (fun c => (s.camCtx c).started.isSome && camF (s.camWork c) CAM_CTX0_PORT == 3) = some 31 ∧
    (s.camCtx 31).started = some ({}, 1) ∧ s.on CAM_CCI_CTRL_EN 3 = false ∧
    (List.range 32).find? (fun c => (idle.camCtx c).started.isSome && camF (idle.camWork c) CAM_CTX0_PORT == 3) = none := by decide +kernel
theorem wit_bufferHeaderWrite : ((camStaged false).camCtx 31).headers = (0x10000000, [1#8]) :: [] ∧
    (((camStaged false).setCamCtx 31 { (camStaged false).camCtx 31 with headers := [] }).dramWrite 4 0x10000000 [1#8]).1 = .ok ∧
    (((camStaged true).setCamCtx 31 { (camStaged true).camCtx 31 with headers := [] }).dramWrite 4 0x10000000 [1#8]).1 ≠ .ok ∧
    (camReady.camCtx 31).headers = [] := by decide +kernel
theorem wit_dlogRecordWrite : (camStaged false).cam.staged = [1#8] :: [] ∧ dlogWrite (camStaged false) = .ok ∧ dlogWrite (camStaged true) ≠ .ok ∧
    camReady.cam.staged = [] := by decide +kernel
theorem wit_camPortSet :
  let s := serve 0x1C00 [3, 4, 2500] idle
  let q := s.request 0
  s.serving 0x1C00 q ∧ firstBad ([(0, decide (q.w 0 < 4)), (1, decide (1 ≤ q.w 1 ∧ q.w 1 ≤ 4)), (2, decide (80 ≤ q.w 2 ∧ q.w 2 ≤ 2500))]) = none := by decide
theorem wit_camPortSet_bad :
  let s := serve 0x1C00 [3, 0, 2500] idle
  let q := s.request 0
  s.serving 0x1C00 q ∧ firstBad ([(0, decide (q.w 0 < 4)), (1, decide (1 ≤ q.w 1 ∧ q.w 1 ≤ 4)), (2, decide (80 ≤ q.w 2 ∧ q.w 2 ≤ 2500))]) ≠ none := by decide
theorem wit_camContextSet : (serve 0x1C01 camCtxReset idle).serving 0x1C01 ((serve 0x1C01 camCtxReset idle).request 0) ∧
    (serve 0x1C01 camCtxReset idle).contextDest ((serve 0x1C01 camCtxReset idle).request 0) = true ∧
    (serve 0x1C01 camCtxReset idle).contextBad ((serve 0x1C01 camCtxReset idle).request 0) = none := by decide +kernel
theorem wit_camContextSet_denied : let s := serve 0x1C01 [31, 8] idle
    s.serving 0x1C01 (s.request 0) ∧ s.contextDest (s.request 0) = false := by decide +kernel
theorem wit_camContextSet_bad : let s := serve 0x1C01 [32] idle
    s.serving 0x1C01 (s.request 0) ∧ s.contextDest (s.request 0) = true ∧ s.contextBad (s.request 0) = some 0 := by decide +kernel
theorem wit_camExposureSet : let s := serve 0x1C02 [31, 65535, 10, 65535] idle
    let q := s.request 0
    s.serving 0x1C02 q ∧ firstBad [(0, decide (q.w 0 < 32)), (1, decide (q.w 1 < 65536)), (2, decide (10 ≤ q.w 2)), (3, decide (1 ≤ q.w 3 ∧ q.w 3 < 65536))] = none ∧
    s.on CAM_EXP_CTRL_ARM (q.w 0) = false ∧ q.defer = false ∧ s.mbx.staged &&& 0x40 = 0 ∧ (allStaged s).mbx.staged &&& 0x40 ≠ 0 ∧
    (s.set1 CAM_EXP_CTRL_ARM 31).on CAM_EXP_CTRL_ARM 31 = true ∧ ((deferred s).request 0).defer = true := by decide
theorem wit_camExposureSet_bad : let s := serve 0x1C02 [31, 65535, 9, 65535] idle
    let q := s.request 0
    s.serving 0x1C02 q ∧ firstBad [(0, decide (q.w 0 < 32)), (1, decide (q.w 1 < 65536)), (2, decide (10 ≤ q.w 2)), (3, decide (1 ≤ q.w 3 ∧ q.w 3 < 65536))] = some 2 := by decide
theorem wit_camStatsRead :
  let s := serve 0x1C03 [31] (idle.setCamCtx 31 { seen := true })
  let q := s.request 0
  s.serving 0x1C03 q ∧ firstBad ([(0, decide (q.w 0 < 32))]) = none ∧ ((s.camCtx (q.w 0)).seen = true) := by decide
theorem wit_camStatsRead_bad :
  let s := serve 0x1C03 [32] idle
  let q := s.request 0
  s.serving 0x1C03 q ∧ firstBad ([(0, decide (q.w 0 < 32))]) ≠ none := by decide
theorem wit_camStatsRead_none : let s := serve 0x1C03 [31] idle
    let q := s.request 0
    s.serving 0x1C03 q ∧ q.w 0 < 32 ∧ (s.camCtx (q.w 0)).seen = false := by decide

theorem wit_axisCoarseStep : 0 < (idle.setAxis 5 { nxt := 2 ^ 32 }).stepsLeft 5 ∧ (idle.setAxis 5 { nxt := -1 }).stepsLeft 5 < 0 ∧ idle.stepsLeft 5 = 0 := by
  decide
theorem wit_axisFineStep : 0 < ((idle.setAxis 5 { owed := 16 }).axis 5).owed ∧ ((idle.setAxis 5 { owed := -1 }).axis 5).owed < 0 ∧ (idle.axis 5).owed = 0 := by
  decide
theorem wit_axisPwm : (axIn axDisabled).axState 5 = axDisabled ∧ (axIn axMoving).axState 5 ≠ axDisabled := by decide
theorem wit_extStepEdge : idle.on AXS_CFG0_SRC 5 = false ∧ (axExt axDisabled).axState 5 ≠ axFault ∧ (axExt axDisabled).axState 5 ≠ axExternal ∧
    (axExt axFault).on AXS_CFG0_SRC 5 = true ∧ (axExt axFault).axState 5 = axFault := by decide
theorem wit_extStepEdge_moves : let s := axExt axExternal
    s.on AXS_CFG0_SRC 5 = true ∧ s.axState 5 = axExternal ∧ s.axesBlocked = false ∧ s.on AXS_STAT_LIMP_ACT 5 = false ∧ s.on AXS_STAT_LIMN_ACT 5 = false := by decide
theorem wit_extStepEdge_limit : let s := (axExt axExternal).put AXS_STAT_LIMN_ACT 1 5
    s.on AXS_CFG0_SRC 5 = true ∧ s.axState 5 = axExternal ∧ s.axesBlocked = false ∧ s.on (if false then AXS_STAT_LIMP_ACT else AXS_STAT_LIMN_ACT) 5 = true := by decide
theorem wit_quadTransition : let s := idle.put AXS_CFG0_ENC 1 5
    s.get AXS_CFG0_ENC 5 = 1 ∧ (quadPos (3#2).toNat + 4 - quadPos (s.axis 5).ab) % 4 = 2 ∧ (quadPos (1#2).toNat + 4 - quadPos (s.axis 5).ab) % 4 = 1 ∧
    (quadPos (2#2).toNat + 4 - quadPos (s.axis 5).ab) % 4 = 3 ∧ quadPos (0#2).toNat = quadPos (s.axis 5).ab ∧ idle.get AXS_CFG0_ENC 5 ≠ 1 := by decide
theorem wit_indexPulse : let s := idle.put AXS_CFG0_ENC 1 5
    s.get AXS_CFG0_ENC 5 = 1 ∧ s.on AXS_CFG0_Z_POL 5 = true ∧ false ≠ s.on AXS_CFG0_Z_POL 5 ∧ idle.get AXS_CFG0_ENC 5 ≠ 1 := by decide
theorem wit_ssiFrameDone : ((axSsi none).axis 5).ssiBusy = true ∧ ((axSsi none).axis 5).ssi = none ∧ ((axSsi none).axis 5).ssiBad ≠ 2 ∧
    ((axSsi (some 0)).axis 5).ssi = some 0 ∧ (idle.axis 5).ssiBusy = false := by decide
theorem wit_ssiFrameDone_third : let s := (axSsi none).setAxis 5 { ssiBusy := true, ssiBad := 2 }
    (s.axis 5).ssiBusy = true ∧ (s.axis 5).ssiBad = 2 := by decide
theorem wit_ssiFrameDone_delta : let s := (axSsi (some 0)).put AXS_CFG10_SSI_BITS 25 5 |>.put AXS_CFG12_SSI_MAX_DELTA 1 5
    let n := s.get AXS_CFG10_SSI_BITS 5
    s.get AXS_CFG12_SSI_MAX_DELTA 5 < (toSigned n ((2#32).toNat % 2 ^ n + 2 ^ n - 0)).natAbs ∧
    (toSigned n ((0#32).toNat % 2 ^ n + 2 ^ n - 0)).natAbs ≤ s.get AXS_CFG12_SSI_MAX_DELTA 5 := by decide +kernel
theorem wit_switchTransition : (idle.put AXS_CFG18_DEBOUNCE 0 5).get AXS_CFG18_DEBOUNCE 5 = 0 ∧ idle.get AXS_CFG18_DEBOUNCE 5 ≠ 0 := by decide
theorem wit_switchQualified : let s := (idle.put AXS_CFG0_LIMP_POL 1 5).setAxis 5 { sw := [(1, (7, 8))] }
    (true == s.on (swField 1).2 5) ≠ s.on (swField 1).1 5 ∧ Tab.find (s.axis 5).sw 1 = some (7, 8) ∧ (false == s.on (swField 1).2 5) = s.on (swField 1).1 5 := by decide
theorem wit_axisConfig : let s := serve 0x2000 axRecord (axIn axFault)
    let q := s.request 0
    s.serving 0x2000 q ∧ firstBad (((0, decide (q.w 0 < 6)) :: (List.range 22).map (fun w => (w + 1, recordOk (0x200A0100 + 0x100 * (q.w 0 % 6) + 4 * w) (word (q.w (w + 1))) &&
      !axReserved (fun w => q.w (w + 1)) w))) ++ [(23, q.w 23 == 0), (24, q.w 24 == 0)]) = none ∧ s.axState (q.w 0) = axFault ∧ (s.put AXS_STAT_STATE axHoming 5).axState (q.w 0) = axHoming := by decide +kernel
theorem wit_axisConfig_bad : let s := serve 0x2000 [6] idle
    let q := s.request 0
    s.serving 0x2000 q ∧ firstBad (((0, decide (q.w 0 < 6)) :: (List.range 22).map (fun w => (w + 1, recordOk (0x200A0100 + 0x100 * (q.w 0 % 6) + 4 * w) (word (q.w (w + 1))) &&
      !axReserved (fun w => q.w (w + 1)) w))) ++ [(23, q.w 23 == 0), (24, q.w 24 == 0)]) = some 0 := by decide +kernel
/-- The hypotheses of a MOVE up to the place in the action table. -/
abbrev axMoveTaken (s : State) (q : Req) : Prop := s.serving 0x2001 q ∧ firstBad [(0, decide (q.w 0 < 6)), (1, decide (q.w 1 < 2)), (2, if q.w 1 = 1 then decide ((q.sw 2).natAbs ≤ s.get AXS_CFG1_V_MAX (q.w 0))
        else !(s.on AXS_CFG0_SOFT_EN (q.w 0) && q.w 1 == 0) || decide (s.getS AXS_CFG19_SOFT_MIN (q.w 0) ≤ q.sw 2 ∧ q.sw 2 ≤ s.getS AXS_CFG20_SOFT_MAX (q.w 0))),
      (3, decide (1 ≤ q.w 3 ∧ q.w 3 ≤ s.get AXS_CFG1_V_MAX (q.w 0))), (4, decide (1 ≤ q.w 4 ∧ q.w 4 ≤ s.get AXS_CFG2_A_MAX (q.w 0))),
      (5, decide (q.w 5 ≤ s.get AXS_CFG3_J_MAX (q.w 0)))] = none
theorem wit_axisMove : let s := axMoves axLimits
    let q := s.request 0
    axMoveTaken s q ∧ s.noPlace = false ∧ ¬(s.axState (q.w 0) = axDisabled ∨ s.axState (q.w 0) = axExternal ∨ s.axState (q.w 0) = axFault ∨ s.axesBlocked = true) ∧
    s.axSoon (q.w 0) ≠ axHoming ∧ s.limAt (q.w 0) 1 = false ∧ (axFull s).noPlace = true := by decide
theorem wit_axisMove_bad : let s := serve 0x2001 [5, 0, 100, 1001, 1000, 1000] axLimits
    let q := s.request 0
    s.serving 0x2001 q ∧ firstBad [(0, decide (q.w 0 < 6)), (1, decide (q.w 1 < 2)), (2, if q.w 1 = 1 then decide ((q.sw 2).natAbs ≤ s.get AXS_CFG1_V_MAX (q.w 0))
        else !(s.on AXS_CFG0_SOFT_EN (q.w 0) && q.w 1 == 0) || decide (s.getS AXS_CFG19_SOFT_MIN (q.w 0) ≤ q.sw 2 ∧ q.sw 2 ≤ s.getS AXS_CFG20_SOFT_MAX (q.w 0))),
      (3, decide (1 ≤ q.w 3 ∧ q.w 3 ≤ s.get AXS_CFG1_V_MAX (q.w 0))), (4, decide (1 ≤ q.w 4 ∧ q.w 4 ≤ s.get AXS_CFG2_A_MAX (q.w 0))),
      (5, decide (q.w 5 ≤ s.get AXS_CFG3_J_MAX (q.w 0)))] = some 3 := by decide
theorem wit_axisMove_state : let s := axMoves (axLimits.put AXS_STAT_STATE axFault 5)
    let q := s.request 0
    axMoveTaken s q ∧ s.noPlace = false ∧ s.axState (q.w 0) = axFault := by decide
theorem wit_axisMove_busy : let s := axMoves (axLimits.put AXS_STAT_STATE axHoming 5)
    let q := s.request 0
    axMoveTaken s q ∧ s.noPlace = false ∧ s.axSoon (q.w 0) = axHoming := by decide
theorem wit_axisMove_limit : let s := axMoves (axLimits.put AXS_STAT_LIMP_ACT 1 5)
    let q := s.request 0
    axMoveTaken s q ∧ s.noPlace = false ∧ s.axSoon (q.w 0) ≠ axHoming ∧ s.limAt (q.w 0) (if (s.axis (q.w 0)).v ≠ 0 then (s.axis (q.w 0)).v.sign else (if q.w 1 = 0 then toSigned 32 (q.w 2 + 2 ^ 32 - s.get AXS_POS_POS (q.w 0)) else q.sw 2).sign) = true := by decide
theorem wit_axisHome :
  let s := serve 0x2002 [5, 0] (axIn axIdle)
  let q := s.request 0
  s.serving 0x2002 q ∧ firstBad ([(0, decide (q.w 0 < 6)), (1, decide (q.w 1 < 2 ∧ (q.w 1 = 1 → s.get AXS_CFG0_ENC (q.w 0) ≠ 0 ∧ s.get AXS_CFG8_DEV_WIN (q.w 0) ≠ 0 ∧ s.get AXS_CFG16_HOME_BACKOFF (q.w 0) ≠ 0)))]) = none ∧ (s.noPlace = false ∧ s.axSoon (q.w 0) = axIdle ∧ s.axesBlocked = false) := by decide
theorem wit_axisHome_bad :
  let s := serve 0x2002 [5, 1] (axIn axIdle)
  let q := s.request 0
  s.serving 0x2002 q ∧ firstBad ([(0, decide (q.w 0 < 6)), (1, decide (q.w 1 < 2 ∧ (q.w 1 = 1 → s.get AXS_CFG0_ENC (q.w 0) ≠ 0 ∧ s.get AXS_CFG8_DEV_WIN (q.w 0) ≠ 0 ∧ s.get AXS_CFG16_HOME_BACKOFF (q.w 0) ≠ 0)))]) ≠ none := by decide
theorem wit_axisHome_fails : let s := serve 0x2002 [5, 0] (axIn axMoving)
    let q := s.request 0
    s.serving 0x2002 q ∧ firstBad [(0, decide (q.w 0 < 6)), (1, decide (q.w 1 < 2 ∧ (q.w 1 = 1 → s.get AXS_CFG0_ENC (q.w 0) ≠ 0 ∧
      s.get AXS_CFG8_DEV_WIN (q.w 0) ≠ 0 ∧ s.get AXS_CFG16_HOME_BACKOFF (q.w 0) ≠ 0)))] = none ∧ s.noPlace = false ∧ s.axSoon (q.w 0) ≠ axIdle ∧ (axFull s).noPlace = true := by decide
theorem wit_axisStop :
  let s := serve 0x2003 [63] idle
  let q := s.request 0
  s.serving 0x2003 q ∧ firstBad ([(0, decide (0 < q.w 0 ∧ q.w 0 < 64))]) = none := by decide
theorem wit_axisStop_bad :
  let s := serve 0x2003 [64] idle
  let q := s.request 0
  s.serving 0x2003 q ∧ firstBad ([(0, decide (0 < q.w 0 ∧ q.w 0 < 64))]) ≠ none := by decide
theorem wit_axisStatus :
  let s := serve 0x2004 [5] idle
  let q := s.request 0
  s.serving 0x2004 q ∧ firstBad ([(0, decide (q.w 0 < 6))]) = none := by decide
theorem wit_axisStatus_bad :
  let s := serve 0x2004 [6] idle
  let q := s.request 0
  s.serving 0x2004 q ∧ firstBad ([(0, decide (q.w 0 < 6))]) ≠ none := by decide

theorem wit_dramTrain : idle.on DMC_STATUS_READY = false ∧ idle.on DMC_STATUS_TRAINING = false ∧
    (idle.set1 DMC_STATUS_TRAINING).on DMC_STATUS_TRAINING = true ∧ ram.on DMC_STATUS_READY = true := by decide
theorem wit_dramRequest : ([] ++ [] ++ [] ++ [{ req := 1, a := 0, n := 1 }] ++ [] ++ [] : List DReq) = [{ req := 1, a := 0, n := 1 }] ∧ ram.dramFitted 0x3FFFFFFF 1 = true ∧ ram.dramDead 0x3FFFFFFF 1 = false ∧ ram.dmc.queue = [] ∧
    ram.dramFitted 0x3FFFFFFF 2 = false ∧ (ram.put DMC_PAR_FATAL 1 (dramChannel 0x3FFFFFFF)).dramDead 0x3FFFFFFF 1 = true ∧
    ram.dmc.alert.testBit (dramChannel 0x3FFFFFFF) = false ∧ ({ req := 1, a := 0, n := 0 } : DReq).act = false := by decide
theorem wit_dramRequest_order : (twoWait 2 []).dmc.queue = [({ req := 1, a := 0, n := 64 }, true), ({ req := 2, a := 0, n := 64 }, true)] ∧
    portOf 1 ≠ 0 ∧ portOf 3 = 0 ∧ portOf 4 ≠ 0 ∧ (twoWait 4 [(portOf 4, 1)]).dmc.alert.testBit (dramChannel 0) = false ∧
    Tab.get 0 (twoWait 4 [(portOf 4, 1)]).dmc.deficit (portOf 1) < Tab.get 0 (twoWait 4 [(portOf 4, 1)]).dmc.deficit (portOf 4) := by decide
theorem wit_caParityAlert : let s := replaying 2
    s.on DMC_CFG_CA_PAR_EN = true ∧ s.on DMC_PAR_FATAL 1 = false ∧ s.on DMC_STATUS_READY = true ∧ Tab.get (0, 0) s.dmc.replay 1 = (2, 0) ∧
    Tab.get (0, 0) (replaying 3).dmc.replay 1 = (3, 0) ∧ 2 ≤ s.mode ∧ Tab.get (0, 0) ram.dmc.replay 1 = (0, 0) ∧ idle.on DMC_STATUS_READY = false := by decide
theorem wit_scrubRead : let s := ram.set1 DMC_SCRUB_CTRL_EN
    s.on DMC_SCRUB_CTRL_EN = true ∧ s.get DMC_SCRUB_POS_LO_POS_LO = 0 ∧ s.get DMC_SCRUB_POS_HI_POS_HI = 0 ∧
    s.dramFitted 0 64 = true ∧ s.dramDead 0 64 = false ∧ (ram.put DMC_SCRUB_CTRL_EN 0).on DMC_SCRUB_CTRL_EN = false ∧ idle.on DMC_STATUS_READY = false := by decide
theorem wit_scrubRead_end : let s := (ram.set1 DMC_SCRUB_CTRL_EN).put DMC_SCRUB_POS_LO_POS_LO (2 ^ 24 - 1)
    s.get DMC_SCRUB_POS_LO_POS_LO * 64 + s.get DMC_SCRUB_POS_HI_POS_HI * 2 ^ 32 = 2 ^ 30 - 64 ∧ s.on DMC_SCRUB_CTRL_EN = true ∧
    s.dramFitted (2 ^ 30 - 64) 64 = true ∧ s.dramDead (2 ^ 30 - 64) 64 = false := by decide

theorem wit_dmaStart : let s := dmaSet
    let v := 0x80000000#32
    let t := s.wr (DMA_CTRL_BURST.addr 31) (v &&& 0x36E)
    v.toNat.testBit 30 = false ∧ wfield v 9 8 ≠ 3 ∧ (s.dmaCh 31).act = none ∧ s.get DMA_LEN_LEN 31 ≠ 0 ∧ t.dmaRefusal 31 (t.dmaXfer 31) = none := by
  decide
theorem wit_dmaStart_empty : let s := dmaSet.put DMA_LEN_LEN 0 31
    let t := s.wr (DMA_CTRL_BURST.addr 31) (0x80000000#32 &&& 0x36E)
    (s.dmaCh 31).act = none ∧ s.get DMA_LEN_LEN 31 = 0 ∧ t.dmaRefusal 31 (t.dmaXfer 31) = none ∧ wfield (0x300#32) 9 8 = 3 := by decide
theorem wit_dmaStart_refused : let s := dmaSet.put DMA_LEN_LEN 65 31
    let t := s.wr (DMA_CTRL_BURST.addr 31) (0x80000000#32 &&& 0x36E)
    t.dmaRefusal 31 (t.dmaXfer 31) = some 1 ∧ (0x40000000#32).toNat.testBit 30 = true := by decide
theorem wit_dmaStart_queued : let s := dmaActive
    let v := 0x80000000#32
    let t := s.wr (DMA_CTRL_BURST.addr 31) (v &&& 0x36E)
    (s.dmaCh 31).act.isSome = true ∧ t.dmaRefusal 31 (t.dmaXfer 31) = none := by decide
theorem wit_dmaHaltClear : (dmaStoppedBy false).on DMA_STATUS_HALTED = true ∧ (dmaStoppedBy false).dma.out = [] ∧
    (dmaStoppedBy true).on DMA_STATUS_HALTED = true ∧ (dmaStoppedBy true).dma.out.isEmpty = false ∧
    (takeAcc 31 (dmaStoppedBy true).dma.out).isSome = true ∧ ((dmaStoppedBy true).dmaCh 31).act = none ∧
    takeAcc 31 (dmaStoppedBy false).dma.out = none := by decide
theorem wit_dmaBurstIssue : let s := dmaActive
    s.on DMA_STATUS_HALTED = false ∧ s.dma.out.length < 64 ∧ s.dmaTurn = some 31 ∧ (s.dmaNext 31).isSome = true ∧ (s.dmaCh 31).act ≠ none := by
  decide +kernel
theorem wit_dmaBurstIssue_none : (dmaStoppedBy false).on DMA_STATUS_HALTED = true ∧ idle.on DMA_STATUS_HALTED = false ∧ idle.dmaTurn = none ∧
    (dmaMove.id == 1 && (64 : Nat) ≤ (List.replicate 64 (0 : Nat)).length) = true := by decide +kernel
theorem wit_dmaAccessResponse : takeAcc 31 (dmaWriting 31 true false).dma.out =
      some ({ ch := 31, id := 1, write := true, addr := 0x10000000, n := 1, data := [1#8] }, []) ∧ dmaAnswer 31 true false = .ok ∧
    dmaAnswer 3 true false = .ok ∧ dmaAnswer 31 false false = .ok ∧ dmaAnswer 31 true true ≠ .ok := by decide +kernel

theorem wit_dspCommitGo : (0x800000FF#32).toNat.testBit 31 = true ∧ (0x800000FF#32).toNat % 256 ≠ 0 ∧ (0x80000000#32).toNat % 256 = 0 ∧
    (0#32).toNat.testBit 31 = false := by decide
theorem wit_dspCommitGo_porch : let s := ((idle.set1 DSP_STATUS_STATIC).put DSP_TI6_VRR_OK 1).put DSP_TI6_STATIC_RATE 1
    s.dsp.beam = 0 ∧ s.on DSP_STATUS_STATIC = true ∧ s.on DSP_TI6_VRR_OK = true ∧ s.get DSP_TI6_STATIC_RATE ≠ 0 := by decide
theorem wit_scanEnable : idle.on DSP_STATUS_ACC_BUSY = false ∧ idle.on DSP_CTRL_SCAN_EN = false ∧ idle.dsp.hpdLost = false ∧ idle.dsp.run = false ∧
    (idle.set1 DSP_STATUS_ACC_BUSY).on DSP_STATUS_ACC_BUSY = true ∧ (idle.set1 DSP_STATUS_TRAINING).on DSP_STATUS_TRAINING = true ∧
    1 ≤ wfield 4096#32 12 0 ∧ wfield 4096#32 12 0 ≤ 4096 ∧ 4096 < wfield 4097#32 12 0 ∧ idle.on DSP_STATUS_TRAINING = false ∧
    (scanning.set1 DSP_STATUS_LINK_UP).on DSP_STATUS_LINK_UP = true ∧ scanning.on DSP_CTRL_SCAN_EN = true ∧ idle.on DSP_STATUS_LINK_UP = false := by decide
theorem wit_vsync_stop : let s : State := { idle with dsp := { idle.dsp with run := true } }
    s.dsp.run = true ∧ s.on DSP_CTRL_SCAN_EN = false := by decide
theorem wit_vsync : let s := scanning.set1 DSP_STATUS_LINK_UP
    s.dsp.run = true ∧ s.on DSP_CTRL_SCAN_EN = true ∧ s.on DSP_COMMIT_ARMED = false ∧ s.dsp.retrain = false ∧
    s.on DSP_STATUS_STATIC = false ∧ s.get DSP_TI6_STATIC_FRAMES = 0 := by decide
theorem wit_hpdRestored : let s : State := { scanning with dsp := { scanning.dsp with hpdLost := true } }
    let u : State := { idle with dsp := { idle.dsp with hpdLost := true } }
    s.dsp.hpdLost = true ∧ s.on DSP_CTRL_SCAN_EN = true ∧ u.dsp.hpdLost = true ∧ u.on DSP_CTRL_SCAN_EN = false := by decide
theorem wit_composeLine : frameLive.composing = true ∧ (∀ n, n < 6 → frameLive.fetched n = false) ∧ idle.composing = false := by decide
theorem wit_scanoutLine : let s := frameLive
    s.dsp.run = true ∧ s.dsp.live = true ∧ s.dsp.beam < s.vActive ∧ s.on DSP_STATUS_BLANK = false ∧ (s.set1 DSP_STATUS_BLANK).on DSP_STATUS_BLANK = true ∧
    s.on DSP_STATUS_STATIC = false ∧ s.dsp.comp ≤ s.dsp.beam ∧ s.dsp.beam < ({ s with dsp := { s.dsp with comp := 1 } } : State).dsp.comp ∧
    s.hActive ≤ 4 ∧ 3 < s.hActive ∧ 3 ∈ [3] ∧ idle.dsp.run = false := by decide
theorem wit_wbHeaderWrite : (wbWaits false).dsp.hdrs = [1#8] :: [] ∧ ((wbWaits false).dramWrite 5 ((wbWaits false).wbAddr 0) [1#8]).1 = .ok ∧
    ((wbWaits true).dramWrite 5 ((wbWaits true).wbAddr 0) [1#8]).1 ≠ .ok ∧ ram.dsp.hdrs = [] := by decide +kernel
theorem wit_aux : idle.on DSP_AUX_CTRL_BUSY = false ∧ (idle.set1 DSP_AUX_CTRL_BUSY).on DSP_AUX_CTRL_BUSY = true ∧
    (idle.set1 DSP_AUX_CTRL_BUSY).get DSP_AUX_CTRL_CMD % 2 = 0 ∧ ((idle.set1 DSP_AUX_CTRL_BUSY).put DSP_AUX_CTRL_CMD 1).get DSP_AUX_CTRL_CMD % 2 = 1 ∧
    0 ≤ (idle.set1 DSP_AUX_CTRL_BUSY).get DSP_AUX_CTRL_LEN ∧ [1#8][0]? = some 1#8 := by decide
theorem wit_accumRunDone : accResult 0 false = 0 ∧ accResult 1 false = 1 ∧ accResult 1 true = 2 ∧
    (ram.set1 DSP_STATUS_ACC_BUSY).on DSP_STATUS_ACC_BUSY = true := by decide +kernel

theorem wit_dispTimingSet : let s := serve 0x2400 timings idle
    let q := s.request 0
    s.serving 0x2400 q ∧ firstBad ((List.range 8).map (fun i => (i, recordOk (0x200D0040 + 4 * i) (word (q.w i)) && (i != 0 || wfield (word (q.w 0)) 15 0 % 4 == 0)))) = none ∧ dspCheck (fun i => word (q.w i)) s.layerIf = none := by decide +kernel
theorem wit_dispTimingSet_refused : let s := serve 0x2400 (timings.set 5 0x10300) idle
    let q := s.request 0
    s.serving 0x2400 q ∧ firstBad ((List.range 8).map (fun i => (i, recordOk (0x200D0040 + 4 * i) (word (q.w i)) && (i != 0 || wfield (word (q.w 0)) 15 0 % 4 == 0)))) = none ∧ dspCheck (fun i => word (q.w i)) s.layerIf = some (5, 0) := by decide +kernel
theorem wit_dispTimingSet_bad : let s := serve 0x2400 [1] idle
    let q := s.request 0
    s.serving 0x2400 q ∧ firstBad ((List.range 8).map (fun i => (i, recordOk (0x200D0040 + 4 * i) (word (q.w i)) && (i != 0 || wfield (word (q.w 0)) 15 0 % 4 == 0)))) = some 0 := by decide +kernel
theorem wit_dispLayerSet : let s := serve 0x2401 (layerSets 5 0) idle
    let q := s.request 0
    s.serving 0x2401 q ∧ ¬((layerRec (fun w => word (q.w (w + 1)))).en = true ∧ (s.rangeAllowed (layerRec (fun w => word (q.w (w + 1)))).addr
      ((layerRec (fun w => word (q.w (w + 1)))).pitch * (layerRec (fun w => word (q.w (w + 1)))).sh) = false ∨
      ((layerRec (fun w => word (q.w (w + 1)))).fen = true ∧ s.rangeAllowed (layerRec (fun w => word (q.w (w + 1)))).faddr 4 = false))) ∧ firstBad ((0, decide (q.w 0 < 6)) :: (List.range 12).map (fun i => (i + 1, layerWordOk (fun i => q.w (i + 1)) i))) = none ∧ dspCheck (fun i => s.rd (0x200D0060 + 4 * i)) (fun m => if m = q.w 0 then layerRec (fun w => word (q.w (w + 1))) else s.layerIf m) = none := by decide +kernel
theorem wit_dispLayerSet_denied : let s := serve 0x2401 (layerSets 5 0x80000000) idle
    let q := s.request 0
    s.serving 0x2401 q ∧ (layerRec (fun w => word (q.w (w + 1)))).en = true ∧ (s.rangeAllowed (layerRec (fun w => word (q.w (w + 1)))).addr
      ((layerRec (fun w => word (q.w (w + 1)))).pitch * (layerRec (fun w => word (q.w (w + 1)))).sh) = false ∨
      ((layerRec (fun w => word (q.w (w + 1)))).fen = true ∧ s.rangeAllowed (layerRec (fun w => word (q.w (w + 1)))).faddr 4 = false)) := by decide +kernel
theorem wit_dispLayerSet_refused : let s := serve 0x2401 [5, 0x98000000, 0x10000000, 0, 64, 0x10001, 0, 0x10001, 0, 0, 0, 0, 0] ram
    let q := s.request 0
    s.serving 0x2401 q ∧ ¬((layerRec (fun w => word (q.w (w + 1)))).en = true ∧ (s.rangeAllowed (layerRec (fun w => word (q.w (w + 1)))).addr
      ((layerRec (fun w => word (q.w (w + 1)))).pitch * (layerRec (fun w => word (q.w (w + 1)))).sh) = false ∨
      ((layerRec (fun w => word (q.w (w + 1)))).fen = true ∧ s.rangeAllowed (layerRec (fun w => word (q.w (w + 1)))).faddr 4 = false))) ∧ firstBad ((0, decide (q.w 0 < 6)) :: (List.range 12).map (fun i => (i + 1, layerWordOk (fun i => q.w (i + 1)) i))) = none ∧ dspCheck (fun i => s.rd (0x200D0060 + 4 * i)) (fun m => if m = q.w 0 then layerRec (fun w => word (q.w (w + 1))) else s.layerIf m) ≠ none := by decide +kernel
theorem wit_dispLayerSet_bad : let s := serve 0x2401 (layerSets 6 0) idle
    let q := s.request 0
    s.serving 0x2401 q ∧ ¬((layerRec (fun w => word (q.w (w + 1)))).en = true ∧ (s.rangeAllowed (layerRec (fun w => word (q.w (w + 1)))).addr
      ((layerRec (fun w => word (q.w (w + 1)))).pitch * (layerRec (fun w => word (q.w (w + 1)))).sh) = false ∨
      ((layerRec (fun w => word (q.w (w + 1)))).fen = true ∧ s.rangeAllowed (layerRec (fun w => word (q.w (w + 1)))).faddr 4 = false))) ∧ firstBad ((0, decide (q.w 0 < 6)) :: (List.range 12).map (fun i => (i + 1, layerWordOk (fun i => q.w (i + 1)) i))) = some 0 := by decide +kernel
theorem wit_dispWritebackSet : let s := serve 0x2402 [0, 0, 16, 0] idle
    let q := s.request 0
    s.serving 0x2402 q ∧ firstBad [(0, q.addr 0 % 4096 == 0), (1, decide (q.addr 0 < 2 ^ 40)), (2, decide (2 ≤ q.w 2 ∧ q.w 2 ≤ 16)), (3, decide (q.w 3 < 2))] = none ∧ ¬((q.addr 0 ≠ 0 ∨ q.w 3 = 1) ∧ s.rangeAllowed (q.addr 0) (6914048 * q.w 2) = false) ∧ ¬(s.lifecycle = 2 ∧ s.job.st ≠ 0 ∧ (q.addr 0 ≠ s.get DSP_WB_BASE_LO_BASE_LO * 4096 + 2 ^ 32 * s.get DSP_WB_BASE_HI_BASE_HI ∨
      wfield (s.rd 0x200D0088) 4 0 ≠ q.w 2 ∨ ((s.rd 0x200D0088).toNat.testBit 30 = true ∧ q.w 3 = 0))) := by decide
theorem wit_dispWritebackSet_denied : let s := serve 0x2402 [0, 0, 16, 1] idle
    let q := s.request 0
    s.serving 0x2402 q ∧ firstBad [(0, q.addr 0 % 4096 == 0), (1, decide (q.addr 0 < 2 ^ 40)), (2, decide (2 ≤ q.w 2 ∧ q.w 2 ≤ 16)), (3, decide (q.w 3 < 2))] = none ∧ ((q.addr 0 ≠ 0 ∨ q.w 3 = 1) ∧ s.rangeAllowed (q.addr 0) (6914048 * q.w 2) = false) := by decide
theorem wit_dispWritebackSet_job : let s : State := { (serve 0x2402 [0, 0, 16, 0] idle).put SEC_STATUS_LIFECYCLE 2 with job := { idle.job with st := 4 } }
    let q := s.request 0
    s.serving 0x2402 q ∧ firstBad [(0, q.addr 0 % 4096 == 0), (1, decide (q.addr 0 < 2 ^ 40)), (2, decide (2 ≤ q.w 2 ∧ q.w 2 ≤ 16)), (3, decide (q.w 3 < 2))] = none ∧ (s.lifecycle = 2 ∧ s.job.st ≠ 0 ∧ (q.addr 0 ≠ s.get DSP_WB_BASE_LO_BASE_LO * 4096 + 2 ^ 32 * s.get DSP_WB_BASE_HI_BASE_HI ∨
      wfield (s.rd 0x200D0088) 4 0 ≠ q.w 2 ∨ ((s.rd 0x200D0088).toNat.testBit 30 = true ∧ q.w 3 = 0))) := by decide
theorem wit_dispWritebackSet_bad : let s := serve 0x2402 [0, 0, 17, 0] idle
    let q := s.request 0
    s.serving 0x2402 q ∧ firstBad [(0, q.addr 0 % 4096 == 0), (1, decide (q.addr 0 < 2 ^ 40)), (2, decide (2 ≤ q.w 2 ∧ q.w 2 ≤ 16)), (3, decide (q.w 3 < 2))] = some 2 := by decide
theorem wit_dispAccumRun : let s := serve 0x2403 [0x10000000, 0, 4096] ram
    let q := s.request 0
    s.serving 0x2403 q ∧ s.rangeAllowed (q.addr 0) (32 * q.w 2) = true ∧ firstBad [(0, q.addr 0 % 32 == 0), (1, decide (q.addr 0 < 2 ^ 40)), (2, decide (1 ≤ q.w 2 ∧ q.w 2 ≤ 4096))] = none ∧ s.noPlace = false ∧ s.on DSP_CTRL_SCAN_EN = false ∧
    s.dsp.run = false ∧ s.on DSP_STATUS_ACC_BUSY = false ∧ (axFull s).noPlace = true ∧ (s.set1 DSP_CTRL_SCAN_EN).on DSP_CTRL_SCAN_EN = true := by decide
theorem wit_dispAccumRun_bad : let s := serve 0x2403 [0x10000000, 0, 4097] ram
    let q := s.request 0
    s.serving 0x2403 q ∧ s.rangeAllowed (q.addr 0) (32 * q.w 2) = true ∧ firstBad [(0, q.addr 0 % 32 == 0), (1, decide (q.addr 0 < 2 ^ 40)), (2, decide (1 ≤ q.w 2 ∧ q.w 2 ≤ 4096))] = some 2 ∧ idle.rangeAllowed 0 1 = false := by decide

theorem wit_lightDmax : (idle.litCh 15).ldg = false ∧ ((litIn { ldg := true }).litCh 15).ldg = true ∧
    ((litIn { ldg := true }).litCh 15).chk = false ∧ ((litIn { ldg := true, chk := true, openC := 254 }).litCh 15).chk = true ∧
    (litIn { ldg := true, chk := true, openC := 254 }).get LIT_DET_OPEN_N 15 ≤ 254 + 1 := by decide
theorem wit_lightDmax_open : (litIn { ldg := true, chk := true, openC := 0 }).litCh 15 = { ldg := true, chk := true, openC := 0 } ∧
    0 + 1 < ((litIn { ldg := true, chk := true }).put LIT_DET_OPEN_N 2 15).get LIT_DET_OPEN_N 15 := by decide
theorem wit_switchPeriod_off : (idle.litCh 15).inOn = false ∧ (litIn { inOn := true }).litTrimming 15 = false := by decide
theorem wit_lightTrip_checked : let s := litIn { ldg := true, chk := true, shortC := 254 }
    (s.litCh 15).ldg = true ∧ s.litThreshold 15 < (1000000 : Nat) ∧ (s.litCh 15).chk = true ∧ 8 ≤ s.get LIT_DET_SHORT_T 15 ∧
    s.get LIT_DET_SHORT_T 15 < 256 ∧ s.get LIT_DET_SHORT_N 15 ≤ (s.litCh 15).shortC + 1 ∧
    0 + 1 < (s.put LIT_DET_SHORT_N 2 15).get LIT_DET_SHORT_N 15 := by decide
theorem wit_dimOnStart_old : let s := (idle.put LIT_DIM_DIM_PERIOD 16000 15).setLitCh 15 { per := 10000 }
    s.on LIT_CFG_STROBE 15 = false ∧ dimStarts (s.get LIT_DIM_DIM_PERIOD 15) (s.get LIT_PHASE_PHASE 15) 10000 = false ∧
    dimStarts (s.litCh 15).per (s.litCh 15).phase 10000 = true ∧ dimStarts (s.get LIT_DIM_DIM_PERIOD 15) (s.get LIT_PHASE_PHASE 15) 1 = false ∧
    dimStarts (s.litCh 15).per (s.litCh 15).phase 1 = false := by decide
theorem wit_groupWrite_forms : (2#32).toNat % 4 = 2 ∧ (3#32).toNat % 4 = 3 ∧ (1#32).toNat % 4 < 2 ∧
    (List.range 4).any (fun h => h != 3 && (idle.set1 LIT_GROUP_BEACON 0).on LIT_GROUP_BEACON h) = true ∧
    (List.range 4).any (fun h => h != 3 && idle.on LIT_GROUP_BEACON h) = false := by decide
theorem wit_liteGroupSet_state : let s := (serve 0x2801 [3, 3] idle).set1 LSR_PERMIT_MODE_ALLOW
    let q := s.request 0
    s.serving 0x2801 q ∧ firstBad [(0, decide (q.w 0 < 4)), (1, decide (q.w 1 < 4 ∧ q.w 1 ≠ 2 ∧ !(q.w 1 = 3 ∧
      (List.range 4).any (fun h => h != q.w 0 % 4 && s.on LIT_GROUP_BEACON h))))] = none ∧ s.on LSR_PERMIT_MODE_ALLOW = true := by decide
theorem wit_switchPeriodStart : let s := litIn { inOn := true }
    (s.litCh 15).ldg = false ∧ (s.litCh 15).inOn = true ∧ s.on LIT_CFG_EN 15 = true ∧ s.litFailed 15 = false ∧ s.litTrimming 15 = false ∧
    s.on LIT_CFG_GRP_EN 15 = false ∧ s.on LIT_CFG_NTC_EN 15 = false ∧ s.get LIT_CFG_IREF 15 ≠ 0 := by decide
theorem wit_lightTrip : let s := litIn { ldg := true }
    (s.litCh 15).ldg = true ∧ (8 : Nat) ≤ 8 ∧ s.litThreshold 15 < (1000000 : Nat) ∧ (s.litCh 15).chk = false := by decide
theorem wit_dimOnStart : let s := (idle.put LIT_DIM_DIM_PERIOD 16000 15).put LIT_DIM_DUTY 4094 15
    s.on LIT_CFG_STROBE 15 = false ∧ dimStarts (s.get LIT_DIM_DIM_PERIOD 15) (s.get LIT_PHASE_PHASE 15) 0 = true ∧ s.get LIT_DIM_DUTY 15 ≠ 0 := by
  decide
theorem wit_dimOnEnd : let s := litIn { inOn := true }
    (s.litCh 15).inOn = true ∧ (s.litCh 15).cont = false ∧ s.on LIT_CFG_STROBE 15 = false := by decide
theorem wit_strobe : ((litIn { strobe := 1 }).litCh 15).strobe = 1 ∧ ((litIn { strobe := 2 }).litCh 15).strobe = 2 := by decide
theorem wit_groupWrite : (idle.set1 LSR_PERMIT_MODE_ALLOW).on LSR_PERMIT_MODE_ALLOW = true ∧ idle.on LSR_PERMIT_MODE_ALLOW = false := by decide
theorem wit_ntcConvert : 4080 ≤ (4080#12).toNat ∧ idle.bit AFE_STATUS_NTC_BAD 3 = false ∧ 16 ≤ (4079#12).toNat ∧ (4079#12).toNat < 4080 ∧
    16 ≤ (16#12).toNat := by decide
theorem wit_liteChannelSet :
  let s := serve 0x2800 [15, 100, 4095, 25000, 255] (idle.put LIT_RS_RS 1000 15)
  let q := s.request 0
  s.serving 0x2800 q ∧ firstBad ([(0, decide (q.w 0 < 16)), (1, decide (10 ≤ q.w 1 ∧ q.w 1 ≤ 1500 ∧ 1 ≤ (q.w 1 * s.get LIT_RS_RS (q.w 0 % 16) + 125) / 250 ∧ (q.w 1 * s.get LIT_RS_RS (q.w 0 % 16) + 125) / 250 ≤ 1023)), (2, decide (q.w 2 ≤ 4095)), (3, decide (1000 ≤ q.w 3 ∧ q.w 3 ≤ 25000)), (4, decide (q.w 4 < 4 ∨ q.w 4 = 0xFF))]) = none ∧ q.defer = false ∧ s.mbx.staged &&& 0x100 = 0 := by decide
theorem wit_liteChannelSet_defer :
  let s := deferred (serve 0x2800 [15, 100, 4095, 25000, 255] (idle.put LIT_RS_RS 1000 15))
  let q := s.request 0
  s.serving 0x2800 q ∧ firstBad ([(0, decide (q.w 0 < 16)), (1, decide (10 ≤ q.w 1 ∧ q.w 1 ≤ 1500 ∧ 1 ≤ (q.w 1 * s.get LIT_RS_RS (q.w 0 % 16) + 125) / 250 ∧ (q.w 1 * s.get LIT_RS_RS (q.w 0 % 16) + 125) / 250 ≤ 1023)), (2, decide (q.w 2 ≤ 4095)), (3, decide (1000 ≤ q.w 3 ∧ q.w 3 ≤ 25000)), (4, decide (q.w 4 < 4 ∨ q.w 4 = 0xFF))]) = none ∧ q.defer = true := by decide
theorem wit_liteChannelSet_staged :
  let s := allStaged (serve 0x2800 [15, 100, 4095, 25000, 255] (idle.put LIT_RS_RS 1000 15))
  let q := s.request 0
  s.serving 0x2800 q ∧ firstBad ([(0, decide (q.w 0 < 16)), (1, decide (10 ≤ q.w 1 ∧ q.w 1 ≤ 1500 ∧ 1 ≤ (q.w 1 * s.get LIT_RS_RS (q.w 0 % 16) + 125) / 250 ∧ (q.w 1 * s.get LIT_RS_RS (q.w 0 % 16) + 125) / 250 ≤ 1023)), (2, decide (q.w 2 ≤ 4095)), (3, decide (1000 ≤ q.w 3 ∧ q.w 3 ≤ 25000)), (4, decide (q.w 4 < 4 ∨ q.w 4 = 0xFF))]) = none ∧ q.defer = false ∧ s.mbx.staged &&& 0x100 ≠ 0 := by decide
theorem wit_liteChannelSet_bad :
  let s := serve 0x2800 [16, 100, 4095, 25000, 255] idle
  let q := s.request 0
  s.serving 0x2800 q ∧ firstBad ([(0, decide (q.w 0 < 16)), (1, decide (10 ≤ q.w 1 ∧ q.w 1 ≤ 1500 ∧ 1 ≤ (q.w 1 * s.get LIT_RS_RS (q.w 0 % 16) + 125) / 250 ∧ (q.w 1 * s.get LIT_RS_RS (q.w 0 % 16) + 125) / 250 ≤ 1023)), (2, decide (q.w 2 ≤ 4095)), (3, decide (1000 ≤ q.w 3 ∧ q.w 3 ≤ 25000)), (4, decide (q.w 4 < 4 ∨ q.w 4 = 0xFF))]) ≠ none := by decide
theorem wit_liteGroupSet :
  let s := serve 0x2801 [3, 3] idle
  let q := s.request 0
  s.serving 0x2801 q ∧ firstBad ([(0, decide (q.w 0 < 4)), (1, decide (q.w 1 < 4 ∧ q.w 1 ≠ 2 ∧ !(q.w 1 = 3 ∧ (List.range 4).any (fun h => h != q.w 0 % 4 && s.on LIT_GROUP_BEACON h))))]) = none ∧ (s.on LSR_PERMIT_MODE_ALLOW = false) := by decide
theorem wit_liteGroupSet_bad :
  let s := serve 0x2801 [3, 2] idle
  let q := s.request 0
  s.serving 0x2801 q ∧ firstBad ([(0, decide (q.w 0 < 4)), (1, decide (q.w 1 < 4 ∧ q.w 1 ≠ 2 ∧ !(q.w 1 = 3 ∧ (List.range 4).any (fun h => h != q.w 0 % 4 && s.on LIT_GROUP_BEACON h))))]) ≠ none := by decide
theorem wit_liteStatus :
  let s := serve 0x2802 [] idle
  let q := s.request 0
  s.serving 0x2802 q ∧ firstBad ([]) = none := by decide
theorem wit_liteDerateSet :
  let s := serve 0x2803 [15, 7, 0, 32767] idle
  let q := s.request 0
  s.serving 0x2803 q ∧ firstBad ([(0, decide (q.w 0 < 16)), (1, decide (q.w 1 < 8)), (2, signed16 q 2 && decide (q.sw 2 < q.sw 3)), (3, signed16 q 3)]) = none ∧ q.defer = false ∧ s.mbx.staged &&& 0x100 = 0 := by decide
theorem wit_liteDerateSet_defer :
  let s := deferred (serve 0x2803 [15, 7, 0, 32767] idle)
  let q := s.request 0
  s.serving 0x2803 q ∧ firstBad ([(0, decide (q.w 0 < 16)), (1, decide (q.w 1 < 8)), (2, signed16 q 2 && decide (q.sw 2 < q.sw 3)), (3, signed16 q 3)]) = none ∧ q.defer = true := by decide
theorem wit_liteDerateSet_staged :
  let s := allStaged (serve 0x2803 [15, 7, 0, 32767] idle)
  let q := s.request 0
  s.serving 0x2803 q ∧ firstBad ([(0, decide (q.w 0 < 16)), (1, decide (q.w 1 < 8)), (2, signed16 q 2 && decide (q.sw 2 < q.sw 3)), (3, signed16 q 3)]) = none ∧ q.defer = false ∧ s.mbx.staged &&& 0x100 ≠ 0 := by decide
theorem wit_liteDerateSet_bad :
  let s := serve 0x2803 [15, 7, 0, 32768] idle
  let q := s.request 0
  s.serving 0x2803 q ∧ firstBad ([(0, decide (q.w 0 < 16)), (1, decide (q.w 1 < 8)), (2, signed16 q 2 && decide (q.sw 2 < q.sw 3)), (3, signed16 q 3)]) ≠ none := by decide
theorem wit_liteCurveSet : let s := serve 0x2804 (List.replicate 33 0xFFFF8000) idle
    let q := s.request 0
    s.serving 0x2804 q ∧ firstBad ((List.range 33).map (fun i => (i, signed16 q i))) = none := by decide +kernel
theorem wit_liteCurveSet_bad : let s := serve 0x2804 [0x8000] idle
    let q := s.request 0
    s.serving 0x2804 q ∧ firstBad ((List.range 33).map (fun i => (i, signed16 q i))) = some 0 := by decide +kernel
theorem wit_liteStrobeSet :
  let s := serve 0x2805 [15, 1, 65535, 1] idle
  let q := s.request 0
  s.serving 0x2805 q ∧ firstBad ([(0, decide (q.w 0 < 16)), (1, decide (q.w 1 < 2)), (2, decide (q.w 2 < 65536)), (3, decide (q.w 3 < 65536 ∧ !(q.w 1 = 1 ∧ q.w 3 = 0)))]) = none ∧ q.defer = false ∧ s.mbx.staged &&& 0x100 = 0 := by decide
theorem wit_liteStrobeSet_defer :
  let s := deferred (serve 0x2805 [15, 1, 65535, 1] idle)
  let q := s.request 0
  s.serving 0x2805 q ∧ firstBad ([(0, decide (q.w 0 < 16)), (1, decide (q.w 1 < 2)), (2, decide (q.w 2 < 65536)), (3, decide (q.w 3 < 65536 ∧ !(q.w 1 = 1 ∧ q.w 3 = 0)))]) = none ∧ q.defer = true := by decide
theorem wit_liteStrobeSet_staged :
  let s := allStaged (serve 0x2805 [15, 1, 65535, 1] idle)
  let q := s.request 0
  s.serving 0x2805 q ∧ firstBad ([(0, decide (q.w 0 < 16)), (1, decide (q.w 1 < 2)), (2, decide (q.w 2 < 65536)), (3, decide (q.w 3 < 65536 ∧ !(q.w 1 = 1 ∧ q.w 3 = 0)))]) = none ∧ q.defer = false ∧ s.mbx.staged &&& 0x100 ≠ 0 := by decide
theorem wit_liteStrobeSet_bad :
  let s := serve 0x2805 [15, 1, 0, 0] idle
  let q := s.request 0
  s.serving 0x2805 q ∧ firstBad ([(0, decide (q.w 0 < 16)), (1, decide (q.w 1 < 2)), (2, decide (q.w 2 < 65536)), (3, decide (q.w 3 < 65536 ∧ !(q.w 1 = 1 ∧ q.w 3 = 0)))]) ≠ none := by decide
theorem wit_liteDriveSet :
  let s := serve 0x2806 [15, 800, 240, 255, 255, 255, 255] idle
  let q := s.request 0
  s.serving 0x2806 q ∧ firstBad ([(0, decide (q.w 0 < 16)), (1, decide (200 ≤ q.w 1 ∧ q.w 1 ≤ 800)), (2, decide (1 ≤ q.w 2 ∧ q.w 2 ≤ 240)), (3, decide (1 ≤ q.w 3 ∧ q.w 3 ≤ 255)), (4, decide (1 ≤ q.w 4 ∧ q.w 4 ≤ 255)), (5, decide (9 ≤ q.w 5 ∧ q.w 5 ≤ 255)), (6, decide (q.w 6 ≤ 255))]) = none ∧ q.defer = false ∧ s.mbx.staged &&& 0x100 = 0 := by decide
theorem wit_liteDriveSet_defer :
  let s := deferred (serve 0x2806 [15, 800, 240, 255, 255, 255, 255] idle)
  let q := s.request 0
  s.serving 0x2806 q ∧ firstBad ([(0, decide (q.w 0 < 16)), (1, decide (200 ≤ q.w 1 ∧ q.w 1 ≤ 800)), (2, decide (1 ≤ q.w 2 ∧ q.w 2 ≤ 240)), (3, decide (1 ≤ q.w 3 ∧ q.w 3 ≤ 255)), (4, decide (1 ≤ q.w 4 ∧ q.w 4 ≤ 255)), (5, decide (9 ≤ q.w 5 ∧ q.w 5 ≤ 255)), (6, decide (q.w 6 ≤ 255))]) = none ∧ q.defer = true := by decide
theorem wit_liteDriveSet_staged :
  let s := allStaged (serve 0x2806 [15, 800, 240, 255, 255, 255, 255] idle)
  let q := s.request 0
  s.serving 0x2806 q ∧ firstBad ([(0, decide (q.w 0 < 16)), (1, decide (200 ≤ q.w 1 ∧ q.w 1 ≤ 800)), (2, decide (1 ≤ q.w 2 ∧ q.w 2 ≤ 240)), (3, decide (1 ≤ q.w 3 ∧ q.w 3 ≤ 255)), (4, decide (1 ≤ q.w 4 ∧ q.w 4 ≤ 255)), (5, decide (9 ≤ q.w 5 ∧ q.w 5 ≤ 255)), (6, decide (q.w 6 ≤ 255))]) = none ∧ q.defer = false ∧ s.mbx.staged &&& 0x100 ≠ 0 := by decide
theorem wit_liteDriveSet_bad :
  let s := serve 0x2806 [15, 199, 1, 1, 1, 9, 0] idle
  let q := s.request 0
  s.serving 0x2806 q ∧ firstBad ([(0, decide (q.w 0 < 16)), (1, decide (200 ≤ q.w 1 ∧ q.w 1 ≤ 800)), (2, decide (1 ≤ q.w 2 ∧ q.w 2 ≤ 240)), (3, decide (1 ≤ q.w 3 ∧ q.w 3 ≤ 255)), (4, decide (1 ≤ q.w 4 ∧ q.w 4 ≤ 255)), (5, decide (9 ≤ q.w 5 ∧ q.w 5 ≤ 255)), (6, decide (q.w 6 ≤ 255))]) ≠ none := by decide

theorem wit_thermalUpdate : let s := idle
    s.get THM_BROKEN_BROKEN = 0 ∧ s.get THM_STATUS_LEVEL = 0 ∧ 0 < s.get THM_BRK_TIME ∧ s.thm.low = false ∧
    (0x8000#16).toInt < s.getS THM_THRESH_A_WARN ∧ (0x8000#16).toInt < s.getS THM_THRESH_A_THROT ∧ (0x8000#16).toInt < s.getS THM_THRESH_B_SHUT := by
  decide
theorem wit_damperRelax : let s : State := { (idle.put THM_STATUS_RED 1) with thm := { idle.thm with relax := 60000 } }
    s.redTarget < s.get THM_STATUS_RED ∧ s.get THM_DAMP_RELAX ≤ s.thm.relax ∧ idle.get THM_STATUS_RED ≤ idle.redTarget := by decide
theorem wit_thermalUpdate_shut : idle.get THM_STATUS_LEVEL < 3 ∧ idle.getS THM_THRESH_B_SHUT ≤ (0x7FFF#16).toInt ∧ 2 ≤ idle.mode := by decide
theorem wit_damperRelax_waits : idle.thm.relax < (idle.put THM_DAMP_RELAX 1).get THM_DAMP_RELAX := by decide
theorem wit_shutdownFlashEnd_page : let s := idle.put THM_SHUT_CTRL_STEP_NOW 3
    (State.xspiCut { s with flu := { s.flu with page := some (0, []) } } 3).flu.page = some (0, []) ∧ (s.xspiCut 3).flu.page = none := by decide
theorem wit_shutdownFlashEnd : idle.get THM_SHUT_CTRL_STEP_NOW ≠ 3 ∧ (idle.put THM_SHUT_CTRL_STEP_NOW 3).get THM_SHUT_CTRL_STEP_NOW = 3 ∧
    (idle.put THM_SHUT_CTRL_STEP_NOW 3).flu.page = none := by decide
theorem wit_thrmStatus :
  let s := serve 0x2C00 [] idle
  let q := s.request 0
  s.serving 0x2C00 q ∧ firstBad ([]) = none := by decide
theorem wit_thrmSensorRead :
  let s := serve 0x2C01 [] idle
  let q := s.request 0
  s.serving 0x2C01 q ∧ firstBad ([]) = none := by decide

theorem wit_flushStart : (fluIn { flushing := false }).flu.flushing = false ∧ (fluIn { flushing := true, page := some (0, []) }).flu.page.isSome = true ∧
    (fluIn { ring := [fluRec] }).flu.ring ≠ [] ∧ (fluIn { ring := [fluRec], wp := 0 }).nextPage = none := by decide
theorem wit_flushStart_end : let s := (fluIn { flushing := true }).set1 FLU_STATUS_PF
    s.flu.flushing = true ∧ s.flu.page = none ∧ s.flu.ring = [] ∧ s.on FLU_STATUS_PF = true := by decide
theorem wit_flushStart_page : let s := fluIn { flushing := true, ring := [fluRec], wp := fluMain0, seqNext := 1 }
    s.flu.flushing = true ∧ s.flu.page = none ∧ s.flu.ring = fluRec :: [] ∧ s.flu.voids = [] ∧ s.mayProgram = true ∧ s.busFree = true ∧
    s.nextPage = some (fluMain0, [fluRec]) := by decide
theorem wit_pageProgramDone : let s := fluIn { ring := [fluRec], wp := fluMain0, seqNext := 1, page := some (fluMain0, [fluRec]) }
    s.flu.page = some (fluMain0, [fluRec]) ∧ fluMain0 < fluMain1 ∧ s.flu.voids = [] := by decide
theorem wit_pageProgramDone_resv : let s := fluIn { wpR := fluMain1, page := some (fluMain1, [fluRec]) }
    s.flu.page = some (fluMain1, [fluRec]) ∧ fluMain1 ≤ fluMain1 ∧ s.flu.voids = [] ∧ idle.flu.page = none := by decide
theorem wit_dropFaultEntry_none : idle.flu.dropSince = 0 := by decide
theorem wit_dropFaultEntry : let s := fluIn { dropSince := 3 }
    s.flu.dropSince ≠ 0 ∧ s.flu.ring.length < fluRingCap ∧ s.on FLU_STATUS_SEALED_FULL = false ∧ (1#32).toNat % 2 = 1 := by decide
theorem wit_blockCompact : let s := fluFull
    s.mayProgram = true ∧ s.on FLU_STATUS_PF = false ∧ s.flu.page = none ∧ s.flu.erasing = none ∧ s.flu.xspi = none := by decide
set_option maxRecDepth 20000 in
theorem wit_blockCompact_few : fluFull.erasedBlocks < 4 ∧ fluFull.programVoids.compactChoice = some (fluMain0, 1) := by decide +kernel
theorem wit_blockCompact_many : 4 ≤ (fluIn {}).erasedBlocks := by decide
theorem wit_blockCompact_none : (fluIn { wp := 0 }).flu.erasing = none ∧
    State.compactChoice (State.programVoids { fluFull with flash := [] }) = none := by decide +kernel
set_option maxRecDepth 20000 in
theorem wit_blockCompact_none_few : State.erasedBlocks { fluFull with flash := [] } < 4 := by decide +kernel
theorem wit_eraseDone_none : idle.flu.erasing = none ∧ (fluIn { suspended := true }).flu.suspended = true := by decide
theorem wit_eraseDone : let s := fluIn { erasing := some fluMain0, wp := fluMain0 + 4096 }
    s.flu.erasing = some fluMain0 ∧ s.flu.suspended = false ∧ s.on FLU_STATUS_PF = false ∧ s.flu.wp ≠ 0 := by decide
theorem wit_pfw : (idle.set1 FLU_STATUS_PF).on FLU_STATUS_PF = true ∧ idle.on FLU_STATUS_PF = false ∧
    (idle.set1 FLU_STATUS_PF).flu.aborted = none := by decide
theorem wit_pfwRelease : let s : State := { (idle.set1 FLU_STATUS_PF) with flu := { aborted := some fluMain0 } }
    s.on FLU_STATUS_PF = true ∧ s.flu.aborted = some fluMain0 := by decide
theorem wit_bootScanDone : let s := idle.set1 SEC_STATUS_MEAS_DONE
    s.on SEC_STATUS_MEAS_DONE = true ∧ s.on FLU_STATUS_READY = false ∧ s.flash = [] ∧ s.flu.ring = [] ∧ s.flu.bad = [] ∧ s.flu.voids = [] ∧
    s.flu.submit = none ∧ s.on FLU_STATUS_SEALED_FULL = false := by decide
theorem wit_fluSubmitGo : let s := fluIn { wp := fluMain0, seqNext := 2 ^ 48 - 2058 }
    let v := 0x80000007#32
    v.toNat.testBit 31 = true ∧ v.toNat.testBit 29 = false ∧ s.on FLU_SUBMIT_BUSY = false ∧ s.fluTakes (v.toNat % 8 + 1) ∧
    (7#32).toNat.testBit 31 = false ∧ (7#32).toNat.testBit 29 = false := by decide
theorem wit_fluSubmitGo_forms : (idle.set1 FLU_SUBMIT_BUSY).on FLU_SUBMIT_BUSY = true ∧ idle.on FLU_SUBMIT_BUSY = false ∧ idle.on FLU_STATUS_READY = false ∧
    (fluIn {}).on FLU_STATUS_READY = true ∧ (0xA0000000#32).toNat.testBit 29 = true ∧ 30 < (31#32).toNat % 32 ∧ (1#32).toNat.testBit 31 = false := by decide
set_option maxRecDepth 20000 in
theorem wit_fluSubmitGo_full : fluRingCap < (fluIn { ring := List.replicate fluRingCap fluRec }).flu.ring.length + 1 := by decide +kernel
theorem wit_fluReadStart : let s := fluIn { ring := [fluRec], seqNext := 1 }
    let v := 0x8000001E#32
    v.toNat.testBit 31 = true ∧ 1 ≤ v.toNat % 32 ∧ v.toNat % 32 ≤ 30 ∧
    s.fluFrom (s.get64 FLU_RD_FIRST_LO_FIRST_LO FLU_RD_FIRST_HI_FIRST_HI) = fluRec :: [] ∧ (0x80000000#32).toNat % 32 = 0 := by decide
theorem wit_xspi : idle.on FLU_XSPI_CMD_BUSY = false ∧ idle.get FLU_XSPI_FADDR_FADDR % 256 = 0 ∧ idle.get FLU_XSPI_FADDR_FADDR % 4096 = 0 ∧
    xspiAllowed (idle.get FLU_XSPI_FADDR_FADDR) 4096 = true ∧ xspiAllowed (idle.get FLU_XSPI_FADDR_FADDR) 256 = true := by decide
theorem wit_xspiProgram_protected : let s := idle.put FLU_XSPI_FADDR_FADDR 0x1000000
    s.on FLU_XSPI_CMD_BUSY = false ∧ s.get FLU_XSPI_FADDR_FADDR % 256 = 0 ∧ xspiAllowed (s.get FLU_XSPI_FADDR_FADDR) 256 = false := by decide
theorem wit_xspi_forms : (idle.set1 FLU_XSPI_CMD_BUSY).on FLU_XSPI_CMD_BUSY = true ∧ (idle.put FLU_XSPI_FADDR_FADDR 1).get FLU_XSPI_FADDR_FADDR % 256 ≠ 0 ∧
    (idle.put FLU_XSPI_FADDR_FADDR 256).get FLU_XSPI_FADDR_FADDR % 4096 ≠ 0 ∧ idle.flu.xspi = none ∧
    ((fluIn {}).set1 FLU_STATUS_PF_DONE).xspiHeld 3 = true ∧ (fluIn {}).xspiHeld 3 = false ∧ (fluIn {}).xspiHeld 2 = false := by decide
theorem wit_xspiErase_protected : let s := idle.put FLU_XSPI_FADDR_FADDR 0x1000000
    s.get FLU_XSPI_FADDR_FADDR % 4096 = 0 ∧ xspiAllowed (s.get FLU_XSPI_FADDR_FADDR) 4096 = false := by decide
theorem wit_flueRead_empty : let s := serve 0x3C00 [0, 0, 30] (fluIn {})
    let q := s.request 0
    s.serving 0x3C00 q ∧ firstBad [(1, decide (q.w 1 < 65536)), (2, decide (1 ≤ q.w 2 ∧ q.w 2 ≤ 30))] = none ∧ s.fluFrom (q.w64 0) = [] := by decide
theorem wit_xspiOpDone : let s := fluIn { xspi := some (1, 0, 0x100FFF00) }
    s.flu.xspi = some (1, 0, 0x100FFF00) ∧ inSram 0x100FFF00 256 = true ∧ s.cal.store = none ∧ s.fw.write = none := by decide
theorem wit_flueRead : let s := serve 0x3C00 [0, 0, 30] (fluIn { ring := [fluRec], seqNext := 1 })
    let q := s.request 0
    s.serving 0x3C00 q ∧ firstBad [(1, decide (q.w 1 < 65536)), (2, decide (1 ≤ q.w 2 ∧ q.w 2 ≤ 30))] = none ∧ s.fluFrom (q.w64 0) ≠ [] := by decide
theorem wit_flueRead_bad : let s := serve 0x3C00 [0, 0, 31] idle
    let q := s.request 0
    s.serving 0x3C00 q ∧ firstBad [(1, decide (q.w 1 < 65536)), (2, decide (1 ≤ q.w 2 ∧ q.w 2 ≤ 30))] = some 2 := by decide
theorem wit_flueStatus :
  let s := serve 0x3C01 [] idle
  let q := s.request 0
  s.serving 0x3C01 q ∧ firstBad ([]) = none := by decide
theorem wit_flueNote :
  let s := serve 0x3C02 [7, 0x200, 1, 2, 3] (fluIn { wp := fluMain0 })
  let q := s.request 0
  s.serving 0x3C02 q ∧ firstBad ([(0, decide (4 ≤ q.w 0 ∧ q.w 0 ≤ 7)), (1, decide (q.w 1 < 65536 ∧ 0x200 ≤ q.w 1 % 1024))]) = none ∧ (s.fluTakes 1) := by decide
theorem wit_flueNote_bad :
  let s := serve 0x3C02 [3, 0x200] idle
  let q := s.request 0
  s.serving 0x3C02 q ∧ firstBad ([(0, decide (4 ≤ q.w 0 ∧ q.w 0 ≤ 7)), (1, decide (q.w 1 < 65536 ∧ 0x200 ≤ q.w 1 % 1024))]) ≠ none := by decide
set_option maxRecDepth 20000 in
theorem wit_flueNote_full : let s := serve 0x3C02 [7, 0x200, 1, 2, 3] (fluIn { ring := List.replicate fluRingCap fluRec })
    let q := s.request 0
    s.serving 0x3C02 q ∧ firstBad [(0, decide (4 ≤ q.w 0 ∧ q.w 0 ≤ 7)), (1, decide (q.w 1 < 65536 ∧ 0x200 ≤ q.w 1 % 1024))] = none ∧
    fluRingCap ≤ s.flu.ring.length := by decide +kernel

theorem wit_longActionFinish : let s : State := { idle with mbx := { idle.mbx with actions := [doneAction] } }
    s.halted = false ∧ s.calPoll.halted = false ∧ s.calPoll.mbx.actions.find? (fun a => a.finished && !a.posted && a.tag == (9#16).toNat) = some doneAction ∧
    idle.calPoll.halted = false ∧ idle.calPoll.mbx.actions.find? (fun a => a.finished && !a.posted && a.tag == (9#16).toNat) = none := by decide
theorem wit_longActionFinish_mode : strayRun.halted = false ∧ strayRun.calRuns = [{ op := 0x3000, tag := 9, arg := 3, arg2 := 15 }] ∧
    calModeOk 3 strayRun.mode = false ∧ (idle.set1 MBX_READY_HALTED).halted = true := by decide
theorem wit_gapPieceClose : idle.gapDue = false ∧ gapOver.gapDue = true ∧ gapOver.get CAL_MC_RESULTS < 512 := by decide
theorem wit_gapPieceClose_full : (gapOver.put CAL_MC_RESULTS 512).gapDue = true ∧ 512 ≤ (gapOver.put CAL_MC_RESULTS 512).get CAL_MC_RESULTS ∧
    (idle.set1 AFE_CAL_CTRL_BUSY).on AFE_CAL_CTRL_BUSY = true ∧ (0#32).toNat.testBit 31 = false := by decide
theorem wit_mcStart : let s := idle.set1 CAL_STATUS_MC_BUSY
    (0x800F0000#32).toNat.testBit 31 = true ∧ s.on CAL_STATUS_MC_BUSY = true ∧ idle.on CAL_STATUS_MC_BUSY = false ∧
    idle.on AFE_CAL_CTRL_BUSY = false ∧ idle.cal.swp = none := by decide
theorem wit_sweepStart : let s := testReady.put CAL_SWP_CFG_POWER 1
    let v := 0x8F0F003F#32
    v.toNat.testBit 31 = true ∧ s.on CAL_STATUS_SWP_BUSY = false ∧ wfield v 27 24 ≠ 0 ∧ 4 ≤ wfield v 5 0 ∧ s.get CAL_SWP_CFG_POWER ≠ 0 ∧
    s.testOk (wfield v 19 16) = true ∧ (0#32).toNat.testBit 31 = false ∧ wfield 0#32 27 24 = 0 := by decide
theorem wit_sweepStart_forms : (idle.set1 CAL_STATUS_SWP_BUSY).on CAL_STATUS_SWP_BUSY = true ∧ wfield 0x0F0F0003#32 5 0 < 4 ∧
    (0x0F0F003F#32).toNat.testBit 31 = false ∧ idle.get CAL_SWP_CFG_POWER = 0 ∧ (idle.put CAL_SWP_CFG_POWER 1).testOk 15 = false ∧
    (idle.put CAL_SWP_CFG_POWER 1).get CAL_SWP_CFG_POWER ≠ 0 := by decide
theorem wit_sweepPulse : let s : State := { idle with key := { idle.key with tick := 65535 }, cal := { idle.cal with swp := some lastPulse } }
    s.cal.swp = some lastPulse ∧ lastPulse.tick + s.get CAL_SWP_CFG_GAP ≤ s.key.tick ∧ Tab.get 0 s.lsr.test lastPulse.pier ≠ 3 ∧ lastPulse.lev = true ∧
    (sweepWeigh lastPulse (s.get CAL_SWP_LEVEL_LEVEL_MIN)).2 = some 0 := by decide
theorem wit_sweepPulse_early : let s : State := { idle with key := { idle.key with tick := 0 }, cal := { idle.cal with swp := some { lastPulse with tick := 1 } } }
    s.cal.swp = some { lastPulse with tick := 1 } ∧ s.key.tick < 1 + s.get CAL_SWP_CFG_GAP := by decide
theorem wit_sweepPulse_goes : let w : Sweep := { lastPulse with hi := 8 }
    let u : Sweep := { lastPulse with lev := false, smp := [] }
    (sweepWeigh w 0).2 = none ∧ (sweepWeigh w 0).1.pier = w.pier ∧ (sweepWeigh u 1).2 = some 1 ∧ Tab.get 0 testReady.lsr.test 15 ≠ 3 ∧ testReady.testOk 15 = true ∧
    idle.testOk 15 = false := by decide
theorem wit_threshold_ends : let s (n : Int) : State := { idle.set1 CAL_STATUS_LT_BUSY with cal := { idle.cal with lt := n } }
    (s 31).on CAL_STATUS_LT_BUSY = true ∧ (s 31).cal.lt = 31 ∧ (s (-32)).cal.lt = -32 ∧ (s 30).cal.lt ≠ 31 := by decide
theorem wit_threshold : let s : State := { idle.set1 CAL_STATUS_LT_BUSY with cal := { idle.cal with lt := 30 } }
    idle.on CAL_STATUS_LT_BUSY = false ∧ s.on CAL_STATUS_LT_BUSY = true ∧ s.cal.lt < 31 ∧ -32 < s.cal.lt ∧ s.cal.lt ≤ 31 := by decide
theorem wit_calRun : let s := serve 0x3000 [3, 15] idle
    let q := s.request 0
    s.serving 0x3000 q ∧ q.w 0 = 3 ∧ q.w 1 < 16 ∧ s.calAccept 3 (q.w 1) = true ∧ s.calBusy 3 (q.w 1) = false ∧ q.defer = false ∧
    s.mbx.staged &&& 0x200 = 0 ∧ s.noPlace = false ∧ s.on CAL_STATUS_LT_BUSY = false := by decide
theorem wit_calRun_none : let s := serve 0x3000 [3, 15] idle
    let q := s.request 0
    s.serving 0x3000 q ∧ firstBad [(0, decide (q.w 0 < 4)), (1, decide (q.w 1 < 16))] = none ∧ ¬(q.w 0 ≠ 2 ∧ q.defer = false ∧ s.mbx.staged &&& 0x200 ≠ 0) ∧ (axFull s).noPlace = true ∧
    (q.w 0 ≠ 2 ∧ q.defer = false ∧ (allStaged s).mbx.staged &&& 0x200 ≠ 0) := by decide
theorem wit_calRun_bad : let s := serve 0x3000 [3, 16] idle
    let q := s.request 0
    s.serving 0x3000 q ∧ firstBad [(0, decide (q.w 0 < 4)), (1, decide (q.w 1 < 16))] = some 1 := by decide
theorem wit_calRun_refused : let s := serve 0x3000 [0, 15] (idle.put SEC_STATUS_MODE 4)
    let q := s.request 0
    s.serving 0x3000 q ∧ firstBad [(0, decide (q.w 0 < 4)), (1, decide (q.w 1 < 16))] = none ∧ s.noPlace = false ∧ s.calAccept (q.w 0) (q.w 1) = false := by decide
theorem wit_calRun_busy : let s := serve 0x3000 [3, 15] { idle with mbx := { idle.mbx with actions := [{ op := 0x3000, tag := 9, arg := 3, arg2 := 0 }] } }
    let q := s.request 0
    s.serving 0x3000 q ∧ firstBad [(0, decide (q.w 0 < 4)), (1, decide (q.w 1 < 16))] = none ∧ s.noPlace = false ∧ s.calAccept (q.w 0) (q.w 1) = true ∧ s.calBusy (q.w 0) (q.w 1) = true := by decide
theorem wit_calTrimRead : let s (n : Nat) := serve 0x3001 [n] idle
    (s 1).serving 0x3001 ((s 1).request 0) ∧ ((s 1).request 0).w 0 < 2 ∧ (s 3).serving 0x3001 ((s 3).request 0) ∧ 2 < ((s 3).request 0).w 0 := by decide
theorem wit_calTrimRead_none : let s := serve 0x3001 [2] idle
    s.serving 0x3001 (s.request 0) ∧ (s.request 0).w 0 = 2 ∧ s.trimStored = none := by decide +kernel
theorem wit_calTrimRead_stored : let s := serve 0x3001 [2] { idle with flash := Memory.writeBytes 0xFF [] (trimBlock 0) (trims.flatMap (leBytes 4)) }
    s.serving 0x3001 (s.request 0) ∧ (s.request 0).w 0 = 2 ∧ s.trimStored = some (0, trims) := by decide +kernel
theorem wit_calTrimWrite :
  let s := serve 0x3002 trims idle
  let q := s.request 0
  s.serving 0x3002 q ∧ firstBad ([(atByte 2, decide (q.w 0 / 2 ^ 16 = 1))] ++ (List.range 16).map (fun p => (1 + p, decide (q.w (1 + p) / 32 % 2 ^ 11 ≤ 1999))) ++ (List.range 16).map (fun k => (17 + k, decide (q.w (17 + k) / 64 % 1024 = 0))) ++ [(43, trimValid ((List.range 44).map q.w))]) = none ∧ q.defer = false ∧ s.mbx.staged &&& 0x200 = 0 := by decide +kernel
theorem wit_calTrimWrite_defer :
  let s := deferred (serve 0x3002 trims idle)
  let q := s.request 0
  s.serving 0x3002 q ∧ firstBad ([(atByte 2, decide (q.w 0 / 2 ^ 16 = 1))] ++ (List.range 16).map (fun p => (1 + p, decide (q.w (1 + p) / 32 % 2 ^ 11 ≤ 1999))) ++ (List.range 16).map (fun k => (17 + k, decide (q.w (17 + k) / 64 % 1024 = 0))) ++ [(43, trimValid ((List.range 44).map q.w))]) = none ∧ q.defer = true := by decide +kernel
theorem wit_calTrimWrite_staged :
  let s := allStaged (serve 0x3002 trims idle)
  let q := s.request 0
  s.serving 0x3002 q ∧ firstBad ([(atByte 2, decide (q.w 0 / 2 ^ 16 = 1))] ++ (List.range 16).map (fun p => (1 + p, decide (q.w (1 + p) / 32 % 2 ^ 11 ≤ 1999))) ++ (List.range 16).map (fun k => (17 + k, decide (q.w (17 + k) / 64 % 1024 = 0))) ++ [(43, trimValid ((List.range 44).map q.w))]) = none ∧ q.defer = false ∧ s.mbx.staged &&& 0x200 ≠ 0 := by decide +kernel
theorem wit_calTrimWrite_bad :
  let s := serve 0x3002 [0] idle
  let q := s.request 0
  s.serving 0x3002 q ∧ firstBad ([(atByte 2, decide (q.w 0 / 2 ^ 16 = 1))] ++ (List.range 16).map (fun p => (1 + p, decide (q.w (1 + p) / 32 % 2 ^ 11 ≤ 1999))) ++ (List.range 16).map (fun k => (17 + k, decide (q.w (17 + k) / 64 % 1024 = 0))) ++ [(43, trimValid ((List.range 44).map q.w))]) ≠ none := by decide +kernel
theorem wit_calStore : let s := serve 0x3003 [] idle
    let q := s.request 0
    s.serving 0x3003 q ∧ s.noPlace = false ∧ s.bit KEY_COMMIT_STATUS_DIRTY 9 = false ∧ s.mbx.staged.testBit 9 = false ∧ s.cal.store = none ∧
    s.flu.xspi = none ∧ s.trimStored = none ∧ (axFull s).noPlace = true := by decide +kernel
theorem wit_calStore_busy : let s := serve 0x3003 [] (idle.putBit KEY_COMMIT_STATUS_DIRTY 9 true)
    s.serving 0x3003 (s.request 0) ∧ s.noPlace = false ∧ s.bit KEY_COMMIT_STATUS_DIRTY 9 = true := by decide

theorem wit_ethFrame : let s := netUp false
    s.bit NET_STATUS_LINK 1 = true ∧ s.on NET_CTRL_EN 1 = true ∧ s.ethAccepts 1 bcast = true ∧ (s.port 1).stop = false ∧
    (s.sramWord (s.get NET_RXR_BASE_RXR_BASE 1 + 16 * s.get NET_RXR_POS_POS 1)).testBit 31 = false ∧
    (s.sramWord (s.get NET_TXR_BASE_TXR_BASE 1 + 16 * s.get NET_TXR_POS_POS 1)).testBit 31 = false ∧ s.ethAccepts 1 [1#8] = false := by decide
theorem wit_ethFrame_owned : let s := netUp true
    s.bit NET_STATUS_LINK 1 = true ∧ s.on NET_CTRL_EN 1 = true ∧ s.ethAccepts 1 bcast = true ∧ (s.port 1).stop = false ∧
    (s.sramWord (s.get NET_RXR_BASE_RXR_BASE 1 + 16 * s.get NET_RXR_POS_POS 1)).testBit 31 = true ∧
    (s.sramWord (s.get NET_TXR_BASE_TXR_BASE 1 + 16 * s.get NET_TXR_POS_POS 1)).testBit 31 = true ∧
    s.sramWord 0x10000004 = 0x10000000 ∧ s.get NET_RXR_BASE_RXR_BASE 1 = 0x10000000 ∧ s.get NET_RXR_POS_POS 1 < s.get NET_RXR_SIZE_COUNT 1 ∧ s.get NET_TXR_POS_POS 1 < s.get NET_TXR_SIZE_COUNT 1 := by decide
theorem wit_txts : let s := idle.setPort 1 { queue := [⟨true, 0, 0, 5⟩] }
    (0x80000000#32).toNat.testBit 31 = true ∧ (s.port 1).queue = ⟨true, 0, 0, 5⟩ :: [] ∧ (1#32).toNat % 2 = 1 ∧ (0#32).toNat % 2 = 0 := by decide
theorem wit_mdio : let s := idle.set1 NET_MDIO_BUSY
    idle.on NET_MDIO_BUSY = false ∧ (0xAFFFFFFF#32).toNat.testBit 31 = true ∧ wfield 0xAFFFFFFF#32 29 28 = 2 ∧ wfield 0#32 29 28 = 0 ∧
    s.on NET_MDIO_BUSY = true ∧ (s.put NET_MDIO_OP 2).get NET_MDIO_OP = 2 ∧ idle.bit NET_STATUS_LINK 1 = false := by decide
theorem wit_network_none : (0#32).toNat.testBit 31 = false ∧ (idle.port 1).queue = [] ∧ idle.bit NET_STATUS_LINK 1 = false ∧ wfield 0xA0000000#32 29 28 = 2 ∧
    wfield 0x20000000#32 29 28 = 2 := by decide

theorem wit_ptp : idle.net.tx = none ∧ (ptpIn 2 [2, 9]).net.tx = some [2, 9] ∧ (ptpIn 2 [2, 9]).get NET_PTP_STATE ≠ ptpHoldover ∧
    ([1, 8].getLast? == [2, 9].getLast?) = false ∧ dsLt [1, 8] [2, 9] = true ∧ (ptpIn 2 [2, 9]).get NET_PTP_STATE = ptpLocked ∧
    idle.get NET_PTP_STATE = ptpFree ∧ (ptpIn 1 [2]).get NET_PTP_STATE = ptpQualify ∧ (ptpIn 1 [2]).net.offs.length < 7 := by decide
theorem wit_ptp_same : ([2, 8] : List Nat).getLast? = [1, 8].getLast? ∧ (ptpIn 2 [2, 8]).get NET_PTP_PORT = 0 ∧ dsLt [1, 8] [2, 8] = true ∧
    dsLt [3, 9] [2, 8] = false ∧ (([3, 9] : List Nat).getLast? == [2, 8].getLast?) = false ∧ (ptpIn 3 [2]).get NET_PTP_STATE = ptpHoldover ∧
    (ptpIn 3 [2]).net.tx.isSome = true := by decide
theorem wit_ptp_eighth : (sevenOffs 5).get NET_PTP_STATE = ptpQualify ∧ (sevenOffs 5).net.offs.length = 7 ∧
    (∀ o ∈ (sevenOffs 5).net.offs ++ [(5 : Int)], (8 * o - ((sevenOffs 5).net.offs ++ [(5 : Int)]).foldl (· + ·) 0).natAbs ≤ 800) ∧
    ¬(∀ o ∈ (sevenOffs 5).net.offs ++ [(500 : Int)], (8 * o - ((sevenOffs 5).net.offs ++ [(500 : Int)]).foldl (· + ·) 0).natAbs ≤ 800) ∧
    ((((sevenOffs 5).net.offs ++ [(5 : Int)]).foldl (· + ·) 0).tdiv 8).natAbs ≤ (sevenOffs 5).get KEY_JUMP_LIMIT_LIMIT ∧
    (sevenOffs 5).get KEY_JUMP_LIMIT_LIMIT < ((((sevenOffs 2000000).net.offs ++ [(2000000 : Int)]).foldl (· + ·) 0).tdiv 8).natAbs := by decide
theorem wit_timeRead :
  let s := serve 0x3400 [] idle
  let q := s.request 0
  s.serving 0x3400 q ∧ firstBad ([]) = none := by decide
theorem wit_timeIncSet :
  let s := serve 0x3401 [0x40000000, 1] idle
  let q := s.request 0
  s.serving 0x3401 q ∧ firstBad ([(0, decide (¬(q.w 1 = 0 ∧ q.w 0 < 0xC0000000) ∧ ¬(q.w 1 = 1 ∧ 0x40000000 < q.w 0))), (1, decide (q.w 1 < 2))]) = none := by decide
theorem wit_timeIncSet_bad :
  let s := serve 0x3401 [0x40000001, 1] idle
  let q := s.request 0
  s.serving 0x3401 q ∧ firstBad ([(0, decide (¬(q.w 1 = 0 ∧ q.w 0 < 0xC0000000) ∧ ¬(q.w 1 = 1 ∧ 0x40000000 < q.w 0))), (1, decide (q.w 1 < 2))]) ≠ none := by decide
theorem wit_timeIncSet_steer : (serve 0x3401 [0, 1] (ptpIn 2 [])).steered = true ∧ (serve 0x3401 [0, 1] idle).steered = false := by decide
--A (timeOfsSet []) serve 0x3402 [0, 0, 0] (ptpIn 1 []) || serve 0x3402 [0, 0, 2] idle
theorem wit_timeOfsSet : let s := serve 0x3402 [1000, 0, 0] idle
    let q := s.request 0
    s.serving 0x3402 q ∧ s.steered = false ∧ q.w 2 = 0 ∧ State.ofsRefused { s with key := { s.key with ofsLoHeld := q.w 0 } } (q.w64 0) = false ∧
    State.ofsRefused { s with key := { s.key with ofsLoHeld := 0 } } (2 ^ 40) = true := by decide
theorem wit_timeOfsSet_armed : let s := serve 0x3402 [0, 256, 1] idle
    let q := s.request 0
    s.serving 0x3402 q ∧ s.steered = false ∧ q.w 2 = 1 ∧
    State.ofsRefused { s.set1 KEY_TIME_CTRL_JUMP_ARM with key := { s.key with ofsLoHeld := q.w 0 } } (q.w64 0) = false := by decide
theorem wit_timeDiscSet :
  let s := allStaged (serve 0x3403 [4, 2, 1, 1, 255, 1] idle)
  let q := s.request 0
  s.serving 0x3403 q ∧ firstBad ([(0, decide (q.w 0 ≤ 4)), (1, decide (q.w 1 ≤ 2)), (4, decide (q.w 4 < 256)), (5, decide (q.w 5 < 2))]) = none ∧ (q.defer = false ∧ s.mbx.staged &&& 1 ≠ 0) := by decide
theorem wit_timeDiscSet_bad :
  let s := serve 0x3403 [5, 0, 0, 0, 0, 0] idle
  let q := s.request 0
  s.serving 0x3403 q ∧ firstBad ([(0, decide (q.w 0 ≤ 4)), (1, decide (q.w 1 ≤ 2)), (4, decide (q.w 4 < 256)), (5, decide (q.w 5 < 2))]) ≠ none := by decide
theorem wit_timeDiscSet_writes : let s := serve 0x3403 [4, 2, 1, 1, 255, 1] idle
    let q := s.request 0
    s.serving 0x3403 q ∧ q.w 0 ≤ 4 ∧ q.w 1 ≤ 2 ∧ q.w 4 < 256 ∧ q.w 5 < 2 ∧ q.defer = false ∧ s.mbx.staged &&& 1 = 0 ∧
    (deferred s).serving 0x3403 ((deferred s).request 0) ∧ ((deferred s).request 0).defer = true := by decide
theorem wit_timeTriggerSet : let s := serve 0x3404 [11, 5, 0, 1000, 0] idle
    let q := s.request 0
    s.serving 0x3404 q ∧ q.w 0 < 12 ∧ q.w 3 = 1000 ∧ word (q.w 4) &&& 0x1FE0FF00#32 = 0 ∧
    ttDestOk (wfield (word (q.w 4)) 20 16) (wfield (word (q.w 4)) 7 0) = true ∧ s.on KEY_TT_CTRL_EN (q.w 0) = false ∧
    ((s.put KEY_TT_CTRL_EN 1 11).request 0).w 0 = 11 ∧ (s.put KEY_TT_CTRL_EN 1 11).on KEY_TT_CTRL_EN 11 = true := by decide
theorem wit_timeTriggerSet_denied : let s := serve 0x3404 [15, 0, 0, 999, 0x80000000] idle
    let q := s.request 0
    s.serving 0x3404 q ∧ 12 ≤ q.w 0 ∧ q.w 0 < 16 ∧ ((word (q.w 4)).toNat.testBit 31 && (word (q.w 4)).toNat.testBit 30) = false ∧
    (serve 0x3404 [3, 0, 0, 999, 0xC0000000] idle).serving 0x3404 ((serve 0x3404 [3, 0, 0, 999, 0xC0000000] idle).request 0) := by decide

theorem wit_bar2Request : let s := linkedWindow
    s.on PCI_STATUS_LINK_UP = true ∧ s.on PCI_STATUS_D3HOT = false ∧ s.bar2Allowed 0x13FFFFFF [1#8].length true = true ∧
    (s.dramWrite 1 0x13FFFFFF [1#8]).1 = .ok ∧ s.bar2Allowed 0x13FFFFFF 1 false = true ∧ (s.dramRead 1 0x13FFFFFF 1).1 = .ok ∧
    s.bar2Allowed 0x13FFFFFF 2 true = false ∧ s.on PCI_FLAGS_DENIED = false ∧ s.bar2Allowed 0x13FFFFFF 2 false = false ∧
    (s.put PCI_WIN_BASE_HI_BASE_HI 15 15).bar2Allowed (0xF13FFFFFF) 1 true = true ∧
    ((s.put PCI_WIN_BASE_HI_BASE_HI 15 15).dramWrite 1 0xF13FFFFFF [1#8]).1 = .decode ∧
    ((s.put PCI_WIN_BASE_HI_BASE_HI 15 15).dramRead 1 0xF13FFFFFF 1).1 = .decode := by decide +kernel
theorem wit_pcieLinkUp : idle.on PCI_STATUS_LINK_UP = false ∧ linked.on PCI_STATUS_LINK_UP = true ∧ linked.mbx.vecPend = 0 := by decide
theorem wit_bar2Request_target : linkedDead.on PCI_STATUS_LINK_UP = true ∧ linkedDead.on PCI_STATUS_D3HOT = false ∧
    linkedDead.bar2Allowed 0x13FFFFFF 1 true = true ∧ linkedDead.bar2Allowed 0x13FFFFFF 1 false = true ∧
    (linkedDead.dramWrite 1 0x13FFFFFF [1#8]).1 = .target ∧ (linkedDead.dramRead 1 0x13FFFFFF 1).1 = .target ∧
    (linked.set1 PCI_STATUS_D3HOT).on PCI_STATUS_D3HOT = true ∧ (linked.set1 PCI_FLAGS_DENIED).on PCI_FLAGS_DENIED = true := by decide +kernel

theorem wit_modeWrite : (7#32).toNat % 16 > 6 ∧ 2 ≤ (6#32).toNat % 16 ∧ (6#32).toNat % 16 ≤ 6 ∧ (6#32).toNat % 16 ≠ 5 ∧ (6#32).toNat.testBit 8 = false ∧
    (idle.put SEC_STATUS_MODE 7).mode = 7 ∧ 2 ≤ idle.mode ∧ idle.mode ≤ 6 ∧ idle.mode ≠ 5 ∧ idle.modeRefused 6 false = false ∧
    idle.modeRefused 5 false = false ∧ idle.debug = 0 ∧ (4#32).toNat % 16 = 4 ∧ idle.modeRefused 4 false = true := by decide
theorem wit_challengeNew : (0x80000002#32).toNat.testBit 31 = true ∧ (0x80000002#32).toNat % 4 = 2 ∧ (debugAt 0).mayChallenge 2 = true ∧
    (3#32).toNat % 4 = 3 := by decide
theorem wit_tokenCheck : let s : State := { debugAt 2 with sram := [(0, 1#8), (2, 1#8)] }
    (0x80000004#32).toNat % 1024 = 4 ∧ (0x80000004#32).toNat.testBit 31 = true ∧ s.on SEC_STATUS_MEAS_DONE = true ∧ s.debug = 2 ∧
    Memory.readBytes 0 s.sram (s.get SEC_TOKEN_ADDR_ADDR) 4 = [1#8, 0#8, 1#8, 0#8] ∧ idle.debug = 0 ∧ (5#32).toNat % 1024 ≠ 4 ∧ (5#32).toNat % 1024 ≠ 196 := by
  decide
theorem wit_debugHaltRequest : let s := (debugAt 2).put SEC_STATUS_MODE 6
    s.debug = 2 ∧ s.on SEC_DEBUG_HALTED = false ∧ s.on SEC_STATUS_MODE_ALLOW = false ∧ idle.debug ≠ 2 ∧
    (s.put SEC_STATUS_MODE_ALLOW 1).on SEC_STATUS_MODE_ALLOW = true ∧ s.mode = 6 ∧ 1 ≤ s.debug := by decide
theorem wit_secDebugChallenge : let s := serve 0x3801 [3] idle
    s.serving 0x3801 (s.request 0) ∧ (s.request 0).w 0 ≠ 1 ∧ (s.request 0).w 0 ≠ 2 := by decide
theorem wit_secDebugChallenge_ok : let s := serve 0x3801 [2] idle
    s.serving 0x3801 (s.request 0) ∧ ((s.request 0).w 0 = 1 ∨ (s.request 0).w 0 = 2) := by decide
theorem wit_secDebugResponse : let s := serve 0x3802 [1] (debugAt 1)
    s.serving 0x3802 (s.request 0) ∧ wordsBytes (s.request 0).p = [1#8, 0#8, 0#8, 0#8] ∧ s.on SEC_STATUS_MEAS_DONE = true ∧ s.debug ≠ 0 := by decide
theorem wit_secDebugResponse_bad : let s := serve 0x3802 [] idle
    s.serving 0x3802 (s.request 0) ∧ (s.request 0).p = [] := by decide
theorem wit_tokenCheck_signed : let s := tokenThere
    let u := s.put SEC_TOKEN_CTRL_LEN 196
    let k := Memory.readBytes 0 u.sram (u.get SEC_TOKEN_ADDR_ADDR) 196
    (0x800000C4#32).toNat % 1024 = 196 ∧ (0x800000C4#32).toNat.testBit 31 = true ∧ s.on SEC_STATUS_MEAS_DONE = true ∧ leNat (k.take 2) = 1 ∧
    (k.getD 2 0).toNat = 1 ∧ k.getD 3 0 = 0 ∧ s.on SEC_CHAL_CTRL_VALID = true ∧ s.sec.chal = (k.getD 2 0).toNat ∧
    (k.drop 4).take 96 = List.replicate 96 0#8 ∧ u.mayOpen (k.getD 2 0).toNat = true := by decide +kernel
theorem wit_tokenCheck_life : (tokenThere.put SEC_TOKEN_CTRL_LEN 196).lifecycle = 0 := by decide
theorem wit_tokenCheck_key : (tokenThere.put SEC_TOKEN_CTRL_LEN 196).tokenKey = some (sha384 (List.replicate 96 0#8)) := by
  rw [State.tokenKey, wit_tokenCheck_life]
  generalize h : sha384 (List.replicate 96 0#8) = x
  have : (tokenThere.put SEC_TOKEN_CTRL_LEN 196).otp.vndDbg = x := by
    simp only [tokenThere, h]
    rfl
  simp only [this]
theorem wit_modeWrite_more : (0x102#32).toNat.testBit 8 = true ∧ (0x102#32).toNat % 16 ≠ 6 ∧ (0x106#32).toNat.testBit 8 = true ∧
    (0x106#32).toNat % 16 = 6 ∧ idle.modeRefused 6 true = false ∧ (idle.put SEC_STATUS_MODE 5).mode = 5 ∧ idle.mayChallenge 1 = false ∧
    (4#32).toNat.testBit 31 = false ∧ idle.debug < 2 := by decide

theorem wit_att : (0x80000000#32).toNat.testBit 31 = true ∧ (0x80000000#32).toNat.testBit 29 = false ∧ (0x80000000#32).toNat.testBit 28 = false ∧
    idle.on SEC_ATT_CTRL_BUSY = false ∧ signing.on SEC_ATT_CTRL_BUSY = true ∧ signing.sec.att = some ([1#8], 0x10000000) := by decide
theorem wit_secAttest : let s := serve 0x3800 [] idle
    s.serving 0x3800 (s.request 0) := by decide
theorem wit_jobCheckStart : let s := idle.put SEC_JOB_LEN_LEN 65536
    s.on SEC_JOB_CTRL_BUSY = false ∧ 64 ≤ s.get SEC_JOB_LEN_LEN ∧ s.get SEC_JOB_LEN_LEN ≤ 65536 ∧ (s.set1 SEC_JOB_CTRL_BUSY).on SEC_JOB_CTRL_BUSY = true ∧
    (idle.put SEC_JOB_LEN_LEN 65537).get SEC_JOB_LEN_LEN > 65536 := by decide
theorem wit_jobCheckDone : let s := jobChecking 64
    let r := State.dramRead { s with sec := { s.sec with job := none } } 7 0x10000000 64
    s.sec.job = some (0x10000000, 64) ∧ r.1 = .ok ∧ (readManifest r.2.1).isSome = true ∧ ((readManifest r.2.1).map (·.signed)) = some false ∧
    r.2.2.lifecycle = 1 ∧ (readManifest r.2.1).map r.2.2.manifestOk = some true ∧
    (readManifest r.2.1).map (r.2.2.put SEC_STATUS_LIFECYCLE 2).manifestOk = some false := by decide +kernel
theorem wit_jobCheckDone_bad : let s := jobChecking 72
    let r := State.dramRead { s with sec := { s.sec with job := none } } 7 0x10000000 72
    s.sec.job = some (0x10000000, 72) ∧ r.1 = .ok ∧ (readManifest r.2.1) = none := by decide +kernel
theorem wit_att_none : idle.sec.att = none ∧ idle.sec.job = none ∧ (0x30000000#32).toNat.testBit 31 = false := by decide

theorem wit_lifecycleProgram : let s := idle.set1 SEC_STATUS_KEY_READY
    (0x80000001#32).toNat.testBit 31 = true ∧ (0x80000001#32).toNat % 4 = 1 ∧ s.lifecycle = 0 ∧ s.on SEC_STATUS_KEY_READY = true ∧
    (0x80000002#32).toNat.testBit 31 = true ∧ (0x80000002#32).toNat % 4 = 2 ∧ (idle.put SEC_STATUS_LIFECYCLE 1).lifecycle = 1 ∧ s.lifecycle ≠ 1 ∧
    (0x80000003#32).toNat.testBit 31 = true ∧ (0x80000003#32).toNat % 4 = 3 ∧ idle.on SEC_STATUS_KEY_READY = false := by decide
theorem wit_secProvision :
  let s := serve 0x3806 [1] (idle.put SEC_STATUS_LIFECYCLE 3)
  let q := s.request 0
  s.serving 0x3806 q ∧ firstBad ([(0, decide (q.w 0 = 1))]) = none ∧ (s.lifecycle ≠ 0 ∨ s.job.st ≠ 0) := by decide
theorem wit_secProvision_bad :
  let s := serve 0x3806 [2] idle
  let q := s.request 0
  s.serving 0x3806 q ∧ firstBad ([(0, decide (q.w 0 = 1))]) ≠ none := by decide
theorem wit_secProvision_ready : let s := serve 0x3806 [1] (idle.set1 SEC_STATUS_KEY_READY)
    s.serving 0x3806 (s.request 0) ∧ (s.request 0).w 0 = 1 ∧ s.lifecycle = 0 ∧ s.job.st = 0 ∧ s.on SEC_STATUS_KEY_READY = true ∧
    (serve 0x3806 [1] idle).serving 0x3806 ((serve 0x3806 [1] idle).request 0) ∧ (serve 0x3806 [1] idle).on SEC_STATUS_KEY_READY = false := by decide
theorem wit_secSeal :
  let s := serve 0x3807 [1] (idle.put SEC_STATUS_LIFECYCLE 1)
  let q := s.request 0
  s.serving 0x3807 q ∧ firstBad ([(0, decide (q.w 0 = 1))]) = none := by decide
theorem wit_secSeal_bad :
  let s := serve 0x3807 [2] idle
  let q := s.request 0
  s.serving 0x3807 q ∧ firstBad ([(0, decide (q.w 0 = 1))]) ≠ none := by decide
theorem wit_secSeal_state : (serve 0x3807 [1] (idle.put SEC_STATUS_LIFECYCLE 1)).lifecycle = 1 ∧ (serve 0x3807 [1] idle).lifecycle ≠ 1 := by decide
theorem wit_secRetire :
  let s := serve 0x3808 [0x00030001] idle
  let q := s.request 0
  s.serving 0x3808 q ∧ firstBad ([(0, decide (q.w 0 = 0x00030001))]) = none := by decide
theorem wit_secRetire_bad :
  let s := serve 0x3808 [0x00030002] idle
  let q := s.request 0
  s.serving 0x3808 q ∧ firstBad ([(0, decide (q.w 0 = 0x00030001))]) ≠ none := by decide
theorem wit_arbRaise : (0x8000003F#32).toNat.testBit 31 = true ∧ idle.otp.arb < (0x8000003F#32).toNat % 64 ∧ (0#32).toNat % 64 ≤ idle.otp.arb := by decide

theorem wit_bootMeasureDone : booting.mode = 1 ∧ booting.on SEC_STATUS_MEAS_DONE = false ∧ booting.mbx.recovery = false ∧ booting.vlt.por = false ∧
    booting.slotFormat 0 = false ∧ booting.slotFormat 1 = false ∧ idle.mode ≠ 1 := by decide
theorem wit_counterRestore : let s := (State.reset.set1 FLU_STATUS_READY).put VLT_STATUS_LOST 1
    s.on FLU_STATUS_READY = true ∧ s.on VLT_STATUS_LOST = true ∧ s.on MBX_READY_FW_READY = false ∧ s.flu.scanHi = none ∧
    (s.put VLT_STATUS_LOST 0).on VLT_STATUS_LOST = false := by decide
theorem wit_counterRestore_rec : let r := (State.reset.set1 FLU_STATUS_READY).put VLT_STATUS_LOST 1
    let s : State := { r with flu := { r.flu with scanHi := some 7, live := [(fluMain0, newest)] } }
    s.on FLU_STATUS_READY = true ∧ s.on VLT_STATUS_LOST = true ∧ s.on MBX_READY_FW_READY = false ∧ s.flu.scanHi = some 7 ∧
    (s.flu.live ++ s.flu.resv).find? (fun c => c.2.seq == 7) = some (fluMain0, newest) ∧ s.get VLT_OPSEC_OPSEC < newest.opsec ∧
    newest.opsec < 2 ^ 32 := by decide
theorem wit_fwReadySet : let s := bootDone
    s.on MBX_READY_FW_READY = false ∧ s.trainEnded = true ∧ s.halted = false ∧ s.mbx.recovery = false ∧ s.on SEC_STATUS_MEAS_DONE = true ∧
    s.on FLU_STATUS_READY = true ∧ s.on VLT_STATUS_LOST = false ∧ s.mode = 1 ∧ s.get VLT_STATUS_TLOG_FILL = 0 ∧ s.get VLT_STATUS_TLOG_OVF = 0 ∧
    s.on VLT_STATUS_TRIP = false ∧ booting.trainEnded = false ∧ booting.on MBX_READY_HALTED = false ∧ (booting.put SEC_STATUS_MODE 7).mode = 7 ∧
    (s.set1 VLT_STATUS_TRIP).on VLT_STATUS_TRIP = true := by decide
theorem wit_fwReadySet_recovery : let s : State := { bootDone with mbx := { bootDone.mbx with recovery := true } }
    s.on MBX_READY_FW_READY = false ∧ s.trainEnded = true ∧ s.halted = false ∧ s.mbx.recovery = true := by decide
theorem wit_secFwWrite : let s := serve 0x3803 [1, 0x7FF000, 0x10000000, 0, 4096] (ram.set1 SEC_STATUS_MEAS_DONE)
    let q := s.request 0
    s.serving 0x3803 q ∧ q.w 0 < 2 ∧ q.w 1 % 4096 = 0 ∧ q.w 1 < 0x800000 ∧ q.w 4 % 4096 = 0 ∧ q.w 4 ≠ 0 ∧ q.w 1 + q.w 4 ≤ 0x800000 ∧
    s.noPlace = false ∧ s.on SEC_STATUS_MEAS_DONE = true ∧ s.get SEC_SLOT_SLOT ≠ q.w 0 ∧ s.mbx.recovery = false ∧
    s.rangeAllowed (q.w64 2) (q.w 4) = true ∧ s.fw.write = none ∧ s.flu.xspi = none := by decide
theorem wit_secFwWrite_denied : let s := serve 0x3803 [0, 0, 0x10000000, 0, 4096] (ram.set1 SEC_STATUS_MEAS_DONE)
    let q := s.request 0
    s.serving 0x3803 q ∧ q.w 0 < 2 ∧ q.w 1 % 4096 = 0 ∧ q.w 1 < 0x800000 ∧ q.w 4 % 4096 = 0 ∧ q.w 4 ≠ 0 ∧ q.w 1 + q.w 4 ≤ 0x800000 ∧
    s.noPlace = false ∧ s.on SEC_STATUS_MEAS_DONE = true ∧ s.get SEC_SLOT_SLOT = q.w 0 := by decide
theorem wit_secFwWrite_bad : let s := serve 0x3803 [0, 0, 0x10000000, 0, 0] ram
    let q := s.request 0
    s.serving 0x3803 q ∧ s.rangeAllowed (q.w64 2) (q.w 4) = true ∧
    firstBad [(0, decide (q.w 0 < 2)), (1, decide (q.w 1 % 4096 = 0 ∧ q.w 1 < 0x800000)),
      (4, decide (q.w 4 % 4096 = 0 ∧ q.w 4 ≠ 0 ∧ q.w 1 + q.w 4 ≤ 0x800000))] = some 4 ∧
    (serve 0x3803 [0, 0, 0, 0, 4096] ram).rangeAllowed 0 4096 = false ∧ (axFull ram).noPlace = true := by decide
theorem wit_secFwWrite_blind : let s := serve 0x3803 [1, 0, 0, 0, 4096] { idle with mbx := { idle.mbx with recovery := true } }
    let q := s.request 0
    s.serving 0x3803 q ∧ (s.mbx.recovery && !s.on DMC_STATUS_READY) = true ∧ s.noPlace = false ∧ s.on SEC_STATUS_MEAS_DONE = false ∧
    firstBad [(0, decide (q.w 0 < 2)), (1, decide (q.w 1 % 4096 = 0 ∧ q.w 1 < 0x800000)),
      (4, decide (q.w 4 % 4096 = 0 ∧ q.w 4 ≠ 0 ∧ q.w 1 + q.w 4 ≤ 0x800000))] = none := by decide
theorem wit_secFwWrite_second : let s := serve 0x3803 [1, 0, 0x10000000, 0, 4096] { ram with fw := { ram.fw with write := some { dst := 0, src := 0, left := 1 } } }
    s.serving 0x3803 (s.request 0) ∧ s.fw.write.isSome = true ∧ s.noPlace = false ∧ (s.mbx.recovery && !s.on DMC_STATUS_READY) = false ∧
    s.rangeAllowed ((s.request 0).w64 2) ((s.request 0).w 4) = true := by decide
theorem wit_secFwActivate :
  let s := serve 0x3804 [1] idle
  let q := s.request 0
  s.serving 0x3804 q ∧ firstBad ([(0, decide (q.w 0 ≤ 1))]) = none := by decide
theorem wit_secFwActivate_bad :
  let s := serve 0x3804 [2] idle
  let q := s.request 0
  s.serving 0x3804 q ∧ firstBad ([(0, decide (q.w 0 ≤ 1))]) ≠ none := by decide
theorem wit_secFwConfirm : let s := serve 0x3805 [] { idle with flash := [(21, 0#8)] }
    s.serving 0x3805 (s.request 0) ∧ s.slotConfirmed (s.get SEC_SLOT_SLOT) = false := by decide
theorem wit_secFwConfirm_done : let s := serve 0x3805 [] { idle with flash := [(21, 1#8)] }
    s.serving 0x3805 (s.request 0) ∧ s.slotConfirmed (s.get SEC_SLOT_SLOT) = true := by decide

theorem wit_vault : let s := ((vaultOnly.put VLT_WAKE_WAKE_EN 1).put VLT_WAKE_ALARM_EN 1).put VLT_ALARM_ALARM 0
    s.vlt.main = false ∧ idle.vlt.main = true ∧ s.on VLT_WAKE_WAKE_EN = true ∧ s.on VLT_STATUS_PSU_EN = false ∧ s.on VLT_WAKE_ALARM_EN = true ∧
    s.get VLT_RTC_SEC_SEC = s.get VLT_ALARM_ALARM ∧ s.get VLT_RTC_SUB_SUB = 0 ∧ (s.put VLT_WAKE_WAKE_EN 0).on VLT_WAKE_WAKE_EN = false ∧
    (0x20000000#32).toNat.testBit 29 = true ∧ s.vlt.sleep = false ∧ (s.vaultAdvance 5).get VLT_RTC_SEC_SEC = s.get VLT_ALARM_ALARM ∧
    (s.vaultAdvance 32768).get VLT_RTC_SEC_SEC ≠ s.get VLT_ALARM_ALARM := by decide
theorem wit_psuEnDrop : let s : State := { idle with vlt := { idle.vlt with sleep := true } }
    s.vlt.sleep = true := by decide
theorem wit_tamper : let s : State := { vaultOnly with otp := { vaultOnly.otp with life := 2 } }
    s.vlt.main = false ∧ s.bit VLT_TAMP_EN_EN 0 = true ∧ s.get VLT_STATUS_TLOG_FILL < 16 ∧ s.tlogMatch 6 = none ∧ s.otp.life = 2 ∧
    s.bit VLT_TAMP_EN_EN 5 = true ∧ (idle.put VLT_TAMP_EN_EN 0).bit VLT_TAMP_EN_EN 4 = false ∧
    16 ≤ (s.put VLT_STATUS_TLOG_FILL 16).get VLT_STATUS_TLOG_FILL ∧ (s.put VLT_STATUS_TLOG_FILL 16).tlogMatch 1 = none ∧ (s.tlogAdd 6 0).tlogMatch 6 = some 0 ∧
    -800 ≤ (2080#16).toInt ∧ (2080#16).toInt ≤ 2080 ∧ 2080 < (2081#16).toInt ∧ (0x8000#16).toInt < -800 := by decide

theorem wit_resetPin : (99 : Nat) < 100 ∧ (1000 : Nat) ≤ 1000 ∧ idle.vlt.main = true ∧ idle.flu.page = none ∧ idle.flu.erasing = none ∧
    idle.flu.xspi = none ∧ (100 : Nat) ≤ 999 ∧ (999 : Nat) < 1000 := by decide
theorem wit_porEnd : let s : State := { idle with vlt := { idle.vlt with por := true, rails := 0x3F } }
    s.vlt.main = true ∧ s.vlt.por = true ∧ s.vlt.rails = 0x3F ∧ ({ s with vlt := { s.vlt with rails := 0x1F } } : State).vlt.rails ≠ 0x3F := by decide
theorem wit_supplies : let s : State := { idle with vlt := { idle.vlt with rails := 0x3F } }
    let t : State := { idle with vlt := { idle.vlt with rails := 0x30 } }
    vaultOnly.vlt.main = false ∧ s.vlt.rails.testBit 4 = true ∧ s.vlt.main = true ∧ railsGone (setBit s.vlt.rails 4 false) = false ∧
    t.vlt.rails.testBit 4 = true ∧ railsGone (setBit t.vlt.rails 4 false) = true ∧ s.vlt.rails.testBit 5 = true ∧ t.vlt.rails.testBit 3 = false := by decide

theorem wit_registerWrite : listedOffset 0x20000000 = true ∧ listedOffset 0x20018FFC = true ∧ listedOffset 0x20001000 = false ∧
    listedOffset 0x2015FFFC = false ∧ (2 : Nat) ≠ 4 ∧ (0x20000002 : Nat) % 4 ≠ 0 ∧ (0 : Nat) + 0x10000 ≤ 0x10000 := by decide
theorem wit_registerWrite_aperture : State.reset.on MBX_VIA_APERTURE_EN 15 = false ∧
    ((State.reset.put MBX_VIA_APERTURE_EN 1 15).put MBX_VIA_ERR_FIRST_VALID 1).on MBX_VIA_APERTURE_EN 15 = true ∧
    ((State.reset.put MBX_VIA_APERTURE_EN 1 15).put MBX_VIA_ERR_FIRST_VALID 1).on MBX_VIA_ERR_FIRST_VALID = true ∧
    (0xFFFFFFF : Nat) < 0x10000000 ∧ 0x0FFFFFFC + [0#8, 1#8, 2#8, 3#8].length ≤ 0x10000000 ∧ 0 < [0#8, 1#8, 2#8, 3#8].length := by decide
theorem wit_registerWrite_other : (0x24#6 : BitVec 6) ≠ 0 ∧ ¬ (0x20 ≤ (0x24#6).toNat ∧ (0x24#6).toNat < 0x24) ∧
    0x20 ≤ (0x23#6).toNat ∧ (0x23#6).toNat < 0x24 := by decide
theorem wit_registerWrite_read : listedOffset 0x20000000 = true ∧ isLatching 0x20000000 = false := by decide
theorem wit_registerWrite_bar0 : ¬ ((8 : Nat) = 4 ∧ 4 % 4 = 0) ∧ ¬ ((8 : Nat) = 8 ∧ 4 % 8 = 0) ∧ (0x7FFC : Nat) % 4 = 0 ∧ idle.on PCI_STATUS_D3HOT = false ∧
    (idle.set1 PCI_STATUS_D3HOT).on PCI_STATUS_D3HOT = true ∧ (1#32).toNat.testBit 0 = true ∧ (2#32).toNat.testBit 0 = false ∧ (2#32).toNat.testBit 1 = true := by decide
theorem wit_registerWrite_values : 4 < (5#32).toNat % 8 ∧ (0x30#32).toNat / 16 % 4 = 3 ∧ (0x124#32).toNat % 8 ≤ 4 ∧ (0x124#32).toNat / 16 % 4 ≠ 3 := by decide
theorem wit_registerWrite_w1c : (State.reset.put KEY_DISC_STATUS_UNLOCK 1).on KEY_DISC_STATUS_UNLOCK = true := by decide
theorem wit_registerWrite_bank : (0x30000000 + 0x1FFFFF + [0#8].length ≤ 0x30200000) ∧ 0 < [0#8].length ∧ gridBytes < 0x1FFFFF % 0x10000 + [0#8].length ∧
    0 % 0x10000 + [0#8].length ≤ gridBytes ∧ 0 / 0x100000 = idle.get COR_BANK_ACTIVE 0 := by decide

theorem wit_tickEdge : State.reset.on KEY_STATUS_RT_PLL_LOCK = true ∧
    (State.reset.put KEY_STATUS_RT_PLL_LOCK 0).on KEY_STATUS_RT_PLL_LOCK = false := by decide

theorem wit_tickCount : exec .porEnd idle = .next idle ∧ (∀ i : TickIn, Instr.porEnd ≠ Instr.tickEdge i) ∧
    idle.key.tick < 2 ^ 64 ∧ idle.on KEY_STATUS_RT_PLL_LOCK = true := by
  refine ⟨rfl, (by intro i h; cases h), by decide, by decide⟩

theorem wit_step : State.reset.pending = [] := by decide

theorem wit_fusesLegal : let s : State := { idle with pending := [.arbRaise 0x8000003F#32] }
    s.otp.legal ∧ Completes (step s) (fun t => t.otp.arb = 63) := by
  refine ⟨by decide, _, rfl, by decide⟩

theorem wit_fusesGrow : let s : State := { idle with pending := [.arbRaise 0x80000005#32] }
    Completes (step s) (fun t => s.otp.arb < t.otp.arb) := by
  refine ⟨_, rfl, by decide⟩

theorem wit_antiRollback : (0x8000003F#32).toNat.testBit 31 = true ∧ idle.otp.arb < (0x8000003F#32).toNat % 64 ∧
    (0x80000000#32).toNat % 64 ≤ idle.otp.arb ∧ (0x3F#32).toNat.testBit 31 = false := by decide
theorem wit_antiRollback_confirm : let t := serve 0x3805 [] { idle with flash := [(21, 0#8)] }
    let s : State := { t with fw := { t.fw with rollback := 3 } }
    s.serving 0x3805 (s.request 0) ∧ s.slotConfirmed (s.get SEC_SLOT_SLOT) = false ∧ s.otp.arb ≤ 63 ∧ s.otp.arb < min s.fw.rollback 63 := by decide

theorem wit_queue : let s : State := { idle with pending := [.porEnd, .supplyRise] }
    s.pending = .porEnd :: [.supplyRise] ∧ Completes (step s) (fun t => t.pending = [.supplyRise]) := by
  refine ⟨rfl, _, rfl, rfl⟩

theorem wit_apertures : (15 : Nat) < 16 ∧ 0xFFFFFFC + 4 ≤ 0x10000000 ∧ (State.reset.put MBX_VIA_APERTURE_EN 1 15).on MBX_VIA_APERTURE_EN 15 = true ∧
    State.reset.on MBX_VIA_APERTURE_EN 15 = false ∧ fieldsOk (MBX_VIA_APERTURE_EN.addr 15) 0x800000FF#32 = true := by decide

theorem wit_memory : Memory.wf 0 [(3, 1#8), (9, 2#8)] = true ∧ Memory.wf 0xFF [(3, 0xFF#8)] = false ∧
    KEY_CTRL_PERIOD.addr = KEY_CTRL_DISC_MODE.addr ∧ KEY_CTRL_PERIOD.lo ≤ KEY_CTRL_PERIOD.hi ∧ KEY_CTRL_DISC_MODE.hi < 32 ∧
    KEY_CTRL_PERIOD.hi < KEY_CTRL_DISC_MODE.lo := by decide

theorem wit_deviceReset : ({ idle with mbx := { idle.mbx with resetPend := true } } : State).mbx.resetPend = true ∧
    idle.mbx.resetPend = false ∧ idle.flu.page = none ∧ idle.flu.erasing = none ∧ idle.flu.xspi = none := by decide

theorem wit_faultClasses : (idle.set1 FLU_STATUS_READY).fluTakes 1 ∧ idle.mode ∈ [2, 3, 4, 6] ∧ (idle.put SEC_STATUS_MODE 7).mode ∉ [2, 3, 4, 6] ∧
    faultLastAddr 20 = some 0x20140008 := by decide

theorem wit_gate_on : (litUp.lsrEdge true true).bit LSR_IN_B_GATE_PAD 0 = true := by decide +kernel
theorem wit_gate_forced : (idle.put SEC_STATUS_MODE 7).forced = true := by decide

theorem wit_memoryFrame : mayStore .porEnd = false ∧ exec .porEnd idle = .next idle := by refine ⟨by decide, rfl⟩

theorem wit_fuseFrame : mayBurn .porEnd = false ∧ exec .porEnd idle = .next idle := by refine ⟨by decide, rfl⟩

/-! Worked examples of the spec. -/

/-- R19's example: the pier link's code 012h on pier 9 is fault 1412h. -/
theorem test_fault_code : (idle.fault 5 0x12 1 9).mbx.lastFault = 0x1412 := by decide +kernel

/-- The aperture example (spec/01_architecture.md): 8000_0001h at MBX_VIA_APERTURE_2 maps 6000_0000h to 00_1000_0000h. -/
theorem test_aperture : (idle.regWrite 0x2001F108 0x80000001#32).aperture 0x60000000 4 = some 0x10000000 := by decide +kernel

/-- The same example: 8000_0100h is ignored as a whole. -/
theorem test_aperture_reserved : ((idle.regWrite 0x2001F108 0x80000001#32).regWrite 0x2001F108 0x80000100#32).aperture 0x60000000 4 =
    some 0x10000000 := by decide +kernel

/-- The corrected-point example (spec/05_field_correction.md): pier 6, bank 1. -/
def corrected : State :=
  let s := (((idle.put COR_BANK_ACTIVE 1 6).putS COR_XMIN_XMIN (-25000000) 6).putS COR_YMIN_YMIN (-215000000) 6).put COR_PITCH_X_PITCH 3750000 6
  let s := (s.put COR_PITCH_Y_PITCH 3750000 6).put COR_ZGAIN_ZGAIN 0x100000 6
  let pt (a : Nat) (x y z : Int) (m : Memory) : Memory := Memory.writeBytes 0 m (0x160000 + a)
    (leBytes 4 (ofSigned 32 x) ++ leBytes 4 (ofSigned 32 y) ++ leBytes 4 (ofSigned 32 z))
  { s with cor := { s.cor with banks := pt 0x5E14 1500012800 (-120004096) 2560000 (pt 0x5E20 1560016640 (-120008192) 2562560
    (pt 0x6120 1500021760 (-60004096) 2560000 (pt 0x612C 1560025600 (-60008192) 2562560 []))) } }
theorem test_corrected_cell : cellOf 190000000 (-25000000) 3750000 = (57, 21845) ∧ cellOf (-100000000) (-215000000) 3750000 = (30, 43690) := by
  decide +kernel
theorem test_corrected_point : corrected.convert 6 190000000 (-100000000) 200000 = (0xDA99A9, 0x7B3B34, 0x8057E7, false) := by decide +kernel

/-- The seam example (spec/06_span_stitching.md): q = 100 of a fade of 200 over 10,000 lit ticks. -/
theorem test_seam_weight : weightIn 200 10000 5000 = 16302 ∧ weightIn 200 10000 4901 = 81 ∧ weightIn 200 10000 4900 = 0 := by decide +kernel

/-- The example of one word on the line (spec/08_laser_channel.md). -/
theorem test_power_word : 0xB800 * 16302 / 0x8000 = 0x5B8A ∧ wordCrc 0x5B8A 0xE0 = 0xEC := by decide +kernel

/-- The DRAM address example (spec/13_dram_dma.md): row 1_579Bh of bank 28, with two ranks. -/
theorem test_dram_bank : ((idle.put DMC_CFG_RANKS 1).put DMC_CFG_DENSITY 1).dramBank 0xABCDEF0C0 = (28, 0x1579B) := by decide +kernel

/-- The derating example (spec/15_lighting.md): IREF 448 at 76.0 °C. -/
theorem test_derating : derated 448 1216 1120 1360 = 268 := by decide +kernel

/-- The sine table at S[128] and S[384] (spec/12_motion.md). -/
theorem test_sine : sineEntry 128 = 23170 ∧ sineEntry 384 = 23170 ∧ 23170 * 200 * 4000 / 8388608 = 2209 := by decide +kernel

/-- The scaler example (spec/14_display.md): source columns −2 to 1 clamp to 0, 0, 0 and 1. -/
theorem test_scaler_taps : (List.range 4).map (tapIndex 64 (-1)) = [0, 0, 0, 1] := by decide +kernel

/-- The check sequences at "123456789": CRC-32 with reflected bits, CRC-16 from FFFFh (R225, R276). -/
theorem test_crc : crc32 ("123456789".toList.map (fun c => byte c.toNat)) = 0xCBF43926 ∧
    crc16 ("123456789".toList.map (fun c => byte c.toNat)) = 0x29B1 := by decide +kernel

/-- SHA-384 of "abc" (FIPS 180-4), its first and last bytes. -/
theorem test_sha384 : (sha384 [0x61#8, 0x62#8, 0x63#8]).take 4 = [0xCB#8, 0x00#8, 0x75#8, 0x3F#8] ∧
    (sha384 [0x61#8, 0x62#8, 0x63#8]).drop 44 = [0x34#8, 0xC8#8, 0x25#8, 0xA7#8] := by decide +kernel

/-- A pending PERIOD takes force only at the edge (R67, R70): after one write it is pending. -/
theorem test_pending : (idle.regWrite 0x20000000 2#32).get KEY_CTRL_PERIOD = 0 ∧ (idle.regWrite 0x20000000 2#32).getP KEY_CTRL_PERIOD = 2 := by
  decide +kernel

/-- SYS NOP answers OK with its opcode and tag (R110, R129). -/
theorem test_sysNop : Completes (exec .sysNop (serve 0 [])) (fun t => t.mbxNat 0x408 2 = 0 ∧ t.mbx.begun = true) := by
  refine ⟨_, rfl, by decide⟩

/-- An F0 fault turns every gate off and enters SAFE (R16). -/
theorem test_f0 : ((litUp.put LSR_IN_B_GATE_PAD 0xFFFF).fault 1 1 0).dark ∧ ((litUp.put LSR_IN_B_GATE_PAD 0xFFFF).fault 1 1 0).mode = 7 := by
  decide +kernel

/-- R701: of one cycle, SOURCE 2 enters before SOURCE 4, and unit 1 before unit 3, whatever raised first. -/
theorem test_entry_order : let s := idle.set1 FLU_STATUS_READY
    (s.inOrder (((s.fault 4 2 1 3).fault 2 1 1 3).fault 2 1 1 1)).flu.ring.map (fun r => (r.code, r.seq - s.flu.seqNext)) =
      [(0x801, 0), (0x801, 1), (0x1002, 2)] := by decide +kernel

/-- The code groups of the training set at each disparity, as IEEE 802.3 Clause 36 lists them (R268, R271). -/
theorem test_code_groups : encode10 symComma false = 0b0011111010#10 ∧ encode10 symComma true = 0b1100000101#10 ∧
    encode10 (symData 0xB5) false = 0b1010101010#10 ∧ encode10 (symData 0x4A) true = 0b0101010101#10 := by decide

/-- R268, R270: every data byte decodes to itself at either disparity, and K30.7 is a code error. -/
theorem test_code_groups_decode : ((List.range 256).all (fun b => [false, true].all (fun rd =>
    decode10 (encode10 (symData b) rd) rd == some (symData b)))) = true ∧ decode10 0b0111101000#10 false = none := by decide +kernel

/-! The well-formedness smoke test: one ill-formed command for each check. -/

theorem wf_tick : (Instr.tickEdge {}).wellFormed = true ∧ (Instr.tickEdge { dfrc := 2 ^ 40 }).wellFormed = false ∧
    (Instr.tickEdge { late := [(5, 0)] }).wellFormed = false ∧ (Instr.tickEdge { late := [(4, 16)] }).wellFormed = false ∧
    (Instr.tickEdge { afe := [{ i := 32 }] }).wellFormed = false ∧ 
    (Instr.tickEdge { late368 := [16] }).wellFormed = false ∧ (Instr.tickEdge { up := [(16, [])] }).wellFormed = false ∧
    (Instr.tickEdge { linkUe := [(7, 0)] }).wellFormed = false ∧ (Instr.tickEdge { linkUe := [(5, 16)] }).wellFormed = false ∧ (Instr.tickEdge { aux := [2 ^ 24] }).wellFormed = false ∧
    (Instr.tickEdge { aux := List.replicate 9 0 }).wellFormed = false ∧ (Instr.tickEdge { loopUe := [24] }).wellFormed = false ∧
    (Instr.tickEdge { fifoUe := [16] }).wellFormed = false ∧ (Instr.tickEdge { profUe := [16] }).wellFormed = false ∧
    (Instr.tickEdge { corUe := [16] }).wellFormed = false ∧ (Instr.tickEdge { corCe := [16] }).wellFormed = false ∧
    (Instr.tickEdge { stitchUe := [1024] }).wellFormed = false := by decide

theorem wf_key : (Instr.keyCommitWrite 1024 0).wellFormed = false ∧ (Instr.keyCommitWrite 0 4001).wellFormed = false ∧
    (Instr.schedArm 0 1024 0).wellFormed = false ∧ (Instr.schedArm 0 0 4001).wellFormed = false ∧ (Instr.schedDisarm 0 1024).wellFormed = false ∧
    (Instr.incIntWrite 0 (2 ^ 40)).wellFormed = false ∧ (Instr.ofsHiWrite 0 (2 ^ 40) 0 []).wellFormed = false ∧
    (Instr.ofsHiWrite 0 0 4001 []).wellFormed = false ∧ (Instr.ofsHiWrite 0 0 0 [2 ^ 24]).wellFormed = false ∧
    (Instr.snapCapture (2 ^ 40)).wellFormed = false ∧ (Instr.latchingRead 0x20000009 0).wellFormed = false ∧
    (Instr.latchingRead 0x1FFFFFFC 0).wellFormed = false ∧ (Instr.latchingRead 0x20160000 0).wellFormed = false ∧
    (Instr.latchingRead 0x20000008 (2 ^ 40)).wellFormed = false ∧ (Instr.tickInEdge (16 * 2 ^ 64)).wellFormed = false ∧
    (Instr.triggerArm 0 0 (2 ^ 40)).wellFormed = false ∧ (Instr.triggerFire 0 (2 ^ 40) 0 []).wellFormed = false ∧
    (Instr.triggerFire 0 0 4001 []).wellFormed = false ∧ (Instr.triggerFire 0 0 0 [2 ^ 24]).wellFormed = false ∧
    (Instr.wdogExpire (2 ^ 40)).wellFormed = false := by decide

theorem wf_access : (Instr.registerWrite (.via 0 0 0 none)).wellFormed = false ∧ (Instr.registerWrite (.via 0 (2 ^ 40) 4 none)).wellFormed = false ∧
    (Instr.registerWrite (.via 0 0 4 (some [0]))).wellFormed = false ∧ (Instr.registerWrite (.host 0 0 none)).wellFormed = false ∧
    (Instr.registerWrite (.host (2 ^ 32) 4 none)).wellFormed = false ∧ (Instr.registerWrite (.host 0 4 (some [0]))).wellFormed = false ∧
    (Instr.registerWrite (.via 0 0x20000000 4 (some [0, 0, 0, 0]))).wellFormed = true := by decide

theorem wf_scan : (Instr.timeOfsSet [2 ^ 24]).wellFormed = false ∧ (Instr.gridSlotWrite 64 0 [0]).wellFormed = false ∧
    (Instr.gridSlotWrite 0 (2 ^ 28) [0]).wellFormed = false ∧ (Instr.gridSlotWrite 0 0 []).wellFormed = false ∧
    (Instr.uplinkFrame 0 [] (List.replicate 13 0)).wellFormed = false ∧ (Instr.uplinkFrame 0 [0] (List.replicate 14 0)).wellFormed = true ∧
    (Instr.legacyUplinkFrame 0 [] (List.replicate 6 0)).wellFormed = false ∧
    (Instr.statusInputAccept .epermA true 4001).wellFormed = false ∧ (Instr.emaMissing 0 65536).wellFormed = false ∧
    (Instr.uncmdEmission 0 65536).wellFormed = false ∧ (Instr.auxTimerStart [2 ^ 24]).wellFormed = false ∧
    (Instr.loopRearm (2 ^ 24)).wellFormed = false := by decide

theorem wf_cameras : (Instr.csiFrameStart 0 0 0 false 4001).wellFormed = false ∧ (Instr.csiLine 0 0 0 [65536] false true 0).wellFormed = false ∧
    (Instr.csiLine 0 0 0 [] false true 4001).wellFormed = false ∧ (Instr.csiFrameEnd 0 0 false true 4001).wellFormed = false ∧
    (Instr.csiOtherPacket 0 0 0 [] (.packet 0) true 4001).wellFormed = false ∧ (Instr.csiOtherPacket 0 1 0 [] (.ulps true) true 0).wellFormed = false ∧
    (Instr.csiOtherPacket 0 0 1 [] .escape true 0).wellFormed = false ∧ (Instr.csiOtherPacket 0 0 0 [0] .escape true 0).wellFormed = false ∧
    (Instr.csiOtherPacket 0 0 0 [] .escape false 0).wellFormed = false ∧
    (Instr.csiOtherPacket 0 0 0 [] .escape true 4001).wellFormed = false ∧ (Instr.frameOpenTimeout 0 4001).wellFormed = false ∧
    (Instr.frameAdmit false 4001).wellFormed = false ∧ (Instr.frameDone 0 4001).wellFormed = false ∧ (Instr.exposureArm 0 4001).wellFormed = false := by
  decide

theorem wf_motion_memory : (Instr.extStepEdge 0 true (2 ^ 40)).wellFormed = false ∧ (Instr.quadTransition 0 0 (2 ^ 40)).wellFormed = false ∧
    (Instr.ssiFrameDone 0 true 0 (2 ^ 40)).wellFormed = false ∧ (Instr.axisCoarseStep 0 (2 ^ 40)).wellFormed = false ∧
    (Instr.dramRequest [] [] [] [] [] [{ req := 0, a := 0, n := 0 }] {}).wellFormed = false ∧
    (Instr.dramRequest [] [] [] [] [] [{ req := 0, a := 2 ^ 40, n := 1 }] {}).wellFormed = false ∧
    (Instr.dramRequest [] [] [] [] [] [{ req := 0, a := 0, n := 4, bs := some [0] }] {}).wellFormed = false ∧ (Instr.dramRequest [] [] [] [] [] [] { clk := 2 ^ 40 }).wellFormed = false ∧
    (Instr.dramRequest [] [] [] [] [{ req := 8, a := 0, n := 1 }] [] {}).wellFormed = false ∧
    (Instr.dramRequest [{ req := 1, a := 0, n := 1 }] [] [] [] [] [] {}).wellFormed = false ∧
    (Instr.dramRequest [] [] [] [{ req := 1, a := 0, n := 1 }] [] [] {}).wellFormed = true ∧
    (Instr.dramRequest [] [] [] [] [] [] { errs := [(2 ^ 37, 0)] }).wellFormed = false ∧ (Instr.dramRequest [] [] [] [] [] [] { errs := [(0, 256)] }).wellFormed = false ∧ (Instr.scrubRead [(2 ^ 37, 0)]).wellFormed = false := by decide

theorem wf_display_light : (Instr.scanoutLine 1921 [] true).wellFormed = false ∧ (Instr.composeLine { lead := 65536 }).wellFormed = false ∧ (Instr.scanoutLine 0 [1920] true).wellFormed = false ∧
    (Instr.auxDone 0 (List.replicate 17 0)).wellFormed = false ∧ (Instr.lightTrip 0 4294967296 0).wellFormed = false ∧
    (Instr.lightTrip 0 0 (2 ^ 40)).wellFormed = false ∧ (Instr.dimOnStart 0 (2 ^ 40)).wellFormed = false ∧
    (Instr.thermalUpdate []).wellFormed = false := by decide

theorem wf_net_host : (Instr.ethRxFrame 0 [] true 0).wellFormed = false ∧ (Instr.ethRxFrame 0 (List.replicate 14 0) true (2 ^ 40)).wellFormed = false ∧
    (Instr.ethTxFrame 0 true (2 ^ 40)).wellFormed = false ∧ (Instr.ptpSyncExchange (2 ^ 64) 0 0 0 0 []).wellFormed = false ∧
    (Instr.ptpSyncExchange 0 (2 ^ 64) 0 0 0 []).wellFormed = false ∧ (Instr.ptpSyncExchange 0 0 (2 ^ 64) 0 0 []).wellFormed = false ∧
    (Instr.ptpSyncExchange 0 0 0 (2 ^ 64) 0 []).wellFormed = false ∧ (Instr.ptpSyncExchange 0 0 0 0 4001 []).wellFormed = false ∧
    (Instr.ptpSyncExchange 0 0 0 0 0 [2 ^ 24]).wellFormed = false ∧ (Instr.ptpAnnounce 0 [2 ^ 64]).wellFormed = false ∧
    (Instr.bar2Request 0 0 none true).wellFormed = false ∧ (Instr.bar2Request (2 ^ 40) 1 none true).wellFormed = false ∧
    (Instr.bar2Request 0 4 (some [0]) true).wellFormed = false ∧ (Instr.pcieConfigRequest (.read 4096)).wellFormed = false := by decide

theorem wf_system : (Instr.jtagInstruction (.read 0 0)).wellFormed = false ∧ (Instr.jtagInstruction (.write 0 [])).wellFormed = false ∧
    (Instr.jtagInstruction (.read (2 ^ 32) 4)).wellFormed = false ∧ (Instr.tamperSample true true true (2 ^ 40)).wellFormed = false ∧
    (Instr.vbatLow true 0 (2 ^ 40)).wellFormed = false ∧ (Instr.vaultClockFault (2 ^ 40)).wellFormed = false ∧
    (Instr.vaultTempCheck 0 (2 ^ 40)).wellFormed = false ∧ (Instr.wakeRequest (2 ^ 40)).wellFormed = false ∧
    (Instr.rtcAlarm (2 ^ 40)).wellFormed = false ∧ (Instr.opsecSecond (2 ^ 40)).wellFormed = false ∧ (Instr.resetPin (2 ^ 40)).wellFormed = false ∧
    (Instr.flushStart [2048]).wellFormed = false ∧ (Instr.pageProgramDone true [2048]).wellFormed = false := by decide

end Sys2Proof.Tests
end

namespace Sys2Proof.Machine

/-! The bytes of a word (R7). -/

theorem leNat_leBytes (n v : Nat) : leNat (leBytes n v) = v % 256 ^ n := by
  induction n generalizing v with
  | zero => simp [leBytes, leNat, Nat.mod_one]
  | succ n ih =>
    have hbyte : (byte (v % 256)).toNat = v % 256 := by simp [byte]
    rw [leBytes, leNat, ih, hbyte, Nat.pow_succ', Nat.mod_mul]

@[simp] theorem leBytes_length (n v : Nat) : (leBytes n v).length = n := by
  induction n generalizing v with
  | zero => rfl
  | succ n ih => simp [leBytes, ih]

/-- The word that the bytes of a 32-bit write spell is the word written (R7). -/
theorem word_leNat_leBytes (v : Word) : word (leNat ((leBytes 4 v.toNat).take 4)) = v := by
  rw [List.take_of_length_le (Nat.le_of_eq (leBytes_length 4 _)), leNat_leBytes, word,
    show 256 ^ 4 = 2 ^ 32 from rfl, Nat.mod_eq_of_lt v.isLt, BitVec.ofNat_toNat, BitVec.setWidth_eq]

/-! Accesses through an aperture (R45, R54). -/

/-- R45 for an access that begins at offset `a` of aperture `k`; one that runs past the end of the aperture has no system address. -/
theorem State.aperture_inside (s : State) (k a n : Nat) (ha : a < 0x10000000) :
    s.aperture (0x40000000 + k * 0x10000000 + a) n =
      if s.on MBX_VIA_APERTURE_EN k && decide (a + n ≤ 0x10000000) then some (s.get MBX_VIA_APERTURE_BASE k * 0x10000000 + a)
      else none := by
  have hk : (0x40000000 + k * 0x10000000 + a) / 0x10000000 - 4 = k := by omega
  have hoff : (0x40000000 + k * 0x10000000 + a) % 0x10000000 = a := by omega
  simp only [State.aperture, hk, hoff]

theorem within_apertures (k a : Nat) (hk : k < 16) (ha : a < 0x10000000) :
    within (0x40000000 + k * 0x10000000 + a) 1 0x40000000 0x140000000 = true :=
  decide_eq_true (by omega)

theorem State.nagusAccess_aperture_none (s : State) (a n : Nat) (w : Option (List Byte))
    (hin : within a 1 0x40000000 0x140000000 = true) (h : s.aperture a n = none) :
    s.nagusAccess a n w = (.decode, List.replicate n 0#8, s.viaErr .decode 0 w.isSome a) := by
  simp [State.nagusAccess, hin, h, State.mapErr, capAddr]

theorem State.nagusAccess_aperture_some (s : State) (a n sys : Nat) (w : Option (List Byte))
    (hin : within a 1 0x40000000 0x140000000 = true) (h : s.aperture a n = some sys) :
    s.nagusAccess a n w =
      ((s.dramAccess 0 sys n w).1, (s.dramAccess 0 sys n w).2.1, (s.dramAccess 0 sys n w).2.2.captureAt s a) := by
  simp [State.nagusAccess, hin, h]

theorem State.captureAt_dram (s before : State) (a : Nat) : (s.captureAt before a).dram = s.dram :=
  congrArg Prod.fst (s.captureAt_stored before a)

/-- A capture rewrites the two address fields of the capture and no other register (R54). -/
theorem State.captureAt_get (s before : State) (a : Nat) (f : Fref) (i j : Nat) (hhi : MBX_VIA_ERR_FIRST_ADDR_HI.addr ≠ f.addr i j)
    (hlo : MBX_VIA_ERR_ADDR_ADDR_LO.addr ≠ f.addr i j) : (s.captureAt before a).get f i j = s.get f i j := by
  unfold State.captureAt
  split
  · rfl
  · rw [State.get_put_addr_ne _ _ _ _ _ _ _ _ hlo, State.get_put_addr_ne _ _ _ _ _ _ _ _ hhi]

/-! Writes of an aperture register (R9, R45). -/

theorem apertureReg_addr (k : Nat) : MBX_VIA_APERTURE_EN.addr k = 0x2001F100 + k * 4 := rfl

theorem regDesc_apertureReg : ∀ k < 16, regDesc (MBX_VIA_APERTURE_EN.addr k) = some reg_MBX_VIA_APERTURE := by
  decide

theorem State.listed_of_lt (s : State) (a : Nat) (v : Word) (h : a < 0x20040000) : s.listed a v = true := by
  unfold State.listed
  simp (disch := omega) only [if_neg]

theorem State.regWrite_apertureReg (s : State) (k : Nat) (v : Word) (hk : k < 16) :
    s.regWrite (MBX_VIA_APERTURE_EN.addr k) v = s.plainWrite (MBX_VIA_APERTURE_EN.addr k) v := by
  have hwin : winOf (MBX_VIA_APERTURE_EN.addr k) = 1 := by rw [apertureReg_addr, winOf]; omega
  have hoff : winOff (MBX_VIA_APERTURE_EN.addr k) = 0xF100 + k * 4 := by rw [apertureReg_addr, winOff]; omega
  simp only [State.regWrite, hwin, State.mbxWrite, hoff]
  simp (disch := omega) only [if_neg]

/-- The word of an aperture register after a write of `v` over `w`. -/
def apertureWord (w v : Word) : Word := wset (wset w 31 31 (wfield v 31 31)) 11 0 (wfield v 11 0)

theorem apertureWord_en (w v : Word) : (wfield (apertureWord w v) 31 31 == 1) = v.toNat.testBit 31 := by
  have hkeep : wfield (apertureWord w v) 31 31 = v.toNat / 2 ^ 31 % 2 := by
    rw [apertureWord, wfield_wset_ne _ _ _ _ _ _ (by decide) (by decide), wfield_wset_self _ _ _ _ (by decide) (by decide)]
    simp [wfield, Nat.shiftRight_eq_div_pow]
  rw [hkeep, Nat.testBit_eq_decide_div_mod_eq]
  rfl

theorem apertureWord_base (w v : Word) : wfield (apertureWord w v) 11 0 = v.toNat % 4096 := by
  rw [apertureWord, wfield_wset_self _ _ _ _ (by decide) (by decide)]
  simp [wfield]

/-- An aperture register has RW fields only, so a write without a reserved value is in force at once (R9, R11). -/
theorem State.plainWrite_apertureReg (s : State) (k : Nat) (v : Word) (hk : k < 16)
    (hok : fieldsOk (MBX_VIA_APERTURE_EN.addr k) v = true) :
    s.plainWrite (MBX_VIA_APERTURE_EN.addr k) v =
      s.wr (MBX_VIA_APERTURE_EN.addr k) (apertureWord (s.rd (MBX_VIA_APERTURE_EN.addr k)) v) := by
  have hlisted : s.listed (MBX_VIA_APERTURE_EN.addr k) v = true :=
    s.listed_of_lt _ v (by rw [apertureReg_addr]; omega)
  simp only [State.plainWrite, regDesc_apertureReg k hk, hok, hlisted]
  rfl

/-- A 32-bit write by Nagus to a listed register reaches it with its own word (R8). -/
theorem State.nagusAccess_writeReg (s : State) (a : Nat) (v : Word) (hlo : 0x20000000 ≤ a) (hhi : a < 0x20160000) (hal : a % 4 = 0)
    (hlisted : listedOffset a = true) :
    s.nagusAccess a 4 (some (leBytes 4 v.toNat)) = (.ok, [], s.regWrite a v) := by
  have hap : within a 1 0x40000000 0x140000000 = false := decide_eq_false (by omega)
  have hrom : within a 4 0 0x10000 = false := decide_eq_false (by omega)
  have hsram : within a 4 0x10000000 0x10100000 = false := decide_eq_false (by omega)
  have hreg : within a 1 0x20000000 0x20160000 = true := decide_eq_true (by omega)
  simp [State.nagusAccess, State.mapAccess, hap, hrom, hsram, hreg, hal, hlisted, word_leNat_leBytes]

theorem exec_write_apertureReg (s : State) (k : Nat) (v : Word) (hk : k < 16) (hok : fieldsOk (MBX_VIA_APERTURE_EN.addr k) v = true) :
    exec (.registerWrite (.via 0 (MBX_VIA_APERTURE_EN.addr k) 4 (some (leBytes 4 v.toNat)))) s =
      .next (s.wr (MBX_VIA_APERTURE_EN.addr k) (apertureWord (s.rd (MBX_VIA_APERTURE_EN.addr k)) v)) := by
  have hlisted : listedOffset (MBX_VIA_APERTURE_EN.addr k) = true := by rw [listedOffset, regDesc_apertureReg k hk]; rfl
  have haddr := apertureReg_addr k
  have hacc := s.nagusAccess_writeReg (MBX_VIA_APERTURE_EN.addr k) v (by omega) (by omega) (by omega) hlisted
  simp only [exec, execRegisterWrite, hacc, if_true, s.regWrite_apertureReg k v hk, s.plainWrite_apertureReg k v hk hok]

/-- Settles O49 (R45): where an access inside aperture `k` goes is `State.aperture_inside`; an error's capture touches neither
DRAM nor the decode count, and a write of the aperture's register is a plain write in force at once. -/
theorem apertures : Obligations.Apertures := by
  unfold Obligations.Apertures
  refine ⟨?inside, ?disabled, ?written⟩
  case inside =>
    intro k a n w s hk hn hpos hen
    have hap : s.aperture (0x40000000 + k * 0x10000000 + a) n = some (s.get MBX_VIA_APERTURE_BASE k * 0x10000000 + a) := by
      simp [s.aperture_inside k a n (by omega), hen, hn]
    rw [s.nagusAccess_aperture_some _ n _ w (within_apertures k a hk (by omega)) hap]
    exact ⟨rfl, rfl, State.captureAt_dram .., State.captureAt_get _ _ _ _ _ _ (by decide) (by decide)⟩
  case disabled =>
    intro k a n w s hk ha hen
    have hap : s.aperture (0x40000000 + k * 0x10000000 + a) n = none := by
      simp [s.aperture_inside k a n ha, hen]
    exact s.nagusAccess_aperture_none _ n w (within_apertures k a hk ha) hap
  case written =>
    intro k v s hk hok
    refine ⟨_, exec_write_apertureReg s k v hk hok, ?_, ?_⟩
    · rw [State.on, State.get, State.rd_wr_self]
      exact apertureWord_en _ v
    · have haddr : MBX_VIA_APERTURE_BASE.addr k = MBX_VIA_APERTURE_EN.addr k := rfl
      rw [State.get, haddr, State.rd_wr_self]
      exact apertureWord_base _ v

end Sys2Proof.Machine

namespace Sys2Proof.Machine

/-! The registers that recording a fault writes (R16, R674, R702, R719–R721). -/

/-- The registers that recording a fault can write besides FAULT_LAST of its own block: those of the Flue ring, its reserve and
its seal, those of a change of mode, and the gate pads. -/
def faultRegs : List Nat :=
  [0x20060008, 0x20130000, 0x20130004, 0x20130008, 0x20130068, 0x20140000, 0x20140004, 0x20140008, 0x20140020, 0x20140024,
    0x20140028, 0x2014002C, 0x20140030]

section
variable {a : Nat} (ha : a ∉ faultRegs)
include ha

theorem State.wr_rd_faultRegs (s : State) (b : Nat) (v : Word) (hb : b ∈ faultRegs) : (s.wr b v).rd a = s.rd a :=
  s.rd_wr_ne _ _ _ fun heq => ha (heq ▸ hb)

theorem State.put_rd_faultRegs (s : State) (f : Fref) (v i j : Nat) (hf : f.addr i j ∈ faultRegs) : (s.put f v i j).rd a = s.rd a :=
  s.wr_rd_faultRegs ha _ _ hf

theorem State.set1_rd_faultRegs (s : State) (f : Fref) (i j : Nat) (hf : f.addr i j ∈ faultRegs) : (s.set1 f i j).rd a = s.rd a :=
  s.put_rd_faultRegs ha f 1 i j hf

theorem State.incSat_rd_faultRegs (s : State) (f : Fref) (i n : Nat) (hf : f.addr i ∈ faultRegs) : (s.incSat f i n).rd a = s.rd a :=
  s.put_rd_faultRegs ha f _ i 0 hf

theorem State.setDebug_rd (s : State) (l : Nat) : (s.setDebug l).rd a = s.rd a := by
  have hput : ((s.put SEC_STATUS_DEBUG l).put SEC_DEBUG_LEVEL l).rd a = s.rd a := by
    simp (disch := decide) only [State.put_rd_faultRegs ha]
  unfold State.setDebug
  dsimp only
  split
  · exact hput
  · exact hput

theorem State.enterMode_rd (s : State) (m : Nat) : (s.enterMode m).rd a = s.rd a := by
  have hput : ((((s.setDebug (s.loweredDebug m)).put SEC_CHAL_CTRL_VALID 0).put SEC_STATUS_MODE m).put SEC_MODE_MODE m).rd a = s.rd a := by
    simp (disch := decide) only [State.put_rd_faultRegs ha, State.setDebug_rd ha]
  unfold State.enterMode
  split
  · rfl
  · exact hput

theorem State.f1Mode_rd (s : State) : s.f1Mode.rd a = s.rd a := by
  unfold State.f1Mode
  split
  · simp (disch := decide) only [State.put_rd_faultRegs ha, State.enterMode_rd ha]
  · rfl

theorem State.classAction_rd (s : State) (cls : Nat) : (s.classAction cls).rd a = s.rd a := by
  unfold State.classAction
  split
  · exact (State.enterMode_rd ha _ 7).trans (s.put_rd_faultRegs ha LSR_IN_B_GATE_PAD 0 0 0 (by decide))
  · split
    · exact s.f1Mode_rd ha
    · rfl

theorem State.fluShow_rd (s : State) : s.fluShow.rd a = s.rd a := by
  simp (disch := decide) only [State.fluShow, State.put_rd_faultRegs ha]

theorem State.ringAppend_rd (s : State) (g : List Rec) (resv : Bool) : (s.ringAppend g resv).rd a = s.rd a :=
  State.fluShow_rd ha _

theorem State.ringDrop_rd (s : State) (n : Nat) : (s.ringDrop n).rd a = s.rd a := by
  unfold State.ringDrop
  simp (disch := decide) only [State.incSat_rd_faultRegs ha, State.set1_rd_faultRegs ha]
  rfl

theorem State.displace_rd (s : State) (v : Rec) : (s.displace v).rd a = s.rd a := by
  unfold State.displace
  split
  · exact (State.incSat_rd_faultRegs ha _ _ _ _ (by decide)).trans (State.fluShow_rd ha _)
  · exact (State.incSat_rd_faultRegs ha _ _ _ _ (by decide)).trans (State.fluShow_rd ha _)

theorem State.makeRoom_rd (n sev k : Nat) (s t : State) (h : State.makeRoom n sev k s = some t) : t.rd a = s.rd a := by
  induction k generalizing s with
  | zero =>
    unfold State.makeRoom at h
    split at h
    · cases h; rfl
    · cases h
  | succ k ih =>
    unfold State.makeRoom at h
    split at h
    · cases h; rfl
    · split at h
      · exact (ih _ h).trans (s.displace_rd ha _)
      · cases h

end

/-- The word that FAULT_LAST of a block holds after fault `code` with unit `unit` (R16). -/
def faultLastWord (code unit : Nat) : Word := word (2 ^ 31 + (if unit < 32 then unit * 65536 else 0) + code)

/-- Noting a fault writes FAULT_LAST of the fault's block, where it has one, and no other register (R16). -/
theorem State.faultNote_rd (s : State) (src code cls unit a : Nat) :
    (s.faultNote src code cls unit).rd a = if faultLastAddr src = some a then faultLastWord code unit else s.rd a := by
  unfold State.faultNote
  extract_lets noted _ latest withCause
  have hnoted : noted.rd a = if faultLastAddr src = some a then faultLastWord code unit else s.rd a := by
    unfold noted
    cases faultLastAddr src with
    | none => rfl
    | some b =>
      by_cases hba : b = a
      · subst hba
        exact (s.rd_wr_self b _).trans (if_pos rfl).symm
      · exact (s.rd_wr_ne b a _ hba).trans (if_neg fun heq => hba (Option.some.inj heq)).symm
  have hcause : withCause.rd a = noted.rd a := by
    unfold withCause
    split
    · rfl
    · rfl
  rw [← hnoted, ← hcause]
  split
  · rfl
  · rfl

section
variable {a : Nat} (ha : a ∉ faultRegs)
include ha

/-- The faults of the Flue's own are noted in a register of `faultRegs`. -/
theorem State.faultNote_flue_rd (s : State) (code cls unit : Nat) : (s.faultNote 20 code cls unit).rd a = s.rd a := by
  rw [State.faultNote_rd, if_neg]
  intro heq
  cases heq
  exact ha (by decide)

theorem State.seal_rd (s : State) : s.seal.rd a = s.rd a := by
  unfold State.seal
  rw [State.f1Mode_rd ha]
  refine (State.faultNote_flue_rd ha _ 6 1 255).trans ?_
  rw [State.set1_rd_faultRegs ha _ _ _ _ (by decide), State.ringAppend_rd ha]
  rfl

theorem State.sealCheck_rd (s : State) : s.sealCheck.rd a = s.rd a := by
  unfold State.sealCheck
  split
  · rfl
  · split
    · exact s.seal_rd ha
    · rfl

theorem State.toReserve_rd (s : State) (g : List Rec) : (s.toReserve g).rd a = s.rd a := by
  unfold State.toReserve
  rw [State.sealCheck_rd ha]
  split
  · exact s.ringAppend_rd ha g true
  · refine (State.faultNote_flue_rd ha _ 5 2 255).trans ?_
    rw [State.ringAppend_rd ha, State.set1_rd_faultRegs ha _ _ _ _ (by decide), State.set1_rd_faultRegs ha _ _ _ _ (by decide)]
    exact s.ringAppend_rd ha g true

theorem State.enterRecs_rd (s : State) (g : List Rec) : (s.enterRecs g).rd a = s.rd a := by
  unfold State.enterRecs
  split
  · rfl
  · split
    · exact s.ringDrop_rd ha _
    · split
      · next hroom => rw [State.sealCheck_rd ha, State.ringAppend_rd ha, State.makeRoom_rd ha _ _ _ _ _ hroom]
      · split
        · exact s.toReserve_rd ha _
        · exact s.ringDrop_rd ha _

theorem State.faultWith_rd (s : State) (src code cls unit : Nat) (payload : List Byte) :
    (s.faultWith src code cls unit payload).rd a = (s.faultNote src code cls unit).rd a := by
  unfold State.faultWith
  rw [State.classAction_rd ha]
  exact State.enterRecs_rd ha _ _

theorem State.fault_rd_ne (s : State) (src code cls unit : Nat) (b1 x : Option Nat) (hlast : faultLastAddr src ≠ some a) :
    (s.fault src code cls unit b1 x).rd a = s.rd a :=
  (State.faultWith_rd ha _ src code cls unit _).trans ((State.faultNote_rd ..).trans (if_neg hlast))

theorem State.fault_rd_last (s : State) (src code cls unit : Nat) (b1 x : Option Nat) (hlast : faultLastAddr src = some a) :
    (s.fault src code cls unit b1 x).rd a = faultLastWord code unit :=
  (State.faultWith_rd ha _ src code cls unit _).trans ((State.faultNote_rd ..).trans (if_pos hlast))

end

/-- A fault of a class that forces no mode ends with its event (R16, R107). -/
theorem State.fault_event_mem (s : State) (src code cls unit : Nat) (b1 x : Option Nat) (hcls : 2 ≤ cls) :
    Ev.mk 1 (src * 1024 + code) 0 (faultPier src code unit) s.key.tick ∈ (s.fault src code cls unit b1 x).mbx.evq := by
  have hcls0 : cls ≠ 0 := by omega
  have hcls1 : cls ≠ 1 := by omega
  unfold State.fault State.faultWith State.classAction
  rw [if_neg hcls0, if_neg hcls1]
  refine List.mem_append_right _ (List.mem_singleton.2 ?_)
  refine congrArg (Ev.mk 1 (src * 1024 + code) 0 (faultPier src code unit)) (Eq.symm (kept_tick (s := s) ?_))
  rw [State.enterRecs_kept, State.faultNote_kept]
  rfl

/-! Raising the anti-rollback counter (R665). -/

theorem State.arbRaise_of_le (s : State) (goal : Nat) (h : min goal 63 ≤ s.otp.arb) : s.arbRaise goal = s :=
  if_pos h

theorem State.arbRaise_of_lt (s : State) (goal : Nat) (h : s.otp.arb < min goal 63) :
    s.arbRaise goal =
      (({ s with otp := { s.otp with arb := min goal 63 } }).put SEC_ARB_COUNT (min goal 63)).fault 19 9 3 :=
  if_neg (Nat.not_le.2 h)

/-- The counter only rises, and no further than asked or than there are fuses; no other fuse is burnt (R653, R665). -/
theorem State.arbRaise_otp (s : State) (goal : Nat) :
    (s.arbRaise goal).otp = { s.otp with arb := max s.otp.arb (min goal 63) } := by
  rcases Nat.lt_or_ge s.otp.arb (min goal 63) with hlt | hle
  · rw [s.arbRaise_of_lt goal hlt, Nat.max_eq_right (Nat.le_of_lt hlt)]
    exact kept_otp ((State.fault_kept ..).trans (State.put_kept ..))
  · rw [s.arbRaise_of_le goal hle, Nat.max_eq_left hle]

theorem State.arbRaise_count (s : State) (goal : Nat) (h : s.otp.arb < min goal 63) :
    (s.arbRaise goal).get SEC_ARB_COUNT = min goal 63 := by
  rw [s.arbRaise_of_lt goal h, State.get, State.fault_rd_ne (by decide) _ _ _ _ _ _ _ (by decide)]
  refine (State.get_put_self _ SEC_ARB_COUNT _ 0 0 (by decide) (by decide)).trans (Nat.mod_eq_of_lt ?_)
  exact Nat.lt_succ_of_le (Nat.min_le_right ..)

theorem State.arbRaise_faultLast (s : State) (goal : Nat) (h : s.otp.arb < min goal 63) :
    (s.arbRaise goal).get SEC_FAULT_LAST_CODE = 9 := by
  rw [s.arbRaise_of_lt goal h, State.get, State.fault_rd_last (by decide) _ _ _ _ _ _ _ rfl]
  rfl

theorem State.arbRaise_event_mem (s : State) (goal : Nat) (h : s.otp.arb < min goal 63) :
    Ev.mk 1 (0x13 * 1024 + 9) 0 0xFFFF s.key.tick ∈ (s.arbRaise goal).mbx.evq := by
  rw [s.arbRaise_of_lt goal h]
  exact State.fault_event_mem _ 19 9 3 255 none none (by decide)

theorem exec_arbRaise_go (v : Word) (s : State) (hgo : v.toNat.testBit 31 = true) :
    exec (.arbRaise v) s = .next (s.arbRaise (v.toNat % 64)) :=
  congrArg Host.Outcome.next (if_pos hgo)

theorem exec_arbRaise_noGo (v : Word) (s : State) (hgo : v.toNat.testBit 31 = false) : exec (.arbRaise v) s = .next s := by
  simp [exec, execArbRaise, hgo]

theorem State.regWrite_arbRaise (s : State) (v : Word) : s.regWrite 0x20130018 v = after (execArbRaise v) s := rfl

theorem exec_write_arbRaise (s : State) (v : Word) :
    exec (.registerWrite (.via 0 0x20130018 4 (some (leBytes 4 v.toNat)))) s = exec (.arbRaise v) s := by
  have hacc := s.nagusAccess_writeReg 0x20130018 v (by decide) (by decide) (by decide) (by decide)
  simp only [exec, execRegisterWrite, hacc, if_true, s.regWrite_arbRaise v]
  rfl

/-- SEC FW_CONFIRM of a running slot not yet confirmed (R150). -/
theorem exec_secFwConfirm_serving (s : State) (q : Req) (hq : s.serving 0x3805 q)
    (hconf : s.slotConfirmed (s.get SEC_SLOT_SLOT) = false) :
    ∃ r, exec .secFwConfirm s =
      .next (((s.flashWrite (slotAddr (s.get SEC_SLOT_SLOT) + 21) [1#8]).arbRaise s.fw.rollback).finish q.m r) := by
  simp only [exec, execSecFwConfirm, runCmd_serving _ _ _ _ hq, hconf, Bool.false_eq_true, if_false]
  exact ⟨_, rfl⟩

/-- Settles O46 (R665): a write with GO = 1, a write without effect and SEC FW_CONFIRM are the three uses of `State.arbRaise`,
whose lemmas say what it burns and records. -/
theorem antiRollback : Obligations.AntiRollback := by
  unfold Obligations.AntiRollback
  refine ⟨?raised, ?ignored, fun v s => exec_write_arbRaise s v, ?confirmed⟩
  case raised =>
    intro v s hgo hlt
    have hmin : min (v.toNat % 64) 63 = v.toNat % 64 := by omega
    have hraise : s.otp.arb < min (v.toNat % 64) 63 := hmin.symm ▸ hlt
    have hotp : (s.arbRaise (v.toNat % 64)).otp = { s.otp with arb := v.toNat % 64 } := by
      rw [s.arbRaise_otp, hmin, Nat.max_eq_right (Nat.le_of_lt hlt)]
    refine ⟨_, exec_arbRaise_go v s hgo, hotp, ?_, ?_, s.arbRaise_faultLast _ hraise, s.arbRaise_event_mem _ hraise⟩
    · rw [s.arbRaise_count _ hraise, hotp, hmin]
    · rw [hotp]
      exact Nat.le_of_lt_succ (Nat.mod_lt _ (by decide))
  case ignored =>
    rintro v s (hle | hgo)
    · cases hgo : v.toNat.testBit 31 with
      | false => exact exec_arbRaise_noGo v s hgo
      | true => rw [exec_arbRaise_go v s hgo, s.arbRaise_of_le _ (Nat.le_trans (Nat.min_le_left ..) hle)]
    · exact exec_arbRaise_noGo v s hgo
  case confirmed =>
    intro s q hq hconf _
    obtain ⟨r, hexec⟩ := exec_secFwConfirm_serving s q hq hconf
    exact ⟨_, hexec, State.arbRaise_otp (s.flashWrite _ _) s.fw.rollback, State.arbRaise_faultLast (s.flashWrite _ _) s.fw.rollback⟩

end Sys2Proof.Machine
